-- ==== Sys2Proof/Word.lean ====
section
/-! DEFINITION. The word types of the block: a register word is 32 bits (R12), memories hold bytes, and the
block has five facets (R1), three host ports (R428) and eight main channels (Table 4-2). -/

namespace Sys2Proof

/-- One byte of a memory or a frame. -/
abbrev Byte := BitVec 8

/-- One 32-bit register word (R12). -/
abbrev Word := BitVec 32

/-- A facet F0 to F4 (R1). -/
abbrev Facet := Fin 5

/-- A host port: 0 A, 1 B, 2 C (R428). -/
abbrev Port := Fin 3

/-- A main channel in the order VA, VB, VC, IA, IB, IC, IN, IX (Table 4-2). -/
abbrev Chan := Fin 8

/-- A phase A, B, C. -/
abbrev Phase := Fin 3

end Sys2Proof
end

