-- ==== Sys2Proof/Syntax.lean ====
section
/-! DEFINITION. The commands of the block: one constructor of Instr for each row of spec/opcode_table.json, with what
its sender brings. A command that reports an observation (a sample, a capture, a conversion) carries the observed
values; the block's own reaction is in Machine. -/

namespace Sys2Proof

/-- A request frame on a port (Table 15-2) without its command byte, which the row gives. `same` says that it reaches
the fabric in the FAB cycle of the command before it (R90, R91); `mode3` is the SPI mode of its transaction (R443). -/
structure Frame where
  port : Port
  same : Bool
  mode3 : Bool
  addr : BitVec 16
  count : BitVec 8
  data : List Word
  crc : BitVec 16
  deriving DecidableEq, Repr

/-- A one-word host write that a row names by its register: port, FAB cycle mark and the word written. -/
structure RegWr where
  port : Port
  same : Bool
  val : Word
  deriving DecidableEq, Repr

/-- What one routed channel's chain brings at a MOD round boundary (R135, R137, R138, R474): the band-limited voltage at its pair in
V (at IXP for VOLT), the greatest modulator input of the round as a code, the common-mode voltage of its inputs in V, and the
pilot I and Q sums of the round. -/
structure ChanIn where
  volt : Rat
  peak : Int
  cm : Rat
  pilotI : Int
  pilotQ : Int
  deriving DecidableEq, Repr

/-- A word that carries a tag its unit's state does not allow, as a hardware fault leaves it (R118): unit number, window
offset of the first offending word, and its tag code. -/
structure BadTag where
  unit : Nat
  off : Nat
  tag : Nat
  deriving DecidableEq, Repr

/-- A hardware fault in the run of a safety instance that this sector holds (R113, R114): the instance, the word of its result
record that comes out wrong, or 8 for a word `off` of the run's state half, and the bits that are wrong. -/
structure RunFault where
  inst : Nat
  word : Nat
  off : Nat
  mask : Word
  deriving DecidableEq, Repr

/-- The health token of a round close as the window watchdog meets it (R351): SAF time since the previous token in ns,
and the bits of the token that a fault turned. -/
structure TokenIn where
  gap : Nat
  turned : Byte
  deriving DecidableEq, Repr

/-- What a round close receives from the hardware: words with a disallowed tag and the health token; samples, records and
increments are the block's own. -/
structure RoundIn where
  bad : List BadTag
  token : TokenIn
  deriving DecidableEq, Repr

/-- One fast sample of a channel (R139): the voltage at its pair in V after the fast decimator, and its sequence count. -/
structure FastIn where
  volt : Rat
  seq : BitVec 2
  deriving DecidableEq, Repr

/-- What the front end reports when a shot fires (R208, R211, R240): VUS in mV, the TDC ring in kHz, its measured LSB in fs, and
the own local time in ps of the first burst edge, or for a bank shot that is received of the instant its time counts from. -/
structure FireIn where
  vus : Nat
  ring : Nat
  lsb : Nat
  at_ : Nat
  deriving DecidableEq, Repr

/-- One zero crossing of the received signal (R211): the USX count since the first burst edge, the steps of the ring beyond
it, and whether it rises. -/
structure Crossing where
  usx : Nat
  step : Nat
  rise : Bool
  deriving DecidableEq, Repr

/-- One capture (R210, R211): the ADC codes and the zero crossings of the signal in it, in their order. -/
structure Capture where
  samples : List Int
  cross : List Crossing
  deriving DecidableEq, Repr

/-- A chord-link frame as the receiver takes it (R240, R242): its body bytes, whether preamble, delimiter and stop bits
were right, and the own-time stamp of its delimiter in ps. -/
structure LinkIn where
  body : List Byte
  framed : Bool
  stamp : Nat
  deriving DecidableEq, Repr

/-- A bank shot at its instant (R248): shot A (false) or B, and what the front end reports. -/
structure BankIn where
  b : Bool
  fire : FireIn
  deriving DecidableEq, Repr

/-- An SDI-12 response line without its closing CR LF (R268): its characters, and whether parity and gaps were right. -/
structure SdiLine where
  chars : List Byte
  ok : Bool
  deriving DecidableEq, Repr

/-- A voltage and a temperature conversion of the gauge (R286): the cell voltage in 0.1 mV, the BTH ratio, and the die
temperature in 1/256 °C. -/
structure GaugeVT where
  volt : Nat
  ratio : Rat
  die : Int
  deriving DecidableEq, Repr

/-- A gauge frame or sample (R286, R287): the shunt voltage in nV, and a voltage and temperature slot if one ran. -/
structure GaugeIn where
  shunt : Int
  slot : Option GaugeVT
  deriving DecidableEq, Repr

/-- A scan CRC that the scanner formed wrongly, as a fault of memory, scanner or keeper leaves it (R332, R333): the tile
and the CRC. -/
structure ScanCrc where
  tile : Nat
  crc : Word
  deriving DecidableEq, Repr

/-- One pad sample of the trip readback (R369): taken in the present half period of the trip outputs or in the one before,
with the levels of TRIPA and TRIPB. -/
structure PadSample where
  now : Bool
  a : Bool
  b : Bool
  deriving DecidableEq, Repr

/-- A cross-count of the clock monitors (R367, Table 14-7): the frequencies of SAF, HFX, AON and FAB in ppm of nominal. -/
structure ClockIn where
  saf : Nat
  hfx : Nat
  aon : Nat
  fab : Nat
  deriving DecidableEq, Repr

/-- What PF cuts off (R389): how many words of a user-area write have landed, and the log ring whose newest entry was being
written, false the metrological and true the general one. -/
structure PowerCut where
  landed : Nat
  cut : Option Bool
  deriving DecidableEq, Repr

/-- What a sector meets as it begins (R102, R105, R106, R113, R122): what the decimators deliver at each MOD round boundary since
the last sector, flex work that has become pending as step costs in cycles by instance index, bits of state memory (word,
bit) that have flipped, the words that the sector's kernels read, wrong runs, and the word of the newest closed commit record that
is uncorrectable, if one is (R380, R396). -/
structure SectorIn where
  mod : List (Vector ChanIn 8)
  work : List (Nat × List Nat)
  flips : List (Nat × Nat)
  reads : List Nat
  wrong : List RunFault
  recBad : Option (Fin 128)
  deriving DecidableEq, Repr

/-- What a start finds in the store (R380, R397, R38): the number of corrected words, the addresses of uncorrectable ones,
the counters of R397 whose copies no longer agree, with the three values read, the copies of an anti-rollback counter (0 to 6) or of the
metrological event counter (7) that have gone bad since the last start, as counter, copy and value (R46, R64), and whether
the factory data verify. -/
structure StartIn where
  corrected : Nat
  uncorr : List Nat
  copies : List (Nat × Nat × Nat × Nat)
  spoiled : List (Nat × Nat × Nat)
  factoryOk : Bool
  deriving DecidableEq, Repr

/-- The commands, in the order of spec/opcode_table.json. A row that writes one register takes a RegWr, with the register's
offset where the row covers several; a row that is a command code forces that code into the word's field [7:0]. -/
inductive Instr where
  /-- Requests of Table 15-4 and the SPI FETCH (R430 to R443). -/
  | write (f : Frame)
  | read (f : Frame)
  | readCoherent (f : Frame)
  | status (f : Frame)
  | imageChunk (f : Frame)
  | eventPop (f : Frame)
  | fetch (p : Port) (mode3 : Bool)
  /-- What happens on a port between requests (R434, R436, R444, R446, R448). `busy`: 0 idle, 1 request, 2 reply. -/
  | frameWaitStart (p : Port)
  | replyTaken (p : Port)
  | spiCsRise (p : Port) (inRequest : Bool)
  | uartBreak (busy : Fin 3)
  | uartGapAbandon
  | i2cStopAbandon
  /-- Register writes and commands to the image loader (R14, R52 to R59). -/
  | registerWrite (off : BitVec 16) (w : RegWr)
  | imgBegin (w : RegWr)
  | verify (w : RegWr)
  | imgAbort (w : RegWr)
  | activate (w : RegWr)
  | verificationComplete
  | keySlotsProgrammed (failed : List (Fin 6))
  | structureApply
  /-- Facets and shared actuators (R83 to R94, R358). -/
  | facetReset (w : RegWr)
  | clrCounters (w : RegWr)
  | fctWdtWrite (w : RegWr)
  | portWatchdogExpiry (p : Port)
  | iopGpReqWrite (n : Fin 6) (w : RegWr)
  | iopBrightReqWrite (w : RegWr)
  | iopPumpReqWrite (w : RegWr)
  | iopSafeAck (w : RegWr)
  /-- Metering, power quality and CF configuration (R152, R156, R176, R199 to R202). -/
  | mtrRestart (w : RegWr)
  | mtrCalWrite (off : BitVec 16) (w : RegWr)
  | pqClrCounters (w : RegWr)
  | pqThrWrite (w : RegWr)
  | pqCfgWrite (udin : Bool) (w : RegWr)
  | cfCfgWrite (n : Fin 3) (const : Bool) (w : RegWr)
  /-- Flow and chord link (R213, R233, R236, R243, R244, R257). -/
  | zero (w : RegWr)
  | learn (w : RegWr)
  | flwRestart (w : RegWr)
  | flwAbort (w : RegWr)
  | calibrationTimeout
  | flwConfigWrite (off : BitVec 16) (w : RegWr)
  | flwRefcrcWrite (path : Fin 3) (w : RegWr)
  | swap (w : RegWr)
  | chdRestart (w : RegWr)
  | chdCycleWrite (w : RegWr)
  /-- SDI-12, battery and display commands and configuration. -/
  | query (w : RegWr)
  | ack (w : RegWr)
  | ident (w : RegWr)
  | sdiSlotConfigWrite (k : Fin 8) (per : Bool) (w : RegWr)
  | newCell (w : RegWr)
  | batRestart (w : RegWr)
  | batConfigWrite (off : BitVec 16) (w : RegWr)
  | glance (w : RegWr)
  | dspRestart (w : RegWr)
  | dspClrCounters (w : RegWr)
  | dspRailWrite (w : RegWr)
  | dspGreyWrite (j : Fin 4) (w : RegWr)
  | dspTileWrite (n : Fin 8) (w : RegWr)
  | frameMemoryWrite (f : Frame)
  | frameMemoryWordLand (passed : Bool)
  /-- Safety configuration, user areas, event log, power and time (R372, R399 to R402, R406, R417 to R420). -/
  | safWrite (off : BitVec 16) (w : RegWr)
  | clear (w : RegWr)
  | userAreaClearDone
  | nvuSelWrite (w : RegWr)
  | userAreaWriteDone
  | evtLogSelect (w : RegWr)
  | reset (w : RegWr)
  | shelf (w : RegWr)
  | rtcStage (w : RegWr)
  | rtcSet (w : RegWr)
  | epochWrite (w : RegWr)
  | rtcAlarm
  /-- The wheel (chapter 03). -/
  | sectorStart (i : SectorIn)
  | sectorOverrun (inst : Nat)
  | roundClose (r : RoundIn)
  | unitFaultReturn (u : BitVec 8)
  /-- Measurement (chapters 04 to 06): `die` in 1/256 °C, `cyc` the ENG cycle in the open round. -/
  | pilotUpdate (die : Int)
  | refCompare (ppm : Int)
  | freq10sInterval
  | cfPulseEvent (n : Fin 3) (cyc : Nat)
  | cfPulseBacklogStart (n : Fin 3) (cyc : Nat)
  | cfPulseEnd (n : Fin 3) (cyc : Nat)
  /-- Pipe and channel flow (chapters 07 and 08): local times in ps. -/
  | pairAttempt (p : Fin 2)
  | upShotDue (p : Fin 2)
  | shotFire (i : FireIn)
  | captureClose
  | shotEvaluated (p : Fin 3) (up : Bool) (c : Capture)
  | pairOutcome (p : Fin 2)
  | linkCycleStart (t1 : Nat)
  | linkFrameReceived (i : LinkIn)
  | linkFrameMissing (typ : Nat)
  | linkReplySend (t3 : Nat)
  | bankShot (i : BankIn)
  | linkArriveSend
  | bankPairOutcome
  | roleSwapRevert
  /-- SDI-12 (chapter 09). `some_`: characters had arrived. -/
  | slotDue (k : Fin 8)
  | sdiTransactionStart
  | sdpPowerSettled
  | sdiResponse (l : SdiLine)
  | sdiResponseTimeout (some_ : Bool)
  | sdiServiceRequest (addr : Byte)
  | sdiDataPhaseDue (k : Fin 8)
  /-- Supplies and the gauge (chapters 10 and 14). -/
  | vmainLost
  | vmainQualified
  | gaugeFrame (i : GaugeIn)
  | gaugeIntervalSample (i : GaugeIn)
  | quietComparatorTrip
  | gaugeConversionTimeout
  /-- The display (chapter 11). -/
  | keyPress
  | glanceExpiry
  | railGood (rail : Fin 4)
  | railFault (rails : BitVec 4) (cause : BitVec 8)
  | displayDischarged
  | frameStart
  | emsPeriodStart
  | railStopStep
  | tileCrcCheck (bad : List ScanCrc)
  | legalItemDwellEnd
  | legalTileRender
  /-- Functional safety (chapter 12). `flips` are bits of the applied structure, as byte and bit, that a fault turned. -/
  | fastSample (xs : Vector FastIn 8)
  | fastSequenceStall (k : Fin 8)
  | watcherComparatorTest (bad : Option (Fin 8))
  | watcherPilotWindow
  | watcherCrosscheckWindow
  | wdtTokenTimeout
  | clockMonitorCheck (i : ClockIn)
  | imageScanPass (flips : List (Nat × Nat))
  | tripReadback (pads : List PadSample)
  | safeCauseTimer
  | tripfbChange (level : Bool)
  | contactor
  /-- The persistent store and supply loss (chapter 13). `rb` counts failed read-backs of the record; `e` is 0 where FINAL closed, 1 where
  it broke off before its CRC, 2 where only its mark is missing. -/
  | commitClosed (rb : Fin 3)
  | commitBatMaxTimer
  | powerFail (i : PowerCut)
  | finalCommitClosed (e : Fin 3)
  /-- Resets, start, clocks (chapter 14). -/
  | por
  | pfRestart
  | nrst
  | safWdt
  | deviceReset
  | startSequence (i : StartIn)
  | startCandidateVerified
  | hfxQualified
  | pllLock
  | hfxFail (cause : Fin 3)
  | hfxRetry
  | demandEnd (d : Fin 10)
  | xtal32Takeover
  | xtal32Timeout
  | xtal32Stop
  | xtal32Restart
  | rcTrim (ppm : Int)
  | shelfAutoEntry
  /-- Rows that the table lists last. -/
  | dspCfgWrite (w : RegWr)
  | tripOutputEdge
  | chdHoldExpiry
  | sdiValueStale (k : Fin 8) (j : Fin 9)
  | linkCycleWake
  | vioLost
  | vioRestored
  deriving DecidableEq, Repr

end Sys2Proof
end

