-- ==== Sys2Proof/Decode.lean ====
section
/-! DEFINITION. The decoder of the opcode table's words. The table gives no row any bits: commands are frames and events, not
words (INVENTORY, Instructions), so no word spells a command. -/

namespace Sys2Proof

/-- The command that a word of the opcode table spells: the table gives no row bits, so none. -/
def decodeTableWord (_nbits _w : Nat) : Option Instr := none

end Sys2Proof
end

