-- ==== Sys2Proof/Machine/Crypto.lean ====
section
/-! DEFINITION. The check codes and signatures the spec names: CRC-16/CCITT-FALSE (R431), CRC-32 (R25),
SHA-256 (FIPS 180-4, named by R23 and R28) and ECDSA P-256 (FIPS 186-4, named by R23 and R28).
PRESUMED: the two FIPS algorithms are taken from the standards the spec names (log 8). -/

namespace Sys2Proof.Machine

open Sys2Proof

/-- One bit step of CRC-16/CCITT-FALSE: polynomial 0x1021, no reflection (R431). -/
def crc16Step (c : BitVec 16) : BitVec 16 :=
  if c.msb then (c <<< 1) ^^^ 0x1021#16 else c <<< 1

/-- One byte into the CRC-16 of R431. -/
def crc16Byte (c : BitVec 16) (b : Byte) : BitVec 16 :=
  let x := c ^^^ (b.zeroExtend 16 <<< 8)
  (List.range 8).foldl (fun a _ => crc16Step a) x

/-- CRC-16/CCITT-FALSE over bytes: initial value 0xFFFF, no final XOR (R431). -/
def crc16 (bs : List Byte) : BitVec 16 := bs.foldl crc16Byte 0xFFFF#16

/-- One bit step of the reflected CRC-32 (R25). -/
def crc32Step (c : Word) : Word :=
  if c.getLsbD 0 then (c >>> 1) ^^^ 0xEDB88320#32 else c >>> 1

/-- One byte into the CRC-32 of R25. -/
def crc32Byte (c : Word) (b : Byte) : Word :=
  let x := c ^^^ b.zeroExtend 32
  (List.range 8).foldl (fun a _ => crc32Step a) x

/-- CRC-32: polynomial 0x04C1_1DB7 reflected, initial value and final XOR 0xFFFF_FFFF (R25). -/
def crc32 (bs : List Byte) : Word := (bs.foldl crc32Byte 0xFFFFFFFF#32) ^^^ 0xFFFFFFFF#32

/-- The four bytes of a word, least significant first (R12). -/
def wordBytes (w : Word) : List Byte :=
  [w.extractLsb' 0 8, w.extractLsb' 8 8, w.extractLsb' 16 8, w.extractLsb' 24 8]

/-- A word from its four bytes, least significant first (R12). -/
def wordOfBytes (b0 b1 b2 b3 : Byte) : Word := b3 ++ b2 ++ b1 ++ b0

/-- A number as n bytes, least significant first. -/
def leBytes : Nat → Nat → List Byte
  | 0, _ => []
  | n + 1, v => BitVec.ofNat 8 v :: leBytes n (v / 256)

/-! ### SHA-256 (FIPS 180-4), in registers: a word is a lane of a wide register, lane 0 at its most significant end -/

/-- Lane i of a register of n words. -/
def lane {n : Nat} (v : BitVec (32 * n)) (i : Nat) : Word := v.extractLsb' (32 * (n - 1 - i)) 32

/-- The round constants, 16 to a number: the fractions of the cube roots of the first 64 primes. -/
def shaRoots : List Nat :=
  [0x428a2f9871374491b5c0fbcfe9b5dba53956c25b59f111f1923f82a4ab1c5ed5d807aa9812835b01243185be550c7dc372be5d7480deb1fe9bdc06a7c19bf174,
   0xe49b69c1efbe47860fc19dc6240ca1cc2de92c6f4a7484aa5cb0a9dc76f988da983e5152a831c66db00327c8bf597fc7c6e00bf3d5a7914706ca635114292967,
   0x27b70a852e1b21384d2c6dfc53380d13650a7354766a0abb81c2c92e92722c85a2bfe8a1a81a664bc24b8b70c76c51a3d192e819d6990624f40e3585106aa070,
   0x19a4c1161e376c082748774c34b0bcb5391c0cb34ed8aa4a5b9cca4f682e6ff3748f82ee78a5636f84c878148cc7020890befffaa4506cebbef9a3f7c67178f2]

/-- The constant of round i. -/
def shaRoot (i : Nat) : Word := lane (BitVec.ofNat (32 * 16) (shaRoots.getD (i / 16) 0)) (i % 16)

/-- The hash value a digest starts from: the fractions of the square roots of the first 8 primes. -/
def shaStart : BitVec (32 * 8) := 0x6a09e667bb67ae853c6ef372a54ff53a510e527f9b05688c1f83d9ab5be0cd19

/-- The exclusive or of three rotations of a word. -/
def spin (x : Word) (i j k : Nat) : Word := x.rotateRight i ^^^ (x.rotateRight j ^^^ x.rotateRight k)

/-- The message register moves one word on: the oldest leaves, and the word due 16 rounds later enters. -/
def shaFeed (w : BitVec (32 * 16)) : BitVec (32 * 16) :=
  let mix := fun (x : Word) (i j k : Nat) => spin x i j 0 ^^^ x ^^^ (x >>> k)
  w.extractLsb' 0 480 ++ (mix (lane w 14) 17 19 10 + mix (lane w 1) 7 18 3 + lane w 0 + lane w 9)

/-- One round on the working register a to h, lanes 0 to 7, with the sum of constant and message word. -/
def shaTurn (v : BitVec (32 * 8)) (km : Word) : BitVec (32 * 8) :=
  let pick := lane v 6 ^^^ (lane v 4 &&& (lane v 5 ^^^ lane v 6))
  let most := (lane v 0 &&& lane v 1) ||| (lane v 2 &&& (lane v 0 ||| lane v 1))
  let t := km + lane v 7 + pick + spin (lane v 4) 6 11 25
  (t + most + spin (lane v 0) 2 13 22) ++ v.extractLsb' 160 96 ++ (t + lane v 3) ++ v.extractLsb' 32 96

/-- A block's 64 rounds, added lane by lane to the hash value before it. -/
def shaAbsorb (h : BitVec (32 * 8)) (block : BitVec (32 * 16)) : BitVec (32 * 8) :=
  let v := ((List.range 64).foldl (fun x i => (shaTurn x.1 (shaRoot i + lane x.2 0), shaFeed x.2)) (h, block)).1
  (List.range 8).foldl (fun r i => (r <<< 32) ||| (lane h i + lane v i).setWidth _) 0

/-- The number whose big-endian bytes these are. -/
def beNat (bs : List Byte) : Nat := bs.foldl (fun a b => a * 256 + b.toNat) 0

/-- A message with its padding: a one bit, zeros up to whole blocks of 64 bytes, and its length in bits as the last 8 bytes. -/
def shaPadded (m : List Byte) : List Byte :=
  let n := m.length
  m ++ 0x80#8 :: List.replicate ((119 - n % 64) % 64) 0#8 ++ (leBytes 8 (8 * n)).reverse

/-- The hash value after the first n blocks of a padded message. -/
def shaRun (m : List Byte) (n : Nat) : BitVec (32 * 8) :=
  (List.range n).foldl (fun h i => shaAbsorb h (BitVec.ofNat _ (beNat ((m.drop (64 * i)).take 64)))) shaStart

/-- SHA-256 of a byte string, 32 bytes (R23, FIPS 180-4). -/
def sha256 (m : List Byte) : List Byte :=
  let p := shaPadded m
  (leBytes 32 (shaRun p (p.length / 64)).toNat).reverse

/-! ### ECDSA over P-256 -/

/-- The field prime of P-256. -/
def p256P : Nat := 0xffffffff00000001000000000000000000000000ffffffffffffffffffffffff
/-- The order of the base point of P-256. -/
def p256N : Nat := 0xffffffff00000000ffffffffffffffffbce6faada7179e84f3b9cac2fc632551
/-- The coefficient b of P-256. -/
def p256B : Nat := 0x5ac635d8aa3a93e7b3ebbd55769886bc651d06b0cc53b0f63bce3c3e27d2604b
/-- The base point of P-256. -/
def p256G : Nat × Nat :=
  (0x6b17d1f2e12c4247f8bce6e563a440f277037d812deb33a0f4a13945d898c296,
   0x4fe342e2fe1a7f9b8ee7eb4a7c0f9e162bce33576b315ececbb6406837bf51f5)

/-- x to the e modulo m; `k` is a number of bits that covers e. -/
def powMod (m : Nat) : Nat → Nat → Nat → Nat
  | 0, _, _ => 1 % m
  | k + 1, x, e =>
    let r := powMod m k (x * x % m) (e / 2)
    if e % 2 = 1 then r * x % m else r

/-- The inverse modulo a 256-bit prime. -/
def invMod (m x : Nat) : Nat := powMod m 256 x (m - 2)

/-- A point of P-256 in Jacobian coordinates: (X, Y, Z) stands for (X / Z^2, Y / Z^3), and Z = 0 for the point at infinity. -/
structure EcPoint where
  x : Nat
  y : Nat
  z : Nat
  deriving DecidableEq, Repr

/-- The point at infinity. -/
def ecZero : EcPoint := ⟨1, 1, 0⟩

/-- The double of a point. -/
def ecDouble (a : EcPoint) : EcPoint :=
  let p := p256P
  if a.z = 0 ∨ a.y = 0 then ecZero
  else
    let y2 := a.y * a.y % p
    let z2 := a.z * a.z % p
    let s := 4 * a.x * y2 % p
    let m := 3 * (a.x + p - z2) * (a.x + z2) % p
    let x3 := (m * m + 2 * p - 2 * s) % p
    ⟨x3, (m * (s + p - x3) + 8 * (p - y2) * y2) % p, 2 * a.y * a.z % p⟩

/-- The sum of two points. -/
def ecAdd (a b : EcPoint) : EcPoint :=
  let p := p256P
  if a.z = 0 then b
  else if b.z = 0 then a
  else
    let za := a.z * a.z % p
    let zb := b.z * b.z % p
    let u := a.x * zb % p
    let h := (b.x * za + p - u) % p
    let s := a.y * (zb * b.z % p) % p
    let r := (b.y * (za * a.z % p) + p - s) % p
    if h = 0 then (if r = 0 then ecDouble a else ecZero)
    else
      let h2 := h * h % p
      let h3 := h2 * h % p
      let v := u * h2 % p
      let x3 := (r * r + 3 * p - h3 - 2 * v) % p
      ⟨x3, (r * (v + p - x3) + s * (p - h3)) % p, h * (a.z * b.z % p) % p⟩

/-- Scalar multiplication over `k` bits. -/
def ecMul : Nat → Nat → EcPoint → EcPoint
  | 0, _, _ => ecZero
  | k + 1, n, q =>
    let r := ecMul k (n / 2) (ecDouble q)
    if n % 2 = 1 then ecAdd r q else r

/-- ECDSA P-256 verification with SHA-256 (R28): `key` is X followed by Y, `sig` is r followed by s (R23). -/
def ecdsaVerify (key msg sig : List Byte) : Bool :=
  let x := beNat (key.take 32)
  let y := beNat (key.drop 32)
  let r := beNat (sig.take 32)
  let s := beNat (sig.drop 32)
  let onCurve := decide (x < p256P) && decide (y < p256P)
    && decide (y * y % p256P = (x * x * x + (p256P - 3) * x + p256B) % p256P)
  if onCurve && decide (0 < r) && decide (r < p256N) && decide (0 < s) && decide (s < p256N) then
    let w := invMod p256N s
    let u1 := beNat (sha256 msg) * w % p256N
    let u2 := r * w % p256N
    let q := ecAdd (ecMul 256 u1 ⟨p256G.1, p256G.2, 1⟩) (ecMul 256 u2 ⟨x, y, 1⟩)
    decide (q.z ≠ 0) && decide (q.x * invMod p256P (q.z * q.z % p256P) % p256P % p256N = r)
  else false

end Sys2Proof.Machine
end

