-- ==== Sys2Proof/Config.lean ====
section
/-! DEFINITION. What the spec leaves to an implementation, as opaque constants: no proof can see their values, so a
claim about them holds for every value. Each names the rule that leaves it open and its log entry. -/

namespace Sys2Proof.Config

open Sys2Proof

/-- Which way an unstated rounding goes (R98: rounding is defined per kernel, in no table of the spec): true rounds up.
The first argument numbers the place of use. Log 6. -/
opaque roundUp : Nat → Rat → Bool

/-- What the device's evaluation of a real function differs by in its last bits: the function (0 cosine, 1 sine, 2 atan2,
3 log2, 4 exponential) and its argument. Log 7. -/
opaque lastBits : Nat → Rat → Rat

/-- The angle that atan2 gives the zero vector, in turns, where R143 and R159 state none. Log 7. -/
opaque zeroAngle : Rat

/-- What the fractional-delay filter of KM-PH gives beyond the interpolation of R145: the fraction in steps of 2^-24 sample and
the four samples around it. Log 7. -/
opaque delayFilter : Nat → List Rat → Rat

/-- What tap m of the 90 degree filter of R160 differs by from the ideal one. Log 7. -/
opaque quadTap : Nat → Rat

/-- What the integrator of R133 adds to flatten its gain: NORM60, the new sample and the one before. Log 7. -/
opaque rogowskiFix : Bool → Rat → Rat → Rat

/-- The corner in Hz of the drift removal of R133, which lies below 0.1. Log 7. -/
opaque rogowskiCorner : Rat

/-- The gain of the main decimation filter less 1, within its ripple of ±0.002 dB: channel and sample (Table 4-5). Log 7. -/
opaque ripple : Nat → Rat → Rat

/-- The fundamental of the frequency source as the frequency loop sees it (R185). Log 7. -/
opaque loopFilter : List Rat → Rat

/-- What resampling gives beyond the straight line between two samples: the place between them and the window's samples (R190).
Log 13. -/
opaque resample : Rat → List Rat → Rat

/-- The factory pilot amplitude of a chain at a PGA code (R143). Log 9. -/
opaque pilotBase : Nat → Nat → Rat

/-- The factory amplitude of the pilot in the fast samples of a chain at a PGA code (R365). Log 9. -/
opaque fastPilotBase : Nat → Nat → Rat

/-- The cause that an event's payload shows where its table lists none: 1 LINK_STATE to OFF, 2 LINK_STATE to FAULT, 3
DISPLAY_STATE to FAULT, each under a rule of another chapter, 4 LINK_STATE to STARTING where a structure or CHD_CFG starts
the link, 5 the word of SHADOW_MISMATCH for a shadow run that did not complete and whose records agree, 6 the instance of
ECC_CORRECTED for a word in no state block, 7 DISPLAY_STATE to STARTING where a structure starts the display again, and
8 DISPLAY_STATE where a write of MAINS_GLANCE stops it. Log 28. -/
opaque otherCause : Nat → Nat

/-- The 8-bit challenge of the window watchdog after this one (R351). Log 81. -/
opaque nextChallenge : Byte → Byte

/-- The health token that a challenge and the trip decisions of the safety instances give (R351). Log 81. -/
opaque healthToken : Byte → List Bool → Byte

/-- The digest of intermediate values in a safety kernel's result record, of its kernel and its other words (R113). Log 86. -/
opaque safDigest : Nat → List Word → Word

/-- What a counter reads whose three copies all differ (R46, R64): no value is its majority. Log 87. -/
opaque noMajority : Nat → Nat → Nat → Nat

/-- The store address of a counter of R397, which Table 13-1 places no closer than its area. Log 32. -/
opaque counterAddr : Nat → Nat

/-- The factory delay of a chain against the reference chain, in seconds (R143). Log 9. -/
opaque delayBase : Nat → Rat

/-- The 17 points of the factory curvature table, 2^-30 (R140). Log 9. -/
opaque curvature : Nat → Int

/-- The key of slot 0, as X followed by Y: the factory's, which the spec does not list (R36). Log 9. -/
opaque factoryKey : List Byte

/-- DIAG_ORDER, DIAG_SERIAL_W0/W1 and the probe date, from the factory data (Table 16-21). Log 9. -/
opaque order : Word
opaque serial0 : Word
opaque serial1 : Word
opaque probeDate : BitVec 16

/-- The sound speed of pure water inverted to a temperature in °C, before the limits of R222. Log 11. -/
opaque waterTemp : Rat → Rat

/-- The device's table of kinematic viscosity of pure water at a temperature, in m²/s (R222). Log 11. -/
opaque viscosity : Rat → Rat

/-- How the resonator of R213 answers an edge beside its sine: the share of the cosine, and the level it leaves. Log 23. -/
opaque resonator : Rat × Rat

/-- The polarity of the crossings that a reference marks (R211): true rising. Log 23. -/
opaque refRise : List Int → Bool

/-- The mean time of the 8 matching crossings within a reference, in samples (R212). Log 23. -/
opaque refMean : List Int → Rat

/-- The 512 samples of a capture aligned at an arrival, given in samples from its start (R233). Log 23. -/
opaque alignShot : List Int → Rat → List Rat

/-- CHD_DELAY from the measured delays, newest first, in ps: Table 8-6 states no filter. Log 24. -/
opaque linkDelay : List Rat → Rat

/-- The built-in values of a gauge table register for a cell type and an offset (R291). Log 10. -/
opaque batTable : Nat → Nat → Word

/-- The default V_EMPTY and V_FULL of a custom cell, in mV, which Table 10-5 does not state. Log 10. -/
opaque customEmpty : Nat
opaque customFull : Nat

/-- The B-parameter equation: B, R25 in Ω and R_th in Ω to °C (R286). Log 25. -/
opaque thermistor : Nat → Nat → Rat → Rat

/-- The current in µA that the gauge forms from a shunt voltage when BAT_SHUNT is 0. Log 26. -/
opaque zeroShunt : Rat → Rat

/-- The glyph ROM: character code, column 0 to 5, row 0 to 7 (R331). Log 12. -/
opaque glyph : Nat → Nat → Nat → Bool

end Sys2Proof.Config
end

