-- ==== Sys2Proof/Machine/Math.lean ====
section
/-! DEFINITION. The real functions that the rules name (atan2, cosine and sine, logarithm, exponential): each is evaluated
in fixed point, and what the device's last bits are beyond that stays free (log 7). -/

namespace Sys2Proof.Machine

open Sys2Proof

/-- x held to ±e. -/
def trim (e x : Rat) : Rat := max (-e) (min e x)

/-- The unit of the fixed-point evaluation, 2^60. -/
def fix1 : Int := 1152921504606846976

/-- The product of two fixed-point numbers. -/
def fixMul (a b : Int) : Int := a * b / fix1

/-- 2π in fixed point. -/
def fixTau : Int := 7244019458077122842

/-- ln 2 in fixed point. -/
def fixLn2 : Int := 799144290325165978

/-- A fixed-point number as a rational. -/
def ofFix (a : Int) : Rat := (a : Rat) / (fix1 : Rat)

/-- A rational as a fixed-point number. -/
def toFix (x : Rat) : Int := (x * (fix1 : Rat)).floor

/-- A value of a real function within 2^-48 of its evaluation: the device's own last bits are free. -/
def nearly (site : Nat) (x v : Rat) : Rat := v + trim (1 / 281474976710656) (Config.lastBits site x)

/-- The sum of a power series whose first term is `t` and whose n-th ratio is z over `d n`, alternating if `alt`. -/
def fixSeries (terms : Nat) (alt : Bool) (d : Nat → Nat) (t z : Int) : Int :=
  ((List.range terms).foldl (fun (a : Int × Int) n =>
    let u := fixMul a.2 z / (d n : Nat)
    let v := if alt then -u else u
    (a.1 + v, v)) (t, t)).1

/-- Cosine and sine of an angle in turns: the angle within an eighth of a turn of a quarter, by their series. -/
def cosSin (x : Rat) : Int × Int :=
  let t := toFix (x - (x.floor : Rat))
  let q := (t + fix1 / 8) / (fix1 / 4)
  let th := fixMul (t - q * (fix1 / 4)) fixTau
  let z := fixMul th th
  let c := fixSeries 11 true (fun n => (2 * n + 1) * (2 * n + 2)) fix1 z
  let s := fixSeries 11 true (fun n => (2 * n + 2) * (2 * n + 3)) th z
  match q % 4 with
  | 0 => (c, s)
  | 1 => (-s, c)
  | 2 => (-c, -s)
  | _ => (s, -c)

/-- Cosine of an angle in turns (R159). -/
def cosT (x : Rat) : Rat := nearly 0 x (ofFix (cosSin x).1)

/-- Sine of an angle in turns (R159). -/
def sinT (x : Rat) : Rat := nearly 1 x (ofFix (cosSin x).2)

/-- The arc tangent in radians of a fixed-point number from 0 to √2 - 1. -/
def fixAtan (z : Int) : Int :=
  let z2 := fixMul z z
  ((List.range 24).foldl (fun (a : Int × Int) n =>
    let p := -(fixMul a.2 z2)
    (a.1 + p / (2 * n + 3 : Nat), p)) (z, z)).1

/-- The arc tangent, in turns, of y over x for 0 ≤ y ≤ x and 0 < x. -/
def atanTurn (y x : Rat) : Rat :=
  let z := toFix (y / x)
  let a := if z < 477555723559750800 then fixAtan z
    else fixTau / 8 - fixAtan (toFix ((x - y) / (x + y)))
  (a : Rat) / (fixTau : Rat)

/-- The angle of the vector (x, y) in turns, in (-1/2, 1/2] (R143, R159); of the zero vector it is free. -/
def atan2 (y x : Rat) : Rat :=
  if x = 0 ∧ y = 0 then trim (1 / 2) Config.zeroAngle
  else
    let ay := if y < 0 then -y else y
    let ax := if x < 0 then -x else x
    let a := if ay ≤ ax then atanTurn ay ax else 1 / 4 - atanTurn ax ay
    let b := if x < 0 then 1 / 2 - a else a
    nearly 2 (if x = 0 then y else y / x) (if y < 0 then -b else b)

/-- The binary digits of the logarithm of a fixed-point number from 1 up to 2, by repeated squaring. -/
def logDigits : Nat → Int → Int → Int → Int
  | 0, _, _, acc => acc
  | n + 1, m, w, acc =>
    let q := fixMul m m
    if 2 * fix1 ≤ q then logDigits n (q / 2) (w / 2) (acc + w) else logDigits n q (w / 2) acc

/-- The logarithm to base 2 of a positive number (R223). -/
def log2 (x : Rat) : Rat :=
  let e : Int := (Nat.log2 x.num.toNat : Int) - (Nat.log2 x.den : Int)
  let p : Rat := if 0 ≤ e then x / (2 ^ e.toNat : Nat) else x * (2 ^ (-e).toNat : Nat)
  let m := toFix p
  let r := if m < fix1 then (e - 1, 2 * m) else (e, m)
  nearly 3 x ((r.1 : Rat) + ofFix (logDigits 54 r.2 (fix1 / 2) 0))

/-- e to the power -x for x of 0 and above (R344). -/
def expNeg (x : Rat) : Rat :=
  let y := x * (fix1 : Rat) / (fixLn2 : Rat)
  let k := y.floor.toNat
  let f := fixMul (toFix (y - (y.floor : Rat))) fixLn2
  if 64 < k then nearly 4 x 0 else nearly 4 x (ofFix (fixSeries 22 true (fun n => n + 1) fix1 f) / (2 ^ k : Nat))

end Sys2Proof.Machine
end

