-- ==== Sys2Proof/Machine/State.lean ====
section
/-! DEFINITION. The state of the block as plain data: one structure per chapter of the spec, and State, which holds
them all and the queue of waiting commands. Every quantity the spec lets a host or an event show, and every internal
quantity its rules name, has one home here. INVENTORY.md lists each with its rule and reset value. -/

namespace Sys2Proof.Machine

open Sys2Proof

/-! ### Reasons a step can stop -/

/-- Faults. The block has no fault of its own: errors are status codes, refusal codes, unit states and events, and no
command of the table stops the machine (INVENTORY, Faults). -/
inductive Fault where
  /-- Raised by no meaning. Safe: a claim that a step faults can never be proved. -/
  | none
  deriving DecidableEq, Repr

/-- Refusals. -/
inductive Refusal where
  /-- The command has no meaning in this model. Raised only by exec's refused arms. Safe. -/
  | notModelled (mnemonic : String)
  deriving DecidableEq, Repr

/-! ### Formats every chapter shares -/

/-- The management state of a unit (Table 0-8). -/
inductive Mgmt where
  | off | starting | run | hold | fault
  deriving DecidableEq, Repr

/-- The quality tag of a data word (Table 0-8). -/
inductive Tag where
  | valid | settling | held | invalid
  deriving DecidableEq, Repr

/-- One event as a rule raises it (Table 0-9), with its recipients as a bit mask before the masks of R95; `filt` marks
the events of R182 whose payload word w4 is filtered for each recipient. -/
structure Ev where
  code : Nat
  unit : Nat := 0
  sev : Nat
  who : Nat
  w4 : Word := 0
  w5 : Word := 0
  w6 : Word := 0
  w7 : Word := 0
  filt : Bool := false
  deriving DecidableEq, Repr

/-- One recorded event (Table 0-9): the sequence number, the RTC count and the event. -/
structure EvRec where
  seq : Nat
  rtc : Nat
  ev : Ev
  deriving DecidableEq, Repr

/-! ### The applied structure (chapter 01) -/

/-- Ball record (Table 1-7). -/
structure BallRec where
  ball : Nat
  fn : Nat
  opt : Nat
  deriving DecidableEq, Repr

/-- Routing record (Table 1-7). -/
structure RouteRec where
  input : Nat
  chan : Nat
  pga : Nat
  sensor : Nat
  opt : Nat
  deriving DecidableEq, Repr

/-- Kernel instance record (Table 1-7). -/
structure InstRec where
  code : Nat
  inst : Nat
  flags : Nat
  chans : Nat
  off : Nat
  len : Nat
  prim : Nat
  shad : Nat
  rsv : Nat
  deriving DecidableEq, Repr

/-- Sector record (Table 1-7). -/
structure SectorRec where
  num : Nat
  kind : Nat
  first : Nat
  len : Nat
  deriving DecidableEq, Repr

/-- Facet record (Table 1-7). -/
structure FacetRec where
  facet : Nat
  ports : Nat
  rsv : Nat
  deriving DecidableEq, Repr

/-- Grant record (Table 1-7). -/
structure GrantRec where
  cls : Nat
  idx : Nat
  facet : Nat
  kind : Nat
  deriving DecidableEq, Repr

/-- Policy record (Table 1-7). -/
structure PolicyRec where
  act : Nat
  pol : Nat
  order : Nat
  deriving DecidableEq, Repr

/-- Enrolment record (Table 1-7). -/
structure EnrolRec where
  slot : Nat
  key : List Byte
  deriving DecidableEq, Repr

/-- Preset record (R29). -/
structure Preset where
  off : Nat
  facet : Nat
  rsv : Nat
  val : Word
  deriving DecidableEq, Repr

/-- Directory entry (Table 1-3). -/
structure DirEntry where
  typ : Nat
  idx : Nat
  flags : Nat
  off : Nat
  len : Nat
  ver : Nat
  digest : List Byte
  deriving DecidableEq, Repr

/-- Signature record (Table 1-4). -/
structure SigRec where
  signer : Nat
  typ : Nat
  idx : Nat
  rsv : Nat
  sig : List Byte
  deriving DecidableEq, Repr

/-- FACET section (R31). -/
structure FacetSec where
  facet : Nat
  release : Bool
  consent : List Byte
  wdt : Nat
  irq : Nat
  mask : Nat
  presets : List Preset
  deriving DecidableEq, Repr

/-- Section table point (R252): level mm, area cm2 and factor as chapter 08 gives them. -/
structure SecPoint where
  h : Nat
  a : Nat
  k : Nat
  deriving DecidableEq, Repr

/-- Pipe profile table (R223): one factor per point of a path. -/
structure ProfPoint where
  path : Nat
  re : Nat
  k : Nat
  deriving DecidableEq, Repr

/-- Legal tile content item (R329). -/
structure LegalItem where
  kind : Nat
  idx : Nat
  dwell : Nat
  opt : Nat
  deriving DecidableEq, Repr

/-- A Lattice image as the loader reads it: header, directory, and the sections' records (R22 to R33). -/
structure Image where
  len : Nat
  seq : Nat
  target : Nat
  device : Nat
  site : List Byte
  entries : List DirEntry
  sigs : List SigRec
  lifecycle : Nat
  facetMask : Nat
  portcMode : Nat
  portcAddr : Nat
  cosign : Nat
  balls : List BallRec
  routes : List RouteRec
  insts : List InstRec
  sectors : List SectorRec
  rots : List Nat
  facRecs : List FacetRec
  grants : List GrantRec
  policies : List PolicyRec
  enrols : List EnrolRec
  proofCount : Nat
  loads : List Nat
  budgets : List Nat
  framePresets : List Preset
  facets : List FacetSec
  ackFacet : Nat
  assessor : List Byte
  safPresets : List Preset
  accClear : Bool
  accDef : List Nat
  legal : List LegalItem
  profile : List ProfPoint
  section_ : List SecPoint
  metPresets : List Preset
  digest : List Byte
  deriving DecidableEq, Repr

/-! ### Loader, banks, keys and counters (chapter 01) -/

/-- Lifecycle states (Table 1-13). -/
inductive Lifecycle where
  | shipped | commissioning | sealed
  deriving DecidableEq, Repr

/-- Bank states (R49). -/
inductive BankState where
  | empty | loading | armed | active
  deriving DecidableEq, Repr

/-- Loader states (Table 1-16). -/
inductive LoaderState where
  | idle | receiving | verifying | switchPending | refused
  deriving DecidableEq, Repr

/-- Where a started switch stands in Table 1-11: waiting for the switch commit, programming key slots, or waiting for
the round boundary of step 5. -/
inductive SwitchStep where
  | none | commit | slots | apply
  deriving DecidableEq, Repr

/-- One image bank (R49, R379): state, marks, and content as canonical bytes over 24 576 addresses. -/
structure Bank where
  state : BankState
  held : Bool
  apply : Bool
  mem : List Host.Cell
  deriving DecidableEq, Repr

/-- A counter as the ferroelectric store holds it: three copies (R46, R64). -/
structure Copies where
  c0 : Nat
  c1 : Nat
  c2 : Nat
  deriving DecidableEq, Repr

/-- A counter written with a value: all three copies hold it. -/
def Copies.all (n : Nat) : Copies := ⟨n, n, n⟩

/-- The security counters and key slots (R36, R42, R46, R64; IMG_REFUSE_COUNT of Table 1-15). The counters are in the
order FRAME, FACET 1 to 4, SAFETY, METROLOGY. `owed` holds the events of step 6 that go with an APPLY mark (R49, R50). -/
structure Sec where
  lifecycle : Lifecycle
  metroEvt : Copies
  arb : Vector Copies 7
  keys : Vector (Option (List Byte)) 6
  defective : Vector Bool 6
  anchor : Option (List Byte)
  refuseCount : Nat
  owed : List Ev
  deriving DecidableEq, Repr

/-- IMG_REFUSE (Table 1-18). -/
structure RefuseReg where
  code : Nat
  stage : Nat
  sect : Nat
  index : Nat
  sigrec : Nat
  atStart : Bool
  deriving DecidableEq, Repr

/-- The image loader (R49 to R59). -/
structure Img where
  banks : Vector Bank 2
  loader : LoaderState
  sessionPort : Port
  hold : Bool
  step : SwitchStep
  refuse : RefuseReg
  pendingSeq : Nat
  received : BitVec 6144
  deriving DecidableEq, Repr

/-! ### Facets and ports (chapters 02 and 15) -/

/-- One facet's own registers and event queue (R83, R85, R399, R402, R442; Table 2-9 requests). -/
structure FacetSt where
  deniedRd : Nat
  deniedWr : Nat
  unmapped : Nat
  lastDenied : Word
  evtLost : Bool
  grantsChanged : Bool
  resetSeen : Bool
  resetCause : Nat
  timeoutMs : Nat
  lastDeniedAt : Option Nat
  queue : List EvRec
  gpReq : Vector Nat 6
  brightLevel : Nat
  brightValid : Bool
  pumpReq : Nat
  gpCleared : Vector Bool 6
  pumpCleared : Bool
  nvuSel : Nat
  nvuWrites : Vector Nat 4
  logRing : Nat
  logIndex : Nat
  deriving DecidableEq, Repr

/-- A reply of Table 15-3; `pop` lists the sequence numbers an EVENT-POP reply returns (R442). -/
structure Reply where
  status : Nat
  cmd : Nat
  words : List Word
  pop : List Nat
  deriving DecidableEq, Repr

/-- A port's one coherent snapshot (R81, R458): the words copied, the offset of the first, and the round it holds. -/
structure Snapshot where
  base : Nat
  words : List Word
  round : Nat
  deriving DecidableEq, Repr

/-- A request as a decoder holds it: its command byte and its fields (Table 15-2). -/
structure Request where
  cmd : Nat
  frame : Frame
  deriving DecidableEq, Repr

/-- One host port (R81, R85, R434 to R436, R440, R442, R446, R452). -/
structure PortSt where
  facet : Option Facet
  wdtAt : Option Nat
  snap : Option Snapshot
  held : Option Reply
  taken : Bool
  transient : Option Reply
  executing : Option Request
  waiting : Option Request
  prevStatus : Nat
  prevCmd : Nat
  popList : List Nat
  frames : Nat
  crcErr : Nat
  fmtErr : Nat
  busy : Nat
  untaken : Nat
  spiMode3 : Bool
  uartIgnore : Bool
  deriving DecidableEq, Repr

/-- Host writes of the FAB cycle in progress, whether a structure was applied in it (R90, R91), the balls that left an output
function with that (R468), and the first port in the order A,
B, C that has no frame in it yet. -/
structure Cycle where
  writes : List (Facet × Nat)
  applied : Bool
  left : List Nat
  from_ : Nat
  deriving DecidableEq, Repr

/-- A new FAB cycle. -/
def Cycle.fresh : Cycle := { writes := [], applied := false, left := [], from_ := 0 }

/-! ### Power, clocks and time (chapter 14) -/

/-- Power modes (Table 14-2). -/
inductive Mode where
  | idle | shot | meter | shelf
  deriving DecidableEq, Repr

/-- Where the start sequence of Table 14-10 stands: held in reset after the power-fail sequence, reset released before
recovery (step 0 to 4), trying start candidates (step 5 to 7), or served (step 8 and later). -/
inductive StartPhase where
  | heldInReset | released | candidates | served
  deriving DecidableEq, Repr

/-- Where the power-fail sequence of Table 13-4 stands. -/
inductive PfPhase where
  | none | writing
  deriving DecidableEq, Repr

/-- The clock domains of Table 14-7 whose state is the power manager's own; TDC, FAB, BRC, PIX, DCV and the port clocks
follow the units they serve. -/
structure Clocks where
  hfx : Bool
  mod : Bool
  eng : Bool
  usx : Bool
  saf : Bool
  deriving DecidableEq, Repr

/-- Demands of Table 14-3 that no other field shows: a bank cycle from its wake on, a gauge sample, an RC trim. -/
structure Demands where
  bank : Bool
  gauge : Bool
  trim : Bool
  deriving DecidableEq, Repr

/-- Sources of a device reset that have been requested (Table 14-8). -/
structure ResetReq where
  nrst : Bool
  safWdt : Bool
  cmd : Bool
  shelf : Bool
  deriving DecidableEq, Repr

/-- The power manager, the AON domain's clocks and the reset logic (R405 to R427). Times are AON counts; `toData` says that
step 10 of the start sequence is still to come. -/
structure Pwc where
  mode : Mode
  shipping : Bool
  vmainOk : Bool
  vmainLostAt : Option Nat
  vioOk : Bool
  aonRc : Bool
  xtalFail : Bool
  xtalRestartAt : Option Nat
  hfxOk : Bool
  hfxFail : Bool
  hfxStarting : Bool
  hfxFailAt : Nat
  hfxStartAt : Nat
  pllLock : Bool
  rtcValid : Bool
  aonCont : Bool
  clk : Clocks
  dem : Demands
  resetCause : Nat
  req : ResetReq
  reqAt : Nat
  start : StartPhase
  startAt : Nat
  startRefusals : List (RefuseReg × Nat)
  startEvents : List Ev
  tried : List Nat
  wasActive : Option Nat
  pf : PfPhase
  pfBefore : Bool
  afterPf : Bool
  rtc : Nat
  rtcStage : Word
  rtcNext : Option Nat
  startT8 : Nat
  startT10 : Nat
  aonTrim : Int
  trimAt : Nat
  heldAt : Nat
  downMs : Nat
  hfxStarts : Nat
  hfxFails : Nat
  wakes : Nat
  portAFrameSeen : Bool
  toData : Bool
  deriving DecidableEq, Repr

/-! ### Persistent store (chapter 13) -/

/-- Commit kinds (Table 13-2), by their codes 1 to 7. -/
inductive CommitKind where
  | period | pair | mode | state | switch | reset | final
  deriving DecidableEq, Repr

/-- What a commit record carries besides time and sequence (Table 13-3). An entry of `energy` or `volume` is
value [63:0] and residue of one accumulator as one number of 96 bits; energy entries go set by set and accumulator by
accumulator, volume entries by position 0 to 2 and FWD, REV, HELD. -/
structure CommitBody where
  energy : List Nat
  volume : List Nat
  vunmeas : List Nat
  vholdms : List Nat
  batCharge : Int
  batUnc : Nat
  batUsed : Nat
  batSoc : Nat
  anchored : Bool
  chargePrimary : Bool
  cellChanged : Bool
  gauge : Bool
  fcc : Nat
  iavg : Int
  switchCount : Nat
  therm : List Nat
  epoch : Nat
  leader : Bool
  roleValid : Bool
  entryCause : Nat
  safeLatched : Bool
  legalFaults : Nat
  pqCounts : List Nat
  pqMs : List Nat
  deriving DecidableEq, Repr

/-- A commit record (Table 13-3) with the marker that precedes it (R388): `crcOk` and `marked` say whether its CRC and
closing mark hold. -/
structure CommitRec where
  aon : Nat
  seq : Nat
  kind : CommitKind
  body : CommitBody
  crcOk : Bool
  marked : Bool
  deriving DecidableEq, Repr

/-- A slot's marker (R388). -/
structure Marker where
  seq : Nat
  kind : CommitKind
  vmain : Bool
  start : Nat
  stop : Nat
  m4 : Nat
  m5 : Nat
  m6 : Nat
  deriving DecidableEq, Repr

/-- An entry of a log ring: the record and its mask of recipients (R401). -/
structure LogEntry where
  ent : EvRec
  mask : Nat
  deriving DecidableEq, Repr

/-- A packed record in the commit queue, with the marker that its write begins with (R382, R388). -/
structure Queued where
  kind : CommitKind
  aon : Nat
  vmain : Bool
  body : CommitBody
  m4 : Nat
  m5 : Nat
  m6 : Nat
  deriving DecidableEq, Repr

/-- An unclosed interval found by recovery (R393, R394): its length in AON counts and its maxima from a valid marker, or
none of both; whether VMAIN was present, and whether a FINAL marker was found. -/
structure Unclosed where
  len : Option Nat
  m4 : Nat
  m5 : Nat
  m6 : Nat
  mains : Bool
  final : Bool
  deriving DecidableEq, Repr

/-- A user-area WRITE accepted and not yet in the store (R400): its port, facet, area and words. -/
structure AreaWrite where
  port : Port
  facet : Facet
  area : Nat
  words : List (Nat × Word)
  deriving DecidableEq, Repr

/-- The persistent store and its controller (R379 to R404). The counter area's PQ, safety and accumulator values are
held with their owners; the head of `cqueue` is being written; `restore`, `gap` and `uncl` are what recovery found (R301,
R393) and wait for the structure; `maxS`, `maxPipe`, `maxChan` are the maxima of the open interval (m4 to m6). `evq` holds the
events of the open round, which its close queues (Table 3-7); while `evHold` is set an event raised joins them. -/
structure Sto where
  slots : Vector (Option CommitRec) 2
  markers : Vector (Option Marker) 2
  highWords : List Nat
  cqueue : List Queued
  lastQueued : Option Nat
  deferred : Option CommitKind
  periodAt : Nat
  restore : Option CommitRec
  gap : Bool
  uncl : Option Unclosed
  maxS : Nat
  maxPipe : Nat
  maxChan : Nat
  commitCount : Nat
  commitFail : Nat
  pfFinal : Nat
  unclosed : Nat
  unclMs : Nat
  eccCorr : Nat
  eccUncorr : Nat
  evtSeq : Nat
  evtMark : Nat
  ringM : List LogEntry
  ringG : List LogEntry
  ovwM : Nat
  ovwG : Nat
  areas : List Host.Cell
  areaWrites : List AreaWrite
  clearing : Option Nat
  factoryOk : Bool
  evHold : Bool
  evq : List Ev
  deriving DecidableEq, Repr

/-! ### The wheel (chapter 03) -/

/-- Wheel states (R101). -/
inductive WheelState where
  | stopped | running | burst
  deriving DecidableEq, Repr

/-- A unit's record of faults counted under R119: the AON counts of the forced faults and the one awaiting return. -/
structure FaultRec where
  times : List Nat
  returnAt : Option Nat
  latched : Bool
  deriving DecidableEq, Repr

/-- The wheel (R96 to R128): state, counters, rotation pointers, unit fault records by unit number, flex work pending
by instance index, and the dangerous-failure causes, each with its detail, collected for the round close. `scrubWord` is
the next word to scrub, `scrubAny` says that one has been scrubbed, `sector` counts the round's sectors that have begun.
`flips` is state memory as SECDED sees it (R96): the kernels' quantities stand in their own fields, and of the 72 bits of a
listed word those set here differ from what was written. Of the open round, `ran` lists the completed runs of fixed instances,
true for a shadow run, `stop` the instances stopped by the guard or hit by an uncorrectable error, and `wrong` the faults of
runs of safety instances, true for the shadow run. `halves` lists words at which the two state halves of a safety instance
differ, `recs` the latest records of its primary and shadow run (R113). `closedAt` is the AON count of the latest round close, or of
the wheel's start (Table 14-8). -/
structure Whl where
  state : WheelState
  dfSignal : Bool
  rounds : Nat
  consist : Nat
  shadow : Nat
  eccCorr : Nat
  eccUncorr : Nat
  sampleLost : Nat
  shotDefer : Nat
  commitMerged : Nat
  linkQloss : Nat
  sdiQloss : Nat
  hostTxloss : Nat
  guards : Nat
  scrubWord : Nat
  scrubAny : Bool
  scrubPass : Nat
  ptrs : List Nat
  pending : List (Nat × List Nat)
  faults : List (Nat × FaultRec)
  df : List (Nat × Nat)
  sector : Nat
  flips : List (Nat × BitVec 72)
  ran : List (Nat × Bool)
  stop : List Nat
  wrong : List (Bool × RunFault)
  halves : List (Nat × Nat)
  recs : List (Nat × List Word × List Word)
  closedAt : Nat
  deriving DecidableEq, Repr

/-! ### Metering inputs (chapter 04) -/

/-- A word of a sample FIFO (R137, R138, R474): the code after clipping, whether its filter window holds an overloaded cycle with
the peak code, or a cycle beyond the common-mode range, and the pilot side words. -/
structure FifoWord where
  code : Int
  ovl : Bool
  cm : Bool
  peak : Int
  pilotI : Int
  pilotQ : Int
  deriving DecidableEq, Repr

/-- The decimator of a channel (R131, R136, R138): the inputs of its delay line, newest first, the level of the high-pass filter,
and for how many rounds its window still holds an overloaded cycle, with the peak of those, or one beyond the common-mode range
(R474). -/
structure Decim where
  line : List Rat
  hp : Rat
  ovlLeft : Nat
  cmLeft : Nat
  peak : Int
  deriving DecidableEq, Repr

/-- One metering channel (Table 4-10, R138, R143 to R147, Table 4-7). `age` counts rounds since step 0 of Table 4-7; `corrG` in
2^-30 and `corrD` in s are the pilot corrections in force; `integ` and `integX` belong to the integrator of R133. -/
structure ChanSt where
  state : Mgmt
  tag : Tag
  sinceOvl : Option Nat
  clampG : Bool
  clampD : Bool
  lost : Bool
  ovl : Nat
  lastOvlEvt : Option Nat
  age : Nat
  fifo : List FifoWord
  dec : Decim
  win : List (Int × Int)
  sumI : Int
  sumQ : Int
  cnt : Nat
  avgG : Rat
  avgD : Rat
  corrG : Int
  corrD : Rat
  phase : Rat
  seeded : Bool
  okRun : Nat
  integ : Rat
  integX : Rat
  hist : List Rat
  deriving DecidableEq, Repr

/-- The metering inputs (chapter 04): the channels, the reference and the auxiliary input, whose second has the sum, the count
and the worst tag of its samples so far, and whose latest update was at AON count `auxAt`. -/
structure Met where
  ch : Vector ChanSt 8
  dieTemp : Int
  refCorr : Int
  refDelta : Int
  auxSum : Int
  auxCnt : Nat
  auxX : Int
  auxTag : Tag
  auxWorst : Tag
  loopFault : Bool
  auxAt : Option Nat
  deriving DecidableEq, Repr

/-! ### Energy (chapter 05) -/

/-- One energy set (R165 to R172). An accumulator counts 2^-32 of its LSB: value and residue in one number. -/
structure EnSet where
  acc : Vector Nat 8
  disc : Nat
  setl : Nat
  gateA : Bool
  gateR : Bool
  tag : Tag
  discarding : Bool
  episode : Nat
  lastP : Int
  runHi : Nat
  runLo : Nat
  deriving DecidableEq, Repr

/-- A complex number as its two parts. -/
structure Cx where
  re : Rat
  im : Rat
  deriving DecidableEq, Repr

/-- One published MQT quantity (R163): its window offset, value and tag. -/
structure MqtVal where
  off : Nat
  val : Word
  tag : Tag
  deriving DecidableEq, Repr

/-- One CF generator (R177 to R180). `ep` is E_p in 2^-32 of the source LSB up to ENG cycle `at_` of the round, `dE`
the increment being spread; pulse times are absolute ENG cycles. -/
structure CfSt where
  ep : Rat
  dE : Rat
  at_ : Nat
  backlog : Nat
  overrun : Bool
  count : Nat
  active : Bool
  startCyc : Option Nat
  endCyc : Nat
  discarded : Nat
  lastOvr : Option Nat
  deriving DecidableEq, Repr

/-- Energy (chapter 05): sets, sample windows, phasors, publication sums, published quantities and CF generators.
`hist` holds each channel's calibrated samples u_k with their tags, newest first; `win` those of the open aggregation
window; `dem` and `winDem` the same samples demodulated at f1 (R159), whose phase in turns is `theta`. `now` is the number of
rounds with MOD running, `eng` that of all rounds, since reset and unwrapped. -/
structure Nrg where
  sets : Vector EnSet 8
  now : Nat
  hist : Vector (List (Rat × Tag)) 8
  win : Vector (List (Rat × Tag)) 8
  theta : Rat
  dem : Vector (List Cx) 8
  winDem : Vector (List Cx) 8
  eng : Nat
  quad : Vector (List (Rat × Rat)) 3
  winQuad : Vector (List (Rat × Rat)) 3
  ph : Vector (Cx × Tag) 8
  phWin : Vector (List (Cx × Tag)) 8
  mqt : List MqtVal
  stamp : Nat
  cf : Vector CfSt 3
  deriving DecidableEq, Repr

/-! ### Power quality (chapter 06) -/

/-- One supply event in progress (R195 to R200): times are rounds since reset. -/
structure SupEv where
  on : Bool
  start : Nat
  extreme : Nat
  exChan : Nat
  chans : Nat
  late : Bool
  intr : Bool
  fb : Bool
  number : Option Nat
  deriving DecidableEq, Repr

/-- Power quality (chapter 06). Supply events are indexed type by type (sag, swell, interruption), each with channels
A, B, C and polyphase. `fbSince` is the AON count at which the latest fall-back began, `fbFrom` that from which its time still
counts, `fbT` the time in earlier ones in AON counts. -/
structure Pq where
  locked : Bool
  fallback : Bool
  ftag : Tag
  source : Option Nat
  settleCyc : Nat
  f1 : Nat
  fc : Nat
  prevFc : Option Nat
  good : Nat
  fbSince : Nat
  lastX : Option Rat
  lastRise : Option Rat
  lastCross : Nat
  nomNext : Rat
  halfNext : Rat
  cycInWin : Nat
  winLen : Rat
  winF : Rat
  winFtag : Tag
  winOn : Bool
  winSettle : Bool
  freqMeas : Nat
  freq10 : Nat
  f10tag : Tag
  tenCyc : Nat
  tenDur : Rat
  tenFb : Bool
  tenAt : Nat
  fbCount : Nat
  fbFrom : Nat
  fbT : Nat
  hrms : Vector Nat 3
  hrmsTag : Vector Tag 3
  imb : Vector Nat 4
  imbTag : Vector Tag 4
  counts : Vector Nat 12
  durs : Vector Nat 3
  evtIndex : Nat
  wstamp : Nat
  thrReject : Bool
  armed : Bool
  srcRan : Bool
  ev : Vector SupEv 12
  lastHalf : Nat
  thd : Vector Nat 8
  harm : Vector (List Nat) 8
  hinfoTag : Vector Tag 8
  hinfoStamp : Vector Nat 8
  deriving DecidableEq, Repr

/-! ### Pipe flow and the bank path (chapters 07 and 08) -/

/-- The evaluated shot (R212, R218): cause bits, arrival time in ps, peak code, SNR and PSR as FLW_RXINFO shows them, and
its aligned samples for LEARN. -/
structure ShotRes where
  cause : Nat
  arr : Rat
  peak : Nat
  snr : Nat
  psr : Nat
  aligned : List Rat
  deriving DecidableEq, Repr

/-- A pair attempt (R214 to R216): its assignment, the FLW settings latched at its DN shot, the gain, the AON count of
its DN shot and the local time of its first burst edge in ps, whether the learned reference was in use then, each shot's result,
hardware failures found at firing, the TDC LSB of each shot in fs, and the pair causes DEFER and ABORT. -/
structure PairSt where
  assign : Bool
  cfg : List (Nat × Word)
  learned : Bool
  gain : Nat
  dnAt : Option Nat
  dnT : Nat
  lsbDn : Nat
  lsbUp : Nat
  dn : Option ShotRes
  up : Option ShotRes
  hwDn : Bool
  hwUp : Bool
  upDue : Bool
  defer : Bool
  abort : Bool
  deriving DecidableEq, Repr

/-- What an outcome leaves behind for the next interval (R228, R231). -/
inductive OutClass where
  | valid | held | invalid
  deriving DecidableEq, Repr

/-- The previous pair attempt as R220 needs it: whether it was valid, its assignment, DN time and raw difference. -/
structure PrevPair where
  ok : Bool
  assign : Bool
  at_ : Nat
  raw : Rat
  deriving DecidableEq, Repr

/-- The latest valid pair (R217, R227). -/
structure LastValid where
  at_ : Nat
  dn : Rat
  up : Rat
  deriving DecidableEq, Repr

/-- One ultrasonic path: P1, P2 or the bank path (Tables 7-8, 7-9, 8-5). Speeds are in µm/s, flow in µL/s, times in ps,
AON counts where named `at`; `from_` is where the open interval begins, and `tried` says that a pair attempt has been made. -/
structure FPath where
  state : Mgmt
  tag : Tag
  ttag : Tag
  tried : Bool
  assign : Bool
  acquiring : Bool
  acqStep : Nat
  refLearned : Bool
  refMismatch : Bool
  refFault : Bool
  refAct : Word
  expired : Bool
  cut : Bool
  tempOut : Bool
  cfgReject : Bool
  v : Int
  vm : Int
  q : Int
  c : Nat
  temp : Int
  re : Nat
  k : Nat
  tdn : Rat
  tup : Rat
  dt : Rat
  e : Rat
  gain : Nat
  rxinfo : Word
  failCause : Nat
  pairs : Nat
  fails : Nat
  holds : Nat
  expires : Nat
  pstamp : Nat
  kPrev : Rat
  pair : Option PairSt
  prev : Option PrevPair
  last : Option LastValid
  cls : OutClass
  consec : Nat
  validRun : Nat
  from_ : Nat
  nextAt : Nat
  epFails : Nat
  epHeld : Nat
  epUnmeas : Nat
  deriving DecidableEq, Repr

/-- One pending volume increment of an interval (R231): volume signed and held volume in 2^-32 µL, times in 1/32768 ms,
and the tag, UNMEASURED and SINGLE it leaves. `unit` is the path its words belong to. -/
structure VolInc where
  set_ : Nat
  unit : Nat
  vol : Int
  held : Nat
  holdT : Nat
  unmT : Nat
  len : Nat
  tag : Tag
  unmeasured : Bool
  single : Bool
  deriving DecidableEq, Repr

/-- A volume set (R230, R232); FWD, REV and HELD count 2^-32 µL, the times 1/32768 ms. -/
structure VolSet where
  fwd : Nat
  rev : Nat
  held : Nat
  unmeas : Nat
  holdT : Nat
  tag : Tag
  unmeasured : Bool
  single : Bool
  deriving DecidableEq, Repr

/-- A zero-flow calibration or learning run (R233): status code, path 1 to 3, command, pairs needed and collected for
each assignment, sums, and when it started and its path left RUN. -/
structure Cal where
  status : Nat
  path : Nat
  cmd : Nat
  need : Nat
  got0 : Nat
  got1 : Nat
  sum : Rat
  wave : List Rat
  start : Nat
  leftAt : Option Nat
  deriving DecidableEq, Repr

/-- What the crosspoint connects for the shot on the front end and the burst it drives (R206 to R208): the driver and receive
chain (true D1/L1), the ports 1 to 4 that drive and receive (0: the transducer of the other device), FREQ, PULSES, DAMP, VUS in
mV, and the local time of the first burst edge in ps. -/
structure Shot where
  drv : Bool
  tx : Nat
  rx : Nat
  freq : Nat
  pulses : Nat
  damp : Nat
  vus : Nat
  from_ : Nat
  deriving DecidableEq, Repr

/-- The front end and the pipe paths (chapter 07): `queue` holds the due shots (path, UP) in due order, `waited` those of them that
DIAG_SHOT_DEFER has counted, `front` the shot that holds the front end, `shot` its connections, `bufs` the capture buffers in
use. -/
structure Flw where
  path : Vector FPath 3
  queue : List (Nat × Bool)
  waited : List (Nat × Bool)
  front : Option (Nat × Bool)
  shot : Option Shot
  bufs : List (Nat × Bool)
  cal : Cal
  qc : Int
  qcTag : Tag
  qcSingle : Bool
  qcPath : Nat
  qcFrom : Nat
  qcCls : OutClass
  vol : Vector VolSet 4
  pend : List VolInc
  refs : List Host.Cell
  refHas : Vector Bool 3
  deriving DecidableEq, Repr

/-! ### SDI-12 port (chapter 09) -/

/-- One measurement slot (Table 9-4). `at_` gives the AON count at which each value was stored; `dueAt` is the next due
time, `due` a due slot not yet served; `pendN` and `dataAt` belong to a pending concurrent measurement. `tags` says VALID or HELD by
the latest transaction that ended, `stale` that the age has passed STALE_S (R276). -/
structure SdiSlot where
  result : Nat
  stored : Nat
  overlong : Bool
  range : Bool
  skipped : Bool
  cfgReject : Bool
  fails : Nat
  scount : Nat
  sretry : Nat
  sstamp : Nat
  vals : Vector Int 9
  at_ : Vector (Option Nat) 9
  tags : Vector Tag 9
  stale : Vector Bool 9
  dueAt : Nat
  due : Bool
  pendN : Option Nat
  dataAt : Nat
  dataDue : Bool
  deriving DecidableEq, Repr

/-- Where an open transaction stands: sensor power settling, the measurement command sent, the ttt wait of M and MC, a
D command sent, an R command sent, or a one-shot command sent. -/
inductive SdiPhase where
  | power | meas | wait | data | rcmd | shot
  deriving DecidableEq, Repr

/-- The open transaction (R268, R269, R272): its slot, whether it is a one-shot command, its phase, the D index, the
announced n, the values returned, retries of the present command, whether any character arrived, and its deadline. -/
structure SdiTxn where
  slot : Nat
  shot : Bool
  conc : Bool
  phase : SdiPhase
  dIdx : Nat
  n : Nat
  vals : List Rat
  retries : Nat
  anyChar : Bool
  deadline : Nat
  deriving DecidableEq, Repr

/-- A command on the line (Table 9-2): the AON count at which its break or marking began, whether a break came first, and its
characters. -/
structure SdiCmd where
  from_ : Nat
  brk : Bool
  chars : List Byte
  deriving DecidableEq, Repr

/-- The SDI-12 port (Table 9-3). `shot` is the pending one-shot command: code and address; `cmd` is the command sent last, and
`lineAt` the AON count of the last activity on the line. -/
structure Sdi where
  slots : Vector SdiSlot 8
  txn : Option SdiTxn
  shot : Option (Nat × Nat)
  shotResult : Nat
  addr : Nat
  ident : List Byte
  sdp : Bool
  base : Nat
  cmd : Option SdiCmd
  lineAt : Option Nat
  deriving DecidableEq, Repr

/-! ### Chord link and channel flow (chapter 08) -/

/-- The partner's level from the latest good ARRIVE: level, tag, age in s and the AON count of the reception (R253). -/
structure PartnerLevel where
  h : Int
  tag : Tag
  age : Nat
  at_ : Nat
  deriving DecidableEq, Repr

/-- A role change that waits for the new leader's SYNC (R259): the AON count at which it is undone, the epoch before it, and the
requests that made the swap. -/
structure Revert where
  at_ : Nat
  epoch : Nat
  reqs : Nat
  deriving DecidableEq, Repr

/-- The chord link and the bank pair in progress (chapter 08). Times named t1 to t4, tA and pred are ps of local time;
those named `At` are AON counts. `tx` is the frame sent last as it stands on the wire, `rxq` the steps of work that KC-BANK still
owes to the frames in its receive queue. -/
structure Chd where
  state : Mgmt
  holdExp : Bool
  leader : Bool
  second : Bool
  epoch : Nat
  cycle : Nat
  ownReq : Bool
  ownSent : Bool
  partnerReq : Bool
  committed : Bool
  newEpoch : Nat
  revert : Option Revert
  roleAt : Nat
  theta : Rat
  rate : Rat
  seed : Nat
  latest : Nat
  goodAt : Nat
  outRun : Nat
  resid : List Rat
  delays : List Rat
  t1 : Nat
  t2 : Nat
  t3 : Option Nat
  t4 : Option Nat
  discAt : List Nat
  discRun : Nat
  missRun : Nat
  complRun : Nat
  gotReply : Bool
  gotArrive : Bool
  cycMissed : Bool
  syncAt : Nat
  rxq : Nat
  discShort : Nat
  discLong : Nat
  discBad : Nat
  missing : Nat
  good : Nat
  outlier : Nat
  swaps : Nat
  conflicts : Nat
  pred : Option Nat
  nextAt : Nat
  tx : List Byte
  tA : Nat
  gapMs : Nat
  aArr : Option Nat
  aCause : Nat
  bFired : Option Nat
  arriveBad : Bool
  partnerUp : Bool
  tagA : Tag
  tagB : Tag
  firstA : Bool
  lastOut : Nat
  pLevel : Option PartnerLevel
  stale : Bool
  range : Bool
  partnerUsed : Bool
  h : Int
  a : Nat
  k : Nat
  deriving DecidableEq, Repr

/-! ### Gauge (chapter 10) -/

/-- The battery gauge (R287 to R302). Currents are µA, charges nAh, capacities µAh, voltage 0.1 mV; names in At, Since and
From are AON counts. `mode` is 0 ACTIVE, 1 QUIET, 2 REST. -/
structure Bat where
  state : Mgmt
  mode : Nat
  interval : Nat
  present : Bool
  known : Bool
  bthFault : Bool
  anchored : Bool
  gap : Bool
  intoPrimary : Bool
  cfgReject : Bool
  empty : Bool
  changed : Bool
  volt : Nat
  curr : Rat
  temp : Int
  gotI : Bool
  gotV : Bool
  charge : Rat
  unc : Rat
  used : Rat
  socAbs : Rat
  fcc : Rat
  rm : Rat
  soc : Nat
  tte : Nat
  cycles : Rat
  iavg : Rat
  switchCount : Nat
  frameNo : Nat
  quietRun : Nat
  lastAt : Nat
  lowSince : Option Nat
  restFrom : Option Nat
  stepFrom : Option Nat
  fastFrom : Option Nat
  fullSince : Option Nat
  emptySince : Option Nat
  anchor : Option (Rat × Rat)
  lowDone : Bool
  emptyDone : Bool
  presRun : Nat
  supplyAt : Option Nat
  supplyChanges : Nat
  deriving DecidableEq, Repr

/-! ### Display (chapter 11) -/

/-- Where the display's sequences stand (Tables 11-6 and 11-7): off; rails coming up, with the number good; zero frames of
the power-on sequence; running; stopped and waiting for the frame boundary; zero frames 1 and 2 of the power-off sequence, 0 being a
zero frame of the power-on sequence in which it was stopped;
the discharge frame; rails going down, with the number stopped; and the emergency stop. -/
inductive DspSeq where
  | off
  | rails (n : Nat)
  | zero (n : Nat)
  | run
  | stop
  | stopZero (n : Nat)
  | disch
  | down (n : Nat)
  | emerg
  deriving DecidableEq, Repr

/-- One tile's check (R332 to R335): EXP, the latest scan CRC and its EXP, consecutive mismatches, blanking, and a
comparison to skip. -/
structure TileSt where
  exp : Word
  crc : Word
  ref : Word
  run : Nat
  blanked : Bool
  skip : Bool
  deriving DecidableEq, Repr

/-- The display (chapter 11). `queue` is the display write queue: facet, offset in frame memory and word. `tile`, `grey`
and `rail` are in force since the latest frame start; `cause` is the cause of the sequence under way. -/
structure Dsp where
  state : Mgmt
  seq : DspSeq
  cause : Nat
  glance : Option Nat
  railFault : Bool
  legalFault : Bool
  cfgReject : Bool
  emergency : Bool
  slow : Bool
  level : Nat
  good : Nat
  disch : Nat
  mismatches : Nat
  legalFaults : Nat
  frames : Nat
  emergencies : Nat
  refused : Nat
  item : Nat
  dwellEnd : Nat
  nextItem : Bool
  renderAt : Option Nat
  diverse : Option Word
  tiles : Vector TileSt 8
  tile : Vector Word 8
  grey : Vector Word 4
  rail : Word
  mem : List Host.Cell
  queue : List (Facet × Nat × Word)
  deriving DecidableEq, Repr

/-! ### Safety (chapter 12) -/

/-- Pump protection and functional safety (chapter 12). `theta` is θ of each phase in 2^-48; `raw` the uncalibrated round
samples of each channel, newest first. `plRun`, `efRun`, `dryRun` and `prunRun` count rounds. Of the watcher, `ocRun` and
`efFast` count consecutive fast samples at a threshold, `wOc` and `wEf` say that it has tripped, `instAt` gives the AON
count of the latest sample at a threshold of SF1 and of SF3, `xFast` and `xRound` are the sums of squares and counts of the
cross-check window, `seq` the sequence counts read last, `pI`, `pQ`, `pN`, `pBad` and `pArmed` belong to the fast pilot. `failAt` gives the AON count of the
latest failure under each cause number; `scans`, `refs` and `scrubNeed` judge the arming of R355. Of the watchdog, `wdt`
says that it is armed, `chal` is its challenge, `tokRef` that an earlier token places the next one, `tokOk` that every token since the latest edge of
TRIPB was accepted, `tokSince` since when. `half` is the first half of TRIPA's period, `lvl` the driven levels and `lvlPrev`
those of the half period before. -/
structure Saf where
  safe : Bool
  cause : Nat
  entry : Nat
  enteredAt : Nat
  entries : Nat
  dfCount : Nat
  theta : Vector Nat 3
  toc : Vector Bool 3
  raw : Vector (List Int) 8
  plRun : Nat
  efRun : Nat
  dryRun : Nat
  prunRun : Nat
  ocRun : Vector Nat 8
  efFast : Nat
  wOc : Bool
  wEf : Bool
  instAt : Vector (Option Nat) 2
  seq : Vector (BitVec 2) 8
  xFast : Vector (Nat × Nat) 8
  xRound : Vector (Nat × Nat) 8
  pI : Vector Rat 8
  pQ : Vector Rat 8
  pN : Vector Nat 8
  pBad : Vector Nat 8
  pArmed : Vector Bool 8
  failAt : Vector Nat 32
  refBad : Nat
  padBad : Nat
  chanOkAt : Option Nat
  safFail : Bool
  scans : Nat
  refs : Nat
  scrubNeed : Nat
  wdt : Bool
  chal : Byte
  tokRef : Bool
  tokOk : Bool
  tokSince : Nat
  half : Bool
  lvl : Bool × Bool
  lvlPrev : Bool × Bool
  togB : Bool
  fb : Bool
  fbDone : Bool
  prun : Bool
  prunAt : Nat
  supply : Bool
  deriving DecidableEq, Repr

/-- The published bank, where it differs from the working one (R103, R121): kernel outputs of the flex instances and of KP-PILOT
that have been computed since the latest round close are not yet in it. -/
structure OutBank where
  met : Met
  flw : Flw
  chd : Chd
  bat : Bat
  deriving DecidableEq, Repr

/-- The whole state. `pub` is the published bank (none: it equals the working bank), `aon` the AON count, `cfg` the register values that differ from reset, `cfgR` their values in force
since the latest round boundary, `str` the applied image (none: the shipping lattice), and `pending` the commands that
wait, the first to be taken at the front. -/
structure State where
  aon : Nat
  cfg : List (Nat × Word)
  cfgR : List (Nat × Word)
  str : Option Image
  img : Img
  sec : Sec
  fac : Vector FacetSt 5
  port : Vector PortSt 3
  cyc : Cycle
  pwc : Pwc
  sto : Sto
  whl : Whl
  met : Met
  nrg : Nrg
  pq : Pq
  flw : Flw
  sdi : Sdi
  chd : Chd
  bat : Bat
  dsp : Dsp
  saf : Saf
  pub : Option OutBank
  pending : List Instr
  deriving DecidableEq, Repr

/-! ### Reset -/

/-- A channel that is not measuring: its reset (Table 4-10). -/
def ChanSt.idle : ChanSt :=
  { state := .off, tag := .invalid, sinceOvl := none, clampG := false, clampD := false, lost := false, ovl := 0,
    lastOvlEvt := none, age := 0, fifo := [], dec := ⟨[], 0, 0, 0, 0⟩, win := [], sumI := 0, sumQ := 0, cnt := 0, avgG := 0,
    avgD := 0, corrG := 0, corrD := 0, phase := 0, seeded := false, okRun := 0, integ := 0, integX := 0, hist := [] }

/-- A set that has never been defined (Tables 5-5 and 5-6). -/
def EnSet.zero : EnSet :=
  { acc := Vector.replicate 8 0, disc := 0, setl := 0, gateA := false, gateR := false, tag := .invalid,
    discarding := false, episode := 0, lastP := 0, runHi := 0, runLo := 0 }

/-- No event in progress. -/
def SupEv.none : SupEv :=
  { on := false, start := 0, extreme := 0, exChan := 0, chans := 0, late := false, intr := false, fb := false, number := .none }

/-- A path in OFF with reset values (Tables 7-8, 7-9). -/
def FPath.off : FPath :=
  { state := .off, tag := .invalid, ttag := .invalid, tried := false, assign := false, acquiring := false, acqStep := 0,
    refLearned := false, refMismatch := false, refFault := false, refAct := 0, expired := false, cut := false, tempOut := false,
    cfgReject := false, v := 0, vm := 0, q := 0, c := 0, temp := 0, re := 0, k := 0, tdn := 0, tup := 0, dt := 0, e := 0,
    gain := 0, rxinfo := 0, failCause := 0, pairs := 0, fails := 0, holds := 0, expires := 0, pstamp := 0, kPrev := 1,
    pair := none, prev := none, last := none, cls := .invalid, consec := 0, validRun := 0, from_ := 0, nextAt := 0,
    epFails := 0, epHeld := 0, epUnmeas := 0 }

/-- A link that is off (Table 8-6). -/
def Chd.off : Chd :=
  { state := .off, holdExp := false, leader := false, second := false, epoch := 0, cycle := 0, ownReq := false, ownSent := false,
    partnerReq := false, committed := false, newEpoch := 0, revert := none, roleAt := 0, theta := 0, rate := 0, seed := 0,
    latest := 0, goodAt := 0, outRun := 0, resid := [], delays := [], t1 := 0, t2 := 0, t3 := none, t4 := none, discAt := [],
    discRun := 0, missRun := 0, complRun := 0, gotReply := false, gotArrive := false, cycMissed := false, syncAt := 0, rxq := 0,
    discShort := 0, discLong := 0, discBad := 0, missing := 0, good := 0, outlier := 0, swaps := 0, conflicts := 0, pred := none,
    nextAt := 0, tx := [], tA := 0, gapMs := 0, aArr := none, aCause := 0, bFired := none, arriveBad := false, partnerUp := false,
    tagA := .invalid, tagB := .invalid, firstA := false, lastOut := 0, pLevel := none, stale := false, range := false,
    partnerUsed := false, h := 0, a := 0, k := 0 }

/-- A slot that has received nothing (Table 9-4). -/
def SdiSlot.zero : SdiSlot :=
  { result := 0, stored := 0, overlong := false, range := false, skipped := false, cfgReject := false, fails := 0, scount := 0,
    sretry := 0, sstamp := 0, vals := Vector.replicate 9 0, at_ := Vector.replicate 9 none, tags := Vector.replicate 9 .invalid,
    stale := Vector.replicate 9 false, dueAt := 0, due := false, pendN := none, dataAt := 0, dataDue := false }

/-- The gauge off (Tables 10-5 and 10-6). -/
def Bat.zero : Bat :=
  { state := .off, mode := 0, interval := 0, present := false, known := false, bthFault := false, anchored := false, gap := false,
    intoPrimary := false, cfgReject := false, empty := false, changed := false, volt := 0, curr := 0, temp := 0, gotI := false,
    gotV := false, charge := 0, unc := 0, used := 0, socAbs := 0, fcc := 0, rm := 0, soc := 0, tte := 4294967295, cycles := 0,
    iavg := 0, switchCount := 0, frameNo := 0, quietRun := 0, lastAt := 0, lowSince := none, restFrom := none, stepFrom := none,
    fastFrom := none, fullSince := none, emptySince := none, anchor := none, lowDone := false, emptyDone := false, presRun := 0,
    supplyAt := none, supplyChanges := 0 }

/-- The display that is off (Tables 11-11 and 11-13). -/
def Dsp.off : Dsp :=
  { state := .off, seq := .off, cause := 0, glance := none, railFault := false, legalFault := false, cfgReject := false,
    emergency := false, slow := false, level := 0, good := 0, disch := 0, mismatches := 0, legalFaults := 0, frames := 0,
    emergencies := 0, refused := 0, item := 0, dwellEnd := 0, nextItem := false, renderAt := none, diverse := none,
    tiles := Vector.replicate 8 ⟨0, 0, 0, 0, false, false⟩, tile := Vector.replicate 8 0,
    grey := Vector.ofFn fun (i : Fin 4) => BitVec.ofNat 32 ([0x07030100, 0x3022170E, 0x81685340, 0xFFDBBA9C].getD i.val 0),
    rail := 0x465A4470, mem := [], queue := [] }

/-- A facet that holds no request. -/
def FacetSt.zero : FacetSt :=
  { deniedRd := 0, deniedWr := 0, unmapped := 0, lastDenied := 0, evtLost := false, grantsChanged := false,
    resetSeen := false, resetCause := 0, timeoutMs := 0, lastDeniedAt := none, queue := [], gpReq := Vector.replicate 6 0,
    brightLevel := 0, brightValid := false, pumpReq := 0, gpCleared := Vector.replicate 6 false, pumpCleared := false,
    nvuSel := 0, nvuWrites := Vector.replicate 4 0, logRing := 0, logIndex := 0 }

/-- The reset values of the safety logic (Table 12-8). -/
def Saf.reset : Saf :=
  { safe := true, cause := 0x09000000, entry := 0x01000000, enteredAt := 0, entries := 0, dfCount := 0,
    theta := Vector.replicate 3 0, toc := Vector.replicate 3 false, raw := Vector.replicate 8 [], plRun := 0, efRun := 0,
    dryRun := 0, prunRun := 0, ocRun := Vector.replicate 8 0, efFast := 0, wOc := false, wEf := false,
    instAt := Vector.replicate 2 none, seq := Vector.replicate 8 0, xFast := Vector.replicate 8 (0, 0), xRound := Vector.replicate 8 (0, 0),
    pI := Vector.replicate 8 0, pQ := Vector.replicate 8 0, pN := Vector.replicate 8 0, pBad := Vector.replicate 8 0,
    pArmed := Vector.replicate 8 false, failAt := Vector.replicate 32 0, refBad := 0, padBad := 0, chanOkAt := none,
    safFail := false, scans := 0, refs := 0, scrubNeed := 1, wdt := false, chal := 0, tokRef := false, tokOk := true, tokSince := 0,
    half := false, lvl := (false, false), lvlPrev := (false, false), togB := false, fb := false, fbDone := true,
    prun := false, prunAt := 0, supply := false }

/-- An empty bank (R49). -/
def Bank.empty : Bank := { state := .empty, held := false, apply := false, mem := [] }

/-- The loader at rest (Tables 1-16 and 1-18). -/
def Img.idle : Img :=
  { banks := Vector.replicate 2 Bank.empty, loader := .idle, sessionPort := 0, hold := false, step := .none,
    refuse := ⟨0, 0, 0, 0, 0, false⟩, pendingSeq := 0, received := 0 }

/-- The security store of a device as shipped: SHIPPED, every counter 0, key slot 0 programmed (R36, R46, R61). -/
def Sec.shipped : Sec :=
  { lifecycle := .shipped, metroEvt := .all 0, arb := Vector.replicate 7 (.all 0),
    keys := Vector.ofFn fun (i : Fin 6) => if i.val = 0 then some Config.factoryKey else none,
    defective := Vector.replicate 6 false, anchor := none, refuseCount := 0, owed := [] }

/-- A port after reset (R434). -/
def PortSt.zero : PortSt :=
  { facet := none, wdtAt := none, snap := none, held := none, taken := true, transient := none,
    executing := none, waiting := none, prevStatus := 0, prevCmd := 0, popList := [], frames := 0, crcErr := 0, fmtErr := 0,
    busy := 0, untaken := 0, spiMode3 := false, uartIgnore := false }

/-- The power manager right after POR release (Tables 14-11 to 14-13): AON on its RC, FAB running. -/
def Pwc.por : Pwc :=
  { mode := .idle, shipping := false, vmainOk := false, vmainLostAt := none, vioOk := true,
    aonRc := true, xtalFail := false, xtalRestartAt := none, hfxOk := false, hfxFail := false, hfxStarting := false,
    hfxFailAt := 0, hfxStartAt := 0, pllLock := false, rtcValid := false, aonCont := false,
    clk := ⟨false, false, false, false, false⟩, dem := ⟨false, false, false⟩,
    resetCause := 1, req := ⟨false, false, false, false⟩, reqAt := 0, start := .released, startAt := 0,
    startRefusals := [], startEvents := [], tried := [], wasActive := none, pf := .none, pfBefore := false, afterPf := false, rtc := 0,
    rtcStage := 0, rtcNext := none, startT8 := 0, startT10 := 0, aonTrim := 0, trimAt := 0, heldAt := 0, downMs := 4294967295, hfxStarts := 0, hfxFails := 0,
    wakes := 0, portAFrameSeen := false, toData := false }

/-- The store of a device as shipped: no record, no marker, no event logged. -/
def Sto.blank : Sto :=
  { slots := Vector.replicate 2 none, markers := Vector.replicate 2 none, highWords := List.replicate 73 0, cqueue := [],
    lastQueued := none, deferred := none, periodAt := 0, restore := none, gap := false, uncl := none, maxS := 0,
    maxPipe := 0, maxChan := 0, commitCount := 0, commitFail := 0, pfFinal := 0, unclosed := 0, unclMs := 0, eccCorr := 0,
    eccUncorr := 0, evtSeq := 0, evtMark := 0, ringM := [], ringG := [], ovwM := 0, ovwG := 0, areas := [],
    areaWrites := [], clearing := none, factoryOk := true, evHold := false, evq := [] }

/-- The wheel stopped, its counters 0 (R101, Table 3-10). -/
def Whl.idle : Whl :=
  { state := .stopped, dfSignal := false, rounds := 0, consist := 0, shadow := 0, eccCorr := 0, eccUncorr := 0,
    sampleLost := 0, shotDefer := 0, commitMerged := 0, linkQloss := 0, sdiQloss := 0, hostTxloss := 0, guards := 0,
    scrubWord := 0, scrubAny := false, scrubPass := 0, ptrs := [], pending := [], faults := [], df := [], sector := 0,
    flips := [], ran := [], stop := [], wrong := [], halves := [], recs := [], closedAt := 0 }

/-- The metering inputs after reset (Table 4-10). -/
def Met.idle : Met :=
  { ch := Vector.replicate 8 ChanSt.idle, dieTemp := 0, refCorr := 0, refDelta := 0, auxSum := 0, auxCnt := 0, auxX := 0,
    auxTag := .invalid, auxWorst := .valid, loopFault := false, auxAt := none }

/-- Energy after reset, before values are restored (chapter 05). -/
def Nrg.idle : Nrg :=
  { sets := Vector.replicate 8 EnSet.zero, now := 0, hist := Vector.replicate 8 [], win := Vector.replicate 8 [],
    theta := 0, dem := Vector.replicate 8 [], winDem := Vector.replicate 8 [], eng := 0, quad := Vector.replicate 3 [], winQuad := Vector.replicate 3 [], ph := Vector.replicate 8 (⟨0, 0⟩, .invalid),
    phWin := Vector.replicate 8 [], mqt := [], stamp := 0,
    cf := Vector.replicate 3 ⟨0, 0, 0, 0, false, 0, false, none, 0, 0, none⟩ }

/-- Power quality after reset: in fall-back, with no source (R186; Table 6-4). -/
def Pq.idle : Pq :=
  { locked := false, fallback := true, ftag := .invalid, source := none, settleCyc := 0, f1 := 50000, fc := 0,
    prevFc := none, good := 0, fbSince := 0, lastX := none, lastRise := none, lastCross := 0, nomNext := 0, halfNext := 0,
    cycInWin := 0, winLen := 0, winF := 0, winFtag := .valid, winOn := false, winSettle := false, freqMeas := 0,
    freq10 := 0, f10tag := .invalid, tenCyc := 0, tenDur := 0, tenFb := false, tenAt := 0, fbCount := 0, fbFrom := 0,
    fbT := 0, hrms := Vector.replicate 3 0, hrmsTag := Vector.replicate 3 .invalid, imb := Vector.replicate 4 0,
    imbTag := Vector.replicate 4 .invalid, counts := Vector.replicate 12 0, durs := Vector.replicate 3 0, evtIndex := 0,
    wstamp := 0, thrReject := false, armed := false, srcRan := false, ev := Vector.replicate 12 SupEv.none, lastHalf := 0,
    thd := Vector.replicate 8 0, harm := Vector.replicate 8 [], hinfoTag := Vector.replicate 8 .invalid,
    hinfoStamp := Vector.replicate 8 0 }

/-- The front end and the flow paths after reset (Tables 7-7 to 7-9). -/
def Flw.idle : Flw :=
  { path := Vector.replicate 3 FPath.off, queue := [], waited := [], front := none, shot := none, bufs := [], cal := ⟨0, 0, 0, 0, 0, 0, 0, [], 0, none⟩,
    qc := 0, qcTag := .invalid, qcSingle := false, qcPath := 0, qcFrom := 0, qcCls := .invalid,
    vol := Vector.replicate 4 ⟨0, 0, 0, 0, 0, .invalid, false, false⟩, pend := [], refs := [], refHas := Vector.replicate 3 false }

/-- The SDI-12 port after reset (Table 9-3). -/
def Sdi.idle : Sdi :=
  { slots := Vector.replicate 8 SdiSlot.zero, txn := none, shot := none, shotResult := 0, addr := 0, ident := [], sdp := false,
    base := 0, cmd := none, lineAt := none }

/-- The machine right after a power-on reset of a device as shipped (R14, R420, R422): no image applied, TRIPA and TRIPB
static in the safe state, and the start sequence still to run. Values the spec does not give are in log 4. -/
def State.reset : State :=
  { aon := 0, cfg := [], cfgR := [], str := none, img := Img.idle, sec := Sec.shipped, fac := Vector.replicate 5 FacetSt.zero,
    port := Vector.replicate 3 PortSt.zero, cyc := Cycle.fresh, pwc := Pwc.por, sto := Sto.blank, whl := Whl.idle,
    met := Met.idle, nrg := Nrg.idle, pq := Pq.idle, flw := Flw.idle, sdi := Sdi.idle, chd := Chd.off, bat := Bat.zero,
    dsp := Dsp.off, saf := Saf.reset, pub := none, pending := [] }

end Sys2Proof.Machine
end

