-- ==== Sys2Proof/Machine/Ops.lean ====
section
/-! DEFINITION. Operations every chapter shares: bits and saturating counters, canonical byte memories, the register
file, roundings, queries of the applied structure, and the raising of events (R16, R17, R95, R124, R401). -/

namespace Sys2Proof.Machine

open Sys2Proof

/-! ### Numbers and bits -/

/-- The largest 32-bit value, where counters hold (R19, R79, R126). -/
def max32 : Nat := 4294967295

/-- Adds to a counter that holds at 0xFFFF_FFFF. -/
def satAdd (a b : Nat) : Nat := min (a + b) max32

/-- Counts one in a counter that holds at 0xFFFF_FFFF. -/
def satInc (a : Nat) : Nat := satAdd a 1

/-- Bits [hi:lo] of a word as a number (R11). -/
def bits (w : Word) (hi lo : Nat) : Nat := w.toNat / 2 ^ lo % 2 ^ (hi + 1 - lo)

/-- Bit i of a word. -/
def bit (w : Word) (i : Nat) : Bool := w.getLsbD i

/-- Bit i of a number. -/
def nbit (n i : Nat) : Bool := n.testBit i

/-- A bit as a number. -/
def b2n (b : Bool) : Nat := if b then 1 else 0

/-- A word from a number, keeping the low 32 bits. -/
def w32 (n : Nat) : Word := BitVec.ofNat 32 n

/-- A word from a signed number in two's complement. -/
def i32 (n : Int) : Word := BitVec.ofInt 32 n

/-- The signed value of a word. -/
def sgn (w : Word) : Int := w.toInt

/-- A signed number held to the range of 32 bits. -/
def clamp32 (n : Int) : Int := max (-2147483648) (min 2147483647 n)

/-- A number shown in an unsigned 32-bit register: negative shows 0, too large holds. -/
def u32 (n : Int) : Word := w32 (min n.toNat max32)

/-- A signed number shown in a signed 32-bit register, held to its range. -/
def s32 (n : Int) : Word := i32 (clamp32 n)

/-- Places numbers at bit offsets: the sum of value shifted by position. -/
def pack (fs : List (Nat × Nat)) : Word := w32 (fs.foldl (fun a f => a + f.2 * 2 ^ f.1) 0)

/-- A bit mask from a predicate on 0 to n - 1. -/
def maskOf (n : Nat) (p : Nat → Bool) : Nat := (List.range n).foldl (fun a i => if p i then a + 2 ^ i else a) 0

/-- The k-th element of a vector, or a default beyond its end. -/
def vget {α : Type} {n : Nat} (v : Vector α n) (i : Nat) (d : α) : α := v.toList.getD i d

/-- What three copies read by majority vote (R46, R64). Where all three differ no value is a majority: a free value. Log 87. -/
def Copies.vote (c : Copies) : Nat :=
  if c.c0 = c.c1 ∨ c.c0 = c.c2 then c.c0 else if c.c1 = c.c2 then c.c1 else Config.noMajority c.c0 c.c1 c.c2

/-- A counter set to a value not below what it reads (R47). -/
def Copies.raise (c : Copies) (v : Nat) : Copies := .all (max c.vote v)

/-- Copy k of a counter gone bad. The model lets this befall a counter whose copies agree (DESIGN CHOICE, log 87), so its vote
stands. -/
def Copies.spoil (k v : Nat) (c : Copies) : Copies :=
  if c.c0 = c.c1 ∧ c.c1 = c.c2 then
    (if k = 0 then { c with c0 := v } else if k = 1 then { c with c1 := v } else { c with c2 := v })
  else c

/-- Anti-rollback counter i as it reads (R46). -/
def arb (c : Sec) (i : Nat) : Nat := (vget c.arb i (.all 0)).vote

/-- Changes the k-th element of a vector; beyond its end nothing changes. -/
def vmod {α : Type} {n : Nat} (v : Vector α n) (i : Nat) (f : α → α) : Vector α n :=
  Vector.ofFn fun j : Fin n => if j.val = i then f v[j] else v[j]

/-- Changes every element, knowing its index. -/
def vmap {α β : Type} {n : Nat} (v : Vector α n) (f : Nat → α → β) : Vector β n :=
  Vector.ofFn fun j : Fin n => f j.val v[j]

/-- A rounding the spec does not state: exact when the value is whole, else up or down as the implementation has it
(log 6). `site` numbers the place of use. -/
def rnd (site : Nat) (x : Rat) : Int :=
  if x.den = 1 then x.num else if Config.roundUp site x then x.ceil else x.floor

/-- Rounds to nearest with halves away from zero. -/
def roundAway (x : Rat) : Int :=
  if x < 0 then -((-x + 1 / 2).floor) else (x + 1 / 2).floor

/-- Rounds to nearest with halves to even (R166). -/
def roundEven (x : Rat) : Int :=
  let f := x.floor
  let d := x - f
  if d < 1 / 2 then f else if 1 / 2 < d then f + 1 else if f % 2 = 0 then f else f + 1

/-- Rounds to nearest; the way of a half is unstated (log 6). -/
def rndNear (site : Nat) (x : Rat) : Int :=
  if (x * 2).den = 1 then rnd site x else (x + 1 / 2).floor

/-- A square root to a resolution of 2^-48 with an unstated rounding (log 6). -/
def sqrtR (site : Nat) (x : Rat) : Rat :=
  let n := (max x 0 * (2 ^ 96 : Nat)).floor.toNat
  let r := Nat.sqrt n
  let up := if r * r = n then 0 else if Config.roundUp site x then 1 else 0
  ((r + up : Nat) : Rat) / (2 ^ 48 : Nat)

/-- AON counts in a time of ms milliseconds, rounded up, so that a timer never ends early (R19; the AON runs at
32 768 Hz). -/
def aonOfMs (ms : Nat) : Nat := (ms * 32768 + 999) / 1000

/-- Milliseconds in a number of AON counts, rounded up (R394, R419). -/
def msUp (n : Nat) : Nat := (n * 1000 + 32767) / 32768

/-- Linear interpolation between points with rising first parts, end values held outside (R223, R254, R291). -/
def interp : List (Rat × Rat) → Rat → Rat
  | [], _ => 0
  | [p], _ => p.2
  | p :: q :: r, x =>
    if x ≤ p.1 then p.2
    else if x < q.1 then p.2 + (q.2 - p.2) * (x - p.1) / (q.1 - p.1)
    else interp (q :: r) x

/-- Milliseconds in 1/32768 ms with an unstated rounding (log 6). -/
def msOf (fx : Nat) : Nat := (rnd 60 ((fx : Rat) / 32768)).toNat

/-- A duration in 1/32768 ms as R19 shows it: whole milliseconds that hold at 0xFFFF_FFFF. -/
def ms32 (fx : Nat) : Word := w32 (min (msOf fx) max32)

/-- The signed 16-bit value at a byte address, least significant byte first. -/
def s16 (lo hi : Byte) : Int := ((hi ++ lo : BitVec 16)).toInt

/-! ### Byte memories -/

/-- A byte of a memory; an address that is not listed reads 0 (R317; log 16). -/
def memGet : List Host.Cell → Nat → Byte
  | [], _ => 0
  | (k, b) :: m, a => if k = a then b else memGet m a

/-- Writes a byte, keeping addresses rising and listing no zero. -/
def memSet : List Host.Cell → Nat → Byte → List Host.Cell
  | [], a, v => if v = 0 then [] else [(a, v)]
  | (k, b) :: m, a, v =>
    if a < k then (if v = 0 then (k, b) :: m else (a, v) :: (k, b) :: m)
    else if a = k then (if v = 0 then m else (a, v) :: m)
    else (k, b) :: memSet m a v

/-- The canonical form: addresses strictly rising, no listed zero. -/
def memWf : List Host.Cell → Bool
  | [] => true
  | (k, b) :: m => decide (b ≠ 0) && m.all (fun c => decide (k < c.1)) && memWf m

/-- The word at byte address a (R12). -/
def memWord (m : List Host.Cell) (a : Nat) : Word :=
  wordOf (memGet m a) (memGet m (a + 1)) (memGet m (a + 2)) (memGet m (a + 3))
where
  /-- Four bytes, least significant first. -/
  wordOf (b0 b1 b2 b3 : Byte) : Word := b3 ++ b2 ++ b1 ++ b0

/-- Writes a word at byte address a, least significant byte first (R12). -/
def memPutWord (m : List Host.Cell) (a : Nat) (w : Word) : List Host.Cell :=
  memSet (memSet (memSet (memSet m a (w.extractLsb' 0 8)) (a + 1) (w.extractLsb' 8 8)) (a + 2) (w.extractLsb' 16 8))
    (a + 3) (w.extractLsb' 24 8)

/-- Writes words at rising addresses. -/
def memPutWords (m : List Host.Cell) (a : Nat) : List Word → List Host.Cell
  | [] => m
  | w :: ws => memPutWords (memPutWord m a w) (a + 4) ws

/-- Clears the addresses from lo up to but not including hi. -/
def memClear (m : List Host.Cell) (lo hi : Nat) : List Host.Cell :=
  m.filter fun c => decide (c.1 < lo) || decide (hi ≤ c.1)

/-- The bytes from address a, in one pass over the list. -/
def memBytes (m : List Host.Cell) (a n : Nat) : List Byte :=
  go ((m.filter fun c => decide (a ≤ c.1) && decide (c.1 < a + n))) a n
where
  /-- Fills the gaps between listed cells with 0. -/
  go : List Host.Cell → Nat → Nat → List Byte
    | _, _, 0 => []
    | [], a, n + 1 => 0 :: go [] (a + 1) n
    | (k, b) :: m, a, n + 1 => if k = a then b :: go m (a + 1) n else 0 :: go ((k, b) :: m) (a + 1) n

/-! ### The register file -/

/-- A listed value of the register file. -/
def cfgFind : List (Nat × Word) → Nat → Option Word
  | [], _ => none
  | (k, v) :: m, a => if k = a then some v else cfgFind m a

/-- Sets a value, keeping offsets rising. -/
def cfgSet : List (Nat × Word) → Nat → Word → List (Nat × Word)
  | [], a, v => [(a, v)]
  | (k, w) :: m, a, v =>
    if a < k then (a, v) :: (k, w) :: m else if a = k then (a, v) :: m else (k, w) :: cfgSet m a v

/-! ### The applied structure -/

/-- The facets that exist: F0 always, F1 to F4 as the applied image defines them (R1, R60). -/
def facetMask (s : State) : Nat :=
  match s.str with
  | none => 1
  | some im => 1 + im.facetMask / 2 % 16 * 2

/-- Whether facet f exists (R1). -/
def facetExists (s : State) (f : Nat) : Bool := nbit (facetMask s) f

/-- The grant records of the applied image that reach facet f; 0xFF names every facet (R72). -/
def grantsOf (im : Image) (f : Nat) : List GrantRec :=
  im.grants.filter fun g => decide (g.facet = f) || decide (g.facet = 255)

/-- Facet f holds an owner grant on a resource. -/
def ownsRes (s : State) (f cls idx : Nat) : Bool :=
  match s.str with
  | none => false
  | some im => im.grants.any fun g =>
      decide (g.cls = cls) && decide (g.idx = idx) && decide (g.kind = 1) && decide (g.facet = f)

/-- Facet f holds an owner or read grant on a resource (R75). -/
def holdsRes (s : State) (f cls idx : Nat) : Bool :=
  match s.str with
  | none => false
  | some im => (grantsOf im f).any fun g => decide (g.cls = cls) && decide (g.idx = idx)

/-- Facet f holds block b for reading, by Table 2-2 or by a BLOCK grant (R74). -/
def readsBlock (s : State) (f b : Nat) : Bool :=
  if b = 0 ∨ b = 1 ∨ b = 15 ∨ b = 18 then true
  else if b = 2 ∨ b = 13 then decide (f = 0) || holdsRes s f 1 b
  else holdsRes s f 1 b

/-- Facet f may write block b, by Table 2-2 or by a BLOCK owner grant (R74, R75). -/
def ownsBlock (s : State) (f b : Nat) : Bool :=
  if b = 0 ∨ b = 15 then true
  else if b = 1 ∨ b = 2 ∨ b = 18 then decide (f = 0)
  else if b = 13 then false
  else ownsRes s f 1 b

/-- The mask of existing facets that satisfy p. -/
def who (s : State) (p : Nat → Bool) : Nat := maskOf 5 fun f => facetExists s f && p f

/-- Every facet of the device. -/
def everyone (s : State) : Nat := who s fun _ => true

/-- F0 alone. -/
def onlyF0 : Nat := 1

/-- The recipients R95 names for a block, and F0 as most event tables add. -/
def blockAndF0 (s : State) (b : Nat) : Nat := who s fun f => decide (f = 0) || readsBlock s f b

/-- The routing record of channel k (R129). -/
def routeOf (s : State) (k : Nat) : Option RouteRec :=
  match s.str with
  | none => none
  | some im => im.routes.find? fun r => r.chan = k

/-- Channel k is routed (R129). -/
def routed (s : State) (k : Nat) : Bool := (routeOf s k).isSome

/-- The instances of kernel `code` in the applied image. -/
def instsOf (s : State) (code : Nat) : List InstRec :=
  match s.str with
  | none => []
  | some im => im.insts.filter fun i => i.code = code

/-- Bit b lies in the channel set of some instance of kernel `code`. -/
def inSet (s : State) (code b : Nat) : Bool := (instsOf s code).any fun i => nbit i.chans b

/-- The kernel is one of the safety kernels KS-OC, KS-PL, KS-EF, KS-DRY (Table 3-3). -/
def isSafetyKernel (code : Nat) : Bool := decide (0x0701 ≤ code) && decide (code ≤ 0x0704)

/-- Bit b lies in the channel set of a safety instance (R118, R148). -/
def feedsSafety (s : State) (b : Nat) : Bool :=
  match s.str with
  | none => false
  | some im => im.insts.any fun i => isSafetyKernel i.code && nbit i.chans b

/-! ### Management states and tags -/

/-- The code of a management state (Table 0-8). -/
def Mgmt.code : Mgmt → Nat
  | .off => 0
  | .starting => 1
  | .run => 2
  | .hold => 3
  | .fault => 4

/-- The code of a tag (Table 0-8). -/
def Tag.code : Tag → Nat
  | .valid => 0
  | .settling => 1
  | .held => 2
  | .invalid => 3

/-- The worse of two tags: VALID, SETTLING, HELD, INVALID (R117). -/
def Tag.worse (a b : Tag) : Tag := if a.code < b.code then b else a

/-- The worst tag of a list. -/
def worst (ts : List Tag) : Tag := ts.foldl Tag.worse .valid

/-- The combinations of Table 3-6 (R116). -/
def allowed : Mgmt → Tag → Bool
  | .off, .invalid => true
  | .starting, .settling => true
  | .starting, .invalid => true
  | .run, .valid => true
  | .run, .settling => true
  | .hold, .held => true
  | .hold, .invalid => true
  | .fault, .invalid => true
  | _, _ => false

/-! ### Events -/

/-- The events the metrological ring receives (R401). -/
def metroRing (code : Nat) : Bool :=
  [0x0101, 0x0103, 0x0501, 0x0502, 0x0702, 0x0B03, 0x0D01, 0x0D02, 0x0D04].contains code

/-- The event class mask of a facet: all ones for F0, the FACET section's for the others (R95). -/
def classMask (s : State) (f : Nat) : Nat :=
  if f = 0 then max32
  else match s.str with
    | none => 0
    | some im => match im.facets.find? (fun x => x.facet = f) with
      | none => 0
      | some x => x.mask

/-- The recipients that remain after the masks of R95: severities 0 and 1 pass only if bit code[12:8] is set. -/
def recipients (s : State) (e : Ev) : Nat :=
  who s fun f => nbit e.who f && (decide (2 ≤ e.sev) || nbit (classMask s f) (e.code / 256 % 32))

/-- The sets of a bitmap that facet f holds (R182). -/
def heldSets (s : State) (f m : Nat) : Nat := maskOf 8 fun k => nbit m k && holdsRes s f 3 k

/-- An event as facet f sees it: the events of R182 show the sets the facet holds, and the value word only if the facet
holds the set it belongs to, whose number the raised record keeps in w7 until it is shown. -/
def viewEv (s : State) (f : Nat) (e : Ev) : Ev :=
  if e.filt then
    let own := holdsRes s f 3 e.w7.toNat
    { e with
      w4 := w32 (heldSets s f e.w4.toNat)
      w5 := if e.code = 0x0502 ∧ !own then 0 else e.w5
      w6 := if e.code = 0x0501 ∧ !own then 0 else e.w6
      w7 := 0 }
  else e

/-- Puts a record into the queues of the facets in mask m; a full queue loses it and sets EVT_LOST (R124). -/
def queueRec (s : State) (m : Nat) (r : EvRec) : Vector FacetSt 5 :=
  vmap s.fac fun f x =>
    if nbit m f then
      if x.queue.length < 64 then { x with queue := x.queue ++ [{ r with ev := viewEv s f r.ev }] }
      else { x with evtLost := true }
    else x

/-- Adds a record to a ring of `cap` slots, overwriting the oldest; the second part counts the overwriting (R401). -/
def ringPut (cap : Nat) (ring : List LogEntry) (e : LogEntry) : List LogEntry × Nat :=
  if ring.length < cap then (ring ++ [e], 0) else (ring.drop 1 ++ [e], 1)

/-- Queues one event: it takes a sequence number if a facet receives it or a ring logs it, is queued to its recipients
and logged (R16, R17, R95, R124, R398, R401). -/
def queueEv (e : Ev) (s : State) : State :=
  let m := recipients s e
  let inM := metroRing e.code
  let inG := !inM && decide (2 ≤ e.sev)
  let used := decide (m ≠ 0) || inM || inG
  let n := s.sto.evtSeq
  let r : EvRec := { seq := n, rtc := s.pwc.rtc % 2 ^ 48, ev := e }
  let pm := ringPut 80 s.sto.ringM { ent := r, mask := m + 128 }
  let pg := ringPut 160 s.sto.ringG { ent := r, mask := m + 128 }
  { s with
    fac := if used then queueRec s m r else s.fac
    sto := { s.sto with
      evtSeq := if used then (n + 1) % 2 ^ 32 else n
      evtMark := if used ∧ n = s.sto.evtMark then (n + 4096) % 2 ^ 32 else s.sto.evtMark
      ringM := if inM then pm.1 else s.sto.ringM
      ringG := if inG then pg.1 else s.sto.ringG
      ovwM := if inM then satAdd s.sto.ovwM pm.2 else s.sto.ovwM
      ovwG := if inG then satAdd s.sto.ovwG pg.2 else s.sto.ovwG } }

/-- Raises one event: an event of the open round waits for its close (Table 3-7, step 4), any other is queued at once. -/
def emit (e : Ev) (s : State) : State :=
  if s.sto.evHold then { s with sto := { s.sto with evq := s.sto.evq ++ [e] } } else queueEv e s

/-- Raises events in order. -/
def emitAll (es : List Ev) (s : State) : State := es.foldl (fun a e => emit e a) s

/-- Queues the events that waited for the round close (Table 3-7, step 4). -/
def flushEvents (s : State) : State :=
  emitAll s.sto.evq { s with sto := { s.sto with evHold := false, evq := [] } }

/-- An event if a condition holds. -/
def evIf (c : Bool) (e : Ev) : List Ev := if c then [e] else []

end Sys2Proof.Machine
end

