-- ==== Sys2Proof/Machine/Operands.lean ====
section
/-! DEFINITION. What a host may write where: for every RW and RWL register its reset value, section class, fields and
their ranges (R13, R14, R456, R496; Tables 16-2 to 16-19 and the field tables of each chapter). -/

namespace Sys2Proof.Machine

open Sys2Proof

/-- The section class of a register (R29, R456). -/
inductive RegClass where
  | frame | facet | safety | metrology
  deriving DecidableEq, Repr

/-- One field of a register: its place, what a host write of a value stores (R496), and which values a preset may
carry (R29). -/
structure Fld where
  lo : Nat
  width : Nat
  fix : Nat → Nat
  ok : Nat → Bool

/-- One RW or RWL register: `locked` marks RWL, `preset` that a preset may name it (R456). -/
structure RegSpec where
  reset : Nat
  cls : RegClass
  locked : Bool
  preset : Bool
  flds : List Fld

/-- A field that takes every value. -/
def fAny (lo width : Nat) : Fld := ⟨lo, width, id, fun _ => true⟩

/-- A field with a range a to b: a write outside it stores the nearest limit (R496). -/
def fRange (lo width a b : Nat) : Fld := ⟨lo, width, fun v => max a (min b v), fun v => decide (a ≤ v) && decide (v ≤ b)⟩

/-- A field with the range "0 or a to b" (R496). -/
def fZero (lo width a b : Nat) : Fld :=
  ⟨lo, width, fun v => if v = 0 then 0 else max a (min b v), fun v => decide (v = 0) || (decide (a ≤ v) && decide (v ≤ b))⟩

/-- The signed value of a field of `width` bits. -/
def sgnOf (width v : Nat) : Int := if v < 2 ^ (width - 1) then v else (v : Int) - (2 ^ width : Nat)

/-- The field bits of a signed value. -/
def ofSgn (width : Nat) (n : Int) : Nat := (n % ((2 ^ width : Nat) : Int)).toNat

/-- A signed field with the range a to b; beyond it the limit on the value's side is stored (R496). -/
def fSigned (lo width : Nat) (a b : Int) : Fld :=
  ⟨lo, width, fun v => ofSgn width (max a (min b (sgnOf width v))),
   fun v => decide (a ≤ sgnOf width v) && decide (sgnOf width v ≤ b)⟩

/-- A field whose values above b are stored as d. -/
def fElse (lo width b d : Nat) : Fld := ⟨lo, width, fun v => if b < v then d else v, fun v => decide (v ≤ b)⟩

/-- The value of a field in a word. -/
def Fld.get (f : Fld) (v : Nat) : Nat := v / 2 ^ f.lo % 2 ^ f.width

/-- The word a host write stores: each listed field by its rule, reserved bits 0 (R13, R496). -/
def storeFields (fs : List Fld) (v : Word) : Word :=
  w32 (fs.foldl (fun a f => a + f.fix (f.get v.toNat) * 2 ^ f.lo) 0)

/-- The bits that the fields cover. -/
def fieldMask (fs : List Fld) : Nat := fs.foldl (fun a f => a + (2 ^ f.width - 1) * 2 ^ f.lo) 0

/-- A preset value lies inside every range and sets no reserved bit (R29). -/
def presetOk (fs : List Fld) (v : Word) : Bool :=
  fs.all (fun f => f.ok (f.get v.toNat)) && decide (v.toNat &&& (max32 - fieldMask fs) = 0)

/-- A metrology register: RWL, class METROLOGY. -/
def metReg (reset : Nat) (fs : List Fld) : RegSpec := ⟨reset, .metrology, true, true, fs⟩

/-- A FRAME-class RWL register. -/
def frmReg (reset : Nat) (fs : List Fld) : RegSpec := ⟨reset, .frame, true, true, fs⟩

/-- A SAFETY-class RWL register. -/
def safReg (reset : Nat) (fs : List Fld) : RegSpec := ⟨reset, .safety, true, true, fs⟩

/-- off lies in the word range from a to b and on a word. -/
def within (off a b : Nat) : Bool := decide (a ≤ off) && decide (off ≤ b) && decide (off % 4 = 0)

/-- The PWC registers a host may write (Table 14-11). -/
def specPwc (off : Nat) : Option RegSpec :=
  if off = 0x0818 then some ⟨0, .frame, false, false, [fAny 0 32]⟩
  else if off = 0x081C then some ⟨0, .frame, false, false, [fAny 0 16]⟩
  else if off = 0x0820 ∨ off = 0x0824 then some ⟨0, .frame, false, true, [fAny 0 32]⟩
  else if off = 0x0828 then some ⟨0, .frame, false, true, [fAny 0 16, fAny 31 1]⟩
  else none

/-- The MTR registers (Tables 5-2 and 5-7). A full scale of 0 is allowed only for a channel that is not routed and for
IX in LOOP or VOLT mode (R154); that exception is applied where the structure is known. -/
def specMtr (off : Nat) : Option RegSpec :=
  if within off 0x1100 0x111C then some (metReg 0 [fAny 0 32])
  else if within off 0x1120 0x113C then some (metReg 0 [fSigned 0 32 (-0x08000000) 0x08000000])
  else if within off 0x1140 0x115C then some (metReg 0 [fSigned 0 32 (-0x00800000) 0x00800000])
  else if within off 0x1160 0x117C then some (metReg 0 [fSigned 0 32 (-200000000) 200000000])
  else if within off 0x1180 0x119C then some (metReg 0 [fSigned 0 32 (-0x02000000) 0x02000000])
  else if within off 0x11A0 0x11BC then some (metReg 0 [fAny 0 32])
  else if within off 0x11C0 0x11C8 ∨ within off 0x11E0 0x11E8 then
    some (metReg 0 [fSigned 0 32 (-0x02000000) 0x02000000])
  else if within off 0x11D0 0x11D8 ∨ within off 0x11F0 0x11F8 then
    some (metReg 0 [fSigned 0 32 (-0x01000000) 0x01000000])
  else if off = 0x1200 then
    some (metReg 0 [fElse 0 2 2 0, fElse 2 2 2 0, fElse 4 2 2 0, fElse 6 2 2 0, fElse 8 2 2 0, fElse 10 2 2 0])
  else if within off 0x1210 0x1218 ∨ within off 0x1220 0x1228 then some (metReg 0 [fAny 0 32])
  else if within off 0x1230 0x1238 then
    some (metReg 0 [⟨0, 32, fun v => max 85900 v, fun _ => true⟩])
  else none

/-- The PQ registers (Tables 6-4 to 6-6). -/
def specPq (off : Nat) : Option RegSpec :=
  if off = 0x2800 then some (metReg 0 [fAny 0 1, fAny 1 1, fAny 2 1, fAny 3 1, fElse 4 2 2 2])
  else if off = 0x2804 then some (metReg 0 [fZero 0 32 1000 2000000])
  else if off = 0x2808 then some (metReg 0x040ADCB4 [fAny 0 8, fAny 8 8, fAny 16 8, fAny 24 8])
  else none

/-- The rules of PQ_THR (R202). -/
def pqThrOk (v : Word) : Bool :=
  let sag := bits v 7 0
  let swl := bits v 15 8
  let intr := bits v 23 16
  let hyst := bits v 31 24
  decide (1 ≤ hyst) && decide (hyst ≤ 20) && decide (intr + hyst ≤ sag) && decide (sag + hyst ≤ 200)
    && decide (200 + hyst ≤ swl)

/-- The CF registers (Tables 5-8 and 5-9), at 0x7840 + 0x10 (n - 1). -/
def specCf (off : Nat) : Option RegSpec :=
  if off = 0x7840 ∨ off = 0x7850 ∨ off = 0x7860 then
    some (metReg 0 [fAny 0 3, fAny 4 3, ⟨8, 8, fun v => if v = 0 then 80 else v, fun v => decide (v ≠ 0)⟩, fAny 16 1, fAny 17 1])
  else if off = 0x7844 ∨ off = 0x7854 ∨ off = 0x7864 then some (metReg 0 [fAny 0 32])
  else none

/-- DIAG_COMMIT_CFG (Table 13-7). -/
def specDiag (off : Nat) : Option RegSpec :=
  if off = 0xF200 then some (frmReg 0x02580000 [fZero 0 16 10 1000, fRange 16 16 10 3600]) else none

/-- The registers of one pipe path at their offset from its base (Table 7-8). -/
def specPath (o : Nat) : Option RegSpec :=
  if o = 0x00 then some (metReg 0x220F4240 [fRange 0 22 100000 4000000, fRange 22 6 1 63, fAny 28 3, fAny 31 1])
  else if o = 0x04 then some (metReg 0x04000150 [fRange 0 8 0 144, fAny 8 1, fAny 9 2, fRange 16 12 256 1900])
  else if o = 0x08 then some (metReg 0x27100FA0 [fRange 0 16 500 30000, fRange 16 16 1000 20000])
  else if o = 0x0C then some (metReg 0 [fRange 0 32 40000 1300000])
  else if o = 0x10 then some (metReg 0 [fRange 0 32 20000 4000000])
  else if o = 0x14 then some (metReg 0 [fRange 0 32 1 max32])
  else if o = 0x18 then some (metReg 0 [fRange 0 32 0 100000000])
  else if o = 0x1C then some (metReg 0 [fSigned 0 32 (-100000000) 100000000])
  else if o = 0x20 then some (metReg 0x426832C8 [fRange 0 16 10000 20000, fRange 16 16 10000 20000])
  else if o = 0x24 then some (metReg 0x2EE05028 [fAny 0 8, fAny 8 8, fAny 16 16])
  else if o = 0x28 then some (metReg 0x07D000C8 [fAny 0 12, fRange 16 12 0 2046])
  else if o = 0x2C then some (metReg 0 [fRange 0 32 0 1000])
  else if o = 0x30 then some (metReg 0 [fAny 0 32])
  else none

/-- The bank path's registers (Table 8-5). -/
def specBank (off : Nat) : Option RegSpec :=
  if off = 0x3300 then some (metReg 0x22030D40 [fRange 0 22 50000 500000, fRange 22 6 1 63, fAny 28 3, fAny 31 1])
  else if off = 0x3304 then some (metReg 0x04000750 [fRange 0 8 0 144, fAny 8 1, fAny 9 2, fRange 16 12 256 1900])
  else if off = 0x3308 then some (metReg 0x00960096 [fRange 0 16 5 500, fRange 16 16 10 179])
  else if off = 0x330C then some (metReg 0 [fRange 0 32 5000000 150000000])
  else if off = 0x3310 then some (metReg 0 [fRange 0 32 1 max32])
  else if off = 0x3314 then some (metReg 0 [fRange 0 32 0 100000000])
  else if off = 0x3318 then some (metReg 0 [fSigned 0 32 (-100000000) 100000000])
  else if off = 0x331C then some (metReg 0x426832C8 [fRange 0 16 10000 20000, fRange 16 16 10000 20000])
  else if off = 0x3320 then some (metReg 0x0BB85028 [fAny 0 8, fAny 8 8, fAny 16 16])
  else if off = 0x3324 then some (metReg 0x07D000C8 [fAny 0 12, fRange 16 12 0 2046])
  else if off = 0x3328 then some (metReg 0 [fAny 0 32])
  else if off = 0x332C then some (metReg 0x00001388 [fRange 0 32 0 60000])
  else if off = 0x3330 then
    some (metReg 0x02580100 [fAny 0 1, fAny 4 3, fRange 8 4 1 9, fRange 12 2 0 2, fRange 16 16 1 65535])
  else if off = 0x3334 then some (metReg 0x00100000 [fAny 0 32])
  else if off = 0x3338 then some (metReg 0 [fAny 0 32])
  else if off = 0x333C then some (metReg 0 [fRange 0 32 0 1000])
  else none

/-- The FLW registers (Tables 7-7, 7-8 and 8-5). -/
def specFlw (off : Nat) : Option RegSpec :=
  if off = 0x3000 then some (metReg 0x08000040 [fRange 0 16 16 65535, fRange 16 16 16 65535])
  else if off = 0x3004 then some (metReg 0x00001388 [fRange 0 32 0 60000])
  else if off = 0x3008 then some (metReg 0x00008000 [fRange 0 32 0 65536])
  else if 0x3100 ≤ off ∧ off < 0x3140 then specPath (off - 0x3100)
  else if 0x3200 ≤ off ∧ off < 0x3240 then specPath (off - 0x3200)
  else specBank off

/-- The CHD registers (Table 8-6). -/
def specChd (off : Nat) : Option RegSpec :=
  if off = 0x3800 then some (frmReg 0 [fAny 0 1, fAny 1 1, fAny 2 1])
  else if off = 0x3804 then some (frmReg 0x400 [fRange 0 32 128 65535])
  else if off = 0x3808 then some (frmReg 0x0024182C [fRange 0 8 44 64, fRange 8 8 24 64, fRange 16 8 36 64])
  else if off = 0x380C then some (frmReg 0x2710 [fRange 0 32 0 60000])
  else if off = 0x3810 then some (metReg 0 [fSigned 0 32 (-1000000) 1000000])
  else none

/-- The base of SDI-12 slot s (R279). -/
def slotBase (s : Nat) : Nat := 0x3C40 + 0x60 * s

/-- The SDI registers (Tables 9-3 and 9-4); the rules of an enabled slot are in Sdi.lean. -/
def specSdi (off : Nat) : Option RegSpec :=
  if off = 0x3C00 then some (frmReg 0 [fAny 0 1, fRange 1 2 0 2, fAny 3 1, fRange 16 16 0 10000])
  else if 0x3C40 ≤ off ∧ off < 0x3F40 then
    let o := (off - 0x3C40) % 0x60
    if o = 0 then some (metReg 0 [fAny 0 8, fAny 8 3, fAny 11 4, fAny 16 4, fAny 20 4, fAny 24 1])
    else if o = 4 then some (metReg 0 [fAny 0 16, fAny 16 16])
    else none
  else none

/-- The BAT registers (Table 10-5); table registers reset to the built-in values (R291). A shunt of 0 is a legal preset
while the gauge is not enabled. -/
def specBat (off : Nat) : Option RegSpec :=
  if off = 0x4000 then
    some (frmReg 0x07080A80 [fAny 0 2, fAny 2 1, fAny 4 1, fAny 5 1, fRange 6 2 0 2, fRange 8 8 0 100, fRange 16 16 60 65535])
  else if off = 0x4004 then
    some (frmReg 0 [⟨0, 32, fun v => max 1000 (min 50000 v), fun v => decide (v = 0) || (decide (1000 ≤ v) && decide (v ≤ 50000))⟩])
  else if off = 0x4008 then some (frmReg 0 [fRange 0 32 1000 4000000000])
  else if off = 0x400C then some (frmReg 0x07D007D0 [fRange 0 16 100 20000, fRange 16 16 100 50000])
  else if off = 0x4010 then some (frmReg 0 [fAny 0 16, fAny 16 16])
  else if off = 0x4014 then some (frmReg 0x03E80D6B [fAny 0 16, fAny 16 16])
  else if off = 0x4018 then some (frmReg 0x00010000 [fRange 0 32 0x8000 0x10000])
  else if within off 0x4040 0x4168 then some (frmReg 0 [fAny 0 32])
  else none

/-- The DSP registers (Table 11-11). A tile's limits are tile rules and are not held (R326). -/
def specDsp (off : Nat) : Option RegSpec :=
  if off = 0x4800 then
    some (frmReg 0xF00 [fAny 0 1, fAny 1 1, fAny 2 1, fAny 3 1, ⟨8, 5, fun v => max 1 (min 30 v), fun v => decide (1 ≤ v) && decide (v ≤ 30)⟩])
  else if off = 0x4804 then some (frmReg 0x465A4470 [fRange 0 8 92 132, fRange 8 8 48 100, fRange 16 8 70 120, fRange 24 8 50 90])
  else if off = 0x4808 then some (frmReg 0xFF [fAny 0 8])
  else if off = 0x4810 then some (frmReg 0x07030100 [fAny 0 32])
  else if off = 0x4814 then some (frmReg 0x3022170E [fAny 0 32])
  else if off = 0x4818 then some (frmReg 0x81685340 [fAny 0 32])
  else if off = 0x481C then some (frmReg 0xFFDBBA9C [fAny 0 32])
  else if off = 0x4820 then some (metReg 0 [fAny 0 7, fAny 8 8, fAny 16 6, fAny 24 7])
  else if within off 0x4824 0x483C then some (frmReg 0 [fAny 0 7, fAny 8 8, fAny 16 6, fAny 24 7])
  else none

/-- The SAF registers (Tables 12-8 and 12-9). -/
def specSaf (off : Nat) : Option RegSpec :=
  if off = 0x6000 then
    some (safReg 0 [fAny 0 4, fAny 4 1, fAny 5 1, fAny 6 1, fAny 7 1, fAny 8 1, fAny 16 6])
  else if off = 0x6004 ∨ off = 0x602C then some (safReg 0x00030000 [fZero 0 16 0x400 0x7800, fRange 16 4 2 8])
  else if off = 0x6008 then some (safReg 0 [fZero 0 32 655 65535])
  else if off = 0x600C then some (safReg 0x0258119A [fRange 0 16 4096 6144, fRange 16 16 10 7200])
  else if off = 0x6010 then some (safReg 0x00005A04 [fRange 0 4 1 8, fRange 8 8 50 99])
  else if off = 0x6014 ∨ off = 0x601C ∨ off = 0x6024 ∨ off = 0x6030 ∨ off = 0x6038 ∨ off = 0x603C then
    some (safReg 0 [fAny 0 32])
  else if off = 0x6018 then some (safReg 0 [fZero 0 32 50 1500])
  else if off = 0x6020 ∨ off = 0x6028 then some (safReg 0x14 [fRange 0 32 20 10000])
  else if off = 0x6034 then some (safReg 0x00320032 [fRange 0 16 1 6000, fRange 16 16 0 6000])
  else if off = 0x6040 then some (safReg 0x00000100 [fRange 0 2 0 2, fAny 4 3, fRange 8 4 1 9, fAny 12 1])
  else if off = 0x6044 then some (safReg 0x64 [fRange 0 32 10 2000])
  else none

/-- The RW or RWL register at an offset, but for the FACET-class registers, which exist once per facet. -/
def specOf (off : Nat) : Option RegSpec :=
  specPwc off <|> specMtr off <|> specPq off <|> specCf off <|> specDiag off <|> specFlw off <|> specChd off <|> specSdi off <|> specBat off <|> specDsp off <|> specSaf off

/-- The reset value of a register (Tables 16-4 to 16-19). -/
def regReset (off : Nat) : Word :=
  match specOf off with
  | none => 0
  | some r => w32 r.reset

/-- A register's value as last written, preset or reset. -/
def cfgV (s : State) (off : Nat) : Word := (cfgFind s.cfg off).getD (regReset off)

/-- A register's value in force since the latest round boundary (R156, R201, R372). -/
def cfgR (s : State) (off : Nat) : Word := (cfgFind s.cfgR off).getD (regReset off)

end Sys2Proof.Machine
end

