-- ==== Sys2Proof/Machine/Wheel.lean ====
section
/-! DEFINITION. The wheel's own bookkeeping (chapter 03): the record of forced faults of each unit (R119), its counters,
and the dangerous-failure signal of a round (R114, R121). The commands SECTOR_START, SECTOR_OVERRUN, ROUND_CLOSE and
UNIT_FAULT_RETURN stand where every unit's state is in reach. -/

namespace Sys2Proof.Machine

open Sys2Proof

/-- The record of forced faults of a unit (R119). -/
def faultRec (s : State) (u : Nat) : FaultRec :=
  match s.whl.faults.find? (fun x => x.1 = u) with
  | none => ⟨[], none, false⟩
  | some x => x.2

/-- Replaces the record of a unit. -/
def putFault (l : List (Nat × FaultRec)) (u : Nat) (r : FaultRec) : List (Nat × FaultRec) :=
  (u, r) :: l.filter fun x => decide (x.1 ≠ u)

/-- Records one forced fault: within 3600 s of AON time the first three return after 1 s, a fourth latches (R119). -/
def noteFault (r : FaultRec) (now : Nat) : FaultRec :=
  let ts := (r.times.filter fun t => decide (now < t + 3600 * 32768)) ++ [now]
  if 3 < ts.length then ⟨ts, none, true⟩ else ⟨ts, some (now + 32768), false⟩

/-- Counts a forced fault of unit u (R119). -/
def forceRecord (u : Nat) (s : State) : State :=
  { s with whl := { s.whl with faults := putFault s.whl.faults u (noteFault (faultRec s u) s.aon) } }

/-- Clears a unit's record: restart command, an image switch that changes it, or a device reset (R119). -/
def clearFaults (u : Nat) (s : State) : State :=
  { s with whl := { s.whl with faults := s.whl.faults.filter fun x => decide (x.1 ≠ u) } }

/-- Whether the latest forced fault of unit u latched (R119). -/
def latched (s : State) (u : Nat) : Bool := (faultRec s u).latched

/-- Asks for the dangerous-failure signal at this round close with a cause of Table 12-4 and its detail (R108, R114, R118,
R123, R148). -/
def markDf (c : Bool) (cause : Nat × Nat) (s : State) : State :=
  if c then { s with whl := { s.whl with df := s.whl.df ++ [cause] } } else s

/-! ### State memory and runs -/

/-- An instance of the applied image by its index. -/
def instAt (s : State) (j : Nat) : Option InstRec := ((s.str.map Image.insts).getD [])[j]?

/-- The instance whose state block holds word a of state memory, with its index (R96). -/
def stateBlockAt (s : State) (a : Nat) : Option (Nat × InstRec) :=
  let l := (s.str.map Image.insts).getD []
  (List.range l.length).findSome? fun j => match l[j]? with
    | none => none
    | some i => if i.off ≤ 8 * a ∧ 8 * a < i.off + i.len then some (j, i) else none

/-- The bits of word a that are wrong. -/
def flipsAt (m : List (Nat × BitVec 72)) (a : Nat) : BitVec 72 := ((m.find? fun x => x.1 = a).map Prod.snd).getD 0

/-- Makes the wrong bits of word a those of b. -/
def putFlips (m : List (Nat × BitVec 72)) (a : Nat) (b : BitVec 72) : List (Nat × BitVec 72) :=
  let r := m.filter fun x => decide (x.1 ≠ a)
  if b = 0 then r else (a, b) :: r

/-- How many bits of a word are wrong. -/
def flipCount (b : BitVec 72) : Nat := (List.range 72).countP fun j => b.getLsbD j

/-- An instance of kernel `code` with bit b in its channel set was stopped in this round, so that what it produced in the round is
INVALID (R108, R123). -/
def kernelStopped (s : State) (code b : Nat) : Bool :=
  s.whl.stop.any fun j => match instAt s j with
    | none => false
    | some i => decide (i.code = code) && nbit i.chans b

/-- Some instance of kernel `code` was stopped in this round. -/
def anyStopped (s : State) (code : Nat) : Bool :=
  s.whl.stop.any fun j => match instAt s j with
    | none => false
    | some i => decide (i.code = code)

/-- The pending steps of an instance. -/
def workOf (w : List (Nat × List Nat)) (i : Nat) : List Nat := ((w.find? fun x => x.1 = i).map Prod.snd).getD []

/-- Replaces the pending steps of an instance. -/
def putWork (w : List (Nat × List Nat)) (i : Nat) (xs : List Nat) : List (Nat × List Nat) :=
  let r := w.filter fun x => decide (x.1 ≠ i)
  if xs.isEmpty then r else (i, xs) :: r

/-! ### The published bank -/

/-- The kernel outputs as they stand. -/
def bankOf (s : State) : OutBank := { met := s.met, flw := s.flw, chd := s.chd, bat := s.bat }

/-- The state with the kernel outputs as the published bank holds them (R103, R121); what a host's command sets at once, and
what no kernel produces, is live. -/
def seen (s : State) : State :=
  match s.pub with
  | none => s
  | some b => { s with
      met := { b.met with refDelta := s.met.refDelta }
      flw := { s.flw with
        path := vmap s.flw.path fun p x => { vget b.flw.path p x with
          cfgReject := x.cfgReject, refLearned := x.refLearned, refMismatch := x.refMismatch, refAct := x.refAct }
        qc := b.flw.qc, qcTag := b.flw.qcTag, qcSingle := b.flw.qcSingle, qcPath := b.flw.qcPath, vol := b.flw.vol }
      chd := { b.chd with second := s.chd.second, leader := s.chd.leader, ownReq := s.chd.ownReq, epoch := s.chd.epoch }
      bat := { b.bat with cfgReject := s.bat.cfgReject, switchCount := s.bat.switchCount } }

/-- A flex instance or KP-PILOT computes: while the wheel turns its outputs and events wait for the round close (R103, R121). -/
def inRound (f : State → State) (s : State) : State :=
  if s.whl.state = .stopped then f s
  else
    let s1 := f { s with sto := { s.sto with evHold := true } }
    { s1 with sto := { s1.sto with evHold := false }, pub := some (s.pub.getD (bankOf s)) }

/-- The working bank becomes the published one, and the events of the round are queued (Table 3-7, step 4). -/
def publishBank (s : State) : State := flushEvents { s with pub := none }

/-- Code of a commit kind (Table 13-2). -/
def CommitKind.code : CommitKind → Nat
  | .period => 1
  | .pair => 2
  | .mode => 3
  | .state => 4
  | .switch => 5
  | .reset => 6
  | .final => 7

/-- A commit of kind PERIOD, PAIR, MODE or STATE falls due: the next round close at least 10 ms after the previous commit
packs it, and what falls due in between merges under the highest kind code (R382). -/
def commitDue (k : CommitKind) (s : State) : State :=
  { s with sto := { s.sto with deferred := match s.sto.deferred with
      | none => some k
      | some d => some (if d.code < k.code then k else d) } }

/-- The low 32 bits of DIAG_ROUND_COUNT as a word. -/
def roundWord (s : State) : Word := w32 s.whl.rounds

/-- The number of sectors of a kind in the applied structure (Table 3-11). -/
def sectorsOf (s : State) (kind : Nat) : Nat :=
  match s.str with
  | none => 0
  | some im => (im.sectors.filter fun x => decide (x.kind = kind)).length

/-- The bit of the channel set that stands for a unit (Table 3-2, Table 3-5). -/
def unitBit (u : Nat) : Nat :=
  if u ≤ 8 then u - 1 else if u = 0x10 then 8 else if u = 0x11 then 9 else if u = 0x12 then 10
  else if u = 0x18 then 11 else if u = 0x20 then 12 else 13

/-- The block of a unit's status register (R115). -/
def unitBlock (u : Nat) : Nat :=
  if u ≤ 8 then 3 else if u = 0x10 ∨ u = 0x11 ∨ u = 0x12 then 7 else if u = 0x18 then 8
  else if u = 0x20 then 10 else 11

end Sys2Proof.Machine
end

