-- ==== Sys2Proof/Machine/Metering.lean ====
section
/-! DEFINITION. Metering inputs and pilot tracking (chapter 04): samples of a round (R129 to R139), the pilot second
(R140, R143 to R146, R134), the fast pilot check (R147) and analog start-up (R149, R150, R152). -/

namespace Sys2Proof.Machine

open Sys2Proof

/-- Channel k's record. -/
def chan (s : State) (k : Nat) : ChanSt := vget s.met.ch k ChanSt.idle

/-- Option bit i of channel k's route (Table 4-2). -/
def routeOpt (s : State) (k i : Nat) : Bool :=
  match routeOf s k with
  | none => false
  | some r => nbit r.opt i

/-- Sensor type of channel k, 0 when not routed (Table 4-2). -/
def sensorOf (s : State) (k : Nat) : Nat :=
  match routeOf s k with
  | none => 0
  | some r => r.sensor

/-- The X channel serves as auxiliary input (R134). -/
def auxMode (s : State) : Bool := decide (sensorOf s 7 = 5) || decide (sensorOf s 7 = 6)

/-- The pilot gain correction in 2^-30 that an average gives, clamped to ±0.2 % (R145); where 1 + avg_g is not positive the
quotient lies beyond the upper clamp. -/
def pilotGain (avg : Rat) : Int :=
  if avg ≤ -1 then 2147484 else max (-2147484) (min 2147484 (rnd 1 (-avg / (1 + avg) * (2 ^ 30 : Nat))))

/-- The pilot delay correction in seconds that an average gives, clamped to ±1.000 µs (R145). -/
def pilotDelay (avg : Rat) : Rat := trim (1 / 1000000) (-avg)

/-- The delay in steps of 2^-24 of a sample period: calibration phase and pilot delay, rounded together to the nearest step
(R145, R155). -/
def delaySteps (s : State) (k : Nat) (c : ChanSt) : Int :=
  rndNear 2 (((sgn (cfgR s (0x1160 + 4 * k)) : Rat) / 1000000000000 + c.corrD) * 8000 * (2 ^ 24 : Nat))

/-- Samples, newest first, delayed by D₀ = 2 sample periods and `d` steps of 2^-24 of one (R145, R155): a whole delay is the sample
itself, a broken one the cubic through the four samples around it and a correction within their spread (log 7). -/
def delayed (d : Int) (h : List Rat) : Rat :=
  let u := 33554432 + d
  let n := (u / 16777216).toNat
  let f := (u % 16777216).toNat
  let x := fun (j : Nat) => h.getD j 0
  if f = 0 then x n
  else
    let t : Rat := (f : Rat) / 16777216
    let q := [x (n - 1), x n, x (n + 1), x (n + 2)]
    let v := x (n - 1) * (-t * (t - 1) * (t - 2) / 6) + x n * ((t + 1) * (t - 1) * (t - 2) / 2)
      + x (n + 1) * (-(t + 1) * t * (t - 2) / 2) + x (n + 2) * ((t + 1) * t * (t - 1) / 6)
    v + trim (q.foldl max (x n) - q.foldl min (x n)) (Config.delayFilter f q)

/-- Step 2 of R155 on a code that already passed INVERT and the integrator, after the offset of step 1. -/
def calibrated (s : State) (k : Nat) (c : ChanSt) (x : Rat) : Rat :=
  (x - (sgn (cfgR s (0x1140 + 4 * k)) : Rat) / 256)
    * (1 + ((c.corrG + s.met.refCorr : Int) : Rat) / (2 ^ 30 : Nat))
    * (1 + (sgn (cfgR s (0x1120 + 4 * k)) : Rat) / (2 ^ 30 : Nat))

/-! ### Decimation -/

/-- The PGA gain of channel k's chain (Table 4-2). -/
def pgaGain (s : State) (k : Nat) : Rat :=
  match routeOf s k with
  | none => 1
  | some r => (2 ^ r.pga : Nat)

/-- 2π. -/
def tau : Rat := ofFix fixTau

/-- The voltage at the pair before the PGA: in VOLT mode that at IXP divided by 5 (R135). -/
def pairVolt (s : State) (k : Nat) (v : Rat) : Rat := if sensorOf s k = 6 then v / 5 else v

/-- v × g ÷ 0.5 V × full: the scale of R135 and R139. -/
def scaled (s : State) (k full : Nat) (v : Rat) : Rat := pairVolt s k v * pgaGain s k * 2 * (full : Nat)

/-- Holds a number to ±lim. -/
def clipTo (lim : Int) (x : Int) : Int := max (-lim) (min lim x)

/-- The part of its distance that a first-order section with the corner of Table 4-5, 0.5 Hz, moves in a round. -/
def hpfStep : Rat := 1 - expNeg (tau / 2 / 8000)

/-- A code is in overload (R138). -/
def overload (peak : Int) : Bool := decide (0x733333 < peak.natAbs)

/-- The main decimator of channel k at a MOD round boundary (R131, R135 to R138, Table 4-5): the input of 10 rounds before, in
its passband, through the high-pass filter, rounded, clipped and negated under INVERT; the window of 20 rounds keeps an
overload, and a common mode beyond ±0.25 V (R474). -/
def decimate (s : State) (k : Nat) (i : ChanIn) (d : Decim) : Decim × FifoWord :=
  let v := d.line.getD 9 0
  let x := scaled s k 0x600000 v * (1 + trim (1 / 4342) (Config.ripple k v))
  let hpf := !routeOpt s k 1
  let code := clipTo 0x7FFFFF (rndNear 3 (if hpf then x - d.hp else x))
  let over_ := overload i.peak
  let left := if over_ then 20 else d.ovlLeft
  let cm := if i.cm < -1 / 4 ∨ 1 / 4 < i.cm then 20 else d.cmLeft
  let peak := if over_ then i.peak else d.peak
  ({ line := (i.volt :: d.line).take 10, hp := if hpf then d.hp + hpfStep * (x - d.hp) else 0, ovlLeft := left - 1, cmLeft := cm - 1, peak := peak },
   { code := if routeOpt s k 0 then -code else code, ovl := decide (0 < left), cm := decide (0 < cm), peak := peak, pilotI := i.pilotI, pilotQ := i.pilotQ })

/-- A word enters a sample FIFO of 16; the second part counts one that is dropped because it is full (R124). -/
def fifoPut (w : FifoWord) (l : List FifoWord) : List FifoWord × Nat := if l.length < 16 then (l ++ [w], 0) else (l, 1)

/-- A MOD round boundary: the decimator of every routed channel past step 3 of Table 4-7, which is 12 rounds, writes its word
into the FIFO (R137). -/
def modBoundary (v : Vector ChanIn 8) (s : State) : State :=
  let on := fun k => routed s k && decide ((chan s k).state ≠ .off) && decide (12 ≤ (chan s k).age)
  let dec := fun k => decimate s k (vget v k ⟨0, 0, 0, 0, 0⟩) (chan s k).dec
  let put := fun k => fifoPut (dec k).2 (chan s k).fifo
  let lost := (List.range 8).foldl (fun a k => if on k then a + (put k).2 else a) 0
  { s with
    met := { s.met with ch := vmap s.met.ch fun k c => if on k then { c with dec := (dec k).1, fifo := (put k).1 } else c }
    whl := { s.whl with sampleLost := satAdd s.whl.sampleLost lost } }

/-- The corner of the integrator's drift removal in Hz, below 0.1 (R133; log 7). -/
def driftCorner : Rat := max 0 (trim (1 / 10) Config.rogowskiCorner)

/-- The Rogowski integrator (R133): gain f_n ÷ f and −90° by the integral of the samples, the drift removed, and a correction that
flattens its gain, within the step itself (log 7). -/
def rogowski (norm60 : Bool) (y x0 x : Rat) : Rat :=
  let w := tau * (if norm60 then 60 else 50) / 8000
  let abs := fun (a : Rat) => if a < 0 then -a else a
  y - y * (tau * driftCorner / 8000) + w * (x + x0) / 2 + trim (w * (abs x + abs x0) / 2) (Config.rogowskiFix norm60 x x0)

/-! ### The round of a channel -/

/-- The tag of a round sample (R138, R474, Table 4-7): INVALID until the filter is full, SETTLING in STARTING, in overload or beyond
the common-mode range. -/
def sampleTag (c : ChanSt) (ovl : Bool) : Tag :=
  match c.state with
  | .starting => if c.age < 32 then .invalid else .settling
  | .run => if ovl then .settling else .valid
  | _ => .invalid

/-- The curvature correction at a die temperature in 1/256 °C: linear between the 17 points of R140, end values held
outside. -/
def curvatureAt (t : Int) : Int :=
  let x : Rat := max 0 (min 16 (((t : Rat) / 256 + 45) / 10))
  let i := x.floor.toNat
  let a := Config.curvature (min i 16)
  let b := Config.curvature (min (i + 1) 16)
  rnd 7 ((a : Rat) + ((b - a : Int) : Rat) * (x - (i : Rat)))

/-- The round sample of a channel: the newest word of its FIFO, which holds one word but after a pause of ENG (R102). -/
def roundWord? (c : ChanSt) : Option FifoWord := c.fifo.getLast?

/-- How many words a round close discards: all but the newest (R102). -/
def surplus (c : ChanSt) : Nat := c.fifo.length - 1

/-- One round of a channel that is not OFF (R102, R131, R136 to R138, R143, R147, R155): its FIFO gives up the round sample; after
a pause of ENG the unit is in STARTING, but for a latched fault (R119); without a word only the time counts. -/
def chanRound (s : State) (k : Nat) (c0 : ChanSt) : ChanSt :=
  match roundWord? c0 with
  | none => { c0 with age := c0.age + 1, sinceOvl := c0.sinceOvl.map fun n => n + 1 }
  | some w =>
    let c := if 0 < surplus c0 ∧ latched s (k + 1) = false
      then { c0 with state := .starting, clampG := false, clampD := false, okRun := 0, seeded := false, sumI := 0, sumQ := 0
                     cnt := 0, win := [] } else c0
    let x0 : Rat := (w.code : Rat)
    let rog := decide (sensorOf s k = 3)
    let g := rogowski (routeOpt s k 3) c.integ c.integX x0
    let x := calibrated s k c (if rog then g else x0)
    let live := decide (32 ≤ c.age)
    let full := decide (8000 ≤ c.cnt)
    { c with
      tag := sampleTag c (w.ovl || w.cm)
      sinceOvl := if w.ovl then some 0 else c.sinceOvl.map fun n => n + 1
      ovl := if w.ovl then satInc c.ovl else c.ovl
      age := c.age + 1
      fifo := []
      integ := if rog then g else c.integ
      integX := if rog then x0 else c.integX
      hist := (x :: c.hist).take 64
      win := if live then ((w.pilotI, w.pilotQ) :: c.win).take 100 else []
      sumI := if live && !full then c.sumI + w.pilotI else c.sumI
      sumQ := if live && !full then c.sumQ + w.pilotQ else c.sumQ
      cnt := if live && !full then c.cnt + 1 else c.cnt }

/-- The normalised sample u_k of the round (R155, steps 3 and 4). -/
def sampleU (s : State) (k : Nat) : Rat :=
  let c := chan s k
  delayed (delaySteps s k c) c.hist / 6291456

/-- Events of a channel's round: SAMPLE_LOST (R102) and CHANNEL_OVERLOAD (R138). -/
def chanEvents (s : State) (k : Nat) : List Ev :=
  let c := chan s k
  let due := match c.lastOvlEvt with
    | none => true
    | some t => decide (t + 60 * 32768 ≤ s.aon)
  evIf (decide (0 < surplus c)) { code := 0x0303, unit := k + 1, sev := 2, who := blockAndF0 s 3, w4 := w32 (surplus c) }
    ++ match roundWord? c with
      | none => []
      | some w => evIf (w.ovl && due)
        { code := 0x0403, unit := k + 1, sev := 1, who := blockAndF0 s 3, w4 := w32 (satInc c.ovl), w5 := i32 w.peak }

/-- Every routed channel's round while MOD runs (R101, R102, R137); channels that are not routed stay as they are. 1.5 ms after the
start of MOD the curvature correction is loaded for the die temperature read last (Table 4-7, step 2; log 7). -/
def metRound (s : State) : State :=
  let idx := (List.range 8).filter fun k => routed s k && decide ((chan s k).state ≠ .off)
  let es := idx.flatMap fun k => chanEvents s k
  let lost := idx.foldl (fun a k => a + surplus (chan s k)) 0
  let evd := fun k => (chanEvents s k).any fun e => decide (e.code = 0x0403)
  let ch := vmap s.met.ch fun k c =>
    if idx.contains k then
      let c' := chanRound s k c
      if evd k then { c' with lastOvlEvt := some s.aon } else c'
    else c
  let load := idx.any fun k => decide ((chan s k).age = 11)
  emitAll es { s with
    met := { s.met with ch := ch, refCorr := if load then curvatureAt s.met.dieTemp else s.met.refCorr }
    whl := { s.whl with sampleLost := satAdd s.whl.sampleLost lost } }

/-- The auxiliary second takes the round sample of IX (R134); `had` says that there was one. -/
def auxRound (had : Bool) (s : State) : State :=
  let x := chan s 7
  let aux := had && auxMode s && decide (x.state ≠ .off) && decide (33 ≤ x.age)
  let first := decide (x.age = 33)
  let m := s.met
  if aux && (first || decide (m.auxCnt < 8000)) then
    { s with met := { m with
      auxSum := (if first then 0 else m.auxSum) + rnd 14 (sampleU s 7 * 6291456 * 256)
      auxCnt := (if first then 0 else m.auxCnt) + 1
      auxWorst := if first then x.tag else m.auxWorst.worse x.tag } }
  else s

/-- The reference channel of channel k for pilot phase and angles (R143): the voltage channel of its phase, else the
lowest routed voltage channel; IN and IX take VA by the same rule. -/
def refChan (s : State) (k : Nat) : Option Nat :=
  let own := if k < 6 then k % 3 else 0
  if routed s own then some own else (List.range 3).find? fun j => routed s j

/-- An angle in turns brought into (-1/2, 1/2]. -/
def wrapTurn (x : Rat) : Rat := x - ((x - 1 / 2).ceil : Rat)

/-- The factory pilot amplitude of channel k's chain at its PGA code (R143). -/
def pilotBaseOf (s : State) (k : Nat) : Rat :=
  match routeOf s k with
  | none => 1
  | some r => Config.pilotBase r.input r.pga

/-- The pilot phase of sums of I and Q for channel k, less θ_k = 45° k (R142, R143). -/
def pilotPhase (k : Nat) (i q : Int) : Rat := wrapTurn (atan2 (-q : Int) i - (k : Rat) / 8)

/-- The amplitude over n intermediate samples (R143). -/
def pilotAmp (site : Nat) (n : Nat) (i q : Int) : Rat := 2 * sqrtR site ((i * i + q * q : Int) : Rat) / n

/-- The fast pilot check of channel k fails: amplitude outside 0.75 to 1.25 of A_base (1 + avg_g), or phase off by more
than 10 degrees from the one-second phase once there is one (R147). -/
def pilotLost (s : State) (k : Nat) : Bool :=
  let c := chan s k
  let i := c.win.foldl (fun a w => a + w.1) 0
  let q := c.win.foldl (fun a w => a + w.2) 0
  let base := pilotBaseOf s k * (1 + c.avgG)
  let a := pilotAmp 4 800 i q
  let d := wrapTurn (pilotPhase k i q - c.phase)
  routed s k && decide (132 ≤ c.age) && decide (c.win.length = 100) && decide (c.state = .starting ∨ c.state = .run)
    && (decide (a < base * 3 / 4) || decide (base * 5 / 4 < a)
      || (c.seeded && (decide (1 / 36 < d) || decide (d < -1 / 36))))

/-- PILOT_LOST of channel k (Table 4-11). -/
def pilotLostEv (s : State) (k : Nat) : Ev :=
  let c := chan s k
  let i := c.win.foldl (fun a w => a + w.1) 0
  let q := c.win.foldl (fun a w => a + w.2) 0
  let base := pilotBaseOf s k * (1 + c.avgG)
  { code := 0x0402, unit := k + 1, sev := 3, who := blockAndF0 s 3,
    w4 := u32 (rnd 5 (pilotAmp 4 800 i q / base * 65536)),
    w5 := s32 (rnd 6 (wrapTurn (pilotPhase k i q - c.phase) * 36000)),
    w6 := w32 (s.whl.rounds + 1), w7 := w32 (b2n (feedsSafety s k)) }

/-- Forces channel k to FAULT with INVALID words of the round (R118, R147). -/
def chanForce (k : Nat) (s : State) : State :=
  forceRecord (k + 1) { s with met := { s.met with ch := vmod s.met.ch k fun c =>
    { c with state := .fault, tag := .invalid } } }

/-- Channel k, found at fault by the fast pilot check, is forced to FAULT; a channel of a safety instance asks for the
dangerous-failure signal (R147, R148). -/
def pilotForce (k : Nat) (s : State) : State :=
  let b := if (chan s k).state = .fault then s else chanForce k s
  emit (pilotLostEv s k) (markDf (feedsSafety s k) (9, k)
    { b with met := { b.met with ch := vmod b.met.ch k fun c => { c with lost := true } } })

/-- |avg_g| at most g and |avg_d| at most d (R146). -/
def withinClamp (c : ChanSt) (g d : Rat) : Bool :=
  decide (-g ≤ c.avgG) && decide (c.avgG ≤ g) && decide (-d ≤ c.avgD) && decide (c.avgD ≤ d)

/-- The averages and corrections of a channel whose pilot second is complete (R143 to R145). `ph` is its phase and `phRef` that
of its reference channel; their difference is taken within half a turn (DESIGN CHOICE, log 84). While the channel is in FAULT
beyond the clamp its corrections hold (R146). -/
def chanAverage (s : State) (k : Nat) (ph : Rat) (phRef : Option Rat) (c : ChanSt) : ChanSt :=
  let eg := pilotAmp 8 64000 c.sumI c.sumQ / pilotBaseOf s k - 1
  let ed := match phRef with
    | none => 0
    | some r => if refChan s k = some k then 0
      else wrapTurn (ph - r) / 10240 - Config.delayBase (match routeOf s k with | none => 0 | some x => x.input)
  let g := if c.seeded then c.avgG + (eg - c.avgG) / 16 else eg
  let d := if c.seeded then c.avgD + (ed - c.avgD) / 16 else ed
  let hold := decide (c.state = .fault) && (c.clampG || c.clampD)
  { c with
    avgG := g
    avgD := d
    corrG := if hold then c.corrG else pilotGain g
    corrD := if hold then c.corrD else pilotDelay d
    phase := ph
    seeded := true
    sumI := 0
    sumQ := 0
    cnt := 0 }

/-- The state of a channel after its averages (R146, Table 4-7 steps 7 and 8). -/
def chanJudge (c : ChanSt) : ChanSt :=
  let ok := withinClamp c (1 / 500) (1 / 1000000)
  let g := !withinClamp { c with avgD := 0 } (1 / 500) 1
  let d := !withinClamp { c with avgG := 0 } 1 (1 / 1000000)
  match c.state with
  | .starting =>
    if ok then { c with state := .run, lost := false }
    else { c with state := .fault, tag := .invalid, clampG := g, clampD := d, okRun := 0 }
  | .run =>
    if ok then c else { c with state := .fault, tag := .invalid, clampG := g, clampD := d, okRun := 0 }
  | .fault =>
    if c.clampG || c.clampD then
      let n := if withinClamp c (3 / 2000) (3 / 4000000) then c.okRun + 1 else 0
      if 16 ≤ n then { c with state := .starting, seeded := false, okRun := 0, clampG := false, clampD := false }
      else { c with okRun := n }
    else c
  | _ => c

/-- PILOT_CLAMP of channel k after its update (Table 4-11). -/
def pilotClampEv (s : State) (k : Nat) (c : ChanSt) : Ev :=
  { code := 0x0401, unit := k + 1, sev := 2, who := blockAndF0 s 3, w4 := w32 (b2n c.clampG + 2 * b2n c.clampD),
    w5 := s32 (rnd 9 (c.avgG * (2 ^ 30 : Nat))), w6 := s32 (rnd 10 (c.avgD * 1000000000000)),
    w7 := w32 (b2n (feedsSafety s k)) }

/-- The mean of the auxiliary second in µA or µV (R134, R135): code to volts at the pair, then the loop resistor of
24.9 Ω or the divider by 5. -/
def auxMean (s : State) : Int :=
  let code : Rat := (s.met.auxSum : Rat) / 256 / 8000
  let v := code / 6291456 / 2
  if sensorOf s 7 = 5 then rnd 11 (v * 10000000 / 249) else rnd 12 (v * 5 * 1000000)

/-- The tag of MTR_AUX_X as it reads: that of the second published last, and no better than the state of the unit allows
(R116, R134). -/
def auxTagNow (s : State) : Tag :=
  match (chan s 7).state with
  | .run => s.met.auxTag
  | .starting => s.met.auxTag.worse .settling
  | _ => .invalid

/-- The auxiliary second ends: MTR_AUX_X, its tag, the worst of its samples, and LOOP_FAULT (R117, R134). -/
def auxUpdate (s : State) : State :=
  if auxMode s = true ∧ 8000 ≤ s.met.auxCnt then
    let m := auxMean s
    let flt := decide (sensorOf s 7 = 5) && (decide (m < 3800) || decide (20500 < m))
    let t : Tag := if flt then .invalid else s.met.auxWorst
    emitAll (evIf (flt != s.met.loopFault)
        { code := 0x0404, unit := 0x08, sev := 2, who := blockAndF0 s 3, w4 := w32 (b2n flt), w5 := s32 m })
      { s with met := { s.met with
        auxX := m, auxTag := t, loopFault := flt, auxSum := 0, auxCnt := 0, auxWorst := .valid, auxAt := some s.aon } }
  else s

/-- MTR_AUX_STATUS [31:16]: the seconds since the latest update, 0 before the first (Table 4-8; DESIGN CHOICE, log 84). -/
def auxSeconds (s : State) : Nat :=
  match s.met.auxAt with
  | none => 0
  | some t => min 65535 ((s.aon - t) / 32768)

/-- The pilot second of every channel whose 8000 rounds are complete, the reference curvature at the die temperature
read, and the auxiliary second (R134, R140, R143 to R146, R148). A reference channel whose second is not complete counts with
its latest phase (DESIGN CHOICE, log 84). -/
def pilotSecond (die : Int) (s : State) : State :=
  let done := fun k => routed s k && decide (8000 ≤ (chan s k).cnt)
  let phase := fun k => if done k then pilotPhase k (chan s k).sumI (chan s k).sumQ else (chan s k).phase
  let upd := fun k c => chanJudge (chanAverage s k (phase k) ((refChan s k).map phase) c)
  let ch := vmap s.met.ch fun k c => if done k then upd k c else c
  let fell := (List.range 8).filter fun k =>
    done k && decide ((chan s k).state ≠ .fault) && decide ((upd k (chan s k)).state = .fault)
  let bad := fell.filter fun k => feedsSafety s k
  let es := fell.map fun k => pilotClampEv s k (upd k (chan s k))
  auxUpdate (emitAll es (markDf (!bad.isEmpty) (9, bad.headD 0)
    { s with met := { s.met with ch := ch, dieTemp := die, refCorr := curvatureAt die } }))

/-- Analog start-up of a channel from a step of Table 4-7, given as its age in rounds (R149, R150, R152). The averages and
corrections are 0 until the first estimate (DESIGN CHOICE, log 84); PILOT_LOST stays until RUN (Table 4-10). -/
def chanStart (age : Nat) (c : ChanSt) : ChanSt :=
  { ChanSt.idle with state := .starting, ovl := c.ovl, lastOvlEvt := c.lastOvlEvt, lost := c.lost, age := age }

/-- MOD starts: every routed channel starts at step 0 of Table 4-7 (R149); one whose fault has latched is in FAULT (R119). -/
def modStart (s : State) : State :=
  let one := fun (k : Nat) (c : ChanSt) => if latched s (k + 1) then { chanStart 0 c with state := .fault } else chanStart 0 c
  { s with met := { s.met with ch := vmap s.met.ch fun k c => if routed s k then one k c else c } }

/-- MOD has stopped: every routed channel is OFF, INVALID, its averages discarded (R150). -/
def modStop (s : State) : State :=
  { s with met := { s.met with
    ch := vmap s.met.ch fun k c => if routed s k then { ChanSt.idle with ovl := c.ovl, lastOvlEvt := c.lastOvlEvt, lost := c.lost } else c
    auxTag := .invalid, auxSum := 0, auxCnt := 0 } }

/-- MTR_AFE_CTRL RESTART: each named channel that is in FAULT runs Table 4-7 from step 3, which is 12 rounds after step
0, and its record of forced faults is cleared (R119, R152). -/
def afeRestart (mask : Nat) (s : State) : State :=
  ((List.range 8).filter fun k => nbit mask k && decide ((chan s k).state = .fault)).foldl (fun a k =>
    clearFaults (k + 1) { a with met := { a.met with ch := vmod a.met.ch k (chanStart 12) } }) s

/-- MTR_STAT_x (Table 4-10). -/
def mtrStat (s : State) (k : Nat) : Word :=
  let c := chan s k
  let recent := match c.sinceOvl with
    | none => false
    | some n => decide (n < 8000)
  pack [(0, c.state.code), (4, c.tag.code), (8, b2n recent), (9, b2n c.clampG), (10, b2n c.clampD),
    (11, b2n c.lost), (12, b2n (latched s (k + 1))), (13, b2n (decide (c.state ≠ .off) && (refChan s k).any fun r => decide (r ≠ k)))]

end Sys2Proof.Machine
end

