-- ==== Sys2Proof/Machine/Energy.lean ====
section
/-! DEFINITION. Energy, power and calibration (chapter 05): line-period and publication quantities (R158 to R163), the
64 accumulators (R164 to R170), anti-creep gates (R171, R172) and the calibration pulse outputs (R175 to R180). -/

namespace Sys2Proof.Machine

open Sys2Proof

/-! ### Samples and windows -/

/-- Voltage and current channel of phase p. -/
def vCh (p : Nat) : Nat := p
/-- The current channel of phase p. -/
def iCh (p : Nat) : Nat := p + 3

/-- Phase p contributes: both its channels are routed (R159). -/
def contributes (s : State) (p : Nat) : Bool := routed s p && routed s (p + 3)

/-- Channel k's samples, newest first. -/
def histOf (s : State) (k : Nat) : List (Rat × Tag) := vget s.nrg.hist k []

/-- Half the length of the filter of R160: the delay, in samples, that voltage and current share. -/
def quadHalf : Nat := 63

/-- Tap m of the filter of R160: the ideal 90 degree filter, whose even taps are 0, and a small part of its own (log 7). -/
def quadTap (m : Nat) : Rat :=
  if m % 2 = 0 then 0 else 4 / (tau * (m : Nat)) + trim (1 / 1000) (Config.quadTap m)

/-- h(v) of the newest sample that lies `quadHalf` back (R160): taps of opposite sign before and after it lag every frequency by a
quarter period and give 0 at DC. -/
def quadFilter (v : List Rat) : Rat :=
  (List.range quadHalf).foldl (fun a j =>
    a + quadTap (j + 1) * (v.getD (quadHalf + j + 1) 0 - v.getD (quadHalf - (j + 1)) 0)) 0

/-- The matched delay of the current samples (R160). -/
def quadMatch (i : List Rat) : Rat := i.getD quadHalf 0

/-- Takes the round's samples into the history of every routed channel that has one, and into the open aggregation window (R155,
R158, R159). A history holds 256 samples, more than the longest line period of 200. -/
def takeSamples (had : Nat → Bool) (s : State) : State :=
  let on := fun k => routed s k && had k
  let hist := vmap s.nrg.hist fun k h => if on k then ((sampleU s k, (chan s k).tag) :: h).take 256 else h
  let u := fun k => (vget hist k []).map Prod.fst
  let q := fun p => (quadFilter (u p), quadMatch (u (p + 3)))
  let t := s.nrg.theta + (s.pq.f1 : Rat) / 8000000
  let th := t - (t.floor : Rat)
  let c := cosT th
  let d := sinT th
  let x := fun k => let y := (u k).headD 0; (⟨y * c, -(y * d)⟩ : Cx)
  { s with nrg := { s.nrg with
    now := s.nrg.now + 1
    hist := hist
    win := vmap s.nrg.win fun k w => if on k then (vget hist k []).take 1 ++ w else w
    theta := th
    dem := vmap s.nrg.dem fun k h => if on k then (x k :: h).take 256 else h
    winDem := vmap s.nrg.winDem fun k w => if on k then x k :: w else w
    quad := vmap s.nrg.quad fun p h => if contributes s p then (q p :: h).take 256 else h
    winQuad := vmap s.nrg.winQuad fun p h => if contributes s p then q p :: h else h } }

/-- The mean over the line-period window of L samples: the newest floor L with weight 1, the one before them with the
remaining weight (R158). -/
def lineMean (xs : List Rat) (l : Rat) : Rat :=
  let n := l.floor.toNat
  ((xs.take n).foldl (· + ·) 0 + (l - n) * xs.getD n 0) / l

/-- The length of the line-period window in samples: 8000 / f1, with f1 in mHz (R158). -/
def lineLen (s : State) : Rat := 8000000 / (max s.pq.f1 1 : Nat)

/-- The tag of f1 in the open round: INVALID where its KM-FUND instance was stopped (R108, R123). -/
def fTagNow (s : State) : Tag := if anyStopped s 0x0102 then .invalid else s.pq.ftag

/-- The worst tag of the samples of channel k's line-period window; samples not yet taken are INVALID. -/
def winTag (s : State) (k : Nat) : Tag :=
  let n := (lineLen s).ceil.toNat
  let h := histOf s k
  if h.length < n then .invalid else worst ((h.take n).map Prod.snd)

/-- The worst tag of channel k's line-period window and of f1 (R117, R162). -/
def lineTag (s : State) (k : Nat) : Tag := (winTag s k).worse (fTagNow s)

/-- Full scale of channel k (R154). -/
def fsOf (s : State) (k : Nat) : Rat := ((cfgR s (0x1100 + 4 * k)).toNat : Rat)

/-- P_FS of phase p in W: full scales in mV and mA (R154). -/
def pFs (s : State) (p : Nat) : Rat := fsOf s p * fsOf s (p + 3) / 2000000

/-- A signed register as a fraction of 2^n. -/
def frac (s : State) (off n : Nat) : Rat := (sgn (cfgR s off) : Rat) / (2 ^ n : Nat)

/-- The square of an RMS before scaling from a mean square: max(0, mean - RMSOFF) (R159). -/
def rmsSq (s : State) (k : Nat) (ms : Rat) : Rat :=
  max 0 (ms - ((cfgR s (0x11A0 + 4 * k)).toNat : Rat) / (2 ^ 48 : Nat))

/-- RMS of channel k in its full-scale unit from a mean square (Table 5-3). -/
def rmsT (s : State) (k : Nat) (ms : Rat) : Rat := sqrtR 20 (rmsSq s k ms) * (1 + frac s (0x1180 + 4 * k) 30) * fsOf s k

/-- Fundamental RMS of channel k from its mean demodulated value m, X1 being √2 m (Table 5-3). -/
def rmsF (s : State) (k : Nat) (m : Cx) : Rat :=
  sqrtR 21 (2 * (m.re * m.re + m.im * m.im)) * (1 + frac s (0x1180 + 4 * k) 30) * fsOf s k

/-- The four quantities of a phase in W, var, VA, with their tag. -/
structure Quant where
  p : Rat
  q : Rat
  s : Rat
  tag : Tag

/-- Total quantities from the means ⟨v²⟩, ⟨i²⟩, ⟨v·i⟩ and ⟨h(v)·i⟩ (Table 5-3). -/
def quantT (s : State) (p : Nat) (vv ii vi hi : Rat) (t : Tag) : Quant :=
  { p := ((1 + frac s (0x11C0 + 4 * p) 30) * (2 * vi) - frac s (0x11D0 + 4 * p) 32) * pFs s p
    q := ((1 + frac s (0x11E0 + 4 * p) 30) * (2 * hi) - frac s (0x11F0 + 4 * p) 32) * pFs s p
    s := rmsT s p vv * rmsT s (p + 3) ii / 1000000
    tag := t }

/-- Fundamental quantities from the mean demodulated values: X1_V times the conjugate of X1_I is twice their product
(Table 5-3). -/
def quantF (s : State) (p : Nat) (v i : Cx) (t : Tag) : Quant :=
  let re := 2 * (v.re * i.re + v.im * i.im)
  let im := 2 * (v.im * i.re - v.re * i.im)
  { p := ((1 + frac s (0x11C0 + 4 * p) 30) * (2 * re) - frac s (0x11D0 + 4 * p) 32) * pFs s p
    q := ((1 + frac s (0x11E0 + 4 * p) 30) * (2 * im) - frac s (0x11F0 + 4 * p) 32) * pFs s p
    s := rmsF s p v * rmsF s (p + 3) i / 1000000
    tag := t }

/-- Products of two sample lists. -/
def prods (a b : List Rat) : List Rat := List.zipWith (· * ·) a b

/-- The line-period quantities of phase p, variant 0 total or 1 fundamental (R158, R159). -/
def lineQuant (s : State) (p var : Nat) : Quant :=
  let v := (histOf s p).map Prod.fst
  let i := (histOf s (p + 3)).map Prod.fst
  let h := vget s.nrg.quad p []
  let l := lineLen s
  if var = 0 then
    quantT s p (lineMean (prods v v) l) (lineMean (prods i i) l) (lineMean (prods v i) l)
      (lineMean (h.map fun x => x.1 * x.2) l) ((lineTag s p).worse (lineTag s (p + 3)))
  else
    let x := vget s.nrg.ph p (⟨0, 0⟩, .invalid)
    let y := vget s.nrg.ph (p + 3) (⟨0, 0⟩, .invalid)
    quantF s p x.1 y.1 (x.2.worse y.2)

/-- The mean demodulated value of a channel over its line period at f1 (R159). -/
def demodulate (s : State) (k : Nat) : Cx :=
  let d := vget s.nrg.dem k []
  let l := lineLen s
  ⟨lineMean (d.map Cx.re) l, lineMean (d.map Cx.im) l⟩

/-- At the end of a line cycle the fundamental phasors are renewed, with their tags (R158). -/
def renewPhasors (s : State) : State :=
  let ph := vmap s.nrg.ph fun k x => if routed s k then (demodulate s k, if kernelStopped s 0x0102 k then .invalid else lineTag s k) else x
  { s with nrg := { s.nrg with
    ph := ph
    phWin := vmap s.nrg.phWin fun k w => if routed s k then vget ph k (⟨0, 0⟩, .invalid) :: w else w } }

/-! ### Accumulators -/

/-- Energy set k (R165). -/
def enSet (s : State) (k : Nat) : EnSet := vget s.nrg.sets k EnSet.zero

/-- The accumulator definition record of a class and index, packed as class, index and options (R164). -/
def accDefOf (s : State) (cls idx : Nat) : Option Nat :=
  match s.str with
  | none => none
  | some im => (im.accDef.find? fun d => decide (d % 65536 = cls + 256 * idx)).map fun d => d / 65536 % 65536

/-- Energy set k is defined (R164). -/
def setDefined (s : State) (k : Nat) : Bool := (accDefOf s 3 k).isSome

/-- Option REVERSE of set k (R164). -/
def setReverse (s : State) (k : Nat) : Bool := nbit ((accDefOf s 3 k).getD 0) 0

/-- The anti-creep mode of phase set k, 0 to 5 (Table 5-7). -/
def creepMode (s : State) (k : Nat) : Nat := bits (cfgR s 0x1200) (2 * k + 1) (2 * k)

/-- The full-scale and most negative limits: an accumulator holds at 2^96 - 1 with the residue all ones (R168). -/
def accMax : Nat := 2 ^ 128 - 1

/-- The gates of a phase set after a round (R172). `q` are its line-period quantities and `r2` the square of the
phase's total Irms as a fraction of I_FS. -/
def gateStep (mode : Nat) (cw cq : Rat) (thr : Rat) (q : Quant) (r2 : Rat) (e0 : EnSet) : EnSet :=
  let abs := fun (x : Rat) => if x < 0 then -x else x
  let hi := if thr * thr ≤ r2 then e0.runHi + 1 else 0
  let lo := if r2 < thr * thr * 81 / 100 then e0.runLo + 1 else 0
  let e := { e0 with runHi := hi, runLo := lo }
  if mode = 1 then
    { e with gateA := if e.gateA then decide (abs q.p < cw) else decide (abs q.p < cw * 9 / 10)
             gateR := if e.gateR then decide (abs q.q < cq) else decide (abs q.q < cq * 9 / 10) }
  else if mode = 2 then
    let g := if e.gateA then decide (hi < 16) else decide (16 ≤ lo)
    { e with gateA := g, gateR := g }
  else { e with gateA := false, gateR := false }

/-- Irms squared of phase p as a fraction of I_FS squared; I_FS is the peak full scale divided by √2 (R154, R172). -/
def irmsFrac2 (s : State) (p : Nat) : Rat :=
  let i := (histOf s (p + 3)).map Prod.fst
  let g := 1 + frac s (0x1180 + 4 * (p + 3)) 30
  2 * rmsSq s (p + 3) (lineMean (prods i i) (lineLen s)) * g * g

/-- Every defined phase set's gates after the round, with CREEP_CHANGE for each change (R172). -/
def creepRound (s : State) : State :=
  let step := fun k (e : EnSet) =>
    if k < 6 ∧ setDefined s k = true then
      let p := k / 2
      let u := fun off => ((cfgR s off).toNat : Rat) / (2 ^ 32 : Nat)
      gateStep (creepMode s k) (u (0x1210 + 4 * p) * pFs s p) (u (0x1220 + 4 * p) * pFs s p)
        (max (u (0x1230 + 4 * p)) (85900 / (2 ^ 32 : Nat))) (lineQuant s p (k % 2)) (irmsFrac2 s p) e
    else e
  let sets := vmap s.nrg.sets step
  let es := (List.range 6).flatMap fun k =>
    let a := enSet s k
    let b := vget sets k EnSet.zero
    evIf (a.gateA != b.gateA || a.gateR != b.gateR)
      { code := 0x0503, sev := 0, who := who s fun f => decide (f = 0) || holdsRes s f 3 k,
        w4 := w32 k, w5 := w32 (b2n b.gateA + 2 * b2n b.gateR) }
  emitAll es { s with nrg := { s.nrg with sets := sets } }

/-- The values a set accumulates in a round: P, Q, S after gates and REVERSE, and its tag (R166, R167). -/
def setValues (s : State) (k : Nat) : Quant :=
  let sg : Rat := if setReverse s k then -1 else 1
  if k < 6 then
    let q := lineQuant s (k / 2) (k % 2)
    let e := enSet s k
    { p := if e.gateA then 0 else sg * q.p, q := if e.gateR then 0 else sg * q.q, s := if e.gateA then 0 else q.s, tag := q.tag }
  else
    let ps := (List.range 3).filter fun p => contributes s p
    let term := fun (f : Quant → Rat) (g : EnSet → Bool) => ps.foldl (fun a p =>
      let j := 2 * p + k % 2
      if setDefined s j && g (enSet s j) then a else a + f (lineQuant s p (k % 2))) 0
    { p := sg * term Quant.p EnSet.gateA, q := sg * term Quant.q EnSet.gateR, s := term Quant.s EnSet.gateA,
      tag := worst (ps.map fun p => (lineQuant s p (k % 2)).tag) }

/-- One increment in 2^-32 of the LSB: value / 28.8, rounded to nearest, ties to even (R166). -/
def increment (x : Rat) : Nat := (roundEven (x * 10 / 288 * (2 ^ 32 : Nat))).toNat

/-- The eight increments of a set (Table 5-5, R161). -/
def increments (q : Quant) : List Nat :=
  let neg := decide (q.p < 0)
  let nq := decide (q.q < 0)
  let aq := if q.q < 0 then -q.q else q.q
  [increment (max q.p 0), increment (max (-q.p) 0),
   if !neg && !nq then increment aq else 0, if neg && !nq then increment aq else 0,
   if neg && nq then increment aq else 0, if !neg && nq then increment aq else 0,
   if neg then 0 else increment q.s, if neg then increment q.s else 0]

/-- A set after the round close applies or discards its increments (R120, R165, R168, R170). -/
def applySet (q : Quant) (e : EnSet) : EnSet :=
  if q.tag = .invalid then
    { e with disc := satInc e.disc, tag := .invalid, discarding := true, episode := if e.discarding then e.episode + 1 else 1 }
  else
    { e with
      acc := vmap e.acc fun a x => min (x + (increments q).getD a 0) accMax
      setl := if q.tag = .valid then e.setl else satInc e.setl
      tag := q.tag
      discarding := false
      lastP := rnd 22 (q.p * 100) }

/-- Adds ΔE to a generator for the next 8192 ENG cycles, after what is left of the round before (R177). -/
def cfFeed (dE : Rat) (c : CfSt) : CfSt :=
  { c with ep := c.ep + c.dE * (8192 - c.at_ : Nat) / 8192, dE := dE, at_ := 0 }

/-- CF output n is enabled, owned and has a source (R176). -/
def cfOn (s : State) (n : Nat) : Bool :=
  bit (cfgV s (0x7840 + 16 * n)) 17 && (match s.str with
    | none => false
    | some im => im.grants.any fun g => decide (g.cls = 7) && decide (g.idx = 6 + n) && decide (g.kind = 1))

/-- The increments of every defined set at the round close, the CF generators' shares, and ENERGY_DISCARD and
ENERGY_RESUME (R108, R120, R166 to R170, R177, R182). -/
def energyRound (s : State) : State :=
  let stop := anyStopped s 0x0103
  let val := fun k => let q := setValues s k; if stop then { q with tag := .invalid } else q
  let sets := vmap s.nrg.sets fun k e => if setDefined s k then applySet (val k) e else e
  let entered := maskOf 8 fun k => (vget sets k EnSet.zero).discarding && !(enSet s k).discarding
  let left := maskOf 8 fun k => !(vget sets k EnSet.zero).discarding && (enSet s k).discarding
  let low := ((List.range 8).find? fun k => nbit entered k).getD 0
  let long := (List.range 8).foldl (fun b k =>
    if nbit left k && (!nbit left b || decide ((enSet s b).episode < (enSet s k).episode)) then k else b) 0
  let who1 := fun m => who s fun f => decide (f = 0) || decide (heldSets s f m ≠ 0)
  let cf := vmap s.nrg.cf fun n c =>
    let cfg := cfgV s (0x7840 + 16 * n)
    let k := bits cfg 2 0
    let q := val k
    if cfOn s n && setDefined s k && decide (q.tag ≠ .invalid) then cfFeed (((increments q).getD (bits cfg 6 4) 0 : Nat) : Rat) c
    else cfFeed 0 c
  let es := evIf (decide (entered ≠ 0))
      { code := 0x0501, sev := 2, who := who1 entered, filt := true, w4 := w32 entered, w5 := w32 (s.whl.rounds + 1),
        w6 := s32 (enSet s low).lastP, w7 := w32 low }
    ++ evIf (decide (left ≠ 0))
      { code := 0x0502, sev := 2, who := who1 left, filt := true, w4 := w32 left,
        w5 := w32 (min (enSet s long).episode max32), w6 := w32 (s.whl.rounds + 1), w7 := w32 long }
  emitAll es { s with nrg := { s.nrg with sets := sets, cf := cf } }

/-- Every gate of a set whose mode is not OFF starts set (R172). -/
def gatesSet (s : State) : State :=
  { s with nrg := { s.nrg with sets := vmap s.nrg.sets fun k e =>
    let on := decide (k < 6) && decide (bits (cfgV s 0x1200) (2 * k + 1) (2 * k) ≠ 0) && setDefined s k
    { e with gateA := on, gateR := on, runHi := 0, runLo := 0 } } }

/-! ### Published quantities -/

/-- The mean of a list over n samples. -/
def meanOf (xs : List Rat) (n : Nat) : Rat := if n = 0 then 0 else xs.foldl (· + ·) 0 / n

/-- An angle in units of 0.001 degree. -/
def angleMdeg (site : Nat) (turns : Rat) : Int := rnd site (wrapTurn turns * 360000)

/-- The angle of a phasor in turns. -/
def argOf (x : Cx) : Rat := atan2 x.im x.re

/-- A published power factor, 2^-30, 1.0 where S is 0 and held to ±1 (R162). -/
def pfOf (p sv : Rat) : Int := if sv = 0 then 2 ^ 30 else max (-2 ^ 30) (min (2 ^ 30) (rnd 23 (p / sv * (2 ^ 30 : Nat))))

/-- The quantities of the publication window (R158, R159, Table 5-4). `ftag` is the worst tag of f1 in the window and
`freq` its mean in mHz (R188). -/
def mqtValues (s : State) (freq : Nat) (ftag : Tag) : List MqtVal :=
  let w := fun k => vget s.nrg.win k []
  let n := fun k => (w k).length
  let u := fun k => (w k).map Prod.fst
  let tg := fun k => if routed s k then (worst ((w k).map Prod.snd)).worse ftag else .invalid
  let ms := fun k => meanOf (prods (u k) (u k)) (n k)
  let dem := fun k => vget s.nrg.winDem k []
  let ph := fun k => (⟨meanOf ((dem k).map Cx.re) (dem k).length, meanOf ((dem k).map Cx.im) (dem k).length⟩ : Cx)
  let tgF := tg
  let one := fun (ok : Bool) off (v : Word) (t : Tag) => (⟨off, if ok then v else 0, if ok then t else .invalid⟩ : MqtVal)
  let vref := (List.range 3).find? fun k => routed s k
  let qt := fun p => quantT s p (ms p) (ms (p + 3)) (meanOf (prods (u p) (u (p + 3))) (n p))
    (meanOf ((vget s.nrg.winQuad p []).map fun x => x.1 * x.2) (n p)) ((tg p).worse (tg (p + 3)))
  let qf := fun p => quantF s p (ph p) (ph (p + 3)) ((tgF p).worse (tgF (p + 3)))
  let ps := (List.range 3).filter fun p => contributes s p
  let sum := fun (q : Nat → Quant) => (⟨(ps.map fun p => (q p).p).foldl (· + ·) 0, (ps.map fun p => (q p).q).foldl (· + ·) 0,
    (ps.map fun p => (q p).s).foldl (· + ·) 0, if ps = [] then .invalid else worst (ps.map fun p => (q p).tag)⟩ : Quant)
  let grp := fun base (q : Nat → Quant) => (List.range 4).flatMap fun j =>
    let ok := if j < 3 then contributes s j else decide (ps ≠ [])
    let x := if j < 3 then q j else sum q
    [one ok (base + 4 * j) (s32 (rnd 24 (x.p * 100))) x.tag, one ok (base + 0x10 + 4 * j) (s32 (rnd 25 (x.q * 100))) x.tag,
     one ok (base + 0x20 + 4 * j) (u32 (rnd 26 (x.s * 100))) x.tag, one ok (base + 0x30 + 4 * j) (s32 (pfOf x.p x.s)) x.tag]
  let volt := (List.range 3).flatMap fun k =>
    [one (routed s k) (0x1800 + 4 * k) (u32 (rnd 27 (rmsT s k (ms k)))) (tg k),
     one (routed s k) (0x1810 + 4 * k) (u32 (rnd 28 (rmsF s k (ph k)))) (tgF k)]
  let ang := [1, 2].map fun k => match vref with
    | none => (⟨0x1820 + 4 * k, 0, .invalid⟩ : MqtVal)
    | some r => one (routed s k) (0x1820 + 4 * k) (s32 (angleMdeg 29 (argOf (ph k) - argOf (ph r)))) ((tgF k).worse (tgF r))
  let curr := (List.range 5).map fun j =>
    let ok := routed s (j + 3) && !(decide (j = 4) && auxMode s)
    one ok (0x1880 + 4 * j) (u32 (rnd 30 (rmsT s (j + 3) (ms (j + 3)) * 10))) (tg (j + 3))
  let currF := (List.range 3).flatMap fun p =>
    [one (routed s (p + 3)) (0x18A0 + 4 * p) (u32 (rnd 31 (rmsF s (p + 3) (ph (p + 3)) * 10))) (tgF (p + 3)),
     (match refChan s (p + 3) with
      | none => (⟨0x18B0 + 4 * p, 0, .invalid⟩ : MqtVal)
      | some r => one (routed s (p + 3)) (0x18B0 + 4 * p) (s32 (angleMdeg 32 (argOf (ph (p + 3)) - argOf (ph r))))
        ((tgF (p + 3)).worse (tgF r)))]
  let phi := (List.range 3).map fun p =>
    one (contributes s p) (0x19C0 + 4 * p) (s32 (angleMdeg 33 (argOf (ph p) - argOf (ph (p + 3))))) ((tgF p).worse (tgF (p + 3)))
  volt ++ [⟨0x1820, w32 freq, ftag⟩] ++ ang ++ curr ++ currF ++ grp 0x1900 qt ++ grp 0x1980 qf ++ phi

/-- A publication at the end of an aggregation window: MQT is renewed and the open window starts afresh (R158, R163). -/
def publish (freq : Nat) (ftag : Tag) (s : State) : State :=
  { s with nrg := { s.nrg with
    mqt := mqtValues s freq ftag
    stamp := s.nrg.stamp + 1
    win := vmap s.nrg.win fun _ _ => []
    winDem := vmap s.nrg.winDem fun _ _ => []
    winQuad := vmap s.nrg.winQuad fun _ _ => []
    phWin := vmap s.nrg.phWin fun _ _ => [] } }

/-- The window offsets of quantity group g in order, which give each register its tag position (R163, Table 5-4). -/
def mqtOffsets (g : Nat) : List Nat :=
  if g = 0 then [0x1800, 0x1804, 0x1808, 0x1810, 0x1814, 0x1818, 0x1820, 0x1824, 0x1828]
  else if g = 1 then [0x1880, 0x1884, 0x1888, 0x188C, 0x1890, 0x18A0, 0x18A4, 0x18A8, 0x18B0, 0x18B4, 0x18B8]
  else if g = 2 then (List.range 16).map fun j => 0x1900 + 4 * j
  else (List.range 19).map fun j => 0x1980 + 4 * j

/-- The published value at an MQT offset; before the first publication 0, INVALID (R459). -/
def mqtAt (s : State) (off : Nat) : MqtVal := (s.nrg.mqt.find? fun m => m.off = off).getD ⟨off, 0, .invalid⟩

/-- TAG0 (j0 = 0) or TAG1 (j0 = 16) of group g (R163, R459). -/
def mqtTagWord (s : State) (g j0 : Nat) : Word :=
  pack (((mqtOffsets g).drop j0).take 16 |>.mapIdx fun j o => (2 * j, (mqtAt s o).tag.code))

/-! ### Calibration pulse outputs -/

/-- A generator whose state is cleared: E_p with what is still to be spread, and BACKLOG; a pulse goes on (R178, R180). -/
def cfClear (c : CfSt) : CfSt := { c with ep := 0, dE := 0, at_ := 0, backlog := 0 }

/-- A generator that is not enabled or has no owner: its output is inactive from the open round on (R176, R180; log 17). -/
def cfOff (eng : Nat) (c : CfSt) : CfSt :=
  { cfClear c with active := false, endCyc := if c.active then eng * 8192 else c.endCyc }

/-- Generator n. -/
def cfGen (s : State) (n : Nat) : CfSt :=
  vget s.nrg.cf n ⟨0, 0, 0, 0, false, 0, false, none, 0, 0, none⟩

/-- The absolute ENG cycle of a cycle of the open round (R99). -/
def engCycle (s : State) (cyc : Nat) : Nat := s.nrg.eng * 8192 + cyc

/-- E_p of generator n at a cycle of the open round (R177). -/
def cfEp (c : CfSt) (cyc : Nat) : Rat := c.ep + c.dE * (cyc - c.at_ : Nat) / 8192

/-- Energy per pulse of output n in 2^-32 of the LSB (R175). -/
def cfConst (s : State) (n : Nat) : Rat := ((cfgV s (0x7844 + 16 * n)).toNat * 2 ^ 32 : Nat)

/-- The spacing of R177: inactive, for 512 ENG cycles, and 1024 since the previous start. -/
def cfMayStart (c : CfSt) (t : Nat) : Bool :=
  !c.active && (match c.startCyc with
    | none => true
    | some st => decide (c.endCyc + 512 ≤ t) && decide (st + 1024 ≤ t))

/-- The active time in ENG cycles from the spread rate (R178); with no energy arriving the nominal time. -/
def cfActive (s : State) (n : Nat) (c : CfSt) : Nat :=
  let w : Nat := bits (cfgV s (0x7840 + 16 * n)) 15 8 * 65536
  if c.dE ≤ 0 then max 512 w
  else max 512 (min w (cfConst s n / (c.dE / 8192) / 2).floor.toNat)

/-- A pulse starts: COUNT counts and the end is set (R178, Table 5-10). -/
def cfStart (s : State) (n t : Nat) (c : CfSt) : CfSt :=
  { c with active := true, startCyc := some t, endCyc := t + cfActive s n c, count := (c.count + 1) % 2 ^ 32 }

/-- Pulse event of output n at a cycle of the open round: C is subtracted, and the pulse starts, waits in BACKLOG or,
with BACKLOG full, is discarded (R177, R179). It acts only when E_p has reached C. -/
def cfEvent (n cyc : Nat) (s : State) : State :=
  let c := cfGen s n
  let e := cfEp c cyc
  if cfOn s n && decide (cfConst s n ≤ e) && decide (c.at_ ≤ cyc) && decide (cyc ≤ 8192) then
    let c1 := { c with ep := e - cfConst s n, at_ := cyc }
    let t := engCycle s cyc
    let full := decide (65535 ≤ c.backlog) && !(cfMayStart c t && decide (c.backlog = 0))
    let due := match c.lastOvr with
      | none => true
      | some l => decide (l + 60 * 32768 ≤ s.aon)
    let c2 := if cfMayStart c t && decide (c.backlog = 0) then cfStart s n t c1
      else if full then { c1 with overrun := true, discarded := if due then 0 else c.discarded + 1, lastOvr := if due then some s.aon else c.lastOvr }
      else { c1 with backlog := c.backlog + 1 }
    emitAll (evIf (full && due)
        { code := 0x0504, sev := 2, who := who s fun f => decide (f = 0) || holdsRes s f 7 (6 + n),
          w4 := w32 (n + 1), w5 := w32 (c.discarded + 1), w6 := w32 c.backlog })
      { s with nrg := { s.nrg with cf := vmod s.nrg.cf n fun _ => c2 } }
  else s

/-- A waiting pulse of output n starts as soon as the spacing allows (R177). -/
def cfBacklog (n cyc : Nat) (s : State) : State :=
  let c := cfGen s n
  let t := engCycle s cyc
  if cfOn s n && decide (0 < c.backlog) && cfMayStart c t then
    { s with nrg := { s.nrg with cf := vmod s.nrg.cf n fun c => cfStart s n t { c with backlog := c.backlog - 1 } } }
  else s

/-- The active time of output n's pulse ends (R178). -/
def cfEnd (n cyc : Nat) (s : State) : State :=
  let c := cfGen s n
  if c.active && decide (c.endCyc ≤ engCycle s cyc) then
    { s with nrg := { s.nrg with cf := vmod s.nrg.cf n fun c => { c with active := false } } }
  else s

end Sys2Proof.Machine
end

