-- ==== Sys2Proof/Machine/PowerQuality.lean ====
section
/-! DEFINITION. Line frequency, harmonics and supply events (chapter 06): the frequency loop (R184 to R188), aggregation
windows with harmonics and imbalance (R189 to R192), half-cycle RMS and supply events (R193 to R200). -/

namespace Sys2Proof.Machine

open Sys2Proof

/-- Replaces the power quality state. -/
def setPq (s : State) (q : Pq) : State := { s with pq := q }

/-- The nominal frequency of PQ_CFG in mHz (Table 6-5). -/
def nominal (s : State) : Nat := if bit (cfgR s 0x2800) 0 then 60000 else 50000

/-- Line cycles of a window: 10 for 50 Hz, 12 for 60 Hz nominal (R189). -/
def winCycles (s : State) : Nat := if bit (cfgR s 0x2800) 0 then 12 else 10

/-- The state of channel k lets it serve as source (R184). -/
def srcOk (s : State) (k : Nat) : Bool := routed s k && decide ((chan s k).state = .starting ∨ (chan s k).state = .run)

/-- The frequency source (R184); without a KM-FUND instance no loop runs. -/
def freqSource (s : State) : Option Nat :=
  if instsOf s 0x0102 = [] then none
  else ((List.range 3).find? (srcOk s)).or (([3, 4, 5] : List Nat).find? (srcOk s))

/-- The fundamental RMS of the source in 1 mV or 0.1 mA, for FREQ_FALLBACK (Table 6-9). -/
def srcRms (s : State) (k : Nat) : Word :=
  u32 (rnd 40 (rmsF s k (demodulate s k) * (if k < 3 then 1 else 10)))

/-- A quarter of the squared amplitude of the source's fundamental as its RMS register scales it, as a fraction of full scale
squared (R185; Table 5-3). -/
def srcPower (s : State) (k : Nat) : Rat :=
  let m := demodulate s k
  let g := 1 + frac s (0x1180 + 4 * k) 30
  (m.re * m.re + m.im * m.im) * g * g

/-- The fundamental RMS of the source is at least 2 % of FS ÷ √2 (R185). -/
def ampOk (s : State) (k : Nat) : Bool := decide (1 / 10000 ≤ srcPower s k)

/-- Time in fall-back up to now, in AON counts (R186). -/
def fbTime (s : State) : Nat := s.pq.fbT + if s.pq.fallback then s.aon - s.pq.fbFrom else 0

/-- Enters fall-back with a cause, once (R186). -/
def enterFallback (cause : Nat) (s : State) : State :=
  if s.pq.fallback then setPq s { s.pq with good := 0 }
  else
    let src := s.pq.source
    emit { code := 0x0601, unit := (src.map fun k => k + 1).getD 0, sev := 1, who := blockAndF0 s 6, w4 := w32 cause,
           w5 := w32 s.pq.fc, w6 := (src.map fun k => srcRms s k).getD 0 }
      (setPq s { s.pq with
        fallback := true, locked := false, good := 0, fbSince := s.aon, fbFrom := s.aon, fbCount := satInc s.pq.fbCount,
        f1 := nominal s, ftag := if src = none then .invalid else .settling, tenFb := true,
        nomNext := s.nrg.now, halfNext := s.nrg.now })

/-- The source of the round: a change tags f1 SETTLING for 8 cycles, its loss enters fall-back (R184, R186). -/
def sourceRound (s : State) : State :=
  let n := freqSource s
  let s1 :=
    if n = s.pq.source then s
    else setPq s { s.pq with
      source := n
      settleCyc := if s.pq.source = none ∨ n = none then s.pq.settleCyc else 8
      ftag := if s.pq.source = none ∨ n = none then s.pq.ftag else s.pq.ftag.worse .settling
      lastX := none, lastRise := none, lastCross := s.nrg.now, prevFc := none, good := 0 }
  let s2 := if n = none then enterFallback 4 s1 else s1
  let run := (n.map fun k => decide ((chan s k).state = .run)).getD false
  setPq s2 { s2.pq with
    srcRan := s2.pq.srcRan || run
    f1 := if s2.pq.fallback then nominal s2 else s2.pq.f1
    ftag := if s2.pq.fallback then (if n = none then .invalid else .settling) else s2.pq.ftag }

/-- A completed line cycle of the source, of `len` samples (R185 to R187): f_c, its conditions, and what follows. -/
def cycleEnd (src : Nat) (len : Rat) (s : State) : State :=
  let fc := (rnd 41 (8000000 / len)).toNat
  let p0 := s.pq
  let s0 := setPq s { p0 with f1 := if p0.fallback then p0.f1 else fc }
  let amp := ampOk s0 src
  let amp2 := decide (625 / 4000000 ≤ srcPower s0 src)
  let range := decide (40000 ≤ fc) && decide (fc ≤ 70000)
  let step := match p0.prevFc with
    | none => true
    | some f => decide (fc ≤ f + 1000) && decide (f ≤ fc + 1000)
  let tag := (worst (((histOf s src).take len.ceil.toNat).map Prod.snd)).worse (if 1 < p0.settleCyc then .settling else .valid)
  let p := { p0 with
    fc := fc, prevFc := some fc, freqMeas := if amp then fc else 0, settleCyc := p0.settleCyc - 1,
    tenCyc := if amp then p0.tenCyc + 1 else p0.tenCyc, tenDur := if amp then p0.tenDur + len else p0.tenDur,
    tenFb := p0.tenFb || p0.fallback }
  if p0.fallback then
    let good := if amp2 && range && step && decide (40500 ≤ fc) && decide (fc ≤ 69500) then p0.good + 1 else 0
    if 8 ≤ good then
      emit { code := 0x0602, unit := src + 1, sev := 1, who := blockAndF0 s 6, w4 := w32 (min max32 (msOf ((s.aon - p0.fbSince) * 1000))),
             w5 := w32 fc, w6 := w32 src }
        (setPq s { p with fallback := false, locked := true, good := 0, f1 := fc, ftag := tag, fbT := fbTime s })
    else setPq s { p with good := good }
  else if amp && range && step then setPq s { p with locked := true, f1 := fc, ftag := tag }
  else enterFallback (if !amp then 3 else if !range then 1 else 2) (setPq s p)

/-- The crossing of the source fundamental in this round, if any: its time in rounds to 1/256, and whether it is
positive-going (R185). -/
def crossing (s : State) (x : Rat) : Option (Rat × Bool) :=
  match s.pq.lastX with
  | none => none
  | some x0 =>
    let up := decide (x0 < 0) && decide (0 ≤ x)
    let dn := decide (0 < x0) && decide (x ≤ 0)
    if up || dn then
      let t : Rat := (rnd 42 (((s.nrg.now : Rat) - x / (x - x0)) * 256) : Rat) / 256
      some (t, up)
    else none

/-- What the loop reports of a round: a line cycle that ended, with its length, and a half-cycle instant, with how many rounds
back its nearest round boundary lies. -/
structure LoopOut where
  cycle : Option Rat
  half : Option Nat

/-- The rounds from the nearest round boundary of an instant to now: 0 or 1 (R194). -/
def backOf (now : Nat) (t : Rat) : Nat := if 1 / 2 < (now : Rat) - t then 1 else 0

/-- The frequency loop of a round (R185 to R187, R194): crossings while locked, nominal instants in fall-back. The crossing
at which a failed cycle enters fall-back still ends its cycle and is a half-cycle instant. A first crossing, which ends no
measured cycle, counts as one of f1. -/
def loopRound (s : State) : State × LoopOut :=
  let per : Rat := 8000000 / (nominal s : Nat)
  let afterCross : State × Option (Rat × Option Rat) :=
    match s.pq.source with
    | none => (s, none)
    | some src =>
      let x := Config.loopFilter ((histOf s src).map Prod.fst)
      let s1 := setPq s { s.pq with lastX := some x }
      match crossing s x with
      | none =>
        if s1.pq.lastCross + 200 ≤ s1.nrg.now then
          (enterFallback 3 (setPq s1 { s1.pq with lastRise := none, freqMeas := if ampOk s1 src then s1.pq.freqMeas else 0 }), none)
        else (s1, none)
      | some (t, up) =>
        let s2 := setPq s1 { s1.pq with lastCross := s1.nrg.now }
        if up then
          match s2.pq.lastRise with
          | none => (setPq s2 { s2.pq with lastRise := some t }, some (t, some (8000000 / (max s2.pq.f1 1 : Nat))))
          | some t0 => (cycleEnd src (t - t0) (setPq s2 { s2.pq with lastRise := some t }), some (t, some (t - t0)))
        else (s2, some (t, none))
  let s3 := afterCross.1
  let now : Rat := s3.nrg.now
  if s3.pq.fallback && (s.pq.fallback || afterCross.2.isNone) then
    let cyc := decide (s3.pq.nomNext + per ≤ now)
    let hlf := decide (s3.pq.halfNext + per / 2 ≤ now)
    (setPq s3 { s3.pq with
      nomNext := if cyc then s3.pq.nomNext + per else s3.pq.nomNext
      halfNext := if hlf then s3.pq.halfNext + per / 2 else s3.pq.halfNext },
     ⟨if cyc then some per else none, if hlf then some (backOf s3.nrg.now (s3.pq.halfNext + per / 2)) else none⟩)
  else (s3, ⟨afterCross.2.bind Prod.snd, afterCross.2.map fun x => backOf s3.nrg.now x.1⟩)

/-! ### Windows, harmonics, imbalance -/

/-- Point j of the 2048 to which KQ-HALF resamples a window, oldest sample first (R190): between its neighbours, with a correction
within their distance (log 13). -/
def resampled (us : List Rat) (j : Nat) : Rat :=
  let p : Rat := (j : Rat) * (us.length : Nat) / 2048
  let i := p.floor.toNat
  let a := us.getD i 0
  let b := us.getD (i + 1) a
  let t := p - (i : Nat)
  if t = 0 then a else a + t * (b - a) + trim (max a b - min a b) (Config.resample t us)

/-- The squared RMS value of bin k of the DFT of 2048 points (R190, R191). -/
def dftSq (xs : List Rat) (k : Nat) : Rat :=
  let sum := fun (f : Rat → Rat) =>
    (xs.mapIdx fun j x => x * f ((j * k % 2048 : Nat) / 2048)).foldl (· + ·) 0 / 2048
  let c := sum cosT
  let d := sum sinT
  (c * c + d * d) * (if k = 0 then 1 else 2)

/-- Squared value of bin k of channel c's window, in the unit of its MQT RMS register (R191). -/
def binSq (s : State) (c : Nat) (k : Nat) : Rat :=
  let us := ((vget s.nrg.win c []).map Prod.fst).reverse
  let fs := fsOf s c * (if c < 3 then 1 else 10)
  dftSq ((List.range 2048).map (resampled us)) k * fs * fs

/-- G_h squared: the harmonic group, or the subgroup with GROUPING = 1 (R191). -/
def groupSq (s : State) (c h : Nat) : Rat :=
  let n := winCycles s
  let k := n * h
  if bit (cfgR s 0x2800) 2 then binSq s c (k - 1) + binSq s c k + binSq s c (k + 1)
  else
    let m := n / 2
    binSq s c (k - m) / 2 + binSq s c (k + m) / 2
      + ((List.range (2 * m - 1)).map fun i => binSq s c (k - (m - 1) + i)).foldl (· + ·) 0

/-- Harmonics and THD of channel c's window: G_1 to G_50, THD in 0.001 %, and whether THD is defined (R191). -/
def harmonics (s : State) (c : Nat) : List Nat × Nat × Bool :=
  let g := (List.range 50).map fun i => groupSq s c (i + 1)
  let g1 := g.headD 0
  let fs := fsOf s c * (if c < 3 then 1 else 10)
  let ok := decide (fs * fs / 20000 ≤ g1)
  (g.map fun x => (u32 (rnd 43 (sqrtR 44 x))).toNat,
   if ok then (u32 (rnd 45 (sqrtR 46 (g.tail.foldl (· + ·) 0 / g1) * 100000))).toNat else 0, ok)

/-- Symmetrical components of three mean phasors: squared magnitudes of U1, U2, U0 times 9 (R192). -/
def symComp (a b c : Cx) : Rat × Rat × Rat :=
  let h := sqrtR 47 (3 / 4)
  let rot := fun (x : Cx) (sg : Rat) => (⟨-x.re / 2 - sg * h * x.im, -x.im / 2 + sg * h * x.re⟩ : Cx)
  let mag := fun (x y z : Cx) => (x.re + y.re + z.re) * (x.re + y.re + z.re) + (x.im + y.im + z.im) * (x.im + y.im + z.im)
  (mag a (rot b 1) (rot c (-1)), mag a (rot b (-1)) (rot c 1), mag a b c)

/-- Imbalance values of the channels k, k+1, k+2, which KQ-HALF computes for channels of its set: negative and zero sequence in
0.001 % with tags (R192). -/
def imbalance (s : State) (k : Nat) (delta : Bool) (ftag : Tag) : (Nat × Tag) × (Nat × Tag) :=
  let w := fun j => vget s.nrg.phWin (k + j) []
  let mean := fun j => (⟨meanOf ((w j).map fun x => x.1.re) (w j).length, meanOf ((w j).map fun x => x.1.im) (w j).length⟩ : Cx)
  let tag := (worst ((w 0 ++ w 1 ++ w 2).map Prod.snd)).worse ftag
  let one := fun j => routed s (k + j) && inSet s 0x0201 (k + j) && !kernelStopped s 0x0201 (k + j)
  let all := one 0 && one 1 && one 2 && decide (tag ≠ .invalid)
  let r := symComp (mean 0) (mean 1) (mean 2)
  let ok := all && decide (9 / 40000 ≤ r.1) && decide (0 < r.1)
  let val := fun (x : Rat) => (u32 (rnd 48 (sqrtR 49 (x / r.1) * 100000))).toNat
  ((if ok then val r.2.1 else 0, if ok then tag else .invalid),
   (if ok && !delta then val r.2.2 else 0, if ok && !delta then tag else .invalid))

/-- The end of an aggregation window: harmonics, imbalance, MQT and stamps renewed (R158, R188 to R192). -/
def windowEnd (s : State) : State :=
  let p := s.pq
  let ftag := p.winFtag.worse (if p.winSettle then .settling else .valid)
  let harm := fun k => inSet s 0x0202 k && routed s k
  let wt := fun k => if anyStopped s 0x0202 then .invalid else (worst ((vget s.nrg.win k []).map Prod.snd)).worse ftag
  let delta := bit (cfgR s 0x2800) 1
  let v := imbalance s 0 delta ftag
  let i := imbalance s 3 delta ftag
  let freq := (rnd 50 (if p.winLen = 0 then 0 else p.winF / p.winLen)).toNat
  let stamp := (p.wstamp + 1) % 2 ^ 32
  let p1 := { p with
    wstamp := stamp, cycInWin := 0, winLen := 0, winF := 0, winFtag := .valid, winSettle := false
    imb := Vector.ofFn fun (j : Fin 4) => [v.1.1, v.2.1, i.1.1, i.2.1].getD j.val 0
    imbTag := Vector.ofFn fun (j : Fin 4) => [v.1.2, v.2.2, i.1.2, i.2.2].getD j.val .invalid
    thd := vmap p.thd fun k x => if harm k then (harmonics s k).2.1 else x
    harm := vmap p.harm fun k x => if harm k then (harmonics s k).1 else x
    hinfoTag := vmap p.hinfoTag fun k x => if harm k then (if (harmonics s k).2.2 then wt k else .invalid) else x
    hinfoStamp := vmap p.hinfoStamp fun k x => if harm k then stamp % 65536 else x }
  publish freq ftag (setPq s p1)

/-- A line cycle, measured or nominal, has ended: phasors are renewed and the window counts it (R158, R188, R189). -/
def cycleRound (len : Rat) (s : State) : State :=
  let s1 := renewPhasors s
  let p := s1.pq
  if p.winOn then
    let s2 := setPq s1 { p with
      cycInWin := p.cycInWin + 1, winLen := p.winLen + len, winF := p.winF + len * p.f1 }
    if winCycles s2 ≤ s2.pq.cycInWin then windowEnd s2 else s2
  else
    let nrg := s1.nrg
    { setPq s1 { p with winOn := true, cycInWin := 0, winLen := 0, winF := 0, winFtag := .valid } with
      nrg := { nrg with win := vmap nrg.win fun _ _ => [], winDem := vmap nrg.winDem fun _ _ => []
                        winQuad := vmap nrg.winQuad fun _ _ => []
                        phWin := vmap nrg.phWin fun _ _ => [] } }

/-! ### Half-cycle RMS and supply events -/

/-- U(½) of the evaluated voltage j in mV and the worst tag of its samples over the line-period window that ends `back` rounds ago:
star a channel, delta the difference of two, sample by sample (R193, R194). -/
def halfRms (s : State) (back j : Nat) : Nat × Tag :=
  let l := lineLen s
  let n := l.ceil.toNat
  let h := fun k => (histOf s k).drop back
  let tag := fun k => if (h k).length < n ∨ kernelStopped s 0x0201 k = true then Tag.invalid else worst (((h k).take n).map Prod.snd)
  if bit (cfgR s 0x2800) 1 then
    let a := j
    let b := (j + 1) % 3
    let x := fun k => (h k).map fun u => u.1 * (1 + frac s (0x1180 + 4 * k) 30) * fsOf s k
    let d := List.zipWith (· - ·) (x a) (x b)
    let off := fun k => ((cfgR s (0x11A0 + 4 * k)).toNat : Rat) / (2 ^ 48 : Nat) * fsOf s k * fsOf s k
    ((u32 (rnd 51 (sqrtR 52 (max 0 (lineMean (prods d d) l - off a - off b))))).toNat, (tag a).worse (tag b))
  else
    let u := (h j).map Prod.fst
    ((u32 (rnd 53 (rmsT s j (lineMean (prods u u) l)))).toNat, tag j)

/-- Evaluated voltage j takes part: its channels are routed and in the KQ-HALF channel set (R193). -/
def evaluated (s : State) (j : Nat) : Bool :=
  let one := fun k => routed s k && inSet s 0x0201 k
  if bit (cfgR s 0x2800) 1 then one j && one ((j + 1) % 3) else one j

/-- A channel's half-cycle value at an instant, if present (R196). -/
def halfAt (s : State) (j : Nat) : Option Nat :=
  if evaluated s j && decide (vget s.pq.hrmsTag j .invalid ≠ .invalid) then some (vget s.pq.hrms j 0) else none

/-- The start condition of type t, 0 sag, 1 swell, 2 interruption, on a value in mV (R195). -/
def startCond (s : State) (t u : Nat) : Bool :=
  let thr := cfgR s 0x2808
  let ud := (cfgR s 0x2804).toNat
  if t = 0 then decide (u * 200 < ud * bits thr 7 0)
  else if t = 1 then decide (ud * bits thr 15 8 < u * 200)
  else decide (u * 200 < ud * bits thr 23 16)

/-- The end condition of type t (R195). -/
def endCond (s : State) (t u : Nat) : Bool :=
  let thr := cfgR s 0x2808
  let ud := (cfgR s 0x2804).toNat
  let h := bits thr 31 24
  if t = 0 then decide (ud * (bits thr 7 0 + h) ≤ u * 200)
  else if t = 1 then decide (u * 200 ≤ ud * (bits thr 15 8 - h))
  else decide (ud * (bits thr 23 16 + h) ≤ u * 200)

/-- Event of type t on channel j, or polyphase for j = 3. -/
def supEv (s : State) (t j : Nat) : SupEv := vget s.pq.ev (4 * t + j) SupEv.none

/-- w4 of SUPPLY_START and SUPPLY_END (Table 6-9). -/
def supW4 (t j : Nat) (e : SupEv) (trunc lost : Bool) : Word :=
  pack [(0, t + 1), (4, e.chans), (7, b2n (decide (j = 3))), (8, b2n trunc), (9, b2n lost), (10, b2n e.late), (11, b2n e.intr),
    (12, b2n e.fb), (16, e.exChan)]

/-- Unit and severity of a supply event (R203). -/
def supUnit (t j : Nat) : Nat × Nat := (if j = 3 then 0 else j + 1, if j = 3 ∧ t = 2 then 2 else 1)

/-- Ends the event of type t on j at round `at_`: count, cumulative duration and SUPPLY_END (R198, R200). -/
def endSupply (t j at_ : Nat) (trunc lost : Bool) (s : State) : State :=
  let e := supEv s t j
  if e.on then
    let ms := min max32 ((at_ - e.start + 4) / 8)
    let s1 := setPq s { s.pq with
      ev := vmod s.pq.ev (4 * t + j) fun _ => SupEv.none
      counts := vmod s.pq.counts (4 * t + j) satInc
      durs := if j = 3 then vmod s.pq.durs t fun d => satAdd d ms else s.pq.durs }
    match e.number with
    | none => s1
    | some n => emit { code := 0x0604, unit := (supUnit t j).1, sev := (supUnit t j).2, who := blockAndF0 s 6,
                       w4 := supW4 t j e trunc lost, w5 := w32 ms, w6 := w32 e.extreme, w7 := w32 n } s1
  else s

/-- Starts an event of type t on j with value u of channel ch (R195, R197, R200). -/
def startSupply (t j : Nat) (chs u ch : Nat) (late : Bool) (s : State) : State :=
  let rec_ := bits (cfgR s 0x2800) 5 4
  let sel := if j = 3 then decide (rec_ ≠ 1) else decide (rec_ ≠ 0)
  let n := (s.pq.evtIndex + 1) % 2 ^ 32
  let e : SupEv := { on := true, start := s.pq.lastHalf, extreme := u, exChan := ch, chans := chs, late := late, intr := false,
                     fb := s.pq.fallback, number := if sel then some n else none }
  let s1 := setPq s { s.pq with
    ev := vmod s.pq.ev (4 * t + j) fun _ => e
    evtIndex := if sel then n else s.pq.evtIndex }
  if sel then emit { code := 0x0603, unit := (supUnit t j).1, sev := (supUnit t j).2, who := blockAndF0 s 6,
                     w4 := supW4 t j e false false, w6 := w32 u, w7 := w32 n } s1
  else s1

/-- Channels present at the instant, with their values. -/
def present (s : State) : List (Nat × Nat) := (List.range 3).filterMap fun j => (halfAt s j).map fun u => (j, u)

/-- Whether the event of type t on j ends now, and by loss of its channels (R196, R197). -/
def supplyEnds (s : State) (t j : Nat) : Option Bool :=
  let e := supEv s t j
  if !e.on then none
  else if j = 3 then
    let ps := present s
    if ps = [] then some true
    else if t = 2 then (if ps.any fun x => endCond s t x.2 then some false else none)
    else if ps.all fun x => endCond s t x.2 then some false else none
  else match halfAt s j with
    | none => some true
    | some u => if endCond s t u then some false else none

/-- Ends what ends at this instant: sag, swell, interruption, each channels A, B, C, then polyphase (R200). -/
def supplyEndAll (s : State) : State :=
  (List.range 12).foldl (fun a i =>
    match supplyEnds a (i / 4) (i % 4) with
    | none => a
    | some lost => endSupply (i / 4) (i % 4) a.pq.lastHalf false lost a) s

/-- Starts what starts at this instant, in the order of R200; `late` marks the arming instant (R199). -/
def supplyStartAll (late : Bool) (s : State) : State :=
  (List.range 12).foldl (fun a i =>
    let t := i / 4
    let j := i % 4
    if (supEv a t j).on then a
    else if j = 3 then
      let ps := present a
      let hit := ps.filter fun x => startCond a t x.2
      match hit with
      | [] => a
      | x :: _ => if t = 2 ∧ hit.length ≠ ps.length then a
        else startSupply t 3 (maskOf 3 fun c => hit.any fun y => decide (y.1 = c)) x.2 x.1 late a
    else match halfAt a j with
      | none => a
      | some u => if startCond a t u then startSupply t j (2 ^ j) u j late a else a) s

/-- Events in progress take the instant's values: taking channels, extremes and flags (R197). -/
def supplyTrack (s : State) : State :=
  setPq s { s.pq with ev := vmap s.pq.ev fun i e =>
    let t := i / 4
    let j := i % 4
    if e.on then
      let takes := (present s).filter fun x => if j = 3 then (supEv s t x.1).on else decide (x.1 = j)
      let better := fun u => if t = 1 then decide (e.extreme < u) else decide (u < e.extreme)
      let ext := takes.foldl (fun (b : Nat × Nat) x =>
        if (if t = 1 then decide (b.1 < x.2) else decide (x.2 < b.1)) then (x.2, x.1) else b) (e.extreme, e.exChan)
      let any := takes.any fun x => better x.2
      { e with
        chans := takes.foldl (fun m x => if nbit m x.1 then m else m + 2 ^ x.1) e.chans
        extreme := if any then ext.1 else e.extreme
        exChan := if any then ext.2 else e.exChan
        intr := e.intr || (decide (t = 0) && (supEv s 2 j).on)
        fb := e.fb || s.pq.fallback }
    else e }

/-- Detection is armed: EVT_EN, PQ_UDIN set, and the source has reached RUN since the start (R195). -/
def evtArmed (s : State) : Bool :=
  bit (cfgR s 0x2800) 3 && decide ((cfgR s 0x2804).toNat ≠ 0) && s.pq.srcRan

/-- A half-cycle instant whose round boundary lies `back` rounds ago (R194 to R200). A fall-back since the instant before marks the
events in progress, those that end here included. -/
def halfRound (back : Nat) (s : State) : State :=
  let get := fun j => if evaluated s j then halfRms s back j else (0, Tag.invalid)
  let s1 := setPq s { s.pq with
    hrms := vmap s.pq.hrms fun j _ => (get j).1
    hrmsTag := vmap s.pq.hrmsTag fun j _ => (get j).2
    lastHalf := s.nrg.now - back }
  if evtArmed s1 then
    let late := !s1.pq.armed
    let s2 := supplyTrack (supplyStartAll late (supplyEndAll s1))
    setPq s2 { s2.pq with armed := true }
  else setPq s1 { s1.pq with armed := false }

/-- While fall-back lasts every supply event in progress carries its flag (Table 6-9). -/
def markFallback (s : State) : State :=
  if s.pq.fallback then setPq s { s.pq with ev := vmap s.pq.ev fun _ e => { e with fb := e.fb || e.on } } else s

/-- Every event in progress ends at the last half-cycle instant with TRUNCATED (R199). -/
def truncateSupply (s : State) : State :=
  (List.range 12).foldl (fun a i => endSupply (i / 4) (i % 4) a.pq.lastHalf true false a) s

/-- A change of PQ_CFG or PQ_UDIN takes effect at the boundary: events are truncated and the window alignment restarts,
SETTLING for one window (R199). -/
def pqConfigTakes (s : State) : State :=
  let ch := fun off => decide (cfgV s off ≠ cfgR s off)
  if ch 0x2800 || ch 0x2804 then
    let s1 := truncateSupply s
    setPq s1 { s1.pq with winOn := false, winSettle := true, armed := false }
  else s

/-- Power quality's part of a round while MOD runs: source, loop, windows and half cycles. The open window takes the tag that f1
has in the round (R188, R190). The second part says that a line cycle, measured or nominal, has ended. -/
def pqRound (s : State) : State × Bool :=
  let s0 := sourceRound s
  let s1 := setPq s0 { s0.pq with winFtag := s0.pq.winFtag.worse (fTagNow s0) }
  let r := loopRound s1
  let s2 := match r.2.cycle with
    | none => r.1
    | some len => cycleRound len r.1
  let s3 := markFallback s2
  let s4 := match r.2.half with
    | none => s3
    | some back => halfRound back s3
  (setPq s4 { s4.pq with tenFb := s4.pq.tenFb || s4.pq.fallback }, r.2.cycle.isSome)

/-- A 10 s interval of AON time ends: PQ_FREQ_10S and its tag (R188). Without a measured cycle the value is 0, INVALID. -/
def tenSeconds (s : State) : State :=
  if s.pq.tenAt + 327680 ≤ s.aon then
    let p := s.pq
    let some_ := decide (0 < p.tenCyc) && decide (0 < p.tenDur)
    setPq s { p with
      freq10 := if some_ then (rnd 54 ((p.tenCyc : Rat) * 8000000 / p.tenDur)).toNat else 0
      f10tag := if !some_ then .invalid else if p.tenFb then .settling else .valid
      tenCyc := 0, tenDur := 0, tenFb := p.fallback, tenAt := s.aon }
  else s

/-- PQ_CTRL CLR_COUNTERS (R201). -/
def pqClear (s : State) : State :=
  setPq s { s.pq with counts := Vector.replicate 12 0, durs := Vector.replicate 3 0, fbCount := 0, fbT := 0, fbFrom := s.aon }

/-- PQ_STATUS (Table 6-7). -/
def pqStatus (s : State) : Word :=
  let p := s.pq
  let act := fun t => maskOf 3 fun j => (supEv s t j).on
  pack [(0, b2n p.locked), (1, b2n p.fallback), (2, p.ftag.code), (4, b2n (evtArmed s)), (5, b2n p.thrReject),
    (6, p.f10tag.code), (8, act 0), (12, act 1), (16, act 2), (20, b2n (supEv s 0 3).on), (21, b2n (supEv s 1 3).on),
    (22, b2n (supEv s 2 3).on), (24, p.source.getD 7)]

end Sys2Proof.Machine
end

