-- ==== Sys2Proof/Machine/Battery.lean ====
section
/-! DEFINITION. Backup supply and battery estimation (chapter 10): sampling modes, charge and uncertainty, cell presence,
tables, anchors, capacity learning, and the estimates for rechargeable and primary cells. -/

namespace Sys2Proof.Machine

open Sys2Proof

/-! ### Configuration and tables -/

/-- BAT_CFG.TYPE: 0 LiFePO4, 1 Li-SOCl2, 2 custom. -/
def batType (s : State) : Nat := bits (cfgV s 0x4000) 1 0

/-- The cell is a primary cell (R291). -/
def batPrimary (s : State) : Bool := decide (batType s = 1) || (decide (batType s = 2) && bit (cfgV s 0x4000) 2)

/-- A table register: built-in values with TABLES = 0, else the values held (R291). -/
def batTab (s : State) (off : Nat) : Word :=
  let b := Config.batTable (batType s) off
  if bit (cfgV s 0x4000) 4 then (cfgFind s.cfg off).getD b else b

/-- BAT_QUIET.I_Q in µA. -/
def iQ (s : State) : Rat := (bits (cfgV s 0x400C) 15 0 : Nat)

/-- The absolute value. -/
def absR (x : Rat) : Rat := if x < 0 then -x else x

/-- BAT_CAP_NOM in µAh. -/
def capNom (s : State) : Rat := ((cfgV s 0x4008).toNat : Nat)

/-- The derated nameplate (R296). -/
def derated (s : State) : Rat := capNom s * (cfgV s 0x4018).toNat / 65536

/-- V_EMPTY and V_FULL in mV; Li-SOCl2 has no V_FULL (Table 10-5). -/
def vEmpty (s : State) : Nat :=
  let v := bits (cfgV s 0x4010) 15 0
  if v ≠ 0 then v else if batType s = 0 then 2500 else if batType s = 1 then 3000 else Config.customEmpty
/-- V_FULL in mV. -/
def vFull (s : State) : Option Nat :=
  let v := bits (cfgV s 0x4010) 31 16
  if v ≠ 0 then some v else if batType s = 0 then some 3600 else if batType s = 1 then none else some Config.customFull

/-- Signed byte i of a word. -/
def sByte (w : Word) (i : Nat) : Int := sgnOf 8 (bits w (8 * i + 7) (8 * i))

/-- Half i of a word. -/
def halfOf (w : Word) (i : Nat) : Nat := if i % 2 = 0 then bits w 15 0 else bits w 31 16

/-- The 16 SoC points in % (R292). -/
def socPoints : List Nat := [0, 5, 10, 15, 20, 30, 40, 50, 60, 70, 80, 85, 90, 95, 98, 100]

/-- OCV of temperature column j at SoC point p, in 0.1 mV. -/
def ocvEntry (tab : Nat → Word) (j p : Nat) : Nat := halfOf (tab (0x4044 + 4 * (8 * j + p / 2))) p

/-- The OCV column at a temperature in °C: SoC in % against 0.1 mV (R292). -/
def ocvColumn (s : State) (t : Rat) : List (Rat × Rat) :=
  socPoints.mapIdx fun (p : Nat) (soc : Nat) =>
    ((soc : Rat), interp ((List.range 4).map fun (j : Nat) => ((sByte (batTab s 0x4040) j : Rat), (ocvEntry (batTab s) j p : Rat))) t)

/-- Capacity table temperature i. -/
def capTemp (tab : Nat → Word) (i : Nat) : Int := sByte (tab (0x40C4 + 4 * (i / 4))) (i % 4)
/-- Capacity table rate r in 0.001 C. -/
def capRate (tab : Nat → Word) (r : Nat) : Nat := halfOf (tab (0x40CC + 4 * (r / 2))) r
/-- Capacity fraction at temperature i and rate r, 2^-15. -/
def capFrac (tab : Nat → Word) (i r : Nat) : Nat := halfOf (tab (0x40DC + 4 * (4 * i + r / 2))) r
/-- R_cell at temperature i, 0.1 mΩ. -/
def cellRes (tab : Nat → Word) (i : Nat) : Nat := halfOf (tab (0x415C + 4 * (i / 2))) i

/-- The capacity fraction f, bilinear, end values held outside (R292). -/
def capAt (s : State) (t rate : Rat) : Rat :=
  interp ((List.range 8).map fun i => ((capTemp (batTab s) i : Rat),
    interp ((List.range 8).map fun r => ((capRate (batTab s) r : Rat), (capFrac (batTab s) i r : Rat))) rate)) t / 32768

/-- R_cell in 0.1 mΩ at a temperature (R292). -/
def resAt (s : State) (t : Rat) : Rat := interp ((List.range 8).map fun i => ((capTemp (batTab s) i : Rat), (cellRes (batTab s) i : Rat))) t

/-- A list strictly increases. -/
def rising : List Int → Bool
  | a :: b :: r => decide (a < b) && rising (b :: r)
  | _ => true

/-- The rules of R291 on a configuration word and the tables in use. -/
def batCfgOk (cfg : Word) (tab : Nat → Word) : Bool :=
  let ty := bits cfg 1 0
  decide (ty ≠ 3) && (decide (ty ≠ 2) || bit cfg 4) && (!bit cfg 2 || decide (ty = 2))
    && (!bit cfg 4 ||
      (rising ((List.range 4).map fun j => sByte (tab 0x4040) j)
        && (List.range 4).all (fun j => rising ((List.range 16).map fun p => (ocvEntry tab j p : Int)))
        && rising ((List.range 8).map fun i => capTemp tab i)
        && rising ((List.range 8).map fun r => (capRate tab r : Int))
        && (List.range 8).all (fun i => (List.range 8).all fun r => decide (0x0800 ≤ capFrac tab i r) && decide (capFrac tab i r ≤ 0x8000))
        && (List.range 8).all fun i => decide (cellRes tab i ≠ 0)))

/-! ### State and tags -/

/-- Changes the gauge. -/
def setBat (f : Bat → Bat) (s : State) : State := { s with bat := f s.bat }

/-- The gauge is enabled and instantiated (Table 10-4). -/
def gaugeOn (s : State) : Bool := bit (cfgV s 0x4000) 5 && instsOf s 0x0501 != []

/-- The tag of voltage and current (Table 10-4). -/
def batMtag (s : State) : Tag := if s.bat.state = .run then .valid else .invalid

/-- The tag of the temperature (Table 10-6). -/
def batTtag (s : State) : Tag := if s.bat.state = .run then (if s.bat.bthFault then .settling else .valid) else .invalid

/-- The tag of the estimates (Table 10-4). -/
def batEtag (s : State) : Tag :=
  match s.bat.state with
  | .run => if s.bat.anchored && !s.bat.bthFault then .valid else .settling
  | .hold => .held
  | _ => .invalid

/-- The gauge enters STARTING: ACTIVE, with no complete set of measurements yet (R299). -/
def batEnter (s : State) : State :=
  setBat (fun b => { b with
    state := .starting, mode := 0, interval := 1, gotI := false, gotV := false, frameNo := 0, quietRun := 0, lastAt := s.aon
    lowSince := none, restFrom := none, stepFrom := none, fullSince := none, emptySince := none }) s

/-- A BAT event (R304). -/
def batEv (s : State) (code sev : Nat) (w4 w5 w6 w7 : Word) : Ev :=
  { code := code, unit := 0x20, sev := sev, who := blockAndF0 s 10, w4 := w4, w5 := w5, w6 := w6, w7 := w7 }

/-! ### Estimates -/

/-- Cell temperature in °C. -/
def batT (s : State) : Rat := (s.bat.temp : Rat) / 256

/-- The capacity fraction at the present temperature and rate (R292, R293). -/
def batF (s : State) : Rat :=
  let low : Rat := (capRate (batTab s) 0 : Nat)
  capAt s (batT s) (if s.bat.iavg < 0 ∧ capNom s ≠ 0 then absR s.bat.iavg / capNom s * 1000 else low)

/-- Full-charge capacity (R293, R296). -/
def batFcc (s : State) : Rat := if batPrimary s then derated s else s.bat.fcc

/-- Remaining capacity, SoC and time to empty from SoC_abs or the used charge (R293, R296, R298); a cell found empty now has
none left (R297). -/
def estimate (emptied : Bool) (s : State) : State :=
  let b := s.bat
  let fcc := batFcc s
  let f := batF s
  let left := if batPrimary s then max 0 (fcc - b.used / 1000) else max 0 ((b.socAbs - (1 - f)) * fcc)
  let rm := if emptied then 0 else left
  let soc := if batPrimary s then (if fcc = 0 then 0 else rm / fcc) else (if f * fcc = 0 then 0 else rm / (f * fcc))
  let still := decide (rm ≤ fcc / 100)
  setBat (fun b => { b with
    fcc := fcc, rm := rm, soc := min 10000 (soc * 10000).floor.toNat, empty := emptied || (b.empty && still)
    tte := if b.iavg < -(iQ s) / 8 then min (rm / absR b.iavg * 60).floor.toNat max32 else max32 }) s

/-- SoC_abs in 0.01 %, for events; the rounding is unstated (log 6). -/
def socShow (x : Rat) : Word := u32 (rnd 120 (x * 10000))

/-- An anchor of a kind: 1 REST, 2 FULL, 3 FAST (R294), with FCC learning (R295). -/
def batAnchor (kind : Nat) (soc : Rat) (mark : Bool) (s : State) : State :=
  let b := s.bat
  let learn := match b.anchor with
    | none => none
    | some a =>
      let dq := absR (b.charge - a.2) / 1000
      let ds := absR (soc - a.1)
      if kind ≠ 3 ∧ 2 / 5 ≤ ds ∧ b.unc / 1000 ≤ dq / 100 ∧ capNom s / 2 ≤ dq / ds ∧ dq / ds ≤ capNom s * 6 / 5 then some (dq / ds) else none
  let new := match learn with
    | none => b.fcc
    | some c => b.fcc + (c - b.fcc) / 4
  let e1 := batEv s 0x0A04 0 (w32 kind) (socShow b.socAbs) (socShow soc) (w32 (rnd 121 b.unc).toNat)
  let e2 := match learn with
    | none => []
    | some c => [batEv s 0x0A05 1 (u32 (rnd 122 b.fcc)) (u32 (rnd 122 c)) (u32 (rnd 122 new)) 0]
  emitAll (e1 :: e2) (setBat (fun b => { b with
    socAbs := soc, unc := 0, fcc := new, anchored := b.anchored || mark
    anchor := if kind = 3 then none else some (soc, b.charge)
    fastFrom := if kind = 3 then none else b.fastFrom
    restFrom := if kind = 1 then some s.aon else b.restFrom
    fullSince := if kind = 2 then none else b.fullSince }) s)

/-- The inverse OCV lookup at V - I R_cell, and whether the slope there reaches OCV_SLOPE_MIN (R292, R294). -/
def ocvLookup (s : State) : Rat × Bool :=
  let col := ocvColumn s (batT s)
  let v : Rat := (s.bat.volt : Rat) - s.bat.curr * resAt s (batT s) / 1000000
  let soc := interp (col.map fun p => (p.2, p.1)) v
  let seg := (List.zip col col.tail).find? fun p => decide (soc ≤ p.2.1)
  let slope := match seg with
    | none => 0
    | some p => (p.2.2 - p.1.2) * 100 / (p.2.1 - p.1.1)
  (soc / 100, decide ((bits (cfgV s 0x400C) 31 16 : Rat) ≤ slope))

/-- Whether a run that began at `t` has lasted n seconds. -/
def lasted (t : Option Nat) (now n : Nat) : Bool :=
  match t with
  | none => false
  | some a => decide (a + n * 32768 ≤ now)

/-- The anchors of a rechargeable cell that are due now: FAST, FULL, REST (R294). -/
def anchorsDue (s : State) : State :=
  if batPrimary s then s
  else
    let l := ocvLookup s
    let s1 := if lasted s.bat.fastFrom s.aon 60 && s.bat.gotV then batAnchor 3 l.1 l.2 s else s
    let s2 := if lasted s1.bat.fullSince s1.aon 60 then batAnchor 2 1 true s1 else s1
    let k := ocvLookup s2
    if lasted s2.bat.restFrom s2.aon (bits (cfgV s 0x4000) 31 16) && s2.bat.gotV && k.2 then batAnchor 1 k.1 true s2 else s2

/-- The estimates of a frame or interval; after 60 s below V_EMPTY while discharging the cell is empty, and SoC_abs of a
rechargeable one is what it cannot give (R293, R297). -/
def estimates (s : State) : State :=
  let emp := lasted s.bat.emptySince s.aon 60
  estimate emp (if emp && !batPrimary s then setBat (fun b => { b with socAbs := 1 - batF s }) s else s)

/-- BAT_LOW (R297). -/
def batLow (s : State) : State :=
  let b := s.bat
  let low := bits (cfgV s 0x4000) 15 8 * 100
  let under := decide (b.soc < low) && !b.lowDone
  let emp := b.empty && !b.emptyDone
  let up := decide (low + 500 ≤ b.soc)
  emitAll (evIf (under || emp) (batEv s 0x0A03 2 (w32 b.soc) (w32 (b2n b.empty)) (u32 (rnd 123 b.rm)) 0))
    (setBat (fun b => { b with
      lowDone := if up then false else b.lowDone || under
      emptyDone := if up then false else b.emptyDone || emp }) s)

/-- Runs of conditions after a sample (R287, R294, R297). -/
def batRuns (s : State) : State :=
  let b := s.bat
  let small := decide (absR b.curr < iQ s / 8)
  let keep := fun (c : Bool) (t : Option Nat) => if c then t.or (some s.aon) else none
  let full := match vFull s with
    | none => false
    | some v => b.gotV && decide (v * 10 ≤ b.volt) && decide (0 < b.curr) && decide (b.curr < capNom s / 50)
  let emp := b.gotV && decide (b.volt < vEmpty s * 10) && decide (b.curr < 0)
  setBat (fun b => { b with
    lowSince := keep small b.lowSince, restFrom := keep small b.restFrom, stepFrom := keep small b.stepFrom
    fastFrom := if small then b.fastFrom else none
    fullSince := keep full b.fullSince, emptySince := keep emp b.emptySince }) s

/-- Charge q in nAh moves over dt seconds at mean current im, with uncertainty u; then the estimates (R288, R293, R295,
R296, R298). -/
def batCharge (q u im dt : Rat) (s : State) : State :=
  let fcc := batFcc s
  let out := if q < 0 then -q else 0
  let s1 := setBat (fun b => { b with
    charge := b.charge + q, unc := b.unc + u, used := b.used + out
    intoPrimary := b.intoPrimary || (batPrimary s && decide (0 < q))
    socAbs := if fcc = 0 then b.socAbs else max 0 (min 1 (b.socAbs + q / 1000 / fcc))
    cycles := if batPrimary s || decide (fcc = 0) then b.cycles else b.cycles + out / 1000 / fcc * 100
    iavg := b.iavg + (im - b.iavg) * min 1 (dt / 600) }) s
  batLow (estimates (anchorsDue (batRuns s1)))

/-! ### Conversions -/

/-- A shunt voltage in nV to µA (R286). -/
def shuntI (s : State) (nv : Int) : Rat :=
  let r := (cfgV s 0x4004).toNat
  if r = 0 then Config.zeroShunt nv else (nv : Rat) * 1000 / r

/-- A voltage and temperature slot: cell voltage, thermistor and BTH_FAULT (R286). -/
def takeVT (x : GaugeVT) (s : State) : State :=
  let w := cfgV s 0x4014
  let bad := decide (x.ratio < 0) || decide (1 ≤ x.ratio)
  let t := Config.thermistor (bits w 15 0) (10 * bits w 31 16) (10000 * x.ratio / (1 - x.ratio))
  let flt := bad || decide (t < -45) || decide (110 < t)
  setBat (fun b => { b with volt := x.volt, gotV := true, bthFault := flt, temp := if flt then x.die else rnd 124 (t * 256) }) s

/-- The cell is known to be absent (R290). -/
def cellAbsent (s : State) : Bool := s.bat.known && !s.bat.present

/-- Presence after a voltage conversion (R290, R300); a change queues CELL_PRESENCE. The first conversion after a reset
tells whether the cell is there, which is no insertion; an absent cell is back after two in a row at 2.0 V or above. -/
def presence (s : State) : State :=
  let b := s.bat
  let gone := (b.present || !b.known) && decide (b.volt < 18000)
  let found := !b.known && !gone
  let run := if cellAbsent s && decide (20000 ≤ b.volt) then b.presRun + 1 else 0
  let back := decide (2 ≤ run)
  let changed := b.changed || (back && batPrimary s)
  let ev := evIf ((gone && b.present) || found || back)
    (batEv s 0x0A02 2 (w32 (b2n (!gone))) (u32 (rnd 125 ((b.volt : Rat) / 10))) (w32 (b2n changed)) 0)
  let s1 := setBat (fun b => { b with
    known := true, present := (b.present && !gone) || found || back, presRun := run, changed := changed }) s
  let s2 :=
    if cellAbsent s1 then setBat (fun b => { b with state := .hold }) s1
    else if back then
      let s3 := batEnter s1
      if batPrimary s then s3 else setBat (fun b => { b with anchored := false, fastFrom := some s.aon }) s3
    else s1
  emitAll ev s2

/-- The gauge has a complete set of current, voltage and temperature: it runs (R299). -/
def batRun (s : State) : State :=
  if s.bat.state = .starting ∧ s.bat.gotI = true ∧ s.bat.gotV = true ∧ s.bat.present = true then
    setBat (fun b => { b with state := .run }) s else s

/-- The gauge measures: it is on, and not in FAULT or OFF. -/
def batLive (s : State) : Bool := gaugeOn s && decide (s.bat.state = .starting ∨ s.bat.state = .run ∨ s.bat.state = .hold)

/-- n seconds have passed since the latest conversion (R287). -/
def gaugeDue (n : Nat) (s : State) : Bool := decide (s.bat.lastAt + n * 32768 ≤ s.aon)

/-- An active 1 s frame ends (R287, R288). Every 16th frame carries a voltage and temperature slot, from the first on; while the cell
is absent there are no frames. -/
def gaugeFrame (i : GaugeIn) (s : State) : State :=
  let first := decide (s.bat.frameNo % 16 = 0)
  if !batLive s || decide (s.bat.mode ≠ 0) || cellAbsent s || !gaugeDue 1 s || (first && i.slot.isNone) then s
  else
    let s0 := setBat (fun b => { b with frameNo := b.frameNo + 1, lastAt := s.aon }) s
    let s1 := match i.slot with
      | some x => if first then presence (takeVT x s0) else s0
      | none => s0
    if cellAbsent s1 then s1
    else
      let cur := shuntI s i.shunt
      let run := if absR cur < iQ s then s1.bat.quietRun + 1 else 0
      let quiet := decide (4 ≤ run)
      let s2 := setBat (fun b => { b with
        curr := cur, gotI := true, quietRun := if quiet then 0 else run
        mode := if quiet then 1 else 0, interval := if quiet then 16 else 1 }) s1
      batRun (batCharge (cur * 5 / 18) 0 cur 1 s2)

/-- The longest interval of BAT_CFG.MAX_INTERVAL in seconds (Table 10-5). -/
def maxInterval (s : State) : Nat := 16 * 2 ^ min 2 (bits (cfgV s 0x4000) 7 6)

/-- While the cell is absent its voltage is converted once per second (R290). -/
def absentSample (x : GaugeVT) (s : State) : State :=
  if gaugeDue 1 s then presence (setBat (fun b => { b with volt := x.volt, lastAt := s.aon }) s) else s

/-- A quiet or rest interval ends with a sample of current, voltage and temperature (R287, R288, R290). -/
def gaugeSample (i : GaugeIn) (s : State) : State :=
  match i.slot with
  | none => s
  | some x =>
    if !batLive s then s
    else if cellAbsent s then absentSample x s
    else if s.bat.mode = 0 ∨ gaugeDue (min s.bat.interval (maxInterval s)) s = false then s
    else
    let s1 := presence (takeVT x s)
    if cellAbsent s1 then setBat (fun b => { b with lastAt := s.aon }) s1
    else
    let cur := shuntI s i.shunt
    let big := decide (iQ s ≤ absR cur) || decide (6250000 ≤ i.shunt.natAbs)
    let dt : Rat := ((s.aon - s.bat.lastAt : Nat) : Rat) / 32768
    let im := (s.bat.curr + cur) / 2
    let s2 := batCharge (im * dt * 5 / 18) ((iQ s + absR im) * dt * 5 / 18) im dt
      (setBat (fun b => { b with curr := cur, gotI := true, lastAt := s.aon }) s1)
    let lim := maxInterval s
    let low := s2.bat.lowSince.isSome
    let grow := low && lasted s2.bat.stepFrom s.aon 900
    batRun (setBat (fun b => { b with
      mode := if big then 0 else if grow || (low && decide (b.mode = 2)) then 2 else 1
      interval := if big then 1 else if grow then min lim (2 * b.interval) else if low && decide (b.mode = 2) then min lim b.interval else 16
      stepFrom := if grow then some s.aon else b.stepFrom
      quietRun := 0 }) s2)

/-- The quiet comparator trips: the cut interval is accounted and the gauge enters ACTIVE (R287 to R289). -/
def gaugeTrip (s : State) : State :=
  if batLive s && decide (s.bat.mode ≠ 0) && decide (s.bat.state ≠ .hold) then
    let dt : Rat := ((s.aon - s.bat.lastAt : Nat) : Rat) / 32768
    let im := s.bat.curr
    setBat (fun b => { b with mode := 0, interval := 1, lastAt := s.aon, quietRun := 0 })
      (batCharge (im * dt * 5 / 18) ((iQ s + absR im) * dt * 5 / 18) im dt s)
  else s

/-- A conversion did not complete within twice its duration: FAULT, under R119 (R299). -/
def gaugeTimeout (s : State) : State :=
  if batLive s then forceRecord 0x20 (setBat (fun b => { b with state := .fault }) s) else s

/-! ### Commands and writes -/

/-- BAT_CTRL NEW_CELL (R302). -/
def newCell (s : State) : State :=
  let prim := batPrimary s
  let s1 := setBat (fun b => { b with
    charge := 0, unc := 0, used := 0, cycles := 0, fcc := if prim then derated s else capNom s, gap := false, intoPrimary := false
    changed := false, socAbs := if prim then 1 else b.socAbs, anchored := if prim then true else b.anchored, anchor := none
    fastFrom := if prim then b.fastFrom else some s.aon }) s
  if gaugeOn s then batEnter s1 else s1

/-- BAT_CTRL RESTART, in FAULT only (R119, R302). -/
def batRestart (s : State) : State := if s.bat.state = .fault then clearFaults 0x20 (batEnter s) else s

/-- A host write of a gauge configuration or table register (R291, R303). The caller answers Locked for a table register
with TABLES = 0. -/
def batWrite (off : Nat) (v : Word) (s : State) : State :=
  let s1 := { s with cfg := cfgSet s.cfg off v }
  if batCfgOk (cfgV s1 0x4000) (batTab s1) then
    if gaugeOn s1 && !gaugeOn s then batEnter s1
    else if gaugeOn s && !gaugeOn s1 then setBat (fun b => { b with state := .off }) s1
    else s1
  else setBat (fun b => { b with cfgReject := true }) s

/-- SUPPLY_SOURCE for a change of source, unless one was queued in the preceding 10 s (R283). `src` is 0 VMAIN, 1 VBAK. -/
def supplyEvs (src : Nat) (s : State) : List Ev :=
  let due := match s.bat.supplyAt with
    | none => true
    | some t => decide (t + 327680 ≤ s.aon)
  evIf due { code := 0x0A01, sev := 1, who := everyone s, w4 := w32 src, w5 := w32 (s.bat.supplyChanges + 1)
             w6 := u32 (rnd 126 ((s.bat.volt : Rat) / 10)) }

/-- A change of source counts in BAT_SWITCH_COUNT, and towards the next SUPPLY_SOURCE (R283). -/
def supplyCount (src : Nat) (s : State) : State :=
  let due := !(supplyEvs src s).isEmpty
  setBat (fun b => { b with
    switchCount := satInc b.switchCount, supplyAt := if due then some s.aon else b.supplyAt
    supplyChanges := if due then 0 else b.supplyChanges + 1 }) s

/-- A change of source (R283): the count and the event. -/
def supplyChange (src : Nat) (s : State) : State := emitAll (supplyEvs src s) (supplyCount src s)

/-- BRC runs while a conversion runs (R286): in ACTIVE mode one follows another. -/
def brcOn (s : State) : Bool := batLive s && decide (s.bat.mode = 0) && !cellAbsent s

/-! ### Registers -/

/-- BAT_STAT (Table 10-6). -/
def batStat (s : State) : Word :=
  let b := s.bat
  pack [(0, b.state.code), (4, (batMtag s).code), (6, (batEtag s).code), (8, b.mode), (10, b2n b.present), (11, b2n b.bthFault),
    (12, b2n b.anchored), (13, b2n b.gap), (14, b2n b.intoPrimary), (15, b2n b.cfgReject), (16, b2n b.empty), (17, b2n b.changed)]

/-- BAT_PATH (Table 10-5). -/
def batPath (s : State) : Word := pack [(0, b2n s.pwc.vmainOk), (1, b2n (!s.pwc.vmainOk)), (2, b2n s.bat.present)]

/-- SoH in 0.01 % (R295, R296). -/
def batSoh (s : State) : Nat :=
  if batPrimary s then ((cfgV s 0x4018).toNat * 10000 : Nat) / 65536
  else if capNom s = 0 then 0 else (rnd 127 (s.bat.fcc / capNom s * 10000)).toNat

/-- A read-only BAT register; in OFF it reads 0, but for BAT_PATH and BAT_SWITCH_COUNT (R303; log 27). -/
def batRead (s : State) (off : Nat) : Word :=
  let b := s.bat
  let q := BitVec.ofInt 64 (rnd 128 b.charge)
  let u := BitVec.ofInt 64 (rnd 129 b.unc)
  if off = 0x4240 then batPath s
  else if off = 0x4244 then w32 b.switchCount
  else if b.state = .off then 0
  else match off with
    | 0x4200 => batStat s
    | 0x4204 => u32 (rnd 130 ((b.volt : Rat) / 10))
    | 0x4208 => s32 (rnd 131 b.curr)
    | 0x420C => s32 b.temp
    | 0x4210 => q.extractLsb' 0 32
    | 0x4214 => q.extractLsb' 32 32
    | 0x4218 => u.extractLsb' 0 32
    | 0x421C => u.extractLsb' 32 32
    | 0x4220 => w32 b.soc
    | 0x4224 => u32 (rnd 123 b.rm)
    | 0x4228 => u32 (rnd 122 b.fcc)
    | 0x422C => w32 (batSoh s)
    | 0x4230 => w32 b.tte
    | 0x4234 => if batPrimary s then 0 else u32 b.cycles.floor
    | 0x4238 => w32 b.interval
    | 0x423C => s32 (rnd 132 b.iavg)
    | _ => 0

end Sys2Proof.Machine
end

