-- ==== Sys2Proof/Machine/PipeFlow.lean ====
section
/-! DEFINITION. Transit-time flow in pipes (chapter 07): shots, captures and their checks, pairs, flow, path states and
holds, volume sets, combined flow and calibration. The bank path of chapter 08 is path 2 here and shares the shots, the
outcome rules of Table 7-3 and the hold. -/

namespace Sys2Proof.Machine

open Sys2Proof

/-! ### Settings -/

/-- The settings of a path, from the registers of Table 7-8 or 8-5 (times in ps, speeds in 0.1 m/s and µm/s). -/
structure FlowCfg where
  freq : Nat
  pulses : Nat
  damp : Nat
  orient : Bool
  gainInit : Nat
  agc : Bool
  decim : Nat
  target : Nat
  gapUs : Nat
  half : Rat
  d : Nat
  l : Nat
  x : Nat
  t0 : Nat
  zero : Rat
  cMin : Nat
  cMax : Nat
  snrMin : Nat
  psrMin : Nat
  vMax : Nat
  ampMin : Nat
  ampMax : Nat
  cutoff : Nat

/-- The offset of a path's register given by its pipe offset and its bank offset. -/
def flowOff (p pipe bank : Nat) : Nat := if p < 2 then 0x3100 + 0x100 * p + pipe else bank

/-- The settings of path p in a register file (Tables 7-8 and 8-5). -/
def flowCfg (c : List (Nat × Word)) (p : Nat) : FlowCfg :=
  let r := fun pipe bank => let o := flowOff p pipe bank; (cfgFind c o).getD (regReset o)
  let b := r 0x00 0x3300
  let x := r 0x04 0x3304
  let t := r 0x08 0x3308
  let cr := r 0x20 0x331C
  let q := r 0x24 0x3320
  let a := r 0x28 0x3324
  { freq := bits b 21 0, pulses := bits b 27 22, damp := bits b 30 28, orient := bit b 31
    gainInit := bits x 7 0, agc := bit x 8, decim := bits x 10 9, target := bits x 27 16
    gapUs := bits t 15 0 * (if p < 2 then 1 else 1000)
    half := (bits t 31 16 : Nat) * (if p < 2 then 1000 else 1000000)
    d := if p < 2 then (r 0x0C 0).toNat else 0
    l := (r 0x10 0x330C).toNat, x := (r 0x14 0x3310).toNat, t0 := (r 0x18 0x3314).toNat
    zero := (sgn (r 0x1C 0x3318) : Rat) / (if p < 2 then 100 else 1)
    cMin := bits cr 15 0, cMax := bits cr 31 16, snrMin := bits q 7 0, psrMin := bits q 15 8, vMax := bits q 31 16
    ampMin := bits a 11 0, ampMax := bits a 27 16, cutoff := (r 0x2C 0x333C).toNat }

/-- The sample period of a capture in ps (R210). -/
def FlowCfg.ts (f : FlowCfg) : Rat := (2 ^ f.decim * 1000000000000 : Nat) / 32768000

/-- The earliest and latest arrival, L ÷ C_MAX and L ÷ C_MIN, in ps (R217, Table 7-2). -/
def FlowCfg.early (f : FlowCfg) : Rat := (f.l * 10000000 : Nat) / (f.cMax : Rat)
/-- The latest arrival. -/
def FlowCfg.late (f : FlowCfg) : Rat := (f.l * 10000000 : Nat) / (f.cMin : Rat)

/-- The FLW and CHD settings as they stand, which a pair latches at its DN shot (R216). -/
def latchCfg (s : State) : List (Nat × Word) := s.cfg.filter fun x => decide (0x3000 ≤ x.1) && decide (x.1 < 0x3A00)

/-- Path p exists (R204, R238): its bit in KU-XCOR and KU-PAIR, or a KC-BANK instance for the bank path. -/
def pathExists (s : State) (p : Nat) : Bool :=
  if p < 2 then inSet s 0x0301 (8 + p) && inSet s 0x0302 (8 + p) else instsOf s 0x0401 != []

/-- FLW_PERIOD in AON counts on the present source (R215); the bank path's period is CHD_CYCLE (R244). -/
def pairPeriod (s : State) (p : Nat) : Nat :=
  if p < 2 then
    let w := cfgV s 0x3000
    32 * (if s.pwc.vmainOk then bits w 15 0 else bits w 31 16)
  else 32 * (cfgV s 0x3804).toNat

/-- The hold time of a path in ms (R227, R255). -/
def holdMs (s : State) (p : Nat) : Nat := (cfgV s (if p < 2 then 0x3004 else 0x332C)).toNat

/-- D, L and X of a path are set (R236). -/
def geomOk (s : State) (p : Nat) : Bool :=
  let f := flowCfg s.cfg p
  (decide (2 ≤ p) || decide (f.d ≠ 0)) && decide (f.l ≠ 0) && decide (f.x ≠ 0)

/-- Path p. -/
def flowPath (s : State) (p : Nat) : FPath := vget s.flw.path p FPath.off

/-- Changes path p. -/
def setPath (p : Nat) (f : FPath → FPath) (s : State) : State :=
  { s with flw := { s.flw with path := vmod s.flw.path p f } }

/-- The recipients of a path's events: the FLW block, the path's volume sets and F0 (R237, R263). -/
def flowWho (s : State) (p : Nat) : Nat :=
  who s fun f => decide (f = 0) || readsBlock s f 7
    || (if p < 2 then holdsRes s f 4 p || holdsRes s f 4 2 else holdsRes s f 4 3)

/-- An event of path p (Table 7-10). -/
def flowEv (s : State) (p code sev : Nat) (w4 w5 w6 w7 : Word) : Ev :=
  { code := code, unit := 0x10 + p, sev := sev, who := flowWho s p, w4 := w4, w5 := w5, w6 := w6, w7 := w7 }

/-! ### Local time -/

/-- A difference of local times, signed, modulo 2^64 (R240). -/
def psDiff (a b : Nat) : Int := (BitVec.ofInt 64 ((a : Int) - b)).toInt

/-- A rational brought into the signed range of local time (R240). -/
def wrapPs (x : Rat) : Rat := x - (((x / (2 ^ 64 : Nat)) + 1 / 2).floor : Rat) * (2 ^ 64 : Nat)

/-! ### Entering states -/

/-- Entry to STARTING: acquisition, residue 0, k 1, GAIN_INIT, and the first interval begins here (R209, R217, R220,
R223, R225, R231). -/
def pathEnter (s : State) (p : Nat) (x : FPath) : FPath :=
  { x with
    state := .starting, tag := .invalid, ttag := .invalid, acquiring := true, acqStep := 0, expired := false, cut := false,
    tempOut := false, refFault := false, e := 0, kPrev := 1, gain := (flowCfg s.cfg p).gainInit, pair := none, prev := none, last := none,
    cls := .invalid, consec := 0, validRun := 0, from_ := s.aon, epFails := 0, epHeld := 0, epUnmeas := 0 }

/-- Takes a path's shots out of the front end, the queue and the buffers. -/
def dropShots (p : Nat) (w : Flw) : Flw :=
  { w with
    queue := w.queue.filter fun x => decide (x.1 ≠ p)
    waited := w.waited.filter fun x => decide (x.1 ≠ p)
    front := w.front.filter fun x => decide (x.1 ≠ p)
    shot := if w.front.any fun x => decide (x.1 = p) then none else w.shot
    bufs := w.bufs.filter fun x => decide (x.1 ≠ p) }

/-- A path that a calibration runs on is not in RUN: the time it may stay out begins, unless it has begun (R233). -/
def calLeft (p : Nat) (s : State) : State :=
  if s.flw.cal.status = 1 ∧ s.flw.cal.path = p + 1 then
    { s with flw := { s.flw with cal := { s.flw.cal with leftAt := s.flw.cal.leftAt.or (some s.aon) } } }
  else s

/-- The path goes to STARTING (Table 7-3); with the first of two pipe paths to start the combined interval begins too (R231). -/
def pathStart (p : Nat) (s : State) : State :=
  let fresh := decide (p < 2) && decide ((flowPath s p).state = .off) && decide ((flowPath s (1 - p)).state = .off)
  { s with flw := { dropShots p s.flw with
    path := vmod s.flw.path p (pathEnter s p)
    qcFrom := if fresh then s.aon else s.flw.qcFrom
    qcCls := if fresh then .invalid else s.flw.qcCls } }

/-- The path goes to FAULT or OFF with INVALID outputs, the combined words that belong to it among them (Table 7-3, R229). -/
def pathStop (p : Nat) (m : Mgmt) (s : State) : State :=
  let t := calLeft p (setPath p (fun x => { x with state := m, tag := .invalid, ttag := .invalid }) s)
  if p < 2 ∧ s.flw.qcPath = p then { t with flw := { t.flw with qcTag := .invalid, qcCls := .invalid } } else t

/-- A path returns from a forced FAULT by itself, but not from the one of a wrong reference (R119, R213). -/
def pathBack (p : Nat) (s : State) : State := if (flowPath s p).refFault then s else calLeft p (pathStart p s)

/-- The learned reference's bytes of a path (R213). -/
def refBytes (s : State) (p : Nat) : List Byte := memBytes s.flw.refs (1024 * p) 1024

/-- The signed 16-bit samples of a byte list. -/
def samplesOf : List Byte → List Int
  | lo :: hi :: r => s16 lo hi :: samplesOf r
  | _ => []

/-- The reference check of R213, at structure application and at each change of FLW_REFCRC: a mismatch or a missing
learned reference puts the path in FAULT and queues FLOW_REF_FAULT. -/
def refCheck (p : Nat) (s : State) : State :=
  let crc := cfgV s (flowOff p 0x30 0x3328)
  let has := vget s.flw.refHas p false
  let found : Word := if has then crc32 (refBytes s p) else 0
  if crc = 0 then setPath p (fun x => { x with refLearned := false, refMismatch := false, refAct := 0 }) s
  else if has ∧ found = crc then setPath p (fun x => { x with refLearned := true, refMismatch := false, refAct := crc }) s
  else emit (flowEv s p 0x0706 2 crc found 0 0)
    (setPath p (fun x => { x with refLearned := false, refMismatch := true, refFault := true, refAct := 0 }) (pathStop p .fault s))

/-- Samples scaled so that the peak is 16 384, as whole numbers (R233). -/
def scaleWave (w : List Rat) : List Int :=
  let m := w.foldl (fun a y => max a (max y (-y))) 0
  w.map fun y => if m = 0 then 0 else rnd 77 (y * 16384 / m)

/-- The edges of a burst, in half periods from its start (R208): PULSES pulses, high in the first half of their period, then DAMP
pulses with the phase inverted. -/
def burstEdges (pulses damp : Nat) : List (Nat × Int) :=
  (List.range pulses).flatMap (fun k => [(2 * k, 1), (2 * k + 1, -1)])
    ++ (List.range damp).flatMap fun k => [(2 * (pulses + k) + 1, 1), (2 * (pulses + k) + 2, -1)]

/-- What a second-order resonator of Q 8 makes of an edge `u` periods ago (R213): its damped frequency is √(255/256) of FREQ. -/
def resonance (u : Rat) : Rat :=
  let w := u * (998044963916957 / 1000000000000000)
  expNeg (ofFix fixTau * u / 16) * (sinT w + Config.resonator.1 * cosT w) + Config.resonator.2

/-- The synthetic reference of R213: the burst through the resonator, 512 samples at f_s. -/
def synthRef (f : FlowCfg) : List Int :=
  let edges := burstEdges f.pulses f.damp
  scaleWave ((List.range 512).map fun n =>
    let u : Rat := n * f.ts * f.freq / 1000000000000
    edges.foldl (fun (a : Rat) e => if (e.1 : Rat) / 2 ≤ u then a + e.2 * resonance (u - e.1 / 2) else a) 0)

/-- The reference a pair of the path correlates with (R213); which of the two stands at its DN shot (R216). -/
def reference (s : State) (p : Nat) (learned : Bool) (f : FlowCfg) : List Int :=
  if learned then samplesOf (refBytes s p) else synthRef f

/-! ### The front end -/

/-- The ports of a shot of path p, first the one that drives: DN from the upstream transducer, UP from the other (R207); the bank
path has UT1 alone and drives or receives (R206, chapter 08). -/
def shotPorts (p : Nat) (orient up : Bool) : Nat × Nat :=
  let lo := 2 * p + 1
  if orient = up then (lo, lo + 1) else (lo + 1, lo)

/-- The length of a burst with its damping pulses, in ps (R208). -/
def burstLen (freq pulses damp : Nat) : Rat := ((pulses + damp) * 1000000000000 : Nat) / (freq : Rat)

/-- What the crosspoint does with a port (R206). -/
inductive PortConn where
  | driven (d : Bool)
  | received (l : Bool)
  | clamped
  deriving DecidableEq, Repr

/-- Where the crosspoint connects port UTn at local time `t` (R206): the driving port until its last damping pulse has ended, the
receiving port while the shot holds the front end, every other port to AGND. -/
def portConn (s : State) (t n : Nat) : PortConn :=
  match s.flw.shot with
  | none => .clamped
  | some h =>
    if n ≠ 0 ∧ n = h.tx ∧ (psDiff t h.from_ : Rat) < burstLen h.freq h.pulses h.damp then .driven h.drv
    else if n ≠ 0 ∧ n = h.rx then .received h.drv
    else .clamped

/-- The level in mV that the shot's driver gives at local time `t` (R208): VUS within a pulse. -/
def burstLevel (h : Shot) (t : Nat) : Nat :=
  let u : Rat := (psDiff t h.from_ : Rat) * h.freq / 1000000000000
  let on := (burstEdges h.pulses h.damp).foldl (fun (a : Int) e => if (e.1 : Rat) / 2 ≤ u then a + e.2 else a) 0
  if on = 1 then h.vus else 0

/-! ### Shots -/

/-- The window of arrival times of a shot: the acquisition step, a whole buffer wide, or WIN_HALF about the arrival of
the latest valid pair (R217). -/
def arrivalWindow (x : FPath) (f : FlowCfg) (up : Bool) : Rat × Rat :=
  match x.last with
  | some l =>
    if x.acquiring then acq else
      let c := if up then l.up else l.dn
      (c - f.half, c + f.half)
  | none => acq
where
  /-- The acquisition window of the present step. -/
  acq : Rat × Rat :=
    let lo := f.early + (1400 * x.acqStep : Nat) * f.ts
    (lo, lo + 1472 * f.ts)

/-- The correlation of a reference with the capture from lag j. -/
def correl (ref samples : List Int) (j : Nat) : Int :=
  (List.zipWith (· * ·) ref (samples.drop j)).foldl (· + ·) 0

/-- Sum of squares of a list of codes. -/
def sumSq (l : List Int) : Int := l.foldl (fun a x => a + x * x) 0

/-- The number of 0.5 dB steps in a power ratio: the largest n up to 255 with ratio ≥ 10^(n/20) (R218). -/
def dbHalf (ratio : Rat) : Nat :=
  ((List.range 256).filter fun n => decide ((10 : Rat) ^ n ≤ ratio ^ 20)).getLastD 0

/-- SNR as FLW_RXINFO shows it: 0.5 dB, with an unstated rounding (log 6). -/
def snrShow (ratio : Rat) : Nat :=
  let n := dbHalf ratio
  min 255 (if (10 : Rat) ^ n = ratio ^ 20 then n else if Config.roundUp 62 ratio then n + 1 else n)

/-- The lag of the correlation peak in samples, interpolated by a parabola (R212). -/
def peakLag (ref samples : List Int) (j : Nat) : Rat :=
  let a : Rat := (if j = 0 then 0 else correl ref samples (j - 1) : Int)
  let b : Rat := (correl ref samples j : Int)
  let c : Rat := (correl ref samples (j + 1) : Int)
  let d := a - 2 * b + c
  if d = 0 then j else j + (a - c) / (2 * d)

/-- The whole number m from -2 to 2 that brings t_tdc - (r + m / FREQ) closest to t_corr (R212); `u` is t_tdc - r - t_corr
in periods. -/
def cycleOf (u : Rat) : Int :=
  ([-2, -1, 0, 1, 2] : List Int).foldl (fun (b : Int) (m : Int) =>
    if (u - (m : Rat)) * (u - (m : Rat)) < (u - (b : Rat)) * (u - (b : Rat)) then m else b) (-2)

/-- The samples that a capture of a path holds (R210); while acquiring, the whole buffer (log 66). -/
def capLen (x : FPath) (f : FlowCfg) : Nat :=
  if x.acquiring || x.last.isNone then 2048 else (rnd 160 (64 + 2 * f.half / f.ts + 512)).toNat

/-- When a capture opens, in ps from the first burst edge: 64 samples before the earliest arrival of the window (R210). -/
def capOpen (f : FlowCfg) (win : Rat × Rat) : Rat := win.1 + f.t0 - 64 * f.ts

/-- The times of the 8 crossings that the TDC stamps (R211): armed once the signal exceeds half of AMP_MIN, those of the polarity that
the reference marks. -/
def stamps (f : FlowCfg) (ref : List Int) (opened : Rat) (lsb : Nat) (c : Capture) : List Rat :=
  match c.samples.findIdx? fun x => decide (f.ampMin < 2 * x.natAbs) with
  | none => []
  | some j =>
    (((c.cross.filter fun x => decide (x.rise = Config.refRise ref)).map fun x =>
      ((x.usx * 1000000000000 : Nat) : Rat) / 32768000 + (x.step * lsb : Nat) / 1000).filter fun t =>
        decide (opened + j * f.ts ≤ t)).take 8

/-- KU-XCOR on one capture: arrival time and the shot checks of Table 7-2 (R212, R218). `hw` is a hardware failure found
at firing, `lsb` the TDC's of the shot. -/
def evalShot (f : FlowCfg) (ref : List Int) (win : Rat × Rat) (hw : Bool) (lsb : Nat) (c : Capture) : ShotRes :=
  let opened := capOpen f win
  let cross := stamps f ref opened lsb c
  let time := fun (lag : Rat) => opened + lag * f.ts
  let inWin := fun (t : Rat) => decide (win.1 ≤ t - f.t0) && decide (t - f.t0 ≤ win.2)
  let lags := (List.range c.samples.length).filter fun (j : Nat) => inWin (time (j : Rat))
  let mag := fun j => (correl ref c.samples j).natAbs
  let j := lags.foldl (fun b j => if mag b < mag j then j else b) (lags.headD 0)
  let tCorr := time (peakLag ref c.samples j)
  let period : Rat := 1000000000000 / f.freq
  let tTdc := cross.foldl (· + ·) 0 / 8
  let r := Config.refMean ref * f.ts
  let m := cycleOf ((tTdc - r - tCorr) / period)
  let raw := tTdc - (r + m * period)
  let rest := raw - tCorr
  let arr := raw - f.t0
  let region := (c.samples.drop j).take 512
  let peak := region.foldl (fun a x => max a x.natAbs) 0
  let noise : Rat := (sumSq (c.samples.take 64) : Rat) / 64
  let signal : Rat := (sumSq region : Rat) / 512
  let ratio := if noise = 0 then (10 : Rat) ^ 13 else signal / noise
  let side := (rnd 63 (period / f.ts)).toNat
  let sl := max (if j < side then 0 else mag (j - side)) (mag (j + side))
  let psr : Rat := if sl = 0 then 256 else (mag j : Rat) / sl
  let low := decide (peak < f.ampMin)
  let high := decide (f.ampMax < peak) || c.samples.any fun x => decide (2047 ≤ x.natAbs)
  let wnd := inWin tCorr && decide (f.early ≤ arr) && decide (arr ≤ f.late)
  let cyc := decide (cross.length = 8) && decide (rest * 4 ≤ period) && decide (-period ≤ rest * 4)
  { cause := b2n low + 2 * b2n high + 4 * b2n (decide (ratio ^ 20 < (10 : Rat) ^ f.snrMin))
      + 8 * b2n (decide (psr * 64 < f.psrMin)) + 16 * b2n (!wnd || lags.isEmpty)
      + 32 * b2n (decide (correl ref c.samples j ≤ 0)) + 64 * b2n (!cyc) + 128 * b2n hw
    arr := arr
    peak := peak
    snr := snrShow ratio
    psr := min 255 (rnd 64 (psr * 64)).toNat
    aligned := Config.alignShot c.samples ((raw - opened) / f.ts) }

/-- A shot that was never fired fails with cause HW (R208). -/
def hwFail : ShotRes := { cause := 128, arr := 0, peak := 0, snr := 0, psr := 0, aligned := [] }

/-- A shot becomes due: it waits, counted, if the front end or both buffers are taken or another shot waits (R216). -/
def shotDue (p : Nat) (up : Bool) (s : State) : State :=
  let waits := s.flw.front.isSome || decide (2 ≤ s.flw.bufs.length) || !s.flw.queue.isEmpty
  { s with
    flw := { s.flw with
      queue := s.flw.queue ++ [(p, up)]
      waited := if waits then s.flw.waited ++ [(p, up)] else s.flw.waited }
    whl := { s.whl with shotDefer := if waits then satInc s.whl.shotDefer else s.whl.shotDefer } }

/-- Puts a shot's result into its pair. -/
def pairResult (up : Bool) (r : ShotRes) (x : FPath) : FPath :=
  { x with pair := x.pair.map fun q => if up then { q with up := some r } else { q with dn := some r } }

/-- A TDC ring outside 0.8 to 1.25 GHz (R211). -/
def ringFails (i : FireIn) : Bool := decide (i.ring < 800000) || decide (1250000 < i.ring)

/-- A pair whose shot fires (R208, R211, R214, R216): the DN shot latches the settings and dates the pair; an UP shot later than
2 × GAP fails it with DEFER; a VUS below 2.8 V or a ring out of range fails the shot with HW. -/
def firePair (i : FireIn) (p : Nat) (up : Bool) (s : State) (x : FPath) (q : PairSt) : PairSt :=
  let res := if i.vus < 2800 then some hwFail else none
  if up then
    { q with
      hwUp := q.hwUp || ringFails i, up := res.or q.up, lsbUp := i.lsb
      defer := q.defer || decide (((2000000 * (flowCfg q.cfg p).gapUs : Nat) : Int) < psDiff i.at_ q.dnT) }
  else
    let cfg := latchCfg s
    { q with
      hwDn := q.hwDn || ringFails i, dn := res.or q.dn, dnAt := some s.aon, cfg := cfg, learned := x.refLearned
      dnT := i.at_, lsbDn := i.lsb }

/-- The head of the queue fires if the front end and a buffer are free (R206 to R208, R216); one whose VUS is below 2.8 V does
not, and takes neither. -/
def shotFire (i : FireIn) (s : State) : State :=
  match s.flw.queue with
  | [] => s
  | (p, up) :: rest =>
    if s.flw.front.isSome || decide (2 ≤ s.flw.bufs.length) then s
    else
      let noVus := decide (i.vus < 2800)
      let f := flowCfg (latchCfg s) p
      let q := fun (q : PairSt) =>
        let r := firePair i p up s (flowPath s p) q
        if !up && !f.agc then { r with gain := f.gainInit } else r
      let ports := shotPorts p f.orient up
      let s1 := { s with flw := { s.flw with
        queue := rest
        waited := s.flw.waited.filter fun x => decide (x ≠ (p, up))
        front := if noVus then none else some (p, up)
        shot := if noVus then none else some
          { drv := (flowPath s p).assign, tx := ports.1, rx := ports.2, freq := f.freq, pulses := f.pulses, damp := f.damp
            vus := i.vus, from_ := i.at_ }
        bufs := if noVus then s.flw.bufs else s.flw.bufs ++ [(p, up)] } }
      setPath p (fun x => { x with
        pair := x.pair.map q
        pstamp := if up then x.pstamp else s.aon % 2 ^ 32 }) s1

/-- The capture window of the shot on the front end closes (R206, R210). -/
def captureClose (s : State) : State := { s with flw := { s.flw with front := none, shot := none } }

/-- KU-XCOR finishes the shot of path p whose capture waits in a buffer, and frees the buffer (R210, R212, R218). -/
def shotEvaluated (p : Nat) (up : Bool) (c : Capture) (s : State) : State :=
  let x := flowPath s p
  match x.pair with
  | none => s
  | some q =>
    let f := flowCfg q.cfg p
    if s.flw.bufs.contains (p, up) && decide (s.flw.front ≠ some (p, up)) && decide (c.samples.length = capLen x f) then
      let r := evalShot f (reference s p q.learned f) (arrivalWindow x f up) (if up then q.hwUp else q.hwDn)
        (if up then q.lsbUp else q.lsbDn) c
      setPath p (pairResult up r) { s with flw := { s.flw with bufs := s.flw.bufs.filter fun b => decide (b ≠ (p, up)) } }
    else s

/-- GAP after the first burst edge of the DN shot of a pair, its UP shot becomes due, once (R214). -/
def upShotDue (p : Nat) (s : State) : State :=
  match (flowPath s p).pair with
  | none => s
  | some q =>
    let passed := match q.dnAt with
      | none => false
      | some t => decide ((flowCfg q.cfg p).gapUs * 32768 < (s.aon - t + 1) * 1000000)
    if passed && !q.upDue then
      shotDue p true (setPath p (fun x => { x with pair := x.pair.map fun q => { q with upDue := true } }) s)
    else s

/-! ### Flow -/

/-- What a valid pair gives (R220 to R224): speeds in µm/s, flow in µL/s, c in m/s, temperature in °C, times in ps. -/
structure Vals where
  v : Rat
  vm : Rat
  q : Int
  c : Rat
  temp : Rat
  tOut : Bool
  re : Rat
  k : Rat
  tdn : Rat
  tup : Rat
  raw : Rat
  dt : Rat
  e : Rat
  cut : Bool
  settle : Bool

/-- π to 36 digits, for the area of R224. -/
def piRat : Rat := 314159265358979323846264338327950288 / 100000000000000000000000000000000000

/-- The profile factor of pipe path p at a Reynolds number (R223). -/
def profileK (s : State) (p : Nat) (re : Rat) : Rat :=
  let pts : List ProfPoint := match s.str with
    | none => []
    | some im => im.profile.filter fun x => decide (x.path = p + 1)
  if pts.isEmpty then 1
  else if re ≤ 0 then ((pts.headD ⟨0, 0, 0⟩).k : Rat) / (2 ^ 30 : Nat)
  else interp (pts.map fun x => (log2 x.re, (x.k : Rat) / (2 ^ 30 : Nat))) (log2 re)

/-- The swap residue after a pair with raw difference `raw`: it takes part when the previous attempt was valid, used the
other assignment, and was no more than two periods earlier (R220). -/
def swapResidue (s : State) (p : Nat) (at_ : Nat) (assign : Bool) (raw : Rat) : Rat :=
  let x := flowPath s p
  match x.prev with
  | none => x.e
  | some b =>
    if b.ok && (b.assign != assign) && decide (at_ - b.at_ ≤ 2 * pairPeriod s p) then
      let sv := (if assign then b.raw - raw else raw - b.raw) / 2
      x.e + (sv - x.e) / 64
    else x.e

/-- Sound speed and water temperature from the arrival times (R221, R222). -/
def soundOf (l : Nat) (tdn tup : Rat) : Rat := (l : Rat) * (tup + tdn) / (2 * tup * tdn) * 1000000

/-- Path velocity in µm/s (R221). -/
def velocity (l x : Nat) (dt tdn tup : Rat) : Rat := (l * l : Nat) / (2 * x : Rat) * dt / (tup * tdn) * 1000000000000

/-- The quantities of a pipe pair whose shots both passed (R220 to R224). -/
def pipeVals (s : State) (p : Nat) (at_ : Nat) (q : PairSt) (dn up : ShotRes) : Vals :=
  let f := flowCfg q.cfg p
  let raw := up.arr - dn.arr
  let e := swapResidue s p at_ q.assign raw
  let dt := if q.assign then raw + e - f.zero else raw - e - f.zero
  let v := velocity f.l f.x dt dn.arr up.arr
  let c := soundOf f.l dn.arr up.arr
  let t0 := Config.waterTemp c
  let t := max 0 (min 95 t0)
  let nu := Config.viscosity t
  let abs := fun (y : Rat) => if y < 0 then -y else y
  let reOf := fun (k : Rat) => abs (k * v) * f.d / 1000000000000 / nu
  let re := reOf (profileK s p (reOf (flowPath s p).kPrev))
  let k := profileK s p re
  let vm := k * v
  let cut := decide (abs vm < (f.cutoff * 1000 : Nat))
  let vm' := if cut then 0 else vm
  { v := v, vm := vm', q := rnd 65 (vm' * piRat * (f.d * f.d : Nat) / 4 / 1000000000), c := c, temp := t,
    tOut := decide (t0 < 0) || decide (95 < t0), re := re, k := k, tdn := dn.arr, tup := up.arr, raw := raw, dt := dt,
    e := e, cut := cut, settle := false }

/-! ### Volume -/

/-- Volume set v is defined (R164). -/
def volDefined (s : State) (v : Nat) : Bool :=
  match s.str with
  | none => false
  | some im => im.accDef.any fun d => decide (d % 65536 = 4 + 256 * v)

/-- Option REVERSE of volume set v (R230). -/
def volReverse (s : State) (v : Nat) : Bool :=
  match s.str with
  | none => false
  | some im => (im.accDef.find? fun d => decide (d % 65536 = 4 + 256 * v)).any fun d => nbit (d / 65536) 0

/-- Volume set v. -/
def volSet (s : State) (v : Nat) : VolSet := vget s.flw.vol v ⟨0, 0, 0, 0, 0, .invalid, false, false⟩

/-- Q × time in 2^-32 µL, with an unstated rounding (R231, R232, log 6). -/
def volumeOf (q : Int) (fx : Nat) : Int := rnd 66 ((q * fx * (2 ^ 32 : Nat) : Int) / (32768000 : Rat))

/-- The increment of an interval with `run` of it measured, `held` held and `unm` unmeasured, in 1/32768 ms (R231). -/
def mkInc (set_ unit : Nat) (q : Int) (run held unm : Nat) (tag : Tag) (single : Bool) : VolInc :=
  { set_ := set_, unit := unit, vol := volumeOf q (run + held), held := (volumeOf q held).natAbs, holdT := held, unmT := unm,
    len := run + held + unm, tag := if 0 < held then .held else if 0 < run then tag else .invalid,
    unmeasured := decide (0 < unm) || decide (run + held = 0), single := single }

/-- Saturating addition into a 96-bit value with residue (R232). -/
def volAdd (a b : Nat) : Nat := min (a + b) (2 ^ 128 - 1)

/-- A volume set takes an increment; a discarded one adds its length to the unmeasured time (R120, R231, R232). -/
def volTake (rev ok : Bool) (i : VolInc) (v : VolSet) : VolSet :=
  let fwd := decide (0 ≤ i.vol) != rev
  let cap := max32 * 32768 + 32767
  if ok then
    { v with
      fwd := if fwd then volAdd v.fwd i.vol.natAbs else v.fwd
      rev := if fwd then v.rev else volAdd v.rev i.vol.natAbs
      held := volAdd v.held i.held
      holdT := min (v.holdT + i.holdT) cap
      unmeas := min (v.unmeas + i.unmT) cap
      tag := i.tag, unmeasured := i.unmeasured, single := i.single }
  else { v with unmeas := min (v.unmeas + i.len) cap, tag := .invalid, unmeasured := true, single := i.single }

/-- The pending increments are applied or, for the units in `bad`, discarded at the round close (R120, R231). -/
def volRound (bad : List Nat) (s : State) : State :=
  s.flw.pend.foldl (fun a i =>
    { a with flw := { a.flw with vol := vmod a.flw.vol i.set_ (volTake (volReverse a i.set_) (!bad.contains i.unit) i) } })
    { s with flw := { s.flw with pend := [] } }

/-- Adds a pending increment to a defined set. -/
def pendInc (i : VolInc) (s : State) : State :=
  if volDefined s i.set_ then { s with flw := { s.flw with pend := s.flw.pend ++ [i] } } else s

/-- Adds unmeasured time to a defined set at once, where an open interval is closed as unmeasured (Table 13-4, R256). -/
def volUnmeasured (v fx : Nat) (s : State) : State :=
  if volDefined s v then
    { s with flw := { s.flw with vol := vmod s.flw.vol v fun x =>
      { x with unmeas := min (x.unmeas + fx) (max32 * 32768 + 32767), unmeasured := true } } }
  else s

/-! ### Outcomes -/

/-- The parts of an interval: measured, held, unmeasured, in 1/32768 ms. -/
structure Parts where
  run : Nat
  held : Nat
  unm : Nat

/-- The class of a failed outcome in RUN or HOLD (R227): still held, expiring now, or already expired. -/
def failParts (x : FPath) (hold at_ : Nat) : Parts × Bool :=
  let len := (at_ - x.from_) * 1000
  match x.last with
  | none => (⟨0, 0, len⟩, false)
  | some l =>
    if x.expired then (⟨0, 0, len⟩, false)
    else if (at_ - l.at_) * 1000 ≤ hold * 32768 then (⟨0, len, 0⟩, false)
    else
      let h := min len (l.at_ * 1000 + hold * 32768 - x.from_ * 1000)
      (⟨0, h, len - h⟩, true)

/-- The path after a valid pair (Table 7-3, R217, R225, R228); `gain` is the gain AGC leaves. -/
def validPath (x : FPath) (at_ : Nat) (assign : Bool) (gain : Nat) (rx : Word) (v : Vals) : FPath :=
  let n := x.validRun + 1
  let run := decide (x.state ≠ .starting) || decide (5 ≤ n)
  let tag : Tag := if run then (if v.settle then .settling else .valid) else .settling
  { x with
    state := if run then .run else .starting
    tag := tag
    ttag := if tag = .valid ∧ v.tOut = true then .settling else tag
    acquiring := false, expired := false, cut := v.cut, tempOut := v.tOut
    v := rnd 67 v.v, vm := rnd 68 v.vm, q := v.q, c := (rnd 69 (v.c * 10000)).toNat, temp := rnd 70 (v.temp * 256)
    re := (rnd 71 v.re).toNat, k := (rnd 72 (v.k * (2 ^ 30 : Nat))).toNat, tdn := v.tdn, tup := v.tup, dt := v.dt, e := v.e
    gain := gain, rxinfo := rx, pairs := satInc x.pairs, kPrev := v.k
    prev := some ⟨true, assign, at_, v.raw⟩, last := some ⟨at_, v.tdn, v.tup⟩, cls := .valid, consec := 0, validRun := n
    from_ := at_, pair := none, epFails := 0, epHeld := 0, epUnmeas := 0 }

/-- The acquisition step after a failed attempt (R217). -/
def nextStep (f : FlowCfg) (x : FPath) : Nat :=
  (x.acqStep + 1) % (((f.late - f.early) / (1400 * f.ts)).floor.toNat + 1)

/-- The path after a failed pair (Table 7-3, R217, R226, R227). -/
def failPath (x : FPath) (f : FlowCfg) (hold at_ : Nat) (assign : Bool) (cause : Nat) : FPath :=
  let r := failParts x hold at_
  let b : FPath := { x with
    failCause := cause, fails := satInc x.fails, prev := some ⟨false, assign, at_, 0⟩, from_ := at_, pair := none
    consec := x.consec + 1
    acquiring := x.acquiring || (decide (x.state ≠ .starting) && decide (8 ≤ x.consec + 1))
    acqStep := if x.acquiring then nextStep f x else if x.state ≠ .starting ∧ 8 ≤ x.consec + 1 then 0 else x.acqStep }
  if x.state = .run ∨ x.state = .hold then
    let heldNow := decide (r.1.unm = 0) && !x.expired && x.last.isSome && !r.2
    let t : Tag := if heldNow then .held else .invalid
    { b with
      state := .hold, tag := t, ttag := t, expired := x.expired || r.2
      holds := if x.state = .run then satInc x.holds else x.holds
      expires := if r.2 then satInc x.expires else x.expires
      cls := if heldNow then .held else .invalid
      epFails := (if x.state = .run then 0 else x.epFails) + 1
      epHeld := (if x.state = .run then 0 else x.epHeld) + (volumeOf x.q r.1.held).natAbs
      epUnmeas := (if x.state = .run then 0 else x.epUnmeas) + r.1.unm }
  else { b with tag := .invalid, ttag := .invalid, cls := .invalid }

/-- The interval parts of an outcome (R231). -/
def outcomeParts (x : FPath) (hold at_ : Nat) (valid : Bool) : Parts :=
  let len := (at_ - x.from_) * 1000
  if valid ∧ (x.state = .starting ∨ x.state = .run ∨ x.state = .hold) then
    (if x.cls = .invalid then ⟨0, 0, len⟩ else ⟨len, 0, 0⟩)
  else if x.state = .run ∨ x.state = .hold then (failParts x hold at_).1
  else ⟨0, 0, len⟩

/-- The events of an outcome: FLOW_ACQUIRED, FLOW_RESUME, FLOW_HOLD, FLOW_HOLD_EXPIRED (Table 7-10). `a` is the path
before, `b` after. -/
def outcomeEvents (s : State) (p hold : Nat) (valid : Bool) (a b : FPath) (parts : Parts) : List Ev :=
  let q := fun (y : FPath) => s32 (rnd 73 ((y.q : Rat) / 1000))
  if valid then
    evIf a.acquiring (flowEv s p 0x0704 1 (u32 (rnd 74 (b.tdn / 1000))) (u32 (rnd 75 ((b.c : Rat) / 1000))) (w32 b.gain) 0)
      ++ evIf (decide (a.state = .hold))
        (flowEv s p 0x0703 1 (ms32 (a.epUnmeas + parts.unm)) (w32 a.epFails) (q b) 0)
  else
    evIf (decide (a.state = .run) && decide (hold ≠ 0)) (flowEv s p 0x0701 1 (w32 b.failCause) (q a) (w32 hold) 0)
      ++ evIf (b.expired && !a.expired)
        (flowEv s p 0x0702 2 (w32 b.epFails) (w32 (b.epHeld / 2 ^ 32)) (w32 b.failCause) 0)

/-- On battery an outcome makes a PAIR commit fall due at its round close (R382, Table 13-2). -/
def pairDue (s : State) : State := if s.pwc.vmainOk then s else commitDue .pair s

/-- The outcome of an attempt on path p dated `at_`: valid with its values, or failed with its causes (R225 to R228,
R231). A path in FAULT or OFF only loses the interval. -/
def outcome (p at_ : Nat) (assign : Bool) (f : FlowCfg) (cause : Nat) (res : Option (Vals × Nat × Word)) (s : State) : State :=
  let x := flowPath s p
  let hold := holdMs s p
  let live := decide (x.state = .starting ∨ x.state = .run ∨ x.state = .hold)
  let valid := live && res.isSome
  let parts := outcomeParts x hold at_ valid
  let y := match res with
    | some r => if live then validPath x at_ assign r.2.1 r.2.2 r.1
      else { x with pair := none, from_ := at_, cls := .invalid, fails := satInc x.fails }
    | none => if live then failPath x f hold at_ assign cause
      else { x with pair := none, from_ := at_, cls := .invalid, fails := satInc x.fails, failCause := cause }
  let set_ := if p < 2 then p else 3
  emitAll (outcomeEvents s p hold valid x y parts)
    (pendInc (mkInc set_ (0x10 + p) y.q parts.run parts.held parts.unm y.tag false)
      (pairDue { s with flw := { dropShots p s.flw with path := vmod s.flw.path p fun _ => y } }))

/-- The combined flow after an outcome of path p (R229) and its volume increment (R231). -/
def combine (p at_ : Nat) (before : FPath) (parts : Parts) (s : State) : State :=
  let both := pathExists s 0 && pathExists s 1
  let a := flowPath s 0
  let b := flowPath s 1
  let y := flowPath s p
  let weight := match before.pair with
    | none => cfgV s 0x3008
    | some q => (cfgFind q.cfg 0x3008).getD (regReset 0x3008)
  let w : Rat := weight.toNat / (65536 : Rat)
  if !both then
    pendInc (mkInc 2 (0x10 + p) (if parts.run = 0 then before.q else y.q) parts.run parts.held parts.unm y.tag false)
      { s with flw := { s.flw with
        qc := y.q, qcTag := y.tag, qcSingle := false, qcPath := p, qcFrom := at_, qcCls := y.cls } }
  else
    let okA := decide (a.tag ≠ .invalid)
    let okB := decide (b.tag ≠ .invalid)
    let qc := if okA && okB then rnd 76 (w * a.q + (1 - w) * b.q) else if okA then a.q else if okB then b.q else 0
    let only := fun (t : Tag) => if t = .valid then Tag.settling else t
    let tag := if okA && okB then a.tag.worse b.tag else if okA then only a.tag else if okB then only b.tag else .invalid
    let own := if okA && okB then (if b.tag.code ≤ a.tag.code then 0 else 1) else if okA then 0 else if okB then 1 else p
    let single := okA != okB
    let len := (at_ - s.flw.qcFrom) * 1000
    let unm := decide (tag = .invalid) || decide (s.flw.qcCls = .invalid)
    let held := !unm && decide (tag = .held)
    pendInc (mkInc 2 (0x10 + own) qc (if unm || held then 0 else len) (if held then len else 0) (if unm then len else 0) tag single)
      { s with flw := { s.flw with
        qc := qc, qcTag := tag, qcSingle := single, qcPath := own, qcFrom := max s.flw.qcFrom at_
        qcCls := if tag = .invalid then .invalid else if tag = .held then .held else .valid } }

/-! ### Calibration -/

/-- Ends a running calibration with a status, and queues FLOW_CAL_DONE (R233, Table 7-10). -/
def calEnd (status : Nat) (value : Word) (s : State) : State :=
  let c := s.flw.cal
  emit (flowEv s (c.path - 1) 0x0705 1 (w32 c.cmd) value (w32 (c.got0 + c.got1)) (w32 (b2n (decide (status = 3)))))
    { s with flw := { s.flw with cal := { c with status := status, leftAt := none } } }

/-- ZERO or LEARN of FLW_CTRL on path number `path` (R233, R261): refused for a path that does not exist, for ZERO on a
path not in RUN and on a follower. The caller answers Busy and Locked. -/
def calStart (cmd path n16 : Nat) (leader : Bool) (s : State) : State :=
  let p := path - 1
  let x := flowPath s p
  let bad := !pathExists s p || (decide (cmd = 1) && (decide (x.state ≠ .run) || (decide (p = 2) && !leader)))
  let c0 : Cal := { status := if bad then 4 else 1, path := path, cmd := cmd, need := if cmd = 1 then 16 * max 1 (min 64 n16) else 64,
                    got0 := 0, got1 := 0, sum := 0, wave := [], start := s.aon, leftAt := if x.state = .run then none else some s.aon }
  let s1 := { s with flw := { s.flw with cal := c0 } }
  if bad then emit (flowEv s p 0x0705 1 (w32 cmd) 0 0 2) s1 else s1

/-- CALIBRATION_TIMEOUT is due: 4 × count × period has passed, or the path left RUN longer than its hold time (R233). -/
def calDue (s : State) : Bool :=
  let c := s.flw.cal
  let p := c.path - 1
  decide (c.status = 1) && (decide (c.start + 4 * c.need * pairPeriod s p < s.aon)
    || (match c.leftAt with
      | none => false
      | some t => decide (holdMs s p * 32768 < (s.aon - t) * 1000)))

/-- A learned reference as signed 16-bit words (R233). -/
def refFromWave (w : List Rat) : List Byte :=
  (scaleWave w).flatMap fun n =>
    let v := BitVec.ofInt 16 n
    [v.extractLsb' 0 8, v.extractLsb' 8 8]

/-- Writes bytes at rising addresses. -/
def memPutBytes (m : List Host.Cell) (a : Nat) : List Byte → List Host.Cell
  | [] => m
  | b :: bs => memPutBytes (memSet m a b) (a + 1) bs

/-- Adds two lists of samples, the longer governing. -/
def addWave (a b : List Rat) : List Rat := if a.isEmpty then b else List.zipWith (· + ·) a b

/-- LEARN is complete: the reference slot and FLW_REFCRC are written (R233). -/
def learnDone (p : Nat) (s : State) : State :=
  let bytes := (refFromWave s.flw.cal.wave).take 1024
  let crc := crc32 bytes
  let s1 := { s with
    cfg := cfgSet s.cfg (flowOff p 0x30 0x3328) crc
    flw := { s.flw with
      refs := memPutBytes (memClear s.flw.refs (1024 * p) (1024 * p + 1024)) (1024 * p) bytes
      refHas := vmod s.flw.refHas p fun _ => true } }
  calEnd 2 crc (refCheck p s1)

/-- A calibration takes the outcome of its path (R233). -/
def calOutcome (p : Nat) (valid assign : Bool) (corr : Rat) (wave : List Rat) (s : State) : State :=
  let c := s.flw.cal
  if c.status = 1 ∧ c.path = p + 1 then
    let inRun := decide ((flowPath s p).state = .run)
    let left := if inRun then none else c.leftAt.or (some s.aon)
    let half := c.need / 2
    let full := decide (c.cmd = 1) && decide (half ≤ (if assign then c.got1 else c.got0))
    if valid && !full then
      let c1 := { c with
        got0 := if assign then c.got0 else c.got0 + 1, got1 := if assign then c.got1 + 1 else c.got1
        sum := c.sum + corr, wave := if c.cmd = 2 then addWave c.wave wave else [], leftAt := left }
      let s1 := { s with flw := { s.flw with cal := c1 } }
      if c.need ≤ c1.got0 + c1.got1 then
        if c.cmd = 2 then learnDone p s1
        else
          let z := max (-100000000) (min 100000000 (rnd 78 (c1.sum / c.need * (if p < 2 then 100 else 1))))
          calEnd 2 (i32 z) { s1 with cfg := cfgSet s1.cfg (flowOff p 0x1C 0x3318) (i32 z) }
      else s1
    else { s with flw := { s.flw with cal := { c with leftAt := left } } }
  else s

/-! ### Pipe pairs -/

/-- The assignment of the next pair attempt: D0 with L0 first, then alternating (R214). -/
def nextAssign (x : FPath) : Bool := x.tried && !x.assign

/-- A pair attempt that has fired nothing yet (R214). -/
def newPair (s : State) (x : FPath) : PairSt :=
  { assign := nextAssign x, cfg := latchCfg s, learned := x.refLearned, gain := x.gain, dnAt := none, dnT := 0, lsbDn := 0
    lsbUp := 0, dn := none, up := none, hwDn := false, hwUp := false, upDue := false, defer := false, abort := false }

/-- When pipe path p makes its first attempt: P2 half a period after P1 where both exist (R215). -/
def firstAt (s : State) (p : Nat) : Nat :=
  if p = 1 ∧ pathExists s 0 = true then
    let n := (flowPath s 0).nextAt
    let h := pairPeriod s 1 / 2
    if s.aon + h ≤ n then n - h else max n s.aon + h
  else s.aon

/-- The AON pair timer of pipe path p fires (R214, R215, R236): the alternation advances and the DN shot becomes due. In
FAULT the attempt is an INVALID outcome without shots. It is due when the AON count has reached the path's time. -/
def pairAttempt (p : Nat) (s : State) : State :=
  let x := flowPath s p
  if decide (p < 2) && pathExists s p && geomOk s p && decide (x.state ≠ .off) && decide (x.nextAt ≤ s.aon) && x.pair.isNone then
    let at_ := s.aon
    let n := max (x.nextAt + pairPeriod s p) (at_ + 1)
    let s1 := setPath p (fun y => { y with tried := true, assign := nextAssign y, nextAt := n }) s
    if x.state = .fault then
      let len := (at_ - x.from_) * 1000
      combine p at_ x ⟨0, 0, len⟩ (pendInc (mkInc p (0x10 + p) 0 0 0 len .invalid false)
        (setPath p (fun y => { y with from_ := at_, cls := .invalid, pstamp := at_ % 2 ^ 32 }) (pairDue s1)))
    else
      shotDue p false (setPath p (fun y => { y with pair := some (newPair s x) }) s1)
  else s

/-- The pair causes and shot causes of FLW_FAILCAUSE (Table 7-8). -/
def pairCause (q : PairSt) : Nat :=
  (q.dn.map ShotRes.cause).getD 0 + 256 * (q.up.map ShotRes.cause).getD 0 + 131072 * b2n q.defer + 262144 * b2n q.abort

/-- The change of gain AGC makes, in 0.5 dB: at most 6 dB toward AMP_TARGET (R209); the rounding is unstated. -/
def agcStep (target : Nat) (mean : Rat) : Int :=
  if mean ≤ 0 then 12
  else
    let a : Rat := ((target : Rat) / mean) ^ 40
    let p10 := fun (n : Int) => if n < 0 then 1 / (10 : Rat) ^ n.natAbs else (10 : Rat) ^ n.natAbs
    let ns := ((List.range 25).map fun (i : Nat) => (i : Int) - 12).filter fun n => decide (p10 n ≤ a)
    let n := ns.getLastD (-13)
    max (-12) (min 12 (if p10 n = a then n else if Config.roundUp 79 a then n + 1 else n))

/-- FLW_RXINFO of a valid pair (Table 7-8). -/
def rxWord (gain : Nat) (dn up : ShotRes) : Word := pack [(0, gain), (8, dn.snr), (16, up.snr), (24, min dn.psr up.psr)]

/-- The gain after a valid pair (R209). -/
def gainAfter (f : FlowCfg) (gain : Nat) (dn up : ShotRes) : Nat :=
  if f.agc then (max 0 (min 144 ((gain : Int) + agcStep f.target (((dn.peak + up.peak : Nat) : Rat) / 2)))).toNat else f.gainInit

/-- The pair's speed is above VMAX (R219), in mm/s. -/
def tooFast (vMax : Nat) (v : Rat) : Bool := decide (((vMax * 1000 : Nat) : Rat) < v) || decide (v < -((vMax * 1000 : Nat) : Rat))

/-- The published bank holds path p's pair as it stands, so a flex instance may read it (R103). -/
def pairPublished (s : State) (p : Nat) : Bool :=
  match s.pub with
  | none => true
  | some b => decide ((vget b.flw.path p (flowPath s p)).pair = (flowPath s p).pair)

/-- KU-PAIR publishes the outcome of pipe path p once both shots are evaluated, or the pair is cut off (R219 to R229,
R231, R233). -/
def pairOutcome (p : Nat) (s : State) : State :=
  let x := flowPath s p
  match x.pair with
  | none => s
  | some q =>
    let f := flowCfg q.cfg p
    let at_ := q.dnAt.getD s.aon
    let go := fun (cause : Nat) (res : Option (Vals × Nat × Word)) (corr : Rat) (wave : List Rat) =>
      let live := decide (x.state = .starting ∨ x.state = .run ∨ x.state = .hold)
      let parts := outcomeParts x (holdMs s p) at_ (live && res.isSome)
      calOutcome p (live && res.isSome) q.assign corr wave
        (combine p at_ x parts (outcome p at_ q.assign f cause res s))
    if q.abort then go (pairCause q) none 0 []
    else match q.dn, q.up with
      | some dn, some up =>
        if pairCause q ≠ 0 then go (pairCause q) none 0 []
        else
          let v := pipeVals s p at_ q dn up
          if tooFast f.vMax v.v then go 65536 none 0 []
          else go 0 (some (v, gainAfter f q.gain dn up, rxWord q.gain dn up)) (v.dt + f.zero) (addWave dn.aligned up.aligned)
      | _, _ => s

/-- A pair in flight on pipe path p is cut off: it fails with ABORT at once (R216). -/
def abortPair (p : Nat) (s : State) : State :=
  if (flowPath s p).pair.isSome then
    pairOutcome p (setPath p (fun x => { x with pair := x.pair.map fun q => { q with abort := true } }) s)
  else s

/-! ### Registers -/

/-- FLW_STAT_Pn, and the shared bits of FLW_CH_STAT (Tables 7-9 and 8-5). -/
def flowStat (x : FPath) : Nat :=
  x.state.code + 16 * x.tag.code + 256 * b2n x.assign + 512 * b2n x.acquiring + 1024 * b2n x.refLearned
    + 2048 * b2n x.refMismatch + 4096 * b2n x.expired + 8192 * b2n x.cut + 16384 * b2n x.tempOut + 32768 * b2n x.cfgReject

/-- A read-only register of pipe path p at its offset from the path's base (Table 7-8). -/
def pathRead (s : State) (p o : Nat) : Word :=
  let x := flowPath s p
  let t := fun site (y : Rat) => u32 (rnd site y)
  match o with
  | 0x40 => w32 (flowStat x + 1048576 * x.ttag.code)
  | 0x44 => s32 x.v
  | 0x48 => s32 x.vm
  | 0x4C => s32 (rnd 73 ((x.q : Rat) / 1000))
  | 0x50 => w32 (min x.c max32)
  | 0x54 => s32 x.temp
  | 0x58 => w32 (min x.re max32)
  | 0x5C => w32 (min x.k max32)
  | 0x60 => t 80 x.tdn
  | 0x64 => t 81 x.tup
  | 0x68 => s32 (rnd 82 (x.dt * 100))
  | 0x6C => s32 (rnd 83 (x.e * 100))
  | 0x70 => x.rxinfo
  | 0x74 => w32 x.failCause
  | 0x78 => w32 x.pairs
  | 0x7C => w32 x.fails
  | 0x80 => w32 x.holds
  | 0x84 => w32 x.expires
  | 0x88 => w32 x.pstamp
  | 0x8C => x.refAct
  | _ => 0

/-- FLW_CALSTAT (Table 7-7). -/
def calStat (s : State) : Word :=
  let c := s.flw.cal
  pack [(0, c.status), (4, c.path), (16, min (c.got0 + c.got1) 65535)]

/-- A word of volume set v at its offset in the set (Table 7-4), without the snapshot rule; NET is FWD less REV modulo
2^96 (R232). The stamp at +0x0C belongs to the port. -/
def volWord (s : State) (v o : Nat) : Word :=
  let x := volSet s v
  let w := fun (a : Nat) (i : Nat) => w32 (a / 2 ^ (32 + 32 * i))
  let net := ((x.fwd / 2 ^ 32 : Nat) + 2 ^ 96 - x.rev / 2 ^ 32) % 2 ^ 96
  if o < 0x0C then w x.fwd (o / 4)
  else if 0x10 ≤ o ∧ o < 0x1C then w x.rev ((o - 0x10) / 4)
  else if o = 0x1C then ms32 x.unmeas
  else if 0x20 ≤ o ∧ o < 0x2C then w32 (net / 2 ^ (32 * ((o - 0x20) / 4)))
  else if o = 0x2C then ms32 x.holdT
  else if 0x30 ≤ o ∧ o < 0x3C then w x.held ((o - 0x30) / 4)
  else if o = 0x3C then
    pack [(0, b2n (volDefined s v)), (1, b2n (volReverse s v)), (4, x.tag.code), (6, b2n x.unmeasured), (7, b2n x.single)]
  else 0

/-! ### Writes -/

/-- The relations a write of a flow register must keep (R210, R215, R236, R244, R262), checked on the register file as it
would stand. `p` is the path, `off` the register written. -/
def flowRelOk (c : List (Nat × Word)) (p off : Nat) : Bool :=
  let f := flowCfg c p
  let r := fun o => (cfgFind c o).getD (regReset o)
  let o := if p < 2 then off - (0x3100 + 0x100 * p) else off
  let isL := if p < 2 then o = 0x10 ∨ o = 0x14 else off = 0x330C ∨ off = 0x3310
  let isC := if p < 2 then o = 0x20 else off = 0x331C
  let isA := if p < 2 then o = 0x28 else off = 0x3324
  let isS := if p < 2 then o = 0x00 ∨ o = 0x04 else off = 0x3300 ∨ off = 0x3304
  let per := r 0x3000
  if p < 2 ∧ (off = 0x3000 ∨ o = 0x08) then
    decide (2 * f.gapUs * 1024 ≤ min (bits per 15 0) (bits per 31 16) * 1000000)
  else if off = 0x3000 then true
  else if isL then decide (f.x < f.l) || decide (f.x = 0)
  else if isC then decide (f.cMin < f.cMax)
  else if isA then decide (f.ampMin < f.ampMax)
  else if isS then decide (f.freq * 8 * 2 ^ f.decim ≤ 32768000) && (decide (p < 2) || capOk f)
  else if p = 2 ∧ (off = 0x3308 ∨ off = 0x3804) then
    capOk f && decide ((50000 + 2 * f.gapUs) * 1024 ≤ (r 0x3804).toNat * 1000000)
  else true
where
  /-- A bank capture holds at most 2048 samples (Table 8-5). -/
  capOk (f : FlowCfg) : Bool := decide (64 + 512 + 2 * f.half / f.ts ≤ 2048)

/-- Sets CFG_REJECT of path p. -/
def flowReject (p : Nat) (s : State) : State := setPath p (fun x => { x with cfgReject := true }) s

/-- A host write of a flow configuration register, its fields already held to their ranges (R213, R236). -/
def flowWrite (off : Nat) (v : Word) (s : State) : State :=
  let c := cfgSet s.cfg off v
  if off = 0x3000 then
    let ex := [0, 1].filter fun p => pathExists s p
    if ex.all fun p => flowRelOk c p off then { s with cfg := c } else ex.foldl (fun a p => flowReject p a) s
  else if off < 0x3100 then { s with cfg := c }
  else
    let p := (off - 0x3100) / 0x100
    if flowRelOk c p off then
      let s1 := { s with cfg := c }
      if off = flowOff p 0x30 0x3328 ∧ cfgV s off ≠ v ∧ pathExists s p = true then refCheck p s1
      else if p < 2 ∧ pathExists s p = true ∧ geomOk s p = false ∧ geomOk s1 p = true then
        setPath p (fun x => { x with nextAt := firstAt s p }) (if (flowPath s p).state = .starting then pathStart p s1 else s1)
      else s1
    else flowReject p s

/-- FLW_CTRL RESTART of a path in FAULT (R119, R213): the reference is checked again first. -/
def flowRestart (path : Nat) (s : State) : State :=
  let p := path - 1
  if pathExists s p && decide ((flowPath s p).state = .fault) then
    let s1 := if (flowPath s p).refMismatch then refCheck p s else s
    if (flowPath s1 p).refMismatch then s1 else clearFaults (0x10 + p) (pathStart p s1)
  else s

end Sys2Proof.Machine
end

