-- ==== Sys2Proof/Machine/Sdi.lean ====
section
/-! DEFINITION. The SDI-12 sensor port (chapter 09): slots and their schedule, transactions, responses and retries, values
with ages and tags, and sensor power. -/

namespace Sys2Proof.Machine

open Sys2Proof

/-! ### Slots -/

/-- Slot k. -/
def sdiSlot (s : State) (k : Nat) : SdiSlot := vget s.sdi.slots k SdiSlot.zero

/-- SDI_SCFG and SDI_SPER of slot k. -/
def scfg (s : State) (k : Nat) : Word := cfgV s (slotBase k)
/-- SDI_SPER of slot k. -/
def sper (s : State) (k : Nat) : Word := cfgV s (slotBase k + 4)

/-- The address of slot k. -/
def slotAddr (s : State) (k : Nat) : Nat := bits (scfg s k) 7 0
/-- The kind of slot k: 0 M, 1 MC, 2 C, 3 CC, 4 R. -/
def slotKind (s : State) (k : Nat) : Nat := bits (scfg s k) 10 8
/-- N of slot k. -/
def slotN (s : State) (k : Nat) : Nat := bits (scfg s k) 19 16

/-- The port is enabled. -/
def sdiOn (s : State) : Bool := bit (cfgV s 0x3C00) 0

/-- Slot k runs (R270). -/
def slotRuns (s : State) (k : Nat) : Bool := sdiOn s && bit (scfg s k) 24

/-- A ball carries function `fn` in the applied structure (Table 17-3). -/
def hasBallFn (s : State) (fn : Nat) : Bool :=
  match s.str with
  | none => false
  | some im => im.balls.any fun b => decide (b.fn = fn)

/-- The port has a line: FRAME has a ball record for SDI12 (R267). -/
def sdiWired (s : State) : Bool := hasBallFn s 0x14

/-- A sensor address: '0' to '9', 'A' to 'Z' or 'a' to 'z' (R270). -/
def sdiAddr (a : Nat) : Bool :=
  decide (48 ≤ a) && decide (a ≤ 57) || decide (65 ≤ a) && decide (a ≤ 90) || decide (97 ≤ a) && decide (a ≤ 122)

/-- The ranges of an enabled slot (R270), on its two registers. -/
def slotOk (c p : Word) : Bool :=
  !bit c 24 || (sdiAddr (bits c 7 0)
    && decide (bits c 10 8 ≤ 4) && (decide (bits c 10 8 ≠ 4) || decide (bits c 14 11 ≤ 9))
    && decide (1 ≤ bits c 19 16) && decide (bits c 19 16 ≤ 9) && decide (bits c 23 20 ≤ 7)
    && decide (1 ≤ bits p 15 0) && decide (1 ≤ bits p 31 16))

/-- Age in whole seconds of value j (from 0) of slot k; 0xFFFF when never received, and holding there (R275). -/
def sdiAge (s : State) (k j : Nat) : Nat :=
  match vget (sdiSlot s k).at_ j none with
  | none => 65535
  | some t => min 65535 ((s.aon - t) / 32768)

/-- The age of value j of slot k has passed STALE_S (R276). -/
def sdiOld (s : State) (k j : Nat) : Bool := decide (bits (sper s k) 31 16 < sdiAge s k j)

/-- The tag of value j (from 0) of slot k (R276). -/
def sdiTag (s : State) (k j : Nat) : Tag :=
  if slotN s k ≤ j then .invalid
  else if (vget (sdiSlot s k).at_ j none).isNone then .invalid
  else if vget (sdiSlot s k).stale j false || sdiOld s k j then .invalid
  else vget (sdiSlot s k).tags j .invalid

/-- The published integer of value j (from 0) of slot k; above N it reads 0 (R276). -/
def sdiVal (s : State) (k j : Nat) : Int := if slotN s k ≤ j then 0 else vget (sdiSlot s k).vals j 0

/-- Changes slot k. -/
def setSlot (k : Nat) (f : SdiSlot → SdiSlot) (s : State) : State :=
  { s with sdi := { s.sdi with slots := vmod s.sdi.slots k f } }

/-- Recipients of SDI-12 events (R280). -/
def sdiWho (s : State) : Nat := blockAndF0 s 9

/-- The next due time of slot k on the grid of R271 that is not before now: base + s seconds + a whole number of periods. -/
def nextDue (s : State) (k : Nat) : Nat :=
  let first := s.sdi.base + k * 32768
  let per := max 1 (bits (sper s k) 15 0) * 32768
  if s.aon ≤ first then first else first + (s.aon - first + per - 1) / per * per

/-! ### Responses -/

/-- CRC of SDI-12 version 1.4 over characters (log 14). -/
def sdiCrc (cs : List Byte) : Nat :=
  cs.foldl (fun crc c => (List.range 8).foldl (fun a _ => if a % 2 = 1 then (a / 2) ^^^ 0xA001 else a / 2) (crc ^^^ c.toNat)) 0

/-- The three characters that carry the CRC (log 14). -/
def sdiCrcChars (cs : List Byte) : List Nat :=
  let c := sdiCrc cs
  [0x40 + c / 4096 % 16, 0x40 + c / 64 % 64, 0x40 + c % 64]

/-- A decimal number of digit characters. -/
def digitsOf (cs : List Nat) : Option Nat :=
  if cs.all fun c => decide (48 ≤ c) && decide (c ≤ 57) then some (cs.foldl (fun a c => 10 * a + (c - 48)) 0) else none

/-- One value: an unsigned decimal with at most one point, 1 to 7 digits (SDI-12 version 1.4; log 14). -/
def unsignedOf (cs : List Nat) : Option Rat :=
  let whole := cs.takeWhile fun c => decide (c ≠ 46)
  let rest := cs.drop whole.length
  let fracD := rest.drop 1
  let n := whole.length + fracD.length
  if 1 ≤ n ∧ n ≤ 7 then
    match digitsOf whole, digitsOf fracD with
    | some a, some b => some ((a : Rat) + (b : Rat) / (10 : Rat) ^ fracD.length)
    | _, _ => none
  else none

/-- The values of a data response: each starts with + or -. -/
def valuesOf : Nat → List Nat → Option (List Rat)
  | _, [] => some []
  | 0, _ :: _ => none
  | n + 1, c :: cs =>
    if c = 43 ∨ c = 45 then
      let body := cs.takeWhile fun x => decide (x ≠ 43) && decide (x ≠ 45)
      match unsignedOf body, valuesOf n (cs.drop body.length) with
      | some v, some vs => some ((if c = 45 then -v else v) :: vs)
      | _, _ => none
    else none

/-- The part of an identification line after its address: two digits of the version, 8 characters of the vendor, 6 of the model, 3 of
the version, and at most 13 more, all printable (SDI-12 version 1.4; log 14). -/
def identOk (body : List Nat) : Bool :=
  decide (19 ≤ body.length) && decide (body.length ≤ 32) && (digitsOf (body.take 2)).isSome
    && body.all fun c => decide (32 ≤ c) && decide (c ≤ 126)

/-- What a checked response says. -/
inductive SdiAnswer where
  | bad
  | ident
  | announce (ttt n : Nat)
  | values (vs : List Rat)
  deriving DecidableEq, Repr

/-- The response of a command in a phase, checked for address, syntax and CRC (R268, R269, Table 9-1). -/
def parseSdi (kind : Nat) (phase : SdiPhase) (shotCmd addr : Nat) (l : SdiLine) : SdiAnswer :=
  let cs := l.chars.map fun b => b.toNat
  let a := cs.headD 0
  let body := cs.tail
  if !l.ok || decide (79 < cs.length) || cs.isEmpty then .bad
  else match phase with
    | .shot =>
      if shotCmd = 1 then (if body.isEmpty && sdiAddr a then .ident else .bad)
      else if a ≠ addr then .bad
      else if shotCmd = 2 then (if body.isEmpty then .ident else .bad)
      else if identOk body then .ident else .bad
    | .meas =>
      let want := if kind ≤ 1 then 4 else 5
      if a = addr ∧ body.length = want then
        match digitsOf (body.take 3), digitsOf (body.drop 3) with
        | some t, some n => .announce t n
        | _, _ => .bad
      else .bad
    | .data =>
      let crc := decide (kind = 1) || decide (kind = 3)
      let txt := if crc then body.take (body.length - 3) else body
      let ok := !crc || (decide (3 ≤ body.length) &&
        decide (body.drop (body.length - 3) = sdiCrcChars (l.chars.take (l.chars.length - 3))))
      if a = addr ∧ ok = true then
        match valuesOf txt.length txt with
        | some vs => .values vs
        | none => .bad
      else .bad
    | .rcmd =>
      if a = addr then
        match valuesOf body.length body with
        | some vs => .values vs
        | none => .bad
      else .bad
    | _ => .bad

/-! ### The line -/

/-- The characters of the open transaction's command (Table 9-1): ?!, a! or aI!; aM!, aMC!, aC! or aCC!; aDn!; aRk!. -/
def sdiChars (s : State) (t : SdiTxn) : List Byte :=
  let sh := s.sdi.shot.getD (0, 0)
  let a := BitVec.ofNat 8 (if t.shot then sh.2 else slotAddr s t.slot)
  match t.phase with
  | .shot => if sh.1 = 1 then [0x3F, 0x21] else if sh.1 = 2 then [a, 0x21] else [a, 0x49, 0x21]
  | .meas => match slotKind s t.slot with
    | 0 => [a, 0x4D, 0x21]
    | 1 => [a, 0x4D, 0x43, 0x21]
    | 2 => [a, 0x43, 0x21]
    | _ => [a, 0x43, 0x43, 0x21]
  | .data => [a, 0x44, BitVec.ofNat 8 (48 + t.dIdx), 0x21]
  | .rcmd => [a, 0x52, BitVec.ofNat 8 (48 + bits (scfg s t.slot) 14 11), 0x21]
  | _ => []

/-- The length of a command in ms (Table 9-2): break, marking, and 10 bits of 1200 baud for each character. -/
def sdiLen (brk : Bool) (n : Nat) : Rat := (if brk then 25 / 2 else 0) + 9 + 25 * n / 3

/-- The open transaction sends the command of its phase, with a break before it after 87 ms without activity, and at the start of a
transaction in SWITCHED mode (R266, R268); without a line nothing is sent (R267). -/
def sdiSend (first : Bool) (t : SdiTxn) (s : State) : State :=
  let s1 := { s with sdi := { s.sdi with txn := some t } }
  if !sdiWired s then s1
  else
    let quiet := match s.sdi.lineAt with
      | none => true
      | some a => decide (87 * 32768 ≤ (s.aon - a) * 1000)
    let brk := (first && decide (bits (cfgV s 0x3C00) 2 1 = 2)) || quiet
    let cs := sdiChars s t
    { s1 with sdi := { s1.sdi with
      cmd := some ⟨s.aon, brk, cs⟩
      lineAt := some (s.aon + (sdiLen brk cs.length * 32768 / 1000).ceil.toNat) } }

/-- The bits of a character as 7E1 sends them, least significant first: start, seven data bits, even parity, stop. -/
def sdiBits (c : Byte) : List Bool :=
  let d := (List.range 7).map fun j => c.getLsbD j
  [false] ++ d ++ [decide ((d.filter id).length % 2 = 1), true]

/-- What the SDI12 ball carries `ms` after the command began: true for spacing, which is high, false for marking, which is low, none
while the ball is an input (R265, Table 9-2). -/
def sdiLevel (c : SdiCmd) (ms : Rat) : Option Bool :=
  let b : Rat := if c.brk then 25 / 2 else 0
  if ms < b then some true
  else if ms < b + 9 then some false
  else match (c.chars.flatMap sdiBits)[((ms - b - 9) * 6 / 5).floor.toNat]? with
    | none => none
    | some x => some (!x)

/-- The SDI12 ball at the AON count (R265): driven only while a break, marking or a command is sent. -/
def sdiBall (s : State) : Option Bool :=
  match s.sdi.cmd with
  | none => none
  | some c => sdiLevel c ((s.aon - c.from_ : Nat) * 1000 / (32768 : Rat))

/-- The SDP ball: its level in the polarity of SDI_CFG, or none where no ball carries it (R266, R267). -/
def sdpBall (s : State) : Option Bool :=
  if hasBallFn s 0x15 then some (s.sdi.sdp != bit (cfgV s 0x3C00) 3) else none

/-! ### Transactions -/

/-- Whether a transaction or data phase falls due within 2 × POWER_MS, or one waits or is pending (R266). -/
def sdpNeeded (s : State) : Bool :=
  let soon := s.aon + aonOfMs (2 * bits (cfgV s 0x3C00) 31 16)
  s.sdi.shot.isSome || (List.range 8).any fun k =>
    let x := sdiSlot s k
    x.pendN.isSome || (slotRuns s k && (x.due || decide (x.dueAt ≤ soon)))

/-- SDP in its mode; in SWITCHED mode it stays as it is while a transaction is open or due (R266). -/
def sdpIdle (s : State) : Bool :=
  let m := bits (cfgV s 0x3C00) 2 1
  if m = 1 then sdiOn s else if m = 2 then s.sdi.sdp && (s.sdi.txn.isSome || sdpNeeded s) else false

/-- The line is released, and SDP follows R266. -/
def sdiRelease (s : State) : State :=
  let s1 := { s with sdi := { s.sdi with txn := none } }
  { s1 with sdi := { s1.sdi with sdp := sdpIdle s1 } }

/-- A measurement transaction of slot k fails with RESULT r: nothing is stored (R269, R274, R278). -/
def sdiFail (k r : Nat) (s : State) : State :=
  let x := sdiSlot s k
  let n := x.fails + 1
  let s1 := setSlot k (fun x => { x with
    result := r, stored := 0, fails := n, scount := satInc x.scount, pendN := none, dataDue := false
    tags := vmap x.tags fun _ t => if t = .valid then .held else t }) s
  emitAll (evIf (decide (n = 3)) { code := 0x0901, sev := 2, who := sdiWho s, w4 := w32 k, w5 := w32 (slotAddr s k), w6 := w32 r })
    (sdiRelease s1)

/-- A measurement transaction of slot k ends with n announced and the returned values (R273, R276, R278). -/
def sdiEnd (k n : Nat) (vs : List Rat) (s : State) : State :=
  let x := sdiSlot s k
  let nn := slotN s k
  let lim := min n nn
  let ints := (vs.take lim).map fun v => roundAway (v * (10 ^ bits (scfg s k) 23 20 : Nat))
  let fits := fun (v : Int) => decide (-2147483648 ≤ v) && decide (v ≤ 2147483647)
  let rng := ints.any fun v => !fits v
  let stored := (ints.filter fits).length
  let short := decide (n < nn) || decide (stored < lim)
  let extra := max n vs.length - lim
  let ovr := decide (0 < extra)
  let has := fun j => match ints[j]? with
    | some v => fits v
    | none => false
  let s1 := setSlot k (fun x => { x with
    result := if ovr then 3 else if short then 2 else 1
    stored := stored
    overlong := x.overlong || ovr
    range := x.range || rng
    fails := 0
    scount := satInc x.scount
    sstamp := if 0 < stored then s.aon % 2 ^ 32 else x.sstamp
    vals := vmap x.vals fun j v => if has j then ints.getD j 0 else v
    at_ := vmap x.at_ fun j t => if has j then some s.aon else t
    tags := vmap x.tags fun j t => if has j then .valid else if t = .valid then .held else t
    stale := vmap x.stale fun j b => !has j && b
    pendN := none, dataDue := false }) s
  let ev := fun code sev (w5 w6 : Nat) => ({ code := code, sev := sev, who := sdiWho s, w4 := w32 k, w5 := w32 w5, w6 := w32 w6 } : Ev)
  emitAll (evIf (ovr && !x.overlong) (ev 0x0903 1 n extra) ++ evIf short (ev 0x0904 0 n stored)
    ++ evIf (decide (3 ≤ x.fails)) (ev 0x0902 1 x.fails 0)) (sdiRelease s1)

/-- A one-shot command ends with result r (Table 9-3). -/
def shotEnd (r : Nat) (l : List Byte) (s : State) : State :=
  let cmd := (s.sdi.shot.getD (0, 0)).1
  sdiRelease { s with sdi := { s.sdi with
    shot := none, shotResult := r
    addr := if r = 1 ∧ cmd ≠ 3 then (l.headD 0).toNat else s.sdi.addr
    ident := if r = 1 ∧ cmd = 3 then l.take 36 else s.sdi.ident } }

/-- The open transaction sends its next command: the measurement, the next D command, R or a one-shot command. -/
def txnPhase (s : State) (t : SdiTxn) : SdiPhase :=
  if t.shot then .shot else if t.conc then .data else if slotKind s t.slot = 4 then .rcmd else .meas

/-- The present command fails: it is sent again at most three times, and then the transaction ends (R269). -/
def sdiRetry (t : SdiTxn) (s : State) : State :=
  if t.retries < 3 then
    let s1 := sdiSend false { t with retries := t.retries + 1 } s
    if t.shot then s1 else setSlot t.slot (fun x => { x with sretry := satInc x.sretry }) s1
  else if t.shot then shotEnd (if t.anyChar then 3 else 2) [] s
  else sdiFail t.slot (if t.anyChar then 5 else 4) s

/-- The data phase of a transaction: its first D command is sent, or the transaction ends where n = 0 (R272). -/
def sdiData (t : SdiTxn) (n : Nat) (s : State) : State :=
  if n = 0 then sdiEnd t.slot 0 [] s
  else sdiSend false { t with phase := .data, n := n, dIdx := 0, retries := 0 } s

/-- A response line arrives for the open transaction (R268, R269, R272, R273); without a line none does (R267). -/
def sdiResponse (l : SdiLine) (s : State) : State :=
  match s.sdi.txn with
  | none => s
  | some t0 =>
    let lost := l.chars.length - 79
    let t := { t0 with anyChar := true }
    let s1 := { s with
      whl := { s.whl with sdiQloss := satAdd s.whl.sdiQloss lost }
      sdi := { s.sdi with lineAt := some s.aon } }
    let sh := s.sdi.shot.getD (0, 0)
    let addr := if t.shot then sh.2 else slotAddr s t.slot
    let nn := slotN s t.slot
    if t.phase = .power ∨ t.phase = .wait ∨ sdiWired s = false then s
    else match parseSdi (slotKind s t.slot) t.phase sh.1 addr l with
      | .bad => sdiRetry t s1
      | .ident => shotEnd 1 l.chars s1
      | .announce ttt n =>
        if slotKind s t.slot ≤ 1 then
          if ttt = 0 ∨ n = 0 then sdiData t n s1
          else { s1 with sdi := { s1.sdi with txn := some { t with
            phase := .wait, n := n, retries := 0, deadline := s.aon + ttt * 32768 } } }
        else if n = 0 then sdiEnd t.slot 0 [] s1
        else if ttt = 0 then sdiData t n s1
        else sdiRelease (setSlot t.slot (fun x => { x with pendN := some n, dataAt := s.aon + ttt * 32768, dataDue := false }) s1)
      | .values vs =>
        let all := t.vals ++ vs
        if t.phase = .rcmd then sdiEnd t.slot nn vs s1
        else if min t.n nn ≤ all.length ∨ vs.isEmpty = true ∨ t.dIdx = 9 then sdiEnd t.slot t.n all s1
        else sdiSend false { t with vals := all, dIdx := t.dIdx + 1, retries := 0 } s1

/-- No start bit arrives, or a gap is too long: the command is retried or the transaction fails (R268, R269). -/
def sdiTimeout (some_ : Bool) (s : State) : State :=
  match s.sdi.txn with
  | none => s
  | some t =>
    if t.phase = .power ∨ t.phase = .wait then s else sdiRetry { t with anyChar := t.anyChar || (some_ && sdiWired s) } s

/-- A service request from the sensor of the open M or MC measurement ends its wait (R272). -/
def sdiService (addr : Byte) (s : State) : State :=
  match s.sdi.txn with
  | none => s
  | some t => if t.phase = .wait ∧ addr.toNat = slotAddr s t.slot ∧ sdiWired s = true then
      sdiData t t.n { s with sdi := { s.sdi with lineAt := some s.aon } }
    else s

/-- ttt seconds have elapsed: the data phase of the open M or MC measurement, or of slot k's concurrent one (R272). -/
def sdiDataDue (k : Nat) (s : State) : State :=
  match s.sdi.txn with
  | some t =>
    if t.phase = .wait ∧ t.slot = k ∧ t.deadline ≤ s.aon then sdiData t t.n s
    else dueConc
  | none => dueConc
where
  /-- A pending concurrent measurement's data phase falls due. -/
  dueConc : State :=
    let x := sdiSlot s k
    if x.pendN.isSome ∧ x.dataAt ≤ s.aon ∧ slotRuns s k = true then setSlot k (fun x => { x with dataDue := true }) s else s

/-- Slot k falls due, or is skipped while its own measurement is open (R271). -/
def slotDue (k : Nat) (s : State) : State :=
  let x := sdiSlot s k
  if slotRuns s k && decide (x.dueAt ≤ s.aon) then
    let mine := match s.sdi.txn with
      | none => false
      | some t => !t.shot && decide (t.slot = k)
    let skip := mine || x.pendN.isSome
    setSlot k (fun x => { x with
      skipped := x.skipped || skip
      due := x.due || !skip
      dueAt := x.dueAt + max 1 (bits (sper s k) 15 0) * 32768 }) s
  else s

/-- The slot's address has a concurrent measurement pending in another slot (R271). -/
def addrBusy (s : State) (k : Nat) : Bool :=
  (List.range 8).any fun j => decide (j ≠ k) && (sdiSlot s j).pendN.isSome && decide (slotAddr s j = slotAddr s k)

/-- The transaction the free line serves next: one-shot, then data phases, then due slots, lowest slot first (R271). -/
def nextTxn (s : State) : Option SdiTxn :=
  let mk := fun (k : Nat) (shot conc : Bool) (n : Nat) =>
    ({ slot := k, shot := shot, conc := conc, phase := .power, dIdx := 0, n := n, vals := [], retries := 0, anyChar := conc,
       deadline := 0 } : SdiTxn)
  if s.sdi.shot.isSome then some (mk 0 true false 0)
  else match (List.range 8).find? fun k => slotRuns s k && (sdiSlot s k).dataDue with
    | some k => some (mk k false true ((sdiSlot s k).pendN.getD 0))
    | none => ((List.range 8).find? fun k => slotRuns s k && (sdiSlot s k).due && !addrBusy s k).map fun k => mk k false false 0

/-- The free line starts its next transaction; in SWITCHED mode sensor power settles first (R266, R271). -/
def sdiStart (s : State) : State :=
  if s.sdi.txn.isSome || !(sdiOn s || s.sdi.shot.isSome) then s
  else match nextTxn s with
    | none => s
    | some t =>
      let sw := decide (bits (cfgV s 0x3C00) 2 1 = 2)
      let settle := sw && !s.sdi.sdp
      let t1 := { t with
        phase := if settle then .power else txnPhase s t
        deadline := if settle then s.aon + aonOfMs (bits (cfgV s 0x3C00) 31 16) else 0 }
      let s0 := { s with sdi := { s.sdi with txn := some t1, sdp := s.sdi.sdp || sw } }
      let s1 := if settle then s0 else sdiSend true t1 s0
      if t.shot then s1 else setSlot t.slot (fun x => { x with due := if t.conc then x.due else false, dataDue := false }) s1

/-- POWER_MS after SDP went active the first command is sent (R266). -/
def sdpSettled (s : State) : State :=
  match s.sdi.txn with
  | none => s
  | some t =>
    if t.phase = .power ∧ t.deadline ≤ s.aon then
      sdiSend true { t with phase := txnPhase s t } s
    else s

/-- SDI_CTRL with a valid key: a one-shot command is queued; the caller answers Busy while one is pending (R264). -/
def sdiShot (cmd addr : Nat) (s : State) : State :=
  { s with sdi := { s.sdi with shot := some (cmd, addr), shotResult := 0 } }

/-- The age of value j of slot k passes STALE_S and its tag turns to INVALID (R276). -/
def sdiStale (k j : Nat) (s : State) : State :=
  if sdiOld s k j then setSlot k (fun x => { x with stale := vmod x.stale j fun _ => true }) s else s

/-- A slot that no longer runs gives up its concurrent measurement (R270; log 71). -/
def sdiHalt (s : State) : State :=
  { s with sdi := { s.sdi with slots := vmap s.sdi.slots fun k x => if slotRuns s k then x else { x with pendN := none, dataDue := false } } }

/-- A host write of SDI_CFG (R266, R279): SDP follows the mode, and an enabled port takes up its due times. -/
def sdiCfgWrite (v : Word) (s : State) : State :=
  let on := sdiOn s
  let s1 := { s with cfg := cfgSet s.cfg 0x3C00 v }
  let s2 := sdiHalt (if sdiOn s1 && !on then
      { s1 with sdi := { s1.sdi with slots := vmap s1.sdi.slots fun k x => { x with dueAt := nextDue s1 k } } }
    else s1)
  { s2 with sdi := { s2.sdi with sdp := sdpIdle s2 } }

/-- A host write of SDI_SCFG or SDI_SPER of slot k (R270, R276): CFG_REJECT where it would leave an enabled slot out of range. -/
def slotWrite (k : Nat) (off : Nat) (v : Word) (s : State) : State :=
  let s1 := { s with cfg := cfgSet s.cfg off v }
  if slotOk (scfg s1 k) (sper s1 k) then
    sdiHalt (setSlot k (fun x => { x with dueAt := nextDue s1 k, stale := Vector.ofFn fun (j : Fin 9) => sdiOld s1 k j }) s1)
  else setSlot k (fun x => { x with cfgReject := true }) s

/-! ### Registers -/

/-- SDI_STAT (Table 9-3). -/
def sdiStat (s : State) : Word :=
  pack [(0, b2n s.sdi.txn.isSome), (1, (s.sdi.txn.map SdiTxn.slot).getD 0), (4, b2n s.sdi.sdp), (5, s.sdi.shotResult),
    (8, s.sdi.addr)]

/-- A read-only register of slot k at its offset; the slot reads 0 when not enabled (R279). -/
def slotRead (s : State) (k o : Nat) : Word :=
  let x := sdiSlot s k
  let age := fun j => if j = 9 then 65535 else sdiAge s k j
  if !bit (scfg s k) 24 then 0
  else if o = 0x08 then pack [(0, x.result), (8, x.stored), (12, b2n x.overlong), (13, b2n x.range), (14, b2n x.skipped),
    (15, b2n x.cfgReject), (16, min x.fails 255)]
  else if o = 0x0C then w32 x.scount
  else if 0x10 ≤ o ∧ o ≤ 0x30 then i32 (sdiVal s k ((o - 0x10) / 4))
  else if o = 0x34 then pack ((List.range 9).map fun j => (2 * j, (sdiTag s k j).code))
  else if 0x38 ≤ o ∧ o ≤ 0x48 then let j := (o - 0x38) / 2; pack [(0, age j), (16, age (j + 1))]
  else if o = 0x4C then w32 x.sstamp
  else if o = 0x50 then w32 x.sretry
  else 0

/-- SDI_IDENT word i (Table 9-3). -/
def identWord (s : State) (i : Nat) : Word :=
  let b := fun j => s.sdi.ident.getD (4 * i + j) 0
  memWord.wordOf (b 0) (b 1) (b 2) (b 3)

end Sys2Proof.Machine
end

