-- ==== Sys2Proof/Machine/ChannelFlow.lean ====
section
/-! DEFINITION. Open-channel flow and the chord link (chapter 08): frames, discards and link states, time transfer, roles
and the role swap, bank shots, level, discharge and VOLSET 3. -/

namespace Sys2Proof.Machine

open Sys2Proof

/-! ### Frames and local time -/

/-- The number in n bytes from offset o, least significant first. -/
def leAt (b : List Byte) (o n : Nat) : Nat := ((b.drop o).take n).foldr (fun x a => x.toNat + 256 * a) 0

/-- A signed 32-bit number at offset o. -/
def leInt (b : List Byte) (o : Nat) : Int := sgn (w32 (leAt b o 4))

/-- The configured body length of a frame type (R241). -/
def linkLen (s : State) (typ : Nat) : Nat :=
  let w := cfgV s 0x3808
  if typ = 1 then bits w 7 0 else if typ = 2 then bits w 15 8 else bits w 23 16

/-- A frame on the wire: preamble, start delimiter, and the body of header and payload padded to the configured length with
the CRC-32 after it (R240, R241). -/
def linkFrame (s : State) (typ flags epoch : Nat) (payload : List Byte) : List Byte :=
  let b := leBytes 1 typ ++ leBytes 1 flags ++ leBytes 1 epoch ++ leBytes 1 s.chd.cycle ++ payload
  let p := b ++ List.replicate (linkLen s typ - 4 - b.length) 0
  [0x55, 0x55, 0xD5] ++ p ++ wordBytes (crc32 p)

/-- The characters of a frame as CHD_TX sends them, 8N1 with the least significant bit first (R239): one level per bit time. -/
def linkLevels (frame : List Byte) : List Bool :=
  frame.flatMap fun b => [false] ++ ((List.range 8).map fun j => b.getLsbD j) ++ [true]

/-- The FLAGS of Table 8-2: SWAP_REQ, SWAP_COMMIT, END, LEADER. -/
def linkFlags (s : State) (req commit : Bool) : Nat :=
  b2n req + 2 * b2n commit + 4 * b2n (bit (cfgV s 0x3800) 1) + 8 * b2n s.chd.leader

/-- Changes the chord-link state. -/
def setChd (f : Chd → Chd) (s : State) : State := { s with chd := f s.chd }

/-- The link is live: it opens cycles and takes frames. -/
def linkLive (s : State) : Bool := decide (s.chd.state = .starting ∨ s.chd.state = .run ∨ s.chd.state = .hold)

/-- The tag of θ (R246). -/
def thetaTag (s : State) : Tag :=
  match s.chd.state with
  | .starting => if s.chd.seed = 0 then .invalid else .settling
  | .run => .valid
  | .hold => if s.chd.holdExp || decide ((cfgV s 0x380C).toNat * 32768 < (s.aon - s.chd.goodAt) * 1000) then .invalid else .held
  | _ => .invalid

/-- The link changes state, and LINK_STATE is queued (R243, R263). -/
def linkState (m : Mgmt) (cause : Nat) (s : State) : State :=
  if s.chd.state = m then s
  else
    let c := s.chd
    emit { code := 0x0801, unit := 0x18, sev := if m = .hold ∨ m = .fault then 2 else 1, who := blockAndF0 s 8, w4 := w32 m.code,
           w5 := w32 cause, w6 := w32 (satAdd (satAdd c.discShort c.discLong) c.discBad), w7 := w32 c.missing }
      (setChd (fun c => { c with state := m, holdExp := false, complRun := 0 }) s)

/-- The link enters STARTING: the filter is unseeded and no swap is pending (R243, R246). -/
def linkEnter (cause : Nat) (s : State) : State :=
  linkState .starting cause (setChd (fun c => { c with
    seed := 0, outRun := 0, discAt := [], discRun := 0, missRun := 0, ownReq := false, ownSent := false, partnerReq := false,
    committed := false, pred := none, t3 := none, t4 := none, syncAt := s.aon }) s)

/-- The link goes to FAULT, counted under R119 (R243). -/
def linkFault (cause : Nat) (s : State) : State := forceRecord 0x18 (linkState .fault cause s)

/-- A swap is pending (R257). -/
def swapPending (s : State) : Bool := s.chd.ownReq || s.chd.partnerReq || s.chd.committed

/-! ### Discards, missing frames, complete cycles -/

/-- A discarded frame: `kind` 0 short, 1 long, 2 bad (R242, R243). -/
def linkDiscard (kind : Nat) (s : State) : State :=
  let now := s.aon
  let s1 := setChd (fun c => { c with
    discShort := if kind = 0 then satInc c.discShort else c.discShort
    discLong := if kind = 1 then satInc c.discLong else c.discLong
    discBad := if kind = 2 then satInc c.discBad else c.discBad
    discAt := (c.discAt.filter fun t => decide (now < t + 32768)) ++ [now]
    discRun := c.discRun + 1, complRun := 0 }) s
  if 32 ≤ s1.chd.discAt.length then linkFault 1 s1
  else if s1.chd.state = .run ∧ 2 ≤ s1.chd.discRun then linkState .hold 1 s1
  else s1

/-- A cycle's expected frames have all arrived good (R243, R246). -/
def linkComplete (s : State) : State :=
  let s1 := setChd (fun c => { c with complRun := c.complRun + 1, missRun := 0 }) s
  if s1.chd.state = .starting ∧ 8 ≤ s1.chd.complRun then linkState .run 4 s1
  else if s1.chd.state = .hold ∧ 2 ≤ s1.chd.complRun then linkState .run 4 s1
  else s1

/-- On the follower, 3 cycle periods without a good SYNC make its copy of the discharge INVALID (R255). -/
def copyLapse (s : State) : State :=
  let x := flowPath s 2
  if !s.chd.leader && decide (s.chd.syncAt + 96 * (cfgV s 0x3804).toNat ≤ s.aon) && decide (x.state = .run ∨ x.state = .hold) then
    calLeft 2 (setPath 2 (fun x => { x with state := .hold, tag := .invalid, ttag := .invalid }) s)
  else s

/-- An expected frame did not arrive in its slot (R243); a follower without SYNC sends neither REPLY nor ARRIVE in this cycle. -/
def linkMissing (s : State) : State :=
  if linkLive s then
    let s1 := setChd (fun c => { c with
      missing := satInc c.missing
      missRun := if c.cycMissed ∧ c.leader = true then c.missRun else c.missRun + 1
      cycMissed := true, complRun := 0
      gotReply := c.leader && c.gotReply }) s
    copyLapse (if s1.chd.state = .run ∧ 2 ≤ s1.chd.missRun then linkState .hold 2 s1 else s1)
  else s

/-! ### Time transfer -/

/-- One measurement of θ and d at own time `at_` enters the filter (R246). -/
def offsetTake (th d : Rat) (at_ : Nat) (s : State) : State :=
  let c := s.chd
  let dt : Rat := (psDiff at_ c.latest : Int)
  let seedNow := fun (c : Chd) => { c with theta := th, rate := 0, seed := 1, latest := at_, outRun := 0, goodAt := s.aon, holdExp := false }
  let s1 :=
    if c.seed = 0 then setChd seedNow s
    else if c.seed = 1 then
      setChd (fun c => { c with theta := th, rate := if dt = 0 then 0 else wrapPs (th - c.theta) / dt, seed := 2, latest := at_,
                                outRun := 0, goodAt := s.aon, holdExp := false }) s
    else
      let p := c.theta + c.rate * dt
      let e := wrapPs (th - p)
      if e < -1000000 ∨ 1000000 < e ∨ d < 0 ∨ 20000000 < d then
        let s0 := setChd (fun c => { c with outlier := satInc c.outlier, resid := (e :: c.resid).take 16 }) s
        if 3 ≤ c.outRun then setChd seedNow s0
        else setChd (fun c => { c with theta := p, latest := at_, outRun := c.outRun + 1 }) s0
      else
        setChd (fun c => { c with
          theta := p + e / 4, rate := if dt = 0 then c.rate else c.rate + e / (16 * dt), latest := at_, outRun := 0
          goodAt := s.aon, holdExp := false
          resid := (e :: c.resid).take 16, delays := (d :: c.delays).take 16 }) s
  let r := s1.chd.rate
  if 1 / 5000 < r ∨ r < -1 / 5000 then linkFault 3 s1 else s1

/-- The own time of a partner's time τ: the instant t with t = τ - θ(t), where θ at t is θ + r × (t - t_latest) (R246). It
stands modulo 2^64. -/
def ownTime (s : State) (tau : Nat) : Rat :=
  s.chd.latest + wrapPs ((psDiff tau s.chd.latest : Int) - s.chd.theta) / (1 + s.chd.rate)

/-- The delay d_m and the leader's θ_m of four stamps (R245); halving after the delay is taken keeps both right modulo
2^64. -/
def stampDelay (t1 t2 t3 t4 : Nat) : Rat := wrapPs ((psDiff t2 t1 + psDiff t4 t3 : Int) : Rat) / 2
/-- θ_m for the leader, with ASYM (R245). -/
def stampTheta (s : State) (t1 t2 t3 t4 : Nat) : Rat :=
  wrapPs ((psDiff t2 t1 : Int) - stampDelay t1 t2 t3 t4 - (sgn (cfgV s 0x3810) : Rat) / 2)

/-! ### Level and section -/

/-- The local level in mm with its tag and age in s (R252). -/
def localLevel (s : State) : Int × Tag × Nat :=
  let w := cfgV s 0x3330
  let scale := fun (v : Int) => sgn (cfgV s 0x3338) + rndNear 100 ((v * sgn (cfgV s 0x3334) : Int) / (2 ^ 20 : Rat))
  if bit w 0 then (scale s.met.auxX, auxTagNow s, auxSeconds s)
  else
    let k := bits w 6 4
    let j := bits w 11 8 - 1
    (scale (sdiVal s k j), sdiTag s k j, sdiAge s k j)

/-- Seconds since the partner's level was measured (R253); 0xFFFF when none has been received. -/
def partnerAge (s : State) : Nat :=
  match s.chd.pLevel with
  | none => 65535
  | some p => min 65535 (p.age + (s.aon - p.at_) / 32768)

/-- The level in use by MODE and whether the partner's takes part; none if no level is fresh (R253). -/
def levelInUse (s : State) : Option (Int × Bool) :=
  let w := cfgV s 0x3330
  let lim := bits w 31 16
  let l := localLevel s
  let own := if l.2.1 ≠ .invalid ∧ l.2.2 ≤ lim then some l.1 else none
  let par := match s.chd.pLevel with
    | none => none
    | some p => if p.tag ≠ .invalid ∧ partnerAge s ≤ lim then some p.h else none
  match bits w 13 12, own, par with
  | 0, some h, _ => some (h, false)
  | 0, none, _ => none
  | 1, some h, _ => some (h, false)
  | _, some h, some g => some (rnd 101 (((h + g : Int) : Rat) / 2), true)
  | _, some h, none => some (h, false)
  | _, none, some g => some (g, true)
  | _, none, none => none

/-- The section points of the applied image with signed levels (R254). -/
def sectionPts (s : State) : List (Int × Nat × Nat) :=
  match s.str with
  | none => []
  | some im => im.section_.map fun p => (sgn (w32 p.h), p.a, p.k)

/-- Wetted area in cm² and velocity factor at a level, and LEVEL_RANGE (R254). -/
def sectionAt (s : State) (h : Int) : Rat × Rat × Bool :=
  let ps := sectionPts s
  let a := interp (ps.map fun p => ((p.1 : Rat), (p.2.1 : Rat))) h
  let k := interp (ps.map fun p => ((p.1 : Rat), (p.2.2 : Rat))) h
  let lo := (ps.headD (0, 0, 0)).1
  let hi := (ps.getLastD (0, 0, 0)).1
  (a, k, decide (h < lo) || decide (hi < h))

/-- LEVEL_STALE sets or clears, with its event (R253, R263). -/
def levelStale (st : Bool) (s : State) : State :=
  if s.chd.stale = st then s
  else emit { code := 0x0804, unit := 0x12, sev := 1, who := blockAndF0 s 8, w4 := w32 (b2n st), w5 := w32 (localLevel s).2.2,
              w6 := w32 (partnerAge s), w7 := w32 (bits (cfgV s 0x3330) 13 12) }
    (setChd (fun c => { c with stale := st }) s)

/-! ### Bank pairs -/

/-- This device is the upstream one (R249). -/
def isUpstream (s : State) : Bool := bit (cfgV s 0x3300) 31

/-- A new bank pair of a link cycle: the alternation advances (R214, R249). -/
def bankPairNew (s : State) : State :=
  if pathExists s 2 && geomOk s 2 then
    setPath 2 (fun x => { x with
      tried := true
      assign := nextAssign x
      pair := some (newPair s x) }) s
  else s

/-- When the pair's shot A or B is planned to fire, in own local time (R244, R249). -/
def bankPlan (s : State) (b : Bool) : Rat :=
  let t := if b then s.chd.tA + s.chd.gapMs * 1000000000 else s.chd.tA
  if s.chd.leader then (t : Rat) else ownTime s t

/-- The interval, in ps from local time `t`, that shot A or B of the bank pair holds the front end for: from 0.1 ms before it fires
until its damping ends, or from 0.1 ms before its capture opens until that closes (R248). -/
def bankHolds (s : State) (t : Nat) (b : Bool) : Rat × Rat :=
  let x := flowPath s 2
  let f := flowCfg (latchCfg s) 2
  let d := wrapPs (bankPlan s b - (t : Rat))
  if s.chd.leader != b then (d - 100000000, d + burstLen f.freq f.pulses f.damp)
  else
    let o := d + capOpen f (arrivalWindow x f (isUpstream s))
    (o - 100000000, o + capLen x f * f.ts)

/-- A shot of a pipe path that started at local time `t` would overlap a bank shot (R248). -/
def bankReserved (s : State) (p t : Nat) (up : Bool) : Bool :=
  let x := flowPath s p
  let f := flowCfg (latchCfg s) p
  let len := capOpen f (arrivalWindow x f up) + capLen x f * f.ts
  (flowPath s 2).pair.isSome && linkLive s
    && [false, true].any fun b => decide ((bankHolds s t b).1 < len) && decide (0 < (bankHolds s t b).2)

/-- The shot at the head of the queue fires, unless it would overlap a bank shot: then it waits, counted once (R216, R248). -/
def shotStart (i : FireIn) (s : State) : State :=
  match s.flw.queue with
  | [] => s
  | (p, up) :: _ =>
    if bankReserved s p i.at_ up then
      if s.flw.waited.contains (p, up) then s
      else { s with
        flw := { s.flw with waited := s.flw.waited ++ [(p, up)] }
        whl := { s.whl with shotDefer := satInc s.whl.shotDefer } }
    else shotFire i s

/-- A bank shot at its instant (R248, R249). The shot that this device receives is the UP shot exactly when it is upstream. -/
def bankShot (i : BankIn) (s : State) : State :=
  let up := isUpstream s
  let fires := s.chd.leader != i.b
  let cfg := latchCfg s
  let f := flowCfg cfg 2
  match (flowPath s 2).pair with
  | none => s
  | some q =>
    let busy := s.flw.front.isSome || (!fires && decide (2 ≤ s.flw.bufs.length))
    let late : Rat := wrapPs ((i.fire.at_ : Rat) - bankPlan s i.b)
    let noVus := fires && decide (i.fire.vus < 2800)
    let ring := ringFails i.fire
    let fails := busy || (fires && (decide (2000000 < late) || decide (late < -2000000)))
    let s1 := setChd (fun c => { c with
      tagA := if i.b then c.tagA else thetaTag s
      tagB := if i.b then thetaTag s else c.tagB
      bFired := if fires && i.b then (if fails || noVus then none else some i.fire.at_) else c.bFired
      firstA := if s.chd.leader && !i.b then false else c.firstA }) s
    let upd := fun (q : PairSt) => { q with
      defer := q.defer || fails
      cfg := if i.b then q.cfg else cfg
      learned := if i.b then q.learned else (flowPath s 2).refLearned
      dnAt := if i.b then q.dnAt else some s.aon
      hwUp := if fires then q.hwUp else (q.hwUp || (up && ring))
      hwDn := if fires then q.hwDn else (q.hwDn || (!up && ring))
      lsbUp := if fires || !up then q.lsbUp else i.fire.lsb
      lsbDn := if fires || up then q.lsbDn else i.fire.lsb
      dn := if fires && (noVus || ring) && up then some hwFail else q.dn
      up := if fires && (noVus || ring) && !up then some hwFail else q.up }
    let s2 := setPath 2 (fun x => { x with
      pair := x.pair.map upd
      from_ := if s.chd.firstA && s.chd.leader && !i.b then s.aon else x.from_
      pstamp := if i.b then x.pstamp else s.aon % 2 ^ 32 }) s1
    if fails then s2
    else { s2 with flw := { s2.flw with
      front := if noVus then none else some (2, if fires then !up else up)
      shot := if noVus then none else some
        { drv := q.assign, tx := if fires then 1 else 0, rx := if fires then 0 else 1, freq := f.freq, pulses := f.pulses
          damp := f.damp, vus := i.fire.vus, from_ := i.fire.at_ }
      bufs := if fires then s2.flw.bufs else s2.flw.bufs ++ [(2, up)] } }

/-- The result of the shot this device receives. -/
def bankReceived (s : State) : Option ShotRes :=
  match (flowPath s 2).pair with
  | none => none
  | some q => if isUpstream s then q.up else q.dn

/-- The bank pair's arrival times t_A and t_B (R249) from the partner's report and the shot received here. -/
def bankTimes (s : State) (f : FlowCfg) (aArr bFired : Nat) (r : ShotRes) : Rat × Rat :=
  let tB := s.chd.tA + s.chd.gapMs * 1000000000
  (wrapPs (ownTime s aArr - (s.chd.tA : Rat)) - f.t0, r.arr + wrapPs ((tB : Rat) - ownTime s bFired))

/-- The causes of FLW_CH_FAILCAUSE but VMAX and LEVEL (R250). -/
def bankCause (s : State) (q : PairSt) : Nat :=
  let c := s.chd
  let link := c.arriveBad || !c.gotArrive || decide (c.tagA ≠ .valid) || decide (c.tagB ≠ .valid)
  let r := bankReceived s
  let own := if isUpstream s then q.dn else q.up
  (if c.gotArrive then c.aCause else 0) + (if (own.map ShotRes.cause).getD 0 = 0 ∨ nbit c.aCause 7 = true then 0 else 128)
    + 256 * (r.map ShotRes.cause).getD 0
    + 131072 * b2n (q.defer || (c.gotArrive && c.bFired.isNone) || (c.gotArrive && r.isNone))
    + 262144 * b2n q.abort + 524288 * b2n link + 1048576 * b2n (c.gotArrive && (c.partnerUp == isUpstream s))

/-- Discharge values of a bank pair at level h (R251, R254, R255). -/
def bankVals (s : State) (at_ : Nat) (q : PairSt) (tA tB : Rat) (h : Option Int) : Vals :=
  let f := flowCfg q.cfg 2
  let tdn := if isUpstream s then tA else tB
  let tup := if isUpstream s then tB else tA
  let raw := tup - tdn
  let e := if h.isSome then swapResidue s 2 at_ q.assign raw else (flowPath s 2).e
  let dt := if q.assign then raw + e - f.zero else raw - e - f.zero
  let v := velocity f.l f.x dt tdn tup
  let c := soundOf f.l tdn tup
  let t0 := Config.waterTemp c
  let t := max 0 (min 95 t0)
  let out := decide (t0 < 0) || decide (95 < t0)
  let sec := sectionAt s (h.getD 0)
  let k := sec.2.1 / (2 ^ 30 : Nat)
  let vm := k * v
  let abs := if vm < 0 then -vm else vm
  let cut := decide (abs < (f.cutoff * 1000 : Nat))
  let vm' := if cut then 0 else vm
  { v := v, vm := vm', q := rnd 102 (vm' * sec.1 / 10), c := c, temp := t, tOut := out, re := 0, k := k, tdn := tdn, tup := tup,
    raw := raw, dt := dt, e := e, cut := cut, settle := sec.2.2 || out }

/-- The acoustic result of a bank pair that failed only for LEVEL is published (R253). -/
def publishAcoustic (v : Vals) (s : State) : State :=
  setPath 2 (fun x => { x with v := rnd 67 v.v, c := (rnd 69 (v.c * 10000)).toNat, tdn := v.tdn, tup := v.tup, dt := v.dt }) s

/-- The outcome of a bank pair on the leader (R250 to R256); one cut off before the new leader's first shot A closes no interval. -/
def bankOutcome (s0 : State) : State :=
  let s := if s0.chd.firstA && s0.chd.leader then setPath 2 (fun x => { x with from_ := s0.aon }) s0 else s0
  let x := flowPath s 2
  match x.pair with
  | none => s
  | some q =>
    if !s.chd.leader then s
    else
      let f := flowCfg q.cfg 2
      let at_ := q.dnAt.getD s.aon
      let cause := bankCause s q
      let lvl := levelInUse s
      let live := decide (x.state = .starting ∨ x.state = .run ∨ x.state = .hold)
      let fin := fun (cause : Nat) (res : Option (Vals × Nat × Word)) (corr : Rat) (wave : List Rat) (s : State) =>
        let o := calOutcome 2 (live && res.isSome) q.assign corr wave (outcome 2 at_ q.assign f cause res s)
        setChd (fun c => { c with lastOut := match (flowPath o 2).cls with
          | .valid => 0
          | .held => 2
          | .invalid => 1 }) o
      match s.chd.aArr, s.chd.bFired, bankReceived s with
      | some a, some b, some r =>
        if cause ≠ 0 then fin (cause + 2097152 * b2n lvl.isNone) none 0 [] (levelStale lvl.isNone s)
        else
          let t := bankTimes s f a b r
          match lvl with
          | none =>
            let v := bankVals s at_ q t.1 t.2 none
            fin (2097152 + 65536 * b2n (tooFast f.vMax v.v)) none 0 [] (publishAcoustic v (levelStale true s))
          | some h =>
            let v := bankVals s at_ q t.1 t.2 (some h.1)
            let sec := sectionAt s h.1
            let s1 := setChd (fun c => { c with
              h := h.1, a := (rnd 103 sec.1).toNat, k := (rnd 104 sec.2.1).toNat, range := sec.2.2, partnerUsed := h.2 })
              (levelStale false s)
            if tooFast f.vMax v.v then fin 65536 none 0 [] s1
            else fin 0 (some (v, gainAfter f q.gain r r, rxWord q.gain r r)) (v.dt + f.zero) r.aligned s1
      | _, _, _ => fin (cause + 2097152 * b2n lvl.isNone) none 0 [] (levelStale lvl.isNone s)

/-- A bank pair in flight is cut off (R216, R250). -/
def abortBank (s : State) : State :=
  if (flowPath s 2).pair.isSome && s.chd.leader then
    bankOutcome (setPath 2 (fun x => { x with pair := x.pair.map fun q => { q with abort := true } }) s)
  else { s with flw := dropShots 2 s.flw }

/-- The follower's bookkeeping of its own shot A when the next SYNC reports the outcome of the pair (R209, R217, R237, R261). -/
def followerTrack (outc : Nat) (s : State) : State :=
  let x := flowPath s 2
  match x.pair, bankReceived s with
  | some q, some r =>
    let f := flowCfg q.cfg 2
    if outc = 0 then
      let g := gainAfter f q.gain r r
      calOutcome 2 true q.assign 0 r.aligned
        (emitAll (evIf x.acquiring (flowEv s 2 0x0704 1 (u32 (rnd 74 (x.tdn / 1000))) (u32 (rnd 75 ((x.c : Rat) / 1000))) (w32 g) 0))
          (setPath 2 (fun x => { x with acquiring := false, consec := 0, last := some ⟨s.aon, r.arr, r.arr⟩, gain := g }) s))
    else
      setPath 2 (fun x => { x with
        consec := x.consec + 1
        acquiring := x.acquiring || decide (8 ≤ x.consec + 1)
        acqStep := if x.acquiring then nextStep f x else if 8 ≤ x.consec + 1 then 0 else x.acqStep }) s
  | _, _ => s

/-! ### Roles -/

/-- The requests that stand for a swap: [0] the own one, [1] the partner's (Table 8-7). -/
def swapReqs (s : State) : Nat := b2n s.chd.ownReq + 2 * b2n s.chd.partnerReq

/-- ROLE_SWAP (Table 8-7). -/
def roleEv (s : State) (result : Nat) (lead : Bool) (ep reqs : Nat) : Ev :=
  { code := 0x0802, unit := 0x18, sev := 1, who := blockAndF0 s 8, w4 := w32 result, w5 := w32 (b2n lead), w6 := w32 ep,
    w7 := w32 reqs }

/-- The open VOLSET 3 interval of a leader that gives up its role is closed as unmeasured (R256, R260). -/
def closeBankInterval (s : State) : State :=
  volUnmeasured 3 ((s.aon - (flowPath s 2).from_) * 1000)
    (setPath 2 (fun x => { x with from_ := s.aon, cls := .invalid, pair := none }) { s with flw := dropShots 2 s.flw })

/-- The leader becomes follower at the effective boundary of a swap (R258, R259). -/
def swapToFollower (s : State) : State :=
  let old := s.chd.epoch
  let ev := roleEv s 1 false s.chd.newEpoch (swapReqs s)
  emit ev (closeBankInterval (setChd (fun c => { c with
    leader := false, epoch := c.newEpoch, cycle := (c.cycle + 1) % 256, swaps := satInc c.swaps, ownReq := false, ownSent := false,
    partnerReq := false, committed := false, revert := some ⟨s.aon + 96 * (cfgV s 0x3804).toNat, old, swapReqs s⟩
    syncAt := s.aon, gotReply := false, t3 := none, t4 := none
    pred := some (c.t1 + (cfgV s 0x3804).toNat * 976562500) }) s))

/-- The device takes the lead with an epoch: residue 0, and the first interval starts at its first shot A (R249, R256,
R258, R259). -/
def takeLead (ep : Nat) (s : State) : State :=
  setPath 2 (fun x => { x with e := 0, prev := none, pair := none })
    (setChd (fun c => { c with
      leader := true, epoch := ep, roleAt := s.aon, ownReq := false, ownSent := false, partnerReq := false, committed := false,
      revert := none, nextAt := s.aon, firstA := true, t4 := none }) s)

/-- The leader opens a cycle and sends SYNC at t1 (R240, R244, R258). -/
def openCycle (t1 : Nat) (s : State) : State :=
  let c := s.chd
  let commit := c.ownSent || c.partnerReq
  let ep := if commit then (c.epoch + 1) % 256 else c.epoch
  let x := flowPath s 2
  let gap := bits (cfgV s 0x3308) 15 0
  let s0 := if x.pair.isSome then abortBank s else s
  let s1 := setChd (fun d => { d with
    cycle := (d.cycle + 1) % 256, committed := commit, newEpoch := ep, ownSent := d.ownReq, t1 := t1, tA := t1 + 10000000000, gapMs := gap
    missRun := if d.cycMissed then d.missRun else 0
    gotReply := false, gotArrive := false, cycMissed := false, arriveBad := false, aArr := none, aCause := 0, bFired := none
    tagA := .invalid, tagB := .invalid
    nextAt := max (d.nextAt + 32 * (cfgV s 0x3804).toNat) (s.aon + 1) }) s0
  let y := flowPath s1 2
  let payload := leBytes 8 t1 ++ leBytes 8 (c.t4.getD 0) ++ leBytes 8 s1.chd.tA
    ++ leBytes 4 (s32 (rnd 73 ((y.q : Rat) / 1000))).toNat ++ leBytes 4 (y.tag.code + 256 * s1.chd.lastOut) ++ leBytes 2 gap ++ leBytes 2 0
  let fr := linkFrame s1 1 (linkFlags s1 (c.ownReq && !c.ownSent) commit) ep payload
  bankPairNew (setChd (fun d => { d with tx := fr, t4 := none }) s1)

/-- LINK_CYCLE_START: a committed swap takes effect at this boundary; else the leader opens its cycle when it is due
(R244, R258). -/
def linkCycle (t1 : Nat) (s : State) : State :=
  if !linkLive s then s
  else if s.chd.leader then
    if s.aon < s.chd.nextAt then s
    else if s.chd.committed then swapToFollower s
    else openCycle t1 s
  else if s.chd.committed then
    let ep := s.chd.newEpoch
    let ev := roleEv s 1 true ep (swapReqs s)
    openCycle t1 (emit ev (setChd (fun c => { c with swaps := satInc c.swaps }) (takeLead ep s)))
  else s

/-- The old leader heard no SYNC within 3 cycle periods: it resumes as leader with its previous epoch (R259). -/
def roleRevert (s : State) : State :=
  match s.chd.revert with
  | none => s
  | some r => if r.at_ ≤ s.aon then emit (roleEv s 3 true r.epoch r.reqs) (takeLead r.epoch s) else s

/-- The follower launches REPLY at own time `t3`, once in a cycle in which it received SYNC (R240, R244, R258). -/
def linkReply (t3 : Nat) (s : State) : State :=
  if linkLive s && !s.chd.leader && s.chd.gotReply && s.chd.t3.isNone then
    let fr := linkFrame s 2 (linkFlags s s.chd.ownReq false) s.chd.epoch (leBytes 8 s.chd.t2 ++ leBytes 8 t3)
    setChd (fun c => { c with t3 := some t3, ownSent := c.ownSent || c.ownReq, tx := fr }) s
  else s

/-- The follower launches ARRIVE with its arrival of shot A, its firing of shot B and its level (R244, R249, R252). -/
def linkArrive (s : State) : State :=
  let c := s.chd
  if linkLive s && !c.leader && c.gotReply && !c.gotArrive then
    let r := bankReceived s
    let l := localLevel s
    let f := flowCfg (latchCfg s) 2
    let cause := match r with
      | none => 1
      | some r => r.cause
    let own := ownTime s c.tA
    let arr := match r with
      | none => 0
      | some r => if r.cause = 0 then (BitVec.ofInt 64 (rnd 105 (own + r.arr + f.t0))).toNat else 0
    let has := decide (l.2.1 ≠ .invalid)
    let payload := leBytes 8 arr ++ leBytes 8 (c.bFired.getD 0) ++ leBytes 1 cause
      ++ leBytes 1 (b2n c.bFired.isSome + 2 * b2n (isUpstream s) + 4 * b2n has) ++ leBytes 1 l.2.1.code ++ leBytes 1 0
      ++ leBytes 4 (i32 l.1).toNat ++ leBytes 2 (min 65535 l.2.2) ++ leBytes 2 0
    let fr := linkFrame s 3 (linkFlags s c.ownReq false) c.epoch payload
    setChd (fun c => { c with gotArrive := true, ownSent := c.ownSent || c.ownReq, tx := fr }) s
  else s

/-! ### Reception -/

/-- A frame's stamp lies in its slot (R244): 2 ms about the expected start at a leader; at the follower about its
prediction, if it has one, carried on by whole cycles where no SYNC came. -/
def inSlot (s : State) (typ stamp : Nat) : Bool :=
  let c := s.chd
  let near := fun (e : Nat) (w : Rat) => let d : Rat := (psDiff stamp e : Int); decide (-w ≤ d) && decide (d ≤ w)
  if typ = 2 then near (c.t1 + 1000000000) 1000000000
  else if typ = 3 then near (c.tA + 2 * c.gapMs * 1000000000) 1000000000
  else match c.pred with
    | none => true
    | some p =>
      let r := if c.rate < 0 then -c.rate else c.rate
      let cyc := (cfgV s 0x3804).toNat * 976562500
      let k := (((psDiff stamp p : Rat) / max 1 cyc + 1 / 2).floor).toNat
      near (p + k * cyc) (2000000000 + 10 * (cyc : Nat) * r)

/-- A good SYNC at the follower (R245, R252, R255, R258, R259). In a follower `gotReply` says that SYNC of the cycle
came, `gotArrive` that its ARRIVE has been sent. -/
def takeSync (b : List Byte) (stamp : Nat) (s : State) : State :=
  let c := s.chd
  let flags := leAt b 1 1
  let commit := nbit flags 1
  let t4 := leAt b 12 8
  let cyc := leAt b 3 1
  let s1 := match c.t3 with
    | none => s
    | some t3 =>
      if t4 ≠ 0 ∧ cyc = (c.cycle + 1) % 256 then
        offsetTake (-(stampTheta s c.t1 c.t2 t3 t4)) (stampDelay c.t1 c.t2 t3 t4) c.t2 s
      else s
  let lapse := !commit && c.ownReq && c.ownSent
  let s2 := if lapse then emit (roleEv s 2 false c.epoch (swapReqs s)) s1 else s1
  let s3 := followerTrack (leAt b 33 1) s2
  let s4 := setChd (fun c => { c with
    t1 := leAt b 4 8, t2 := stamp, t3 := none, cycle := cyc, epoch := if commit then c.epoch else leAt b 2 1
    committed := commit, newEpoch := leAt b 2 1
    ownReq := c.ownReq && !lapse, ownSent := c.ownSent && !lapse, partnerReq := if commit then c.partnerReq || nbit flags 0 else nbit flags 0
    revert := none, syncAt := s.aon, gotReply := true, gotArrive := false, bFired := none, tA := leAt b 20 8, gapMs := leAt b 36 2
    pred := some (stamp + (cfgV s 0x3804).toNat * 976562500), missRun := 0, cycMissed := false }) s3
  let tag : Tag := match leAt b 32 1 % 4 with
    | 0 => .valid
    | 1 => .settling
    | 2 => .held
    | _ => .invalid
  let x := flowPath s4 2
  let run := decide (leAt b 32 1 % 4 < 2)
  let s5 := if x.state = .off ∨ x.state = .fault then s4
    else
      let t := setPath 2 (fun x => { x with
        q := leInt b 28 * 1000, tag := tag, ttag := tag, state := if run then .run else .hold }) s4
      if run then t else calLeft 2 t
  linkComplete (bankPairNew { s5 with flw := dropShots 2 s5.flw })

/-- A good REPLY at the leader: the offset is updated (R245). -/
def takeReply (b : List Byte) (stamp : Nat) (s : State) : State :=
  let c := s.chd
  let t2 := leAt b 4 8
  let t3 := leAt b 12 8
  let s1 := setChd (fun c => { c with gotReply := true, t4 := some stamp, partnerReq := c.partnerReq || nbit (leAt b 1 1) 0 }) s
  let s2 := offsetTake (stampTheta s c.t1 t2 t3 stamp) (stampDelay c.t1 t2 t3 stamp) c.t1 s1
  if s2.chd.gotArrive then linkComplete s2 else s2

/-- A good ARRIVE at the leader (R249, R250, R252). -/
def takeArrive (b : List Byte) (s : State) : State :=
  let a := leAt b 4 8
  let fl := leAt b 21 1
  let tag : Tag := match leAt b 22 1 % 4 with
    | 0 => .valid
    | 1 => .settling
    | 2 => .held
    | _ => .invalid
  let s1 := setChd (fun c => { c with
    gotArrive := true, aArr := if a = 0 then none else some a, aCause := leAt b 20 1
    bFired := if nbit fl 0 then some (leAt b 12 8) else none, partnerUp := nbit fl 1
    partnerReq := c.partnerReq || nbit (leAt b 1 1) 0
    pLevel := if nbit fl 2 then some ⟨leInt b 24, tag, leAt b 28 2, s.aon⟩ else none }) s
  if s1.chd.gotReply then linkComplete s1 else s1

/-- A leader receives a good SYNC: the higher epoch stays leader, and END A where they are equal (R260). -/
def twoLeaders (b : List Byte) (stamp : Nat) (s : State) : State :=
  let c := s.chd
  let pe := leAt b 2 1
  let d := ((BitVec.ofInt 8 ((c.epoch : Int) - pe)).toInt : Int)
  let stay := decide (0 < d) || (decide (d = 0) && !bit (cfgV s 0x3800) 1)
  let ev := fun (w4 : Nat) => ({
    code := 0x0803, unit := 0x18, sev := 2, who := blockAndF0 s 8, w4 := w32 w4, w5 := w32 c.epoch, w6 := w32 pe,
    w7 := w32 (b2n stay) } : Ev)
  let s1 := setChd (fun c => { c with second := true }) s
  if stay then emit (ev 0) s1
  else
    let s2 := closeBankInterval (setChd (fun c => { c with
      leader := false, epoch := pe, conflicts := satInc c.conflicts, ownReq := false, ownSent := false, partnerReq := false,
      committed := false, t3 := none, t4 := none, pred := none, syncAt := s.aon }) s1)
    takeSync b stamp (emit (ev (min max32 (msUp (s.aon - c.roleAt)))) s2)

/-- The frames in the receive queue: those whose steps of work KC-BANK has not run (R124; log 72). -/
def rxFrames (s : State) : Nat := (s.chd.rxq + 3) / 4

/-- A frame enters the receive queue: 4 steps of 120 cycles become pending for KC-BANK (R106, R124, Table 3-9). -/
def rxTake (s : State) : State :=
  match ((s.str.map Image.insts).getD []).findIdx? fun i => i.code = 0x0401 with
  | none => s
  | some j => { s with
      chd := { s.chd with rxq := s.chd.rxq + 4 }
      whl := { s.whl with pending := putWork s.whl.pending j (workOf s.whl.pending j ++ List.replicate 4 120) } }

/-- LINK_FRAME_RECEIVED (R242): the checks in order, then the role's use of the frame. A frame that finds the receive
queue full is lost and counts as missing (R124). -/
def linkReceive (i : LinkIn) (s0 : State) : State :=
  let s := if linkLive s0 && decide (rxFrames s0 < 4) then rxTake s0 else s0
  let b := i.body
  let typ := leAt b 0 1
  let n := b.length
  if !linkLive s then s
  else if 4 ≤ rxFrames s0 then linkMissing { s with whl := { s.whl with linkQloss := satInc s.whl.linkQloss } }
  else if n < 4 then copyLapse (linkDiscard 0 s)
  else if !i.framed || decide (typ = 0) || decide (3 < typ) then copyLapse (linkDiscard 2 s)
  else if n < linkLen s typ then copyLapse (linkDiscard 0 s)
  else if linkLen s typ < n then copyLapse (linkDiscard 1 s)
  else if wordBytes (crc32 (b.take (n - 4))) ≠ b.drop (n - 4) then copyLapse (linkDiscard 2 s)
  else
    let expected := if s.chd.leader then decide (2 ≤ typ) else decide (typ = 1)
    if expected && !inSlot s typ i.stamp then copyLapse (linkDiscard 2 s)
    else
      let s1 := setChd (fun c => { c with good := satInc c.good, discRun := 0 }) s
      if s.chd.leader && decide (typ = 1) then twoLeaders b i.stamp s1
      else if !expected then setChd (fun c => { c with discBad := satInc c.discBad }) s1
      else if typ = 1 then takeSync b i.stamp s1
      else if typ = 2 then takeReply b i.stamp s1
      else takeArrive b s1

/-- An expected frame of a type fails to arrive within its slot (R243); a missing ARRIVE fails the bank pair (R250). -/
def linkMiss (typ : Nat) (s : State) : State :=
  let s1 := if typ = 3 then setChd (fun c => { c with arriveBad := true }) s else s
  linkMissing s1

/-- CHD_HOLD_MS after the latest good measurement in HOLD, the tag of θ turns to INVALID (R246). -/
def linkHoldExpiry (s : State) : State :=
  if s.chd.state = .hold ∧ (cfgV s 0x380C).toNat * 32768 < (s.aon - s.chd.goodAt) * 1000 then setChd (fun c => { c with holdExp := true }) s
  else s

/-- CHD_CTRL RESTART (R119, R243). -/
def linkRestart (s : State) : State :=
  if s.chd.state = .fault then clearFaults 0x18 (linkEnter 4 s) else s

/-- A host write of a CHD register, its fields held to their ranges (R244, R262). -/
def chdWrite (off : Nat) (v : Word) (s : State) : State :=
  let s1 := { s with cfg := cfgSet s.cfg off v }
  if off = 0x3804 then (if flowRelOk s1.cfg 2 0x3804 then s1 else flowReject 2 s)
  else if off = 0x3800 then
    if bit v 2 && pathExists s 2 then (if s.chd.state = .off then linkEnter (Config.otherCause 4) s1 else s1)
    else linkState .off (Config.otherCause 1) s1
  else s1

/-! ### Registers -/

/-- CHD_STAT (Table 8-6). -/
def chdStat (s : State) : Word :=
  let c := s.chd
  pack [(0, c.state.code), (4, (thetaTag s).code), (8, b2n c.leader), (9, b2n (bit (cfgV s 0x3800) 1)), (10, b2n (swapPending s)),
    (11, b2n c.second), (16, c.epoch), (24, c.cycle)]

/-- A read-only register of the CHD block (Table 8-6). -/
def chdRead (s : State) (off : Nat) : Word :=
  let c := s.chd
  let th := BitVec.ofInt 64 (rnd 106 (wrapPs c.theta))
  let n := c.resid.length
  match off with
  | 0x3820 => chdStat s
  | 0x3824 => th.extractLsb' 0 32
  | 0x3828 => th.extractLsb' 32 32
  | 0x382C => s32 (rnd 107 (c.rate * 1000000000000))
  | 0x3830 => if c.delays.isEmpty then 0 else s32 (rnd 108 (Config.linkDelay c.delays))
  | 0x3834 => if n = 0 then 0 else u32 (rnd 109 (sqrtR 110 ((c.resid.map fun e => e * e).foldl (· + ·) 0 / n)))
  | 0x3838 => w32 c.discShort
  | 0x383C => w32 c.discLong
  | 0x3840 => w32 c.discBad
  | 0x3844 => w32 c.missing
  | 0x3848 => w32 c.good
  | 0x384C => w32 c.outlier
  | 0x3850 => w32 c.swaps
  | 0x3854 => w32 c.conflicts
  | _ => 0

/-- A read-only channel-flow register (Table 8-5). -/
def bankRead (s : State) (off : Nat) : Word :=
  let x := flowPath s 2
  let c := s.chd
  match off with
  | 0x3340 => w32 (flowStat x + 65536 * b2n c.stale + 131072 * b2n c.range + 262144 * b2n c.leader + 524288 * b2n c.partnerUsed)
  | 0x3344 => s32 c.h
  | 0x3348 => w32 c.a
  | 0x334C => w32 c.k
  | 0x3350 => s32 x.v
  | 0x3354 => s32 (rnd 73 ((x.q : Rat) / 1000))
  | 0x3358 => w32 (min x.c max32)
  | 0x335C => u32 (rnd 111 (x.tdn / 1000))
  | 0x3360 => u32 (rnd 112 (x.tup / 1000))
  | 0x3364 => s32 (rnd 113 x.dt)
  | 0x3368 => w32 x.failCause
  | 0x336C => w32 x.pairs
  | 0x3370 => w32 x.fails
  | 0x3374 => pack [(0, min 65535 (localLevel s).2.2), (16, partnerAge s)]
  | _ => 0

end Sys2Proof.Machine
end

