-- ==== Sys2Proof/Machine/Display.lean ====
section
/-! DEFINITION. Display drive and tiles (chapter 11): when the display runs, power sequences and the emergency stop, frame
memory and its write queue, tiles and their checks, the legal tile. -/

namespace Sys2Proof.Machine

open Sys2Proof

/-! ### Tiles -/

/-- X0 of a tile word (Table 11-11). -/
def tX (t : Word) : Nat := bits t 6 0
/-- W. -/
def tW (t : Word) : Nat := bits t 15 8
/-- Y0. -/
def tY (t : Word) : Nat := bits t 21 16
/-- H. -/
def tH (t : Word) : Nat := bits t 30 24

/-- Tile n in force since the latest frame start (R327). -/
def tileNow (s : State) (n : Nat) : Word := vget s.dsp.tile n 0

/-- Tile n is defined (R326). -/
def tileDef (s : State) (n : Nat) : Bool := decide (tW (tileNow s n) ≠ 0)

/-- A defined tile keeps the grid rule and its field limits (Table 11-8, R326). -/
def tileGrid (t : Word) : Bool :=
  decide (tW t = 0) || (decide (tX t % 4 = 0) && decide (tW t % 4 = 0) && decide (tX t + tW t ≤ 128) && decide (1 ≤ tH t)
    && decide (tY t + tH t ≤ 64))

/-- Two defined tiles share a pixel. -/
def tileOverlap (a b : Word) : Bool :=
  decide (tW a ≠ 0) && decide (tW b ≠ 0) && decide (tX a < tX b + tW b) && decide (tX b < tX a + tW a)
    && decide (tY a < tY b + tH b) && decide (tY b < tY a + tH a)

/-- The tile rules but for ownership (Table 11-8); `legal` says that the content list holds records. -/
def tilesOk (ts : List Word) (legal : Bool) : Bool :=
  ts.all tileGrid
    && (List.range 8).all (fun i => (List.range i).all fun j => !tileOverlap (ts.getD i 0) (ts.getD j 0))
    && (let t := ts.getD 0 0
        decide (tW t ≠ 0) == legal && (decide (tW t = 0) || (decide (tH t = 16) && decide (96 ≤ tW t))))

/-- The byte addresses of a tile in frame memory, row by row (R314, R332). -/
def tileAddrs (t : Word) : List Nat :=
  (List.range (tH t)).flatMap fun y => (List.range (tW t / 2)).map fun b => 64 * (tY t + y) + tX t / 2 + b

/-- The CRC of a tile's content (R332). -/
def tileCrc (m : List Host.Cell) (t : Word) : Word := crc32 ((tileAddrs t).map fun a => memGet m a)

/-- Sets a rectangle to grey level 0. -/
def tileClear (m : List Host.Cell) (t : Word) : List Host.Cell :=
  let as_ := tileAddrs t
  m.filter fun c => !as_.contains c.1

/-- The tile that holds group g of the word at offset o of frame memory (R82, R314). -/
def groupTile (s : State) (o g : Nat) : Option Nat :=
  let y := o / 64
  let x := (o % 64) / 4 * 8 + 4 * g
  (List.range 8).find? fun n =>
    let t := tileNow s n
    decide (tW t ≠ 0) && decide (tX t ≤ x) && decide (x < tX t + tW t) && decide (tY t ≤ y) && decide (y < tY t + tH t)

/-- Facet f may read group g of a word (R82). -/
def groupReads (s : State) (f o g : Nat) : Bool :=
  match groupTile s o g with
  | none => false
  | some n => decide (n = 0) || holdsRes s f 5 n

/-- Facet f may write group g of a word (R82). -/
def groupWrites (s : State) (f o g : Nat) : Bool :=
  match groupTile s o g with
  | none => false
  | some n => decide (n ≠ 0) && ownsRes s f 5 n

/-- A word of frame memory as facet f reads it: groups it may not read are 0 (R82). -/
def fmRead (s : State) (f o : Nat) : Word :=
  let w := memWord s.dsp.mem o
  pack [(0, if groupReads s f o 0 then bits w 15 0 else 0), (16, if groupReads s f o 1 then bits w 31 16 else 0)]

/-! ### Writes to frame memory -/

/-- Tile n's record. -/
def tileSt (s : State) (n : Nat) : TileSt := vget s.dsp.tiles n ⟨0, 0, 0, 0, false, false⟩

/-- EXP follows a landed write unless the scanner has already read the word in this frame: the CRC is linear, so EXP takes
the change of REF (R333). -/
def expAfter (s : State) (m : List Host.Cell) (passed : Bool) : Vector TileSt 8 :=
  vmap s.dsp.tiles fun n t =>
    if n = 0 ∨ passed = true ∨ tileDef s n = false then t
    else { t with exp := t.exp ^^^ (tileCrc s.dsp.mem (tileNow s n) ^^^ tileCrc m (tileNow s n)) }

/-- The word at the head of the display write queue lands: each group as R82 allows, and the reference CRC follows (R315,
R316, R333). -/
def fmLand (passed : Bool) (s : State) : State :=
  match s.dsp.queue with
  | [] => s
  | (f, o, w) :: rest =>
    let old := memWord s.dsp.mem o
    let v := pack [(0, if groupWrites s f.val o 0 then bits w 15 0 else bits old 15 0),
      (16, if groupWrites s f.val o 1 then bits w 31 16 else bits old 31 16)]
    let m := memPutWord s.dsp.mem o v
    { s with dsp := { s.dsp with mem := m, queue := rest, tiles := expAfter s m passed } }

/-- Every queued word lands, as before a READ of frame memory (R315). -/
def fmLandAll (s : State) : State := (List.range s.dsp.queue.length).foldl (fun a _ => fmLand false a) s

/-! ### When the display runs -/

/-- Changes the display. -/
def setDsp (f : Dsp → Dsp) (s : State) : State := { s with dsp := f s.dsp }

/-- BAT_VOLT in mV. -/
def batMv (s : State) : Word := u32 (rnd 126 ((s.bat.volt : Rat) / 10))

/-- BAT_VOLT is VALID and above 3000 mV, as a running glance on VBAK needs (R320). -/
def batHolds (s : State) : Bool := decide (batMtag s = .valid) && decide (30000 < s.bat.volt)

/-- The conditions of a glance on VBAK (R320). -/
def batAllows (s : State) : Bool := bit (cfgV s 0x4800) 2 && batHolds s

/-- The display is to run (R318). -/
def dspWanted (s : State) : Bool :=
  bit (cfgV s 0x4800) 0 && decide (s.dsp.state ≠ .fault)
    && ((s.pwc.vmainOk && !bit (cfgV s 0x4800) 3) || s.dsp.glance.isSome)

/-- GLANCE_S in AON counts. -/
def glanceLen (s : State) : Nat := bits (cfgV s 0x4800) 12 8 * 32768

/-- DISPLAY_STATE (Table 11-14). -/
def dspEv (s : State) (m : Mgmt) (cause : Nat) : Ev :=
  { code := 0x0B01, unit := 0x28, sev := if m = .fault then 2 else 1, who := blockAndF0 s 11, w4 := w32 m.code, w5 := w32 cause,
    w6 := batMv s }

/-- The rails are off or on their way down, so a start must wait (R325). -/
def goingDown (q : DspSeq) : Bool :=
  match q with
  | .stop => true
  | .stopZero _ => true
  | .disch => true
  | .down _ => true
  | .emerg => true
  | _ => false

/-- The power-on sequence starts (Table 11-6, step 0). -/
def dspStart (cause : Nat) (s : State) : State :=
  emit (dspEv s .starting cause) (setDsp (fun d => { d with
    state := .starting, seq := .rails 0, cause := cause, good := 0, disch := 0, item := 0, nextItem := false, renderAt := none, diverse := none }) s)

/-- The power-off sequence starts from the point reached (Table 11-7, R325); the unit stays in FAULT after a CRC fault. -/
def dspStop (cause : Nat) (s : State) : State :=
  let st := if s.dsp.state = .fault then Mgmt.fault else Mgmt.hold
  match s.dsp.seq with
  | .rails n => setDsp (fun d => { d with
      state := st, cause := cause, seq := .down (4 - n), good := 2 ^ n - 1, disch := 2 ^ n, emergency := false }) s
  | .zero _ => setDsp (fun d => { d with state := st, cause := cause, seq := .stopZero 0, emergency := false }) s
  | .run => setDsp (fun d => { d with state := st, cause := cause, seq := .stop, emergency := false }) s
  | _ => s

/-- The conditions of R318 are evaluated again: the display starts or stops for a cause (R318, R325). -/
def dspEval (start stop : Nat) (s : State) : State :=
  if dspWanted s then (if s.dsp.seq = .off then dspStart start s else s)
  else if s.dsp.seq = .off ∨ goingDown s.dsp.seq = true then s
  else dspStop stop s

/-- Every rail is down: OFF, or FAULT kept; the display starts again where R318 still holds (R323 to R325). -/
def dspDown (s : State) : State :=
  let d := s.dsp
  if d.state = .fault then setDsp (fun d => { d with seq := .off, good := 0, disch := 0 }) s
  else
    dspEval (if d.glance.isSome then 2 else 1) 0
      (emit (dspEv s .off d.cause) (setDsp (fun d => { d with state := .off, seq := .off, good := 0, disch := 0 }) s))

/-- The emergency stop (R324). -/
def emergencyStop (s : State) : State :=
  if s.dsp.seq = .off then s
  else setDsp (fun d => { d with
    seq := .emerg, state := if d.state = .fault then .fault else .hold, cause := 9, good := 0, disch := 15, emergency := true
    emergencies := satInc d.emergencies }) s

/-- A rail fault (R309, R324): FAULT, counted under R119, and the emergency stop. -/
def railFaulted (rails cause : Nat) (s : State) : State :=
  if s.dsp.seq = .off ∨ s.dsp.seq = .emerg then s
  else
    let ev := ({ code := 0x0B04, unit := 0x28, sev := 2, who := blockAndF0 s 11, w4 := w32 rails, w5 := w32 cause,
                 w6 := pack [(0, s.dsp.good), (4, s.dsp.disch)] } : Ev)
    let s1 := emergencyStop (forceRecord 0x28 (setDsp (fun d => { d with railFault := true, state := .fault }) s))
    emitAll [ev, dspEv s .fault 9] s1

/-- A press or a command (R319, R320): it starts or extends a glance, and advances the legal tile of a running display.
`cause` is 2 for the key, 3 for the command. -/
def glanceStart (cause : Nat) (s : State) : State :=
  if !bit (cfgV s 0x4800) 0 then s
  else if !s.pwc.vmainOk && s.dsp.glance.isNone && !batAllows s then
    (if cause = 2 then setDsp (fun d => { d with refused := satInc d.refused }) s else s)
  else
    dspEval cause 0 (setDsp (fun d => { d with
      glance := some (s.aon + glanceLen s), nextItem := d.nextItem || decide (d.state = .run) }) s)

/-- GLANCE_S has passed: the glance ends (R319). -/
def glanceExpiry (s : State) : State :=
  match s.dsp.glance with
  | none => s
  | some t => if t ≤ s.aon then dspEval 1 5 (setDsp (fun d => { d with glance := none }) s) else s

/-- A running glance on VBAK ends at once when BAT_VOLT falls to 3000 mV or loses VALID (R320). -/
def glanceBattery (s : State) : State :=
  if !s.pwc.vmainOk && s.dsp.glance.isSome && !batHolds s then
    dspEval 1 7 (setDsp (fun d => { d with glance := none }) s)
  else s

/-- VMAIN is lost: a display that runs continuously goes on as a glance if the conditions of R320 hold, and stops
otherwise; a running glance goes on while BAT_VOLT holds. Called after VMAIN_OK has fallen. -/
def dspVmainLost (s : State) : State :=
  if s.dsp.seq = .off ∨ goingDown s.dsp.seq = true then s
  else
    dspEval 1 6 (setDsp (fun d => { d with
      glance := if bit (cfgV s 0x4800) 3 then (if batHolds s then d.glance else none)
        else if batAllows s then some (s.aon + glanceLen s) else none }) s)

/-! ### The legal tile -/

/-- The item records of the applied image (R329). -/
def legalItems (s : State) : List LegalItem :=
  match s.str with
  | none => []
  | some im => im.legal

/-- Decimal digits of a number as character codes. -/
def decChars (n : Nat) : List Nat := (Nat.toDigits 10 n).map Char.toNat

/-- Character codes of a text. -/
def codes (t : String) : List Nat := t.toList.map Char.toNat

/-- A value ÷ 10^p truncated to d decimals, in characters (R331). -/
def fixedChars (v p d : Nat) : List Nat :=
  let q := v * 10 ^ d / 10 ^ p
  let w := decChars (q / 10 ^ d)
  let r := decChars (q % 10 ^ d)
  if d = 0 then w else w ++ [46] ++ List.replicate (d - r.length) 48 ++ r

/-- Label, value and mark of an item (Table 11-9). The options byte of the record is its FORMAT: UNIT [1:0], DEC [5:4]. -/
def itemText (s : State) (it : LegalItem) : List Nat × List Nat × Bool :=
  let unit := it.opt / 65536 % 4
  let dec := it.opt / 65536 / 16 % 4
  let set_ := it.opt % 256
  let item := it.opt / 256 % 256
  if it.kind = 1 then
    let e := enSet s set_
    let lab := codes (["P+", "P-", "Q1", "Q2", "Q3", "Q4", "S+", "S-"].getD item "") ++ [32]
      ++ codes (["A", "B", "C", "S"].getD (set_ / 2) "") ++ codes (if set_ % 2 = 0 then "T" else "F")
    let u := codes (["", "k", "M"].getD unit "") ++ codes (if item < 2 then "Wh" else if item < 6 then "varh" else "VAh")
    (lab, fixedChars (vget e.acc item 0 / 2 ^ 32) (6 + 3 * unit) dec ++ [32] ++ u, e.discarding)
  else if it.kind = 2 then
    let v := volSet s set_
    let net : Int := ((v.fwd / 2 ^ 32 : Nat) : Int) - (v.rev / 2 ^ 32 : Nat)
    let neg := decide (item = 2) && decide (net < 0)
    let raw := if item = 0 then v.fwd / 2 ^ 32 else if item = 1 then v.rev / 2 ^ 32 else if item = 2 then net.natAbs else v.held / 2 ^ 32
    let lab := codes (["V+", "V-", "VN", "VH"].getD item "") ++ [32] ++ codes (["P1", "P2", "PC", "CH"].getD set_ "")
    (lab, (if neg then [45] else []) ++ fixedChars raw (6 + 3 * unit) dec ++ [32] ++ (if unit = 0 then codes "L" else [109, 179]),
     v.unmeasured)
  else if it.kind = 3 then (codes "EVT", decChars s.sec.metroEvt.vote, false)
  else
    let site : List Byte := match s.str with
      | none => []
      | some im => im.site
    let used := ((site.map fun (b : Byte) => b.toNat).reverse.dropWhile fun c => decide (c = 0)).reverse
    let has := fun (c : Nat) => (decide (48 ≤ c) && decide (c ≤ 58)) || (decide (65 ≤ c) && decide (c ≤ 90))
      || (codes "ahkmrv .-+!>?").contains c || decide (c = 179)
    (codes "ID", used.map fun c => if has c then c else 63, false)

/-- Line 1, left-aligned with its mark, and line 2, right-aligned, of n cells each (R331). -/
def itemLines (n : Nat) (t : List Nat × List Nat × Bool) : List Nat × List Nat :=
  let l1 := (t.1 ++ List.replicate n 32).take n
  let l2 := if t.2.1.length ≤ n then List.replicate (n - t.2.1.length) 32 ++ t.2.1
    else 62 :: t.2.1.drop (t.2.1.length - (n - 1))
  (if t.2.2 then l1.take (n - 1) ++ [33] else l1, l2)

/-- The grey level of a pixel of the rendered tile (R331). -/
def tilePixel (n : Nat) (ls : List Nat × List Nat) (x y : Nat) : Nat :=
  let c := x / 6
  if n ≤ c then 0
  else if Config.glyph ((if y < 8 then ls.1 else ls.2).getD c 32) (x % 6) (y % 8) then 15 else 0

/-- The bytes of the rendered tile, row by row (R331, R332). -/
def tileBytes (t : Word) (ls : List Nat × List Nat) : List Byte :=
  let n := tW t / 6
  (List.range (tH t)).flatMap fun y => (List.range (tW t / 2)).map fun b =>
    BitVec.ofNat 8 (tilePixel n ls (2 * b) y + 16 * tilePixel n ls (2 * b + 1) y)

/-- The display has passed its rails and has not been stopped, so KD-REND renders (R321, R322, R330). -/
def rendersNow (q : DspSeq) : Bool :=
  match q with
  | .zero _ => true
  | .run => true
  | _ => false

/-- KD-REND renders the item shown into tile 0 during vertical blank, from the published bank, with its diverse CRC (R330, R331,
R334). -/
def legalRender (s : State) : State :=
  let t := tileNow s 0
  match (legalItems s)[s.dsp.item]? with
  | none => s
  | some it =>
    if tW t = 0 ∨ rendersNow s.dsp.seq = false then s
    else
      let bs := tileBytes t (itemLines (tW t / 6) (itemText (seen s) it))
      let m := (List.zip (tileAddrs t) bs).foldl (fun m p => memSet m p.1 p.2) s.dsp.mem
      setDsp (fun d => { d with
        mem := m, renderAt := some s.aon, diverse := some (crc32 bs), tiles := vmod d.tiles 0 fun x => { x with exp := crc32 bs } }) s

/-- The rendering once per second (R330): 1 s after the latest one, or where none has been made yet (log 91). -/
def legalSecond (s : State) : State := if s.dsp.renderAt.all fun t => decide (t + 32768 ≤ s.aon) then legalRender s else s

/-- The dwell of the item shown begins (R330). -/
def dwellStart (s : State) : State :=
  setDsp (fun d => { d with dwellEnd := s.aon + (((legalItems s)[d.item]?).map LegalItem.dwell).getD 0 * 32768 }) s

/-- An item's dwell ends: the next item is shown at the following vertical blank (R330). -/
def dwellEnds (s : State) : State :=
  if s.dsp.state = .run ∧ s.dsp.dwellEnd ≤ s.aon ∧ legalItems s ≠ [] then setDsp (fun d => { d with nextItem := true }) s else s

/-- The next item replaces the item shown, at a vertical blank (R330); while the engine stands it cannot be rendered, and no diverse CRC
stands for it (R334). -/
def itemStep (s : State) : State :=
  if s.dsp.nextItem then
    let n := (legalItems s).length
    let s1 := setDsp (fun d => { d with nextItem := false, item := if n = 0 then 0 else (d.item + 1) % n }) s
    dwellStart (if s.pwc.clk.eng then legalRender s1 else setDsp (fun d => { d with renderAt := none, diverse := none }) s1)
  else s

/-! ### Frames and sequences -/

/-- Tiles, grey table and rails written since take effect; changed tiles are cleared and skip a comparison (R308, R312,
R327). -/
def frameTakes (s : State) : State :=
  let new := fun n => cfgV s (0x4820 + 4 * n)
  let ch := (List.range 8).filter fun n => decide (new n ≠ tileNow s n)
  let m := ch.foldl (fun m n => tileClear (tileClear m (tileNow s n)) (new n)) s.dsp.mem
  setDsp (fun d => { d with
    mem := m
    tile := Vector.ofFn fun (n : Fin 8) => new n.val
    grey := Vector.ofFn fun (j : Fin 4) => cfgV s (0x4810 + 4 * j.val)
    rail := cfgV s 0x4804
    tiles := vmap d.tiles fun n t => if ch.contains n then { t with skip := true, run := 0, blanked := false } else t }) s

/-- EXP of tiles 1 to 7 is set to REF at the frame start (R333). -/
def frameExp (s : State) : State :=
  setDsp (fun d => { d with
    slow := !s.pwc.vmainOk || bit (cfgV s 0x4800) 1
    frames := (d.frames + 1) % 2 ^ 32
    tiles := vmap d.tiles fun n t => if n = 0 then t else { t with exp := tileCrc d.mem (tileNow s n) } }) s

/-- The display goes to RUN at the first normal frame (Table 11-6, step 7). -/
def dspRun (s : State) : State :=
  emit (dspEv s .run s.dsp.cause) (dwellStart (setDsp (fun d => { d with
    state := .run, seq := .run, railFault := false, legalFault := false, emergency := false
    tiles := vmap d.tiles fun _ t => { t with run := 0, blanked := false } }) s))

/-- A frame starts (R310, R311, R322, R323, R327, R333): the sequences advance by one frame. -/
def frameStart (s : State) : State :=
  let f := fun (s : State) => frameExp (itemStep (frameTakes s))
  match s.dsp.seq with
  | .zero n =>
    let s1 := f s
    if n < 2 then setDsp (fun d => { d with seq := .zero (n + 1) }) s1
    else if !tileDef s1 0 || s1.dsp.diverse.isSome then dspRun s1
    else s1
  | .run => f s
  | .stop => setDsp (fun d => { d with seq := .stopZero 1 }) (frameExp s)
  | .stopZero n => setDsp (fun d => { d with seq := if n < 2 then .stopZero (n + 1) else .disch }) (frameExp s)
  | .disch => setDsp (fun d => { d with seq := .down 1, good := 7, disch := 8 }) s
  | _ => s

/-- A rail reaches its power-good window: the next rail is enabled, or scanning starts (R322). -/
def railGood (rail : Nat) (s : State) : State :=
  match s.dsp.seq with
  | .rails n =>
    if rail = n then
      setDsp (fun d => { d with good := d.good + 2 ^ n, seq := if n = 3 then .zero 0 else .rails (n + 1) }) s
    else s
  | _ => s

/-- 10 ms after the previous rail, the next rail stops and discharges; once all are down the unit is OFF (R323). -/
def railStop (s : State) : State :=
  match s.dsp.seq with
  | .down n =>
    if 4 ≤ n then dspDown s
    else setDsp (fun d => { d with seq := .down (n + 1), good := 2 ^ (3 - n) - 1, disch := d.disch + 2 ^ (3 - n) }) s
  | _ => s

/-- After an emergency stop the rails have reached AGND (R324). -/
def dspDischarged (s : State) : State := if s.dsp.seq = .emerg then dspDown s else s

/-- An EMS period starts with the effective brightness level (R313). -/
def emsPeriod (level : Nat) (s : State) : State :=
  if s.dsp.state = .run then setDsp (fun d => { d with level := level }) s else s

/-! ### Tile checks -/

/-- Facets that TILE_MISMATCH reaches: for tile 0 every facet (R340). -/
def tileWho (s : State) (n : Nat) : Nat :=
  if n = 0 then everyone s else who s fun f => decide (f = 0) || readsBlock s f 11 || holdsRes s f 5 n

/-- One tile's comparison with the scan CRC `crc` (R332 to R337). -/
def tileCheck (n : Nat) (crc : Word) (s : State) : State :=
  let t := tileSt s n
  let ok := decide (crc = t.exp) && (decide (n ≠ 0) || s.dsp.diverse.isSome)
  let run := t.run + 1
  if t.skip then setDsp (fun d => { d with tiles := vmod d.tiles n fun t => { t with skip := false, crc := crc, ref := t.exp } }) s
  else if ok then
    setDsp (fun d => { d with tiles := vmod d.tiles n fun t => { t with crc := crc, ref := t.exp, run := 0, blanked := false } }) s
  else
    let s1 := setDsp (fun d => { d with
      mismatches := satInc d.mismatches
      tiles := vmod d.tiles n fun t => { t with crc := crc, ref := t.exp, run := min 3 run, blanked := true } }) s
    let s2 := emit { code := 0x0B02, unit := 0x28, sev := 2, who := tileWho s n, w4 := w32 n, w5 := crc, w6 := t.exp, w7 := w32 (min 3 run) } s1
    if 3 ≤ run ∧ s2.dsp.state ≠ .fault then
      let s3 := emit (dspEv s2 .fault 8) (dspStop 8 (forceRecord 0x28 (setDsp (fun d => { d with state := .fault }) s2)))
      if n = 0 then
        let k := satInc s3.dsp.legalFaults
        emit { code := 0x0B03, unit := 0x28, sev := 3, who := everyone s3, w4 := w32 k, w5 := w32 s3.dsp.item, w6 := crc, w7 := t.exp }
          (setDsp (fun d => { d with legalFault := true, legalFaults := k }) s3)
      else s3
    else s2

/-- The end of line 63: every defined tile's scan CRC is compared, while the check is armed, from the first normal frame to the frame
boundary after a stop (R332, Tables 11-6 and 11-7). `bad` lists the scan CRCs that a fault altered;
without one the scan CRC of tiles 1 to 7 is EXP (R333), that of tile 0 the CRC of its content. -/
def tileCrcCheck (bad : List ScanCrc) (s : State) : State :=
  if s.dsp.seq = .run ∨ s.dsp.seq = .stop then
    ((List.range 8).filter fun n => tileDef s n).foldl (fun a n =>
      let own := if n = 0 then tileCrc a.dsp.mem (tileNow a 0) else (tileSt a n).exp
      tileCheck n (((bad.find? fun b => b.tile = n).map ScanCrc.crc).getD own) a) s
  else s

/-! ### Commands, writes, registers -/

/-- DSP_CTRL RESTART, in FAULT (R119, R336): STARTING with the power-on sequence where R318 holds, OFF otherwise. -/
def dspReturn (s : State) : State :=
  if s.dsp.state = .fault then
    let s1 := setDsp (fun d => { d with state := if d.seq = .off then .off else .hold }) s
    dspEval (if s1.dsp.glance.isSome then 2 else 1) 0 s1
  else s

/-- DSP_CTRL RESTART. -/
def dspRestart (s : State) : State := if s.dsp.state = .fault then dspReturn (clearFaults 0x28 s) else s

/-- DSP_CTRL CLR_COUNTERS (R339). -/
def dspClear (s : State) : State := setDsp (fun d => { d with mismatches := 0, emergencies := 0, refused := 0 }) s

/-- Sets CFG_REJECT in DSP_STAT. -/
def dspReject (s : State) : State := setDsp (fun d => { d with cfgReject := true }) s

/-- VGH lies 2.0 V above VSP and VGL 2.0 V below VSN (R308), in units of 50 mV. -/
def railsOk (v : Word) : Bool := decide (bits v 7 0 + 40 ≤ 2 * bits v 23 16) && decide (bits v 15 8 + 40 ≤ 2 * bits v 31 24)

/-- Entry 0 is 0 and the entries do not decrease (R312). -/
def greyOk (ws : List Word) : Bool :=
  let es := ws.flatMap fun w => (List.range 4).map fun b => bits w (8 * b + 7) (8 * b)
  decide (es.headD 1 = 0) && (List.zip es es.tail).all fun p => decide (p.1 ≤ p.2)

/-- A tile is named by a grant (R327). -/
def tileGranted (s : State) (n : Nat) : Bool :=
  match s.str with
  | none => false
  | some im => im.grants.any fun g => decide (g.cls = 5) && decide (g.idx = n)

/-- A host write of a DSP register (R308, R312, R318, R327). -/
def dspWrite (off : Nat) (v : Word) (s : State) : State :=
  let s1 := { s with cfg := cfgSet s.cfg off v }
  if off = 0x4800 then
    (if bit v 0 then dspEval 1 (Config.otherCause 8) s1 else dspEval 1 4 (setDsp (fun d => { d with glance := none }) s1))
  else if off = 0x4804 then (if railsOk v then s1 else dspReject s)
  else if 0x4810 ≤ off ∧ off ≤ 0x481C then
    (if greyOk ((List.range 4).map fun j => cfgV s1 (0x4810 + 4 * j)) then s1 else dspReject s)
  else if 0x4820 ≤ off then
    let n := (off - 0x4820) / 4
    let flips := decide ((tW v = 0) ≠ (tW (cfgV s off) = 0)) && (decide (n = 0) || tileGranted s n)
    if tilesOk ((List.range 8).map fun j => cfgV s1 (0x4820 + 4 * j)) (!(legalItems s).isEmpty) && !flips
        && (decide (n = 0) || decide (tW v = 0) || tileGranted s n) then s1 else dspReject s
  else s1

/-- DSP_STAT (Table 11-13). -/
def dspStat (s : State) : Word :=
  let d := s.dsp
  let run := decide (d.state = .run)
  pack [(0, d.state.code), (4, if run then 0 else 3), (6, b2n run), (7, b2n (d.slow && decide (d.seq ≠ .off))), (8, b2n d.glance.isSome),
    (9, b2n d.railFault), (10, b2n d.legalFault), (11, b2n d.cfgReject), (12, b2n d.emergency),
    (16, maskOf 8 fun n => (tileSt s n).blanked), (24, maskOf 8 fun n => tileDef s n)]

/-- A read-only DSP register (Table 11-11). -/
def dspRead (s : State) (off : Nat) : Word :=
  let d := s.dsp
  if within off 0x4840 0x485C then (tileSt s ((off - 0x4840) / 4)).crc
  else if within off 0x4860 0x487C then (tileSt s ((off - 0x4860) / 4)).ref
  else match off with
    | 0x4880 => dspStat s
    | 0x4884 => pack ((List.range 8).map fun n => (2 * n, (tileSt s n).run))
    | 0x4888 => w32 d.mismatches
    | 0x488C => w32 d.legalFaults
    | 0x4890 => w32 d.frames
    | 0x4894 => pack [(0, d.item), (8, if d.state = .run then (d.dwellEnd - s.aon) / 32768 else 0)]
    | 0x4898 => w32 ((d.glance.map fun t => msUp (t - s.aon)).getD 0)
    | 0x489C => pack [(0, d.good), (4, d.disch)]
    | 0x48A0 => w32 d.emergencies
    | 0x48A4 => w32 d.refused
    | _ => 0

end Sys2Proof.Machine
end

