-- ==== Sys2Proof/Machine/Actuators.lean ====
section
/-! DEFINITION. Shared actuators (chapter 02): what the standing requests make of each output (R87 to R90, R92, R93),
and the effect registers. -/

namespace Sys2Proof.Machine

open Sys2Proof

/-- The facets that own a resource. -/
def ownersOf (s : State) (cls idx : Nat) : List Nat :=
  (List.range 5).filter fun f => facetExists s f && ownsRes s f cls idx

/-- The policy record of a shared actuator (R88). -/
def policyOf (s : State) (act : Nat) : Option PolicyRec :=
  match s.str with
  | none => none
  | some im => im.policies.find? fun p => p.act = act

/-- The facets of an order field, first in [15:12] (Table 1-7). -/
def orderList (order : Nat) : List Nat := [order / 4096 % 16, order / 256 % 16, order / 16 % 16, order % 16]

/-- Facet f's own registers. -/
def facet (s : State) (f : Nat) : FacetSt := vget s.fac f FacetSt.zero

/-- Changes facet f's own registers. -/
def setFacet (f : Nat) (g : FacetSt → FacetSt) (s : State) : State := { s with fac := vmod s.fac f g }

/-- R89 for requests 0 RELEASE, 1 stop, 2 on: whether the result is on. Without a policy the one owner's ON decides. -/
def resolve (p : Option PolicyRec) (owners : List Nat) (req : Nat → Nat) : Bool :=
  match p with
  | none => owners.any fun f => decide (req f = 2)
  | some p =>
    if p.pol = 1 then !(owners.any fun f => decide (req f = 1)) && owners.any fun f => decide (req f = 2)
    else match (orderList p.order).find? fun f => owners.contains f && decide (req f ≠ 0) with
      | none => false
      | some f => decide (req f = 2)

/-- Facet f's request for GPn: 0 RELEASE, 1 OFF, 2 ON (Table 2-9). -/
def gpReqOf (s : State) (n f : Nat) : Nat := vget (facet s f).gpReq n 0

/-- The policy result for GPn: energised (R89). -/
def gpResult (s : State) (n : Nat) : Bool := resolve (policyOf s n) (ownersOf s 7 n) (gpReqOf s n)

/-- GPn is trip-linked by SAF_CFG.TRIPLINK (R93, Table 12-9). -/
def tripLinked (s : State) (n : Nat) : Bool := bit (cfgR s 0x6000) (16 + n)

/-- GPn is energised: the policy result under the safe-state override (R89, R93). -/
def gpOn (s : State) (n : Nat) : Bool := gpResult s n && !(s.saf.safe && tripLinked s n)

/-- The policy result of the pump-run request: RUN (R89). -/
def pumpResult (s : State) : Bool := resolve (policyOf s 7) (ownersOf s 9 0) fun f => (facet s f).pumpReq

/-- The effective pump-run request is RUN (R89, R93). -/
def pumpRun (s : State) : Bool := pumpResult s && !s.saf.safe

/-- The least of a list of levels, or the default level 0x80 (Table 2-8). -/
def leastLevel : List Nat → Nat
  | [] => 0x80
  | x :: xs => xs.foldl min x

/-- The policy result of display brightness: its level (R89). -/
def brightLevel (s : State) : Nat :=
  let own := (ownersOf s 8 0).filter fun f => (facet s f).brightValid
  match policyOf s 6 with
  | none => leastLevel (own.map fun f => (facet s f).brightLevel)
  | some p =>
    if p.pol = 2 then leastLevel (own.map fun f => (facet s f).brightLevel)
    else match (orderList p.order).find? own.contains with
      | none => 0x80
      | some f => (facet s f).brightLevel

/-- The value of a request that asks for on. -/
def asksOn (r : Nat) : Bool := decide (r = 2)

/-- IOP_GP_EFF as facet f reads it (Table 2-10). -/
def gpEffWord (s : State) (f : Nat) : Word :=
  let held := fun n => holdsRes s f 7 n
  let own := fun n => ownsRes s f 7 n
  pack [(0, maskOf 6 fun n => held n && gpOn s n),
    (8, maskOf 6 fun n => own n && decide (gpReqOf s n f ≠ 0) && (asksOn (gpReqOf s n f) != gpResult s n)),
    (16, maskOf 6 fun n => held n && s.saf.safe && tripLinked s n),
    (24, maskOf 6 fun n => own n && vget (facet s f).gpCleared n false)]

/-- IOP_BRIGHT_EFF as facet f reads it (Table 2-9). -/
def brightEffWord (s : State) (f : Nat) : Word :=
  let x := facet s f
  pack [(0, brightLevel s), (8, b2n (ownsRes s f 8 0 && x.brightValid && decide (x.brightLevel ≠ brightLevel s)))]

/-- IOP_PUMP_EFF as facet f reads it (Table 2-11). -/
def pumpEffWord (s : State) (f : Nat) : Word :=
  let x := facet s f
  pack [(0, b2n (pumpRun s)),
    (1, b2n (ownsRes s f 9 0 && decide (x.pumpReq ≠ 0) && (asksOn x.pumpReq != pumpResult s))),
    (2, b2n s.saf.safe), (3, b2n (ownsRes s f 9 0 && x.pumpCleared))]

/-- PRUN follows the effective pump-run request (R353), and the contactor monitor's expectation follows PRUN (R354). -/
def prunFollow (s : State) : State :=
  let p := pumpRun s
  if p = s.saf.prun then s
  else { s with saf := { s.saf with prun := p, prunAt := s.aon, fbDone := false, prunRun := 0, dryRun := 0 } }

end Sys2Proof.Machine
end

