-- ==== Sys2Proof/Machine/Protection.lean ====
section
/-! DEFINITION. Pump protection and functional safety (chapter 12): safety functions, the trip watcher, trip and run
outputs, the safe state with its causes and acknowledgement, diagnostics, and the SAF block. -/

namespace Sys2Proof.Machine

open Sys2Proof

/-- Changes the safety logic. -/
def setSaf (f : Saf → Saf) (s : State) : State := { s with saf := f s.saf }

/-! ### Configuration -/

/-- Some safety function is enabled (R363). -/
def anyFn (s : State) : Bool := decide (bits (cfgR s 0x6000) 3 0 ≠ 0)

/-- Function SF(n+1) is enabled. -/
def fnOn (s : State) (n : Nat) : Bool := bit (cfgR s 0x6000) n

/-- The kernel of function SF(n+1): KS-OC, KS-PL, KS-EF, KS-DRY (R341). -/
def fnInst (s : State) (n : Nat) : Option InstRec := (instsOf s (0x0701 + n)).head?

/-- The kernel of SF(n+1) runs and the function is enabled. -/
def fnRuns (s : State) (n : Nat) : Bool := fnOn s n && (fnInst s n).isSome

/-- The metering channels of the kernel of SF(n+1). -/
def fnChans (s : State) (n : Nat) : List Nat :=
  match fnInst s n with
  | none => []
  | some i => (List.range 8).filter fun k => nbit i.chans k

/-- W: rounds of the sliding RMS window (R342). -/
def safW (s : State) : Nat := if bit (cfgR s 0x6000) 4 then 133 else 160

/-- EF_SRC = SUM. -/
def efSum (s : State) : Bool := bit (cfgR s 0x6000) 5

/-- K in units of 2^-12, τ in s, COOL and RESET in percent (Table 12-8). -/
def curveK (s : State) : Nat := max 1 (bits (cfgR s 0x600C) 15 0)
/-- τ in s. -/
def curveTau (s : State) : Nat := max 1 (bits (cfgR s 0x600C) 31 16)
/-- COOL. -/
def curveCool (s : State) : Nat := max 1 (bits (cfgR s 0x6010) 3 0)
/-- RESET in percent. -/
def curveReset (s : State) : Nat := bits (cfgR s 0x6010) 15 8

/-- K² in units of 2^-48. -/
def kSquare (s : State) : Nat := curveK s * curveK s * 2 ^ 24

/-- The bits of Table 12-4 that are detected dangerous failures. -/
def dfBits : Nat := maskOf 19 fun b => decide (8 ≤ b)

/-- START, SUPPLY and RECONFIG. -/
def armBits : Nat := 2 ^ 24 + 2 ^ 25 + 2 ^ 26

/-! ### The thermal model and RMS windows -/

/-- θ ÷ K² in 2^-16, holding at 0xFFFF (R344). -/
def thermOf (s : State) (p : Nat) : Nat :=
  min 65535 (rnd 140 (((vget s.saf.theta p 0 * 65536 : Nat) : Rat) / (kSquare s : Nat))).toNat

/-- θ from a committed SAF_THERM, 0xFFFF standing for exactly K² (R386). -/
def thetaOf (s : State) (th : Nat) : Nat := if 65535 ≤ th then kSquare s else th * kSquare s / 65536

/-- The newest raw sample of channel k. -/
def rawNow (s : State) (k : Nat) : Int := (vget s.saf.raw k []).headD 0

/-- The square of the RMS over W rounds as a fraction of full-scale RMS squared: mean square × 2 ÷ 0x600000²; a window not
yet full counts its missing rounds as 0 (R342). -/
def fracSq (s : State) (xs : List Int) : Rat :=
  (((xs.take (safW s)).foldl (fun a x => a + x * x) 0 : Int) : Rat) * 2 / (safW s : Nat) / (6291456 * 6291456 : Nat)

/-- Channel k's squared RMS fraction. -/
def chanSq (s : State) (k : Nat) : Rat := fracSq s (vget s.saf.raw k [])

/-- A list in the order of a run: as built in the primary run, reversed in the shadow run (R112). -/
def inOrder {α : Type} (shadow : Bool) (l : List α) : List α := if shadow then l.reverse else l

/-- A sum over channels in the order of a run (R112). -/
def sumIn (shadow : Bool) (l : List Rat) : Rat := (inOrder shadow l).foldl (· + ·) 0

/-- Sample lists added sample by sample. -/
def addLists : List (List Int) → List Int
  | [] => []
  | [x] => x
  | x :: y :: r => List.zipWith (· + ·) x (addLists (y :: r))

/-- The samples of the residual current, newest first, as a run adds them (R112, R346). -/
def residual (shadow : Bool) (s : State) : List Int :=
  if efSum s then addLists (inOrder shadow [vget s.saf.raw 3 [], vget s.saf.raw 4 [], vget s.saf.raw 5 [], vget s.saf.raw 6 []])
  else vget s.saf.raw 7 []

/-- A squared RMS fraction reaches a threshold in 2^-16 of full-scale RMS (R342). -/
def reaches (sq : Rat) (thr : Nat) : Bool := decide (((thr * thr : Nat) : Rat) ≤ sq * (65536 * 65536 : Nat))

/-- One round of θ for phase p (R344). -/
def thetaStep (s : State) (p θ : Nat) : Nat :=
  let ib := (cfgR s 0x6008).toNat
  let i2 := chanSq s (p + 3) * (65536 * 65536 : Nat) / (ib * ib : Nat)
  let t : Rat := (θ : Rat)
  let new := if 1 / 100 ≤ i2 then t + (i2 * (2 ^ 48 : Nat) - t) / (8000 * curveTau s : Nat)
    else t - t / (8000 * curveCool s * curveTau s : Nat)
  (rnd 141 new).toNat

/-- The round's samples enter the windows, uncalibrated (R342), and the cross-check sums (R364); `code` gives the round sample of a
channel that has one, which for ROGOWSKI is taken after the integrator, as R155 takes it. A word tagged INVALID is used nowhere
and counts as 0 (R118). -/
def safSamples (code : Nat → Option Int) (s : State) : State :=
  let x := fun (k : Nat) => match code k with
    | none => none
    | some c => if (chan s k).tag = Tag.invalid then none
      else some (if sensorOf s k = 3 then rnd 142 (chan s k).integ else c)
  setSaf (fun f => { f with
    raw := vmap f.raw fun k xs => if routed s k then ((x k).getD 0 :: xs).take 160 else []
    xRound := vmap f.xRound fun k a => match x k with
      | none => a
      | some v => if routed s k then (a.1 + (v * v).toNat, a.2 + 1) else a }) s

/-- The thermal model of every phase after a round; OC_IB = 0 disables the stage (R344). -/
def safTherm (s : State) : State :=
  if (fnInst s 0).isNone then s
  else if cfgR s 0x6008 = 0 then setSaf (fun f => { f with toc := Vector.replicate 3 false }) s
  else
    let th := vmap s.saf.theta fun p θ => thetaStep s p θ
    setSaf (fun f => { f with
      theta := th
      toc := vmap f.toc fun p b =>
        let θ := vget th p 0
        decide (kSquare s ≤ θ) || (b && decide (curveReset s * kSquare s ≤ 100 * θ)) }) s

/-! ### The four functions -/

/-- KS-OC's instantaneous condition: two consecutive rounds of one channel at 256 × OC_INST (R343). -/
def ocInstCond (s : State) : Bool :=
  let thr := bits (cfgR s 0x6004) 15 0
  fnRuns s 0 && decide (thr ≠ 0) && (fnChans s 0).any fun k =>
    match vget s.saf.raw k [] with
    | a :: b :: _ => decide (256 * thr ≤ a.natAbs) && decide (256 * thr ≤ b.natAbs)
    | _ => false

/-- The condition of SF2, as a run adds the currents (R112, R345). -/
def plCond (shadow : Bool) (s : State) : Bool :=
  let low := (List.range 3).any fun k => !reaches (chanSq s k) (cfgR s 0x6014).toNat
  let imb := (cfgR s 0x6018).toNat
  let rs := (List.range 3).map fun p => sqrtR 143 (chanSq s (p + 3))
  let mean := sumIn shadow rs / 3
  let big := rs.foldl max 0
  let small := rs.foldl min big
  let act := decide ((((cfgR s 0x601C).toNat : Nat) : Rat) ≤ mean * 65536)
  fnRuns s 1 && (low || (decide (imb ≠ 0) && act && decide (mean ≠ 0) && decide (mean * imb ≤ (big - small) * 1000)))

/-- The condition of the definite-time stage of SF3 (R346). -/
def efCond (shadow : Bool) (s : State) : Bool :=
  fnRuns s 2 && decide (cfgR s 0x6024 ≠ 0) && reaches (fracSq s (residual shadow s)) (cfgR s 0x6024).toNat

/-- The SF4 power p in 2^-16 of one phase's full-scale power, and its tag (R117, R342). -/
def dryPower (shadow : Bool) (s : State) : Rat × Tag :=
  let w := safW s
  let one : Nat → Rat := fun p =>
    let v := (histOf s p).take w
    let i := (histOf s (p + 3)).take w
    2 * (prods (v.map Prod.fst) (i.map Prod.fst)).foldl (· + ·) (0 : Rat) / (w : Nat)
  let tags := (List.range 6).map fun k => worst (((histOf s k).take w).map Prod.snd)
  (sumIn shadow [one 0, one 1, one 2] * 65536, worst tags)

/-- The condition of SF4 while the pump runs (R347, R348): a criterion with an INVALID value is removed; without p none
remains, since each reads it. The flow is that of the published bank (R103). -/
def dryCond (shadow : Bool) (s : State) : Bool :=
  let p := dryPower shadow s
  let pmin : Rat := ((cfgR s 0x6030).toNat : Nat)
  let src := cfgR s 0x6040
  let path := bits src 1 0
  let qmin := (cfgR s 0x6038).toNat
  let slot := bits src 6 4
  let idx := bits src 11 8 - 1
  let x := flowPath (seen s) (path - 1)
  let flow := decide (path ≠ 0) && decide (qmin ≠ 0) && decide (x.tag ≠ .invalid)
    && decide ((sgn (pathRead (seen s) (path - 1) 0x4C)).natAbs < qmin)
  let press := bit src 12 && decide (sdiTag s slot idx ≠ .invalid) && decide (sdiVal s slot idx < sgn (cfgR s 0x603C))
  fnRuns s 3 && decide (p.2 ≠ .invalid) && (decide (p.1 < pmin) || flow || press)

/-- Rounds in a number of ms. -/
def roundsOfMs (ms : Nat) : Nat := 8 * ms

/-- The conditions' running times after a round (R345 to R347). -/
def safRuns (s : State) : State :=
  let dry := decide (8 * 100 * bits (cfgR s 0x6034) 31 16 ≤ s.saf.prunRun) && s.saf.prun && dryCond false s
  setSaf (fun f => { f with
    plRun := if plCond false s then f.plRun + 1 else 0
    efRun := if efCond false s then f.efRun + 1 else 0
    dryRun := if dry then f.dryRun + 1 else 0
    prunRun := if f.prun then f.prunRun + 1 else 0 }) s

/-- SF1_TOC holds on some phase. -/
def tocCond (s : State) : Bool := fnRuns s 0 && decide (cfgR s 0x6008 ≠ 0) && s.saf.toc.toList.any id

/-- SF2 trips. -/
def plTrip (s : State) : Bool := plCond false s && decide (roundsOfMs (cfgR s 0x6020).toNat ≤ s.saf.plRun)

/-- SF3 trips by its definite-time stage. -/
def efTrip (s : State) : Bool := efCond false s && decide (roundsOfMs (cfgR s 0x6028).toNat ≤ s.saf.efRun)

/-- SF4 trips; it clears when PRUN becomes inactive. -/
def dryTrip (s : State) : Bool :=
  fnRuns s 3 && s.saf.prun && decide (0 < s.saf.dryRun) && decide (8 * 100 * bits (cfgR s 0x6034) 15 0 ≤ s.saf.dryRun)

/-- The trip decisions of the safety instances in the round just run (R351): SF1's two, SF2, SF3 and SF4. -/
def tripDecisions (s : State) : List Bool := [ocInstCond s, tocCond s, plTrip s, efTrip s, dryTrip s]

/-! ### Result records -/

/-- A level of a condition in 2^-16, as a word. -/
def levelWord (site : Nat) (x : Rat) : Word := s32 (rnd site (x * 65536))

/-- The 8-word result record of a run of safety kernel `code` (R112, R113; layout: log 86): its decisions, three condition levels,
the I²t memory of the phases, and a digest of these. -/
def safRecord (shadow : Bool) (s : State) (code : Nat) : List Word :=
  let body : List Word :=
    if code = 0x0701 then
      pack [(0, b2n (ocInstCond s)), (1, b2n (tocCond s))] :: (List.range 3).map (fun p => levelWord 171 (chanSq s (p + 3)))
        ++ (List.range 3).map fun p => w32 (thermOf s p)
    else if code = 0x0702 then
      [w32 (b2n (plCond shadow s)), levelWord 172 (chanSq s 0), levelWord 173 (chanSq s 1), levelWord 174 (chanSq s 2), 0, 0, 0]
    else if code = 0x0703 then [w32 (b2n (efCond shadow s)), levelWord 154 (fracSq s (residual shadow s)), 0, 0, 0, 0, 0]
    else [w32 (b2n (dryCond shadow s)), levelWord 155 ((dryPower shadow s).1 / 65536), w32 (dryPower shadow s).2.code, 0, 0, 0, 0]
  body ++ [Config.safDigest code body]

/-- What a run leaves in its record: the kernel's result, and in place of it what a fault of this round made of its words. -/
def runRecord (shadow : Bool) (s : State) (j : Nat) (i : InstRec) : List Word :=
  s.whl.wrong.foldl (fun r w =>
    if w.1 = shadow ∧ w.2.inst = j ∧ w.2.word < 8 then r.modify w.2.word fun x => x ^^^ w.2.mask else r) (safRecord shadow s i.code)

/-- Word a of state memory was scrubbed in the round that closes: one of the 64 words before the next. -/
def scrubbed (s : State) (a : Nat) : Bool := decide ((s.whl.scrubWord + 8191 - a) % 8192 < 64)

/-- The state halves of an instance differ at a word that the round's scrub steps reached (R113). -/
def halvesDiffer (s : State) (j : Nat) (i : InstRec) : Bool :=
  s.whl.halves.any fun h => decide (h.1 = j) && (scrubbed s (i.off / 8 + h.2) || scrubbed s (i.off / 8 + i.len / 16 + h.2))

/-- The first word at which two records differ. -/
def firstDiff (a b : List Word) : Option Nat := (List.range 8).find? fun n => decide (a.getD n 0 ≠ b.getD n 0)

/-- A fixed instance spends cycles in its sectors: in BURST only one with a metering unit in STARTING, RUN or HOLD (R101). -/
def spends (s : State) (i : InstRec) : Bool :=
  decide (s.whl.state = .running)
    || (List.range 8).any fun k => nbit i.chans k && decide ((chan s k).state = .starting ∨ (chan s k).state = .run ∨ (chan s k).state = .hold)

/-- The comparison of safety instance j: the word of a disagreement, 8 for the state half; a shadow run that did not complete left
its record of an earlier round (R113, R114). -/
def disagrees (s : State) (j : Nat) (i : InstRec) : Option Nat :=
  let old := ((s.whl.recs.find? fun r => r.1 = j).map fun r => r.2.2).getD (List.replicate 8 0)
  if !spends s i then none
  else if s.whl.ran.contains (j, true) then
    match firstDiff (runRecord false s j i) (runRecord true s j i) with
    | some n => some n
    | none => if halvesDiffer s j i then some 8 else none
  else some ((firstDiff (runRecord false s j i) old).getD (Config.otherCause 5))

/-- The safety instances of the applied image with their indexes. -/
def safInsts (s : State) : List (Nat × InstRec) :=
  ((s.str.map Image.insts).getD []).mapIdx (fun j i => (j, i)) |>.filter fun x => isSafetyKernel x.2.code

/-- The records of the round's runs are written: a run that did not complete leaves its record as it was (R113). -/
def writeRecords (s : State) : State :=
  let old := fun j => ((s.whl.recs.find? fun r => r.1 = j).map Prod.snd).getD (List.replicate 8 0, List.replicate 8 0)
  let one := fun (x : Nat × InstRec) =>
    (x.1, if s.whl.ran.contains (x.1, false) then runRecord false s x.1 x.2 else (old x.1).1,
          if s.whl.ran.contains (x.1, true) then runRecord true s x.1 x.2 else (old x.1).2)
  { s with whl := { s.whl with recs := (safInsts s).map one } }

/-! ### Entering and leaving the safe state -/

/-- A mask of bit numbers. -/
def causeMask (cs : List (Nat × Nat)) : Nat := maskOf 32 fun b => cs.any fun c => decide (c.1 = b)

/-- The first of each cause that is not yet in SAF_CAUSE. -/
def freshCauses (s : State) : List (Nat × Nat) → List (Nat × Nat)
  | [] => []
  | c :: cs => if nbit s.saf.cause c.1 || (cs.any fun d => decide (d.1 = c.1)) then freshCauses s cs else c :: freshCauses s cs

/-- The highest SAF_THERM_x. -/
def topTherm (s : State) : Nat := max (thermOf s 0) (max (thermOf s 1) (thermOf s 2))

/-- SAFE_STATE_ENTER (Table 12-11). -/
def safeEnterEv (s : State) : Ev :=
  { code := 0x0C01, sev := 3, who := everyone s, w4 := w32 s.saf.entry, w5 := w32 s.saf.cause, w6 := roundWord s, w7 := w32 (topTherm s) }

/-- A dangerous failure counts and is reported (R356, Table 12-11). -/
def dangerous (b detail : Nat) (s : State) : State :=
  let n := satInc s.saf.dfCount
  emit { code := 0x0C03, sev := 3, who := everyone s, w4 := w32 b, w5 := w32 detail, w6 := roundWord s, w7 := w32 n }
    (setSaf (fun f => { f with dfCount := n }) s)

/-- What R94 clears of facet f's requests: bits 0 to 5 GP0 to GP5, bit 7 pump-run. -/
def clearedBits (s : State) (f : Nat) : Nat :=
  maskOf 6 (fun n => tripLinked s n && asksOn (gpReqOf s n f)) + (if asksOn (facet s f).pumpReq then 128 else 0)

/-- RUN requests and ON requests of trip-linked outputs become RELEASE, CLEARED is set and each facet concerned is told
(R94). -/
def clearRequests (s : State) : State :=
  let hit := (List.range 5).filter fun f => decide (clearedBits s f ≠ 0)
  let es := hit.map fun f => ({ code := 0x0203, sev := 2, who := 2 ^ f, w4 := w32 (clearedBits s f) } : Ev)
  emitAll es { s with fac := vmap s.fac fun f x =>
    let m := clearedBits s f
    { x with
      gpReq := vmap x.gpReq fun n r => if nbit m n then 0 else r
      gpCleared := vmap x.gpCleared fun n c => c || nbit m n
      pumpReq := if nbit m 7 then 0 else x.pumpReq
      pumpCleared := x.pumpCleared || nbit m 7 } }

/-- Arming starts anew at the causes START, SUPPLY and RECONFIG: the scrub pass that counts is the first that begins from
here on (R355). -/
def armAnew (c : Bool) (s : State) : State :=
  let w := s.whl
  let whole := decide (w.scrubWord = 0)
  if c then setSaf (fun f => { f with scans := 0, refs := 0, scrubNeed := w.scrubPass + (if whole then 1 else 2) }) s else s

/-- Causes arise, each with its detail (R355, R356). A cause present already arises no more. -/
def raiseCauses (cs : List (Nat × Nat)) (s : State) : State :=
  let new := freshCauses s cs
  if new.isEmpty then s
  else
    let m := causeMask new
    let s1 := armAnew (decide (m &&& armBits ≠ 0)) s
    let df := new.filter fun c => decide (8 ≤ c.1 ∧ c.1 ≤ 18)
    if s.saf.safe then
      df.foldl (fun a c => dangerous c.1 c.2 a) (setSaf (fun f => { f with cause := f.cause ||| m, entry := f.entry ||| m }) s1)
    else
      let s2 := setSaf (fun f => { f with
        safe := true, cause := f.cause ||| m, entry := m, enteredAt := s.aon, entries := satInc f.entries
        lvl := (false, false), togB := false }) s1
      let s3 := df.foldl (fun a c => dangerous c.1 c.2 a) (emit (safeEnterEv s2) s2)
      commitDue .state (prunFollow (clearRequests s3))

/-- A failing diagnostic: its cause arises and its passing time starts anew. -/
def diagFails (b detail : Nat) (s : State) : State :=
  raiseCauses [(b, detail)] (setSaf (fun f => { f with failAt := vmod f.failAt b fun _ => s.aon }) s)

/-- The safe state is left (R357): `who` is the acknowledging facet, none for R359. -/
def safeExit (who : Option Nat) (s : State) : State :=
  let how := match who with
    | none => 1
    | some f => 2 + 256 * f
  let e := ({ code := 0x0C02, sev := 2, who := everyone s, w4 := w32 s.saf.entry, w5 := w32 (min max32 (msUp (s.aon - s.saf.enteredAt))),
              w6 := w32 how } : Ev)
  commitDue .state (emit e (prunFollow (setSaf (fun f => { f with safe := false }) s)))

/-- R359: with AUTOACK the device leaves by itself once no cause is present and only START and SUPPLY arose. -/
def autoExit (s : State) : State :=
  if s.saf.safe ∧ s.saf.cause = 0 ∧ bit (cfgR s 0x6000) 8 = true ∧ s.saf.entry &&& (max32 - 2 ^ 24 - 2 ^ 25) = 0 then
    safeExit none s
  else s

/-- ACK_READY (R357). -/
def ackReady (s : State) : Bool := s.saf.safe && decide (s.saf.cause = 0)

/-- The acknowledging facet of the applied image (R32); in the shipping lattice none reaches IOP_SAFE_ACK. -/
def ackFacet (s : State) : Option Nat := s.str.map fun im => im.ackFacet

/-! ### Clearing -/

/-- The state of the unit behind a bit of the channel set; bits without a unit count as running. -/
def unitRuns (s : State) (b : Nat) : Bool :=
  if b < 8 then decide ((chan s b).state = .run)
  else if b = 8 then decide ((flowPath s 0).state = .run)
  else if b = 9 then decide ((flowPath s 1).state = .run)
  else true

/-- Every unit of the channel set of SF(n+1)'s kernel is in RUN. -/
def fnUnitsRun (s : State) (n : Nat) : Bool :=
  match fnInst s n with
  | none => false
  | some i => (List.range 10).all fun b => !nbit i.chans b || unitRuns s b

/-- Every unit in a safety channel set is in RUN (Table 12-4, DF_CHANNEL). -/
def safetyUnitsRun (s : State) : Bool := (List.range 4).all fun n => (fnInst s n).isNone || fnUnitsRun s n

/-- The watcher is armed on every channel of SF(n+1) (R365). -/
def watcherArmed (s : State) (n : Nat) : Bool := (fnChans s n).all fun k => vget s.saf.pArmed k false

/-- SF(n+1) is armed (R355). -/
def fnArmed (s : State) (n : Nat) : Bool :=
  fnOn s n && fnUnitsRun s n && (decide (n ≠ 0 ∧ n ≠ 2) || watcherArmed s n)
    && decide (0 < s.saf.scans) && decide (0 < s.saf.refs) && decide (s.saf.scrubNeed ≤ s.whl.scrubPass)

/-- Every enabled function is armed, and one is enabled. -/
def allArmed (s : State) : Bool := anyFn s && (List.range 4).all fun n => !fnOn s n || fnArmed s n

/-- A time since an AON count has passed, in seconds. -/
def passed (s : State) (since sec : Nat) : Bool := decide (since + sec * 32768 ≤ s.aon)

/-- 100 ms without a sample at a threshold: 3276.8 AON counts (Table 12-4). -/
def instGone (s : State) (j : Nat) : Bool :=
  match vget s.saf.instAt j none with
  | none => true
  | some t => decide (t + 3277 ≤ s.aon)

/-- The column Clears of Table 12-4: the causes whose condition to clear holds. -/
def clearable (s : State) (b : Nat) : Bool :=
  let ten := passed s (vget s.saf.failAt b 0) 10
  match b with
  | 0 => instGone s 0 && !ocInstCond s
  | 1 => !tocCond s
  | 2 => !plCond false s
  | 3 => instGone s 1
  | 4 => !efCond false s
  | 5 => !s.saf.prun
  | 9 => match s.saf.chanOkAt with
    | none => false
    | some t => passed s t 1
  | 12 => ten
  | 13 => ten
  | 14 => ten
  | 15 => ten && !s.saf.safFail && !s.pwc.hfxFail
  | 17 => ten && s.saf.wdt && passed s s.saf.tokSince 10
  | 18 => ten
  | 24 => allArmed s
  | 25 => allArmed s
  | 26 => allArmed s
  | 27 => anyFn s
  | _ => false

/-- Causes clear, and an automatic exit may follow (R355, R359). -/
def clearCauses (s : State) : State :=
  autoExit (setSaf (fun f => { f with
    cause := maskOf 32 fun b => nbit f.cause b && !clearable s b
    wOc := f.wOc && !clearable s 0
    wEf := f.wEf && !clearable s 3 }) s)

/-! ### The round close -/

/-- The token is correct: what arrives, from the challenge and the decisions, is what the watchdog expects of it with no trip
(R351). `turned` are the bits of the token that a fault turned. -/
def tokenRight (turned : Byte) (s : State) : Bool :=
  decide (Config.healthToken s.saf.chal (tripDecisions s) ^^^ turned = Config.healthToken s.saf.chal (List.replicate 5 false))

/-- The health token of a round close (R351); `bad` says that a record disagreed. The watchdog goes on to its next challenge. -/
def safToken (t : TokenIn) (bad : Bool) (s : State) : State :=
  if !s.saf.wdt || !anyFn s then s
  else
    let s1 := setSaf (fun f => { f with chal := Config.nextChallenge f.chal }) s
    if bad || (tripDecisions s).any id then
      setSaf (fun f => { f with tokOk := false, tokRef := false, tokSince := s.aon }) s1
    else if !tokenRight t.turned s || (s.saf.tokRef && (decide (t.gap < 100000) || decide (150000 < t.gap))) then
      diagFails 17 0 (setSaf (fun f => { f with tokOk := false, tokRef := true, tokSince := s.aon }) s1)
    else setSaf (fun f => { f with tokRef := true }) s1

/-- The AON count since which every safety unit runs. -/
def safUnits (s : State) : State :=
  setSaf (fun f => { f with chanOkAt := if safetyUnitsRun s then some (f.chanOkAt.getD s.aon) else none }) s

/-- The decisions of the safety kernels of a round (R343 to R347), after its samples are taken. -/
def safRound (code : Nat → Option Int) (s : State) : State :=
  let s1 := safRuns (safTherm (safSamples code s))
  if ocInstCond s1 then setSaf (fun f => { f with instAt := vmod f.instAt 0 fun _ => some s.aon }) s1 else s1

/-- Causes at a round close: decisions, SUPPLY, NO_FUNCTION and the causes of the dangerous-failure signal `df`; then
clearing (R351, R355, R360). `mis` are the kernels whose records disagreed. -/
def safClose (r : RoundIn) (mis : List Nat) (df : List (Nat × Nat)) (s : State) : State :=
  let cs := (if ocInstCond s ∧ ¬ mis.contains 0x0701 then [(0, 0)] else []) ++ (if tocCond s then [(1, 0)] else []) ++ (if plTrip s then [(2, 0)] else [])
    ++ (if efTrip s then [(4, 0)] else []) ++ (if dryTrip s then [(5, 0)] else [])
    ++ (if s.saf.supply ∧ anyFn s = true then [(25, 0)] else []) ++ (if anyFn s then [] else [(27, 0)]) ++ df
  let s1 := safToken r.token (!mis.isEmpty) (raiseCauses cs (safUnits s))
  clearCauses (setSaf (fun f => { f with supply := false }) s1)

/-! ### The trip watcher -/

/-- Fast samples of channel k are valid to the watcher: FAST set, past step 4 of Table 4-7, 1.6 ms (R149). -/
def fastValid (s : State) (k : Nat) : Bool :=
  let c := chan s k
  routed s k && routeOpt s k 2 && decide (13 ≤ c.age) && decide (c.state ≠ .off)

/-- Consecutive samples at a threshold of a channel. -/
def runAt (thr run : Nat) (x : Int) : Nat := if thr ≠ 0 ∧ thr ≤ x.natAbs then run + 1 else 0

/-- The code of a fast sample (R131, R139): full scale at ±0x6000, clipped at ±0x7FFF, negated under INVERT. -/
def fastCode (s : State) (k : Nat) (v : Rat) : Int :=
  let c := clipTo 0x7FFF (rndNear 148 (scaled s k 0x6000 v))
  if routeOpt s k 0 then -c else c

/-- One fast sample of every FAST channel, in code order VA to IX (R343, R346, R364, R365). A sample whose sequence count is the
one read last is no new sample (R139). -/
def fastSample (xs : Vector FastIn 8) (s : State) : State :=
  let i := fun k => vget xs k ⟨0, 0⟩
  let ok := fun k => fastValid s k && decide ((i k).seq ≠ vget s.saf.seq k 0)
  let x := fun k => fastCode s k (i k).volt
  let thr := bits (cfgR s 0x6004) 15 0
  let n := bits (cfgR s 0x6004) 19 16
  let ethr := bits (cfgR s 0x602C) 15 0
  let en := bits (cfgR s 0x602C) 19 16
  let res := if efSum s then x 3 + x 4 + x 5 + x 6 else x 7
  let resOk := if efSum s then ok 3 && ok 4 && ok 5 && ok 6 else ok 7
  let resOn := if efSum s then fastValid s 3 && fastValid s 4 && fastValid s 5 && fastValid s 6 else fastValid s 7
  let s1 := setSaf (fun f => { f with
    seq := vmap f.seq fun k q => if fastValid s k then (i k).seq else q
    ocRun := vmap f.ocRun fun k r =>
      if fnRuns s 0 && (fnChans s 0).contains k && fastValid s k then (if ok k then runAt thr r (x k) else r) else 0
    efFast := if fnRuns s 2 && resOn then (if resOk then runAt ethr f.efFast res else f.efFast) else 0
    xFast := vmap f.xFast fun k a => if ok k then (a.1 + (x k * x k).toNat, a.2 + 1) else a
    pI := vmap f.pI fun k a => if ok k && decide (vget f.pN k 0 < 625) then a + x k * cosT ((vget f.pN k 0 : Nat) / 25) else a
    pQ := vmap f.pQ fun k a => if ok k && decide (vget f.pN k 0 < 625) then a + x k * sinT ((vget f.pN k 0 : Nat) / 25) else a
    pN := vmap f.pN fun k m => if ok k then min 625 (m + 1) else if fastValid s k then m else 0
    pArmed := vmap f.pArmed fun k a => a && fastValid s k }) s
  let f1 := s1.saf
  let oc := f1.ocRun.toList.any fun r => decide (n ≤ r) && decide (0 < r)
  let ef := decide (en ≤ f1.efFast) && decide (0 < f1.efFast)
  let hot1 := (List.range 8).any fun k => ok k && decide (0 < vget f1.ocRun k 0)
  let hot3 := resOk && decide (0 < f1.efFast)
  let s2 := setSaf (fun f => { f with
    wOc := f.wOc || oc
    wEf := f.wEf || ef
    instAt := Vector.ofFn fun (j : Fin 2) => if (if j.val = 0 then hot1 else hot3) then some s.aon else f.instAt[j] }) s1
  raiseCauses ((if oc then [(0, 0)] else []) ++ (if ef then [(3, 0)] else [])) s2

/-- No fast sample with a new sequence count has arrived within 8 µs (R365). -/
def fastStall (k : Nat) (s : State) : State :=
  if anyFn s && fastValid s k && (fnChans s 0 ++ fnChans s 2).contains k then
    diagFails 13 k (setSaf (fun f => { f with pN := vmod f.pN k fun _ => 0, pArmed := vmod f.pArmed k fun _ => false }) s)
  else s

/-- The comparator test: `bad` names a channel whose comparator answered wrongly (R365). -/
def comparatorTest (bad : Option Nat) (s : State) : State :=
  match bad with
  | none => s
  | some k => if anyFn s then diagFails 13 k s else s

/-- A pilot window of 625 fast samples ends on every channel that has them (R365): the amplitude against the factory
value. -/
def pilotWindow (s : State) : State :=
  let done := (List.range 8).filter fun k => decide (vget s.saf.pN k 0 = 625)
  let ok := fun k =>
    let i := vget s.saf.pI k 0
    let q := vget s.saf.pQ k 0
    let a := 2 * sqrtR 144 (i * i + q * q) / 625
    let b := match routeOf s k with
      | none => 1
      | some r => Config.fastPilotBase r.input r.pga
    decide (b / 2 ≤ a) && decide (a ≤ b * 3 / 2)
  let s1 := setSaf (fun f => { f with
    pBad := vmap f.pBad fun k n => if done.contains k then (if ok k then 0 else n + 1) else n
    pArmed := vmap f.pArmed fun k a => if done.contains k then a || ok k else a
    pI := vmap f.pI fun k a => if done.contains k then 0 else a
    pQ := vmap f.pQ fun k a => if done.contains k then 0 else a
    pN := vmap f.pN fun k n => if done.contains k then 0 else n }) s
  let bad := done.filter fun k => decide (2 ≤ vget s1.saf.pBad k 0) && (fnChans s 0 ++ fnChans s 2).contains k
  match bad with
  | [] => s1
  | k :: _ => if anyFn s then diagFails 13 k s1 else s1

/-- A cross-check window of 10 ms ends (R364). -/
def crossCheck (s : State) : State :=
  let set_ := fnChans s 0 ++ fnChans s 2
  let fails := fun k =>
    let a := vget s.saf.xFast k (0, 0)
    let b := vget s.saf.xRound k (0, 0)
    let rf := sqrtR 145 ((a.1 : Rat) / (a.2 : Nat)) * 256
    let rr := sqrtR 146 ((b.1 : Rat) / (b.2 : Nat))
    let lim := rr / 20 + sqrtR 147 (6291456 * 6291456 / 2) / 200
    decide (a.2 ≠ 0) && decide (b.2 ≠ 0) && (decide (lim < rf - rr) || decide (lim < rr - rf))
  let bad := (List.range 8).filter fun k => set_.contains k && fails k
  let s1 := setSaf (fun f => { f with xFast := Vector.replicate 8 (0, 0), xRound := Vector.replicate 8 (0, 0) }) s
  match bad with
  | [] => s1
  | k :: _ => if anyFn s then diagFails 12 k s1 else s1

/-! ### Other diagnostics -/

/-- VREF is compared with SREF: the difference in ppm is published, and DF_REF arises past 500 ppm in two consecutive
comparisons (R141, R366). -/
def refCompare (ppm : Int) (s : State) : State :=
  let over_ := decide (500 < ppm.natAbs)
  let n := if over_ then s.saf.refBad + 1 else 0
  let s1 := setSaf (fun f => { f with refBad := n, refs := f.refs + 1 }) { s with met := { s.met with refDelta := ppm } }
  if 2 ≤ n ∧ anyFn s = true then diagFails 14 0 s1 else s1

/-- The offsets of the SAF configuration registers, in order. -/
def safOffs : List Nat := (List.range 18).map fun j => 0x6000 + 4 * j

/-- A number of n bytes, low byte first. -/
def bytesOf (n v : Nat) : List Byte := (List.range n).map fun i => BitVec.ofNat 8 (v / 256 ^ i)

/-- The applied structure as the image scan reads it: routing, instance, sector and rotation records, grants and policies in the
layout of Table 1-7, then the SAF registers (R368). -/
def scanBytes (s : State) : List Byte :=
  let recs := match s.str with
    | none => []
    | some i =>
      (i.routes.flatMap fun r => bytesOf 1 r.input ++ bytesOf 1 r.chan ++ bytesOf 1 r.pga ++ bytesOf 1 r.sensor ++ bytesOf 4 r.opt)
        ++ (i.insts.flatMap fun r => bytesOf 2 r.code ++ bytesOf 1 r.inst ++ bytesOf 1 r.flags ++ bytesOf 4 r.chans ++ bytesOf 2 r.off
          ++ bytesOf 2 r.len ++ bytesOf 1 r.prim ++ bytesOf 1 r.shad ++ bytesOf 2 r.rsv)
        ++ (i.sectors.flatMap fun r => bytesOf 1 r.num ++ bytesOf 1 r.kind ++ bytesOf 1 r.first ++ bytesOf 1 r.len)
        ++ (i.rots.flatMap fun r => bytesOf 2 r)
        ++ (i.grants.flatMap fun r => bytesOf 1 r.cls ++ bytesOf 1 r.idx ++ bytesOf 1 r.facet ++ bytesOf 1 r.kind)
        ++ (i.policies.flatMap fun r => bytesOf 1 r.act ++ bytesOf 1 r.pol ++ bytesOf 2 r.order)
  recs ++ safOffs.flatMap fun o => wordBytes (cfgV s o)

/-- Block k of the structure, 256 bytes, with the bits of `flips` (byte, bit) turned. -/
def scanBlock (flips : List (Nat × Nat)) (k : Nat) (b : List Byte) : List Byte :=
  ((b.drop (256 * k)).take 256).zipIdx.map fun x =>
    (flips.filter fun f => decide (f.1 = 256 * k + x.2)).foldl (fun a f => a ^^^ BitVec.ofNat 8 (2 ^ (f.2 % 8))) x.1

/-- The CRC-32 that the scan recomputes of some block differs from its reference, the CRC of what was applied with the SAF registers
as they stand (R368). A block with no turned bit gives its reference. -/
def scanBad (flips : List (Nat × Nat)) (s : State) : Bool :=
  flips.any fun f =>
    let k := f.1 / 256
    decide (crc32 (scanBlock flips k (scanBytes s)) ≠ crc32 (scanBlock [] k (scanBytes s)))

/-- One pass of the image scan (R368). -/
def imageScan (flips : List (Nat × Nat)) (s : State) : State :=
  if scanBad flips s then (if anyFn s then diagFails 16 0 s else s) else setSaf (fun f => { f with scans := f.scans + 1 }) s

/-- The pads of TRIPA and TRIPB over a millisecond against the driven levels (R369). -/
def tripReadback (pads : List PadSample) (s : State) : State :=
  let bad := pads.any fun p => decide ((p.a, p.b) ≠ (if p.now then s.saf.lvl else s.saf.lvlPrev))
  let n := if bad then s.saf.padBad + 1 else 0
  let s1 := setSaf (fun f => { f with padBad := n }) s
  if 2 ≤ n ∧ anyFn s = true then diagFails 18 0 s1 else s1

/-- The token that the watchdog expected is missing; one withheld for a trip decision is not (R351, R363). -/
def tokenTimeout (s : State) : State :=
  if s.saf.wdt && s.saf.tokRef && anyFn s then
    diagFails 17 0 (setSaf (fun f => { f with tokOk := false, tokRef := false, tokSince := s.aon }) s)
  else s

/-- TRIPA may toggle (R350): the latch is clear, the watcher has no trip, the SAF clock runs and passes, and VIO is
there (R471). -/
def tripAOk (s : State) : Bool := !s.saf.safe && !s.saf.wOc && !s.saf.wEf && !s.saf.safFail && s.pwc.clk.saf
  && s.pwc.vioOk

/-- TRIPB may toggle at an edge (R351). -/
def tripBOk (s : State) : Bool := !s.saf.safe && s.saf.tokOk && !s.saf.safFail && s.pwc.clk.saf
  && s.pwc.vioOk

/-- A half period of the 1.000 kHz SAF time base begins: TRIPA is high in the first half, TRIPB in the second, each only
where it may toggle (R350, R351). -/
def tripEdge (s : State) : State :=
  let h := !s.saf.half
  setSaf (fun f => { f with
    half := h, lvlPrev := f.lvl, lvl := (h && tripAOk s, !h && tripBOk s), togB := tripBOk s, tokOk := true }) s

/-- The contactor is closed by TRIPFB, which reads 0 without VIO (R354, R471). -/
def fbClosed (s : State) : Bool := bit (cfgR s 0x6000) 6 && ((s.saf.fb && s.pwc.vioOk) != bit (cfgR s 0x6000) 7)

/-- The contactor still stands wrong FB_MS after its expected state changed (R354); it is judged once for each change. -/
def contactorDue (s : State) : State :=
  let ms := (cfgR s 0x6044).toNat
  if bit (cfgR s 0x6000) 6 = true ∧ s.saf.fbDone = false ∧ s.saf.prunAt + aonOfMs ms ≤ s.aon then
    let wrong := decide (fbClosed s ≠ s.saf.prun)
    let closed := fbClosed s
    let e := ({ code := 0x0C04, sev := if closed then 3 else 2, who := who s fun f => decide (f = 0) || ownsRes s f 9 0,
                w4 := if closed then 1 else 2, w5 := w32 (b2n (s.saf.fb && s.pwc.vioOk)), w6 := w32 ms } : Ev)
    emitAll (evIf wrong e) (setSaf (fun f => { f with fbDone := true }) s)
  else s

/-! ### Registers -/

/-- SAF_CFG_CRC: the CRC-32 of the values in force (R373). -/
def safCfgCrc (s : State) : Word := crc32 (safOffs.flatMap fun o => wordBytes (cfgR s o))

/-- The value that the active SAFETY section gives a SAF register: its preset or its reset value (R373). -/
def safPreset (s : State) (off : Nat) : Word :=
  match s.str with
  | none => regReset off
  | some im => ((im.safPresets.find? fun p => p.off = off).map Preset.val).getD (regReset off)

/-- SAF_PRESET_CRC (R373). -/
def safPresetCrc (s : State) : Word := crc32 (safOffs.flatMap fun o => wordBytes (safPreset s o))

/-- A host write of a SAF register: in force from the next round boundary, with SAF_WRITE (R372). -/
def safWrite (off : Nat) (v : Word) (s : State) : State :=
  emit { code := 0x0C05, sev := 1, who := blockAndF0 s 13, w4 := w32 off, w5 := cfgV s off, w6 := v, w7 := safCfgCrc s }
    { s with cfg := cfgSet s.cfg off v }

/-- SAF_STAT (Table 12-10). -/
def safStat (s : State) : Word :=
  pack [(0, b2n s.saf.safe), (1, b2n (ackReady s)), (2, b2n (decide (safCfgCrc s ≠ safPresetCrc s))), (3, b2n (tripAOk s)),
    (4, b2n (s.saf.togB && !s.saf.safe)), (5, b2n (fbClosed s)), (6, b2n s.saf.prun), (8, maskOf 4 fun n => fnArmed s n)]

/-- A read-only SAF register (Table 12-8). -/
def safRead (s : State) (off : Nat) : Word :=
  match off with
  | 0x6080 => safStat s
  | 0x6084 => w32 s.saf.cause
  | 0x6088 => w32 s.saf.entry
  | 0x608C => w32 (thermOf s 0)
  | 0x6090 => w32 (thermOf s 1)
  | 0x6094 => w32 (thermOf s 2)
  | 0x6098 => w32 s.saf.entries
  | 0x609C => w32 s.saf.dfCount
  | 0x60A4 => safCfgCrc s
  | 0x60A8 => safPresetCrc s
  | 0x60AC => w32 ((ackFacet s).getD 0)
  | _ => 0

end Sys2Proof.Machine
end

