-- ==== Sys2Proof/Machine/Store.lean ====
section
/-! DEFINITION. The persistent store (chapter 13): what a commit record holds, the commit queue, slots and markers, recovery
at a start with the bounds of an unclosed interval, restoring, and the user areas. -/

namespace Sys2Proof.Machine

open Sys2Proof

/-- Changes the store. -/
def setSto (f : Sto → Sto) (s : State) : State := { s with sto := f s.sto }

/-! ### Packing a record -/

/-- The 64 energy accumulators set by set; an undefined set packs as 0 (R386). -/
def energyAccs (s : State) : List Nat :=
  (List.range 64).map fun i => if setDefined s (i / 8) then vget (enSet s (i / 8)).acc (i % 8) 0 else 0

/-- The volume set that position p of a record holds (R387). -/
def volPos (s : State) (p : Nat) : Option Nat :=
  if p = 0 then (if volDefined s 0 then some 0 else if volDefined s 3 then some 3 else none)
  else if volDefined s p then some p else none

/-- FWD, REV and HELD of the three positions. -/
def volAccs (s : State) : List Nat :=
  (List.range 3).flatMap fun p => match volPos s p with
    | none => [0, 0, 0]
    | some v => let x := volSet s v; [x.fwd, x.rev, x.held]

/-- Bits [95:64] of every accumulator's value, which the counter area keeps (R386, R397). -/
def highWords (s : State) : List Nat := (energyAccs s ++ volAccs s).map fun a => a / 2 ^ 96

/-- The order in which w239 to w250 hold the supply-event counts, by their index here (Table 13-3). -/
def pqOrder : List Nat := [0, 1, 2, 4, 5, 6, 8, 9, 10, 3, 7, 11]

/-- A quantity rounded up, holding at 0xFFFF_FFFF (R385, R386). -/
def ceil32 (x : Rat) : Nat := min x.ceil.toNat max32

/-- The content of a commit record packed now (R385 to R387, Table 13-3). -/
def packBody (live : State) : CommitBody :=
  let s := seen live
  let b := s.bat
  let g := instsOf s 0x0501 != []
  let vol := fun (f : VolSet → Nat) => (List.range 3).map fun p => match volPos s p with
    | none => 0
    | some v => min (msOf (f (volSet s v))) max32
  { energy := (energyAccs s).map fun a => a % 2 ^ 96
    volume := (volAccs s).map fun a => a % 2 ^ 96
    vunmeas := vol VolSet.unmeas
    vholdms := vol VolSet.holdT
    batCharge := if g then rnd 128 b.charge else 0
    batUnc := if g then ceil32 (b.unc / 1000) else 0
    batUsed := if !g then 0 else if batPrimary s then ceil32 (b.used / 1000) else b.cycles.floor.toNat
    batSoc := if g then (rnd 150 (b.socAbs * 65536)).toNat else 0
    anchored := g && b.anchored
    chargePrimary := g && b.intoPrimary
    cellChanged := g && b.changed
    gauge := g
    fcc := if g then (rnd 122 b.fcc).toNat else 0
    iavg := if g then rnd 151 b.iavg else 0
    switchCount := b.switchCount
    therm := (List.range 3).map fun p => if (fnInst s 0).isSome then thermOf s p else 0
    epoch := s.chd.epoch
    leader := s.chd.leader
    roleValid := pathExists s 2
    entryCause := s.saf.entry % 2 ^ 28
    safeLatched := s.saf.safe
    legalFaults := s.dsp.legalFaults
    pqCounts := pqOrder.map fun i => vget s.pq.counts i 0
    pqMs := s.pq.durs.toList }

/-- The three words of an accumulator in a record: value [31:0], value [63:32], residue (Table 13-3). -/
def accWords (a : Nat) : List Word := [w32 (a / 2 ^ 32), w32 (a / 2 ^ 64), w32 a]

/-- Words w0 to w253 of a record (Table 13-3). -/
def recordBody (r : CommitRec) : List Word :=
  let b := r.body
  [w32 r.aon, pack [(0, r.aon / 2 ^ 32 % 65536), (16, r.seq)]]
    ++ b.energy.flatMap accWords ++ b.volume.flatMap accWords ++ b.vunmeas.map w32 ++ b.vholdms.map w32
    ++ [i32 b.batCharge, i32 (b.batCharge / 2 ^ 32), w32 b.batUnc, w32 b.batUsed,
        pack [(0, b.batSoc % 2 ^ 17), (17, b2n b.anchored), (18, b2n b.chargePrimary), (19, b2n b.cellChanged), (20, b2n b.gauge)],
        w32 b.fcc, i32 b.iavg, w32 b.switchCount,
        pack [(0, b.therm.getD 0 0), (16, b.therm.getD 1 0)],
        pack [(0, b.therm.getD 2 0), (16, b.epoch % 256), (24, b2n b.leader), (25, b2n b.roleValid)],
        pack [(0, b.entryCause % 2 ^ 28), (28, b2n b.safeLatched), (29, r.kind.code)], w32 b.legalFaults]
    ++ b.pqCounts.map w32 ++ b.pqMs.map w32

/-- The 256 words of a closed record: w254 is the CRC-32 under R25 over w0 to w253, and w255 the closing mark (R384, R385). -/
def recordWords (r : CommitRec) : List Word :=
  let w := recordBody r
  w ++ [crc32 (w.flatMap wordBytes), w32 (0x5EA10000 + r.seq)]

/-- The 8 words of a marker (R388). -/
def markerWords (m : Marker) : List Word :=
  let w := [pack [(0, m.seq), (16, m.kind.code), (31, b2n m.vmain)], w32 m.start,
    pack [(0, m.start / 2 ^ 32 % 65536), (16, m.stop / 2 ^ 32 % 65536)], w32 m.stop, w32 m.m4, w32 m.m5, w32 m.m6]
  w ++ [crc32 (w.flatMap wordBytes)]

/-! ### The commit queue -/

/-- Of two SEQ values, a is the newer (R383). -/
def seqNewer (a b : Nat) : Bool :=
  let d := (a + 65536 - b) % 65536
  decide (1 ≤ d) && decide (d ≤ 32767)

/-- A record is closed: its mark matches and its CRC holds (R384). -/
def CommitRec.closed (r : CommitRec) : Bool := r.crcOk && r.marked

/-- The closed record of a slot. -/
def closedIn (s : State) (i : Nat) : Option CommitRec := (vget s.sto.slots i none).filter CommitRec.closed

/-- The slot of the newest closed record and the record (R383). -/
def newestClosed (s : State) : Option (Nat × CommitRec) :=
  match closedIn s 0, closedIn s 1 with
  | none, none => none
  | some a, none => some (0, a)
  | none, some b => some (1, b)
  | some a, some b => if seqNewer b.seq a.seq then some (1, b) else some (0, a)

/-- A queued record takes over the maxima of one that no closed record will hold: its interval begins earlier (R388). -/
def carryMaxima (o q : Queued) : Queued := { q with m4 := max q.m4 o.m4, m5 := max q.m5 o.m5, m6 := max q.m6 o.m6 }

/-- A record of kind k is packed and queued; in a full queue it replaces the one not yet being written (R124, R382). A
deferred commit stays due past a SWITCH, RESET or FINAL record. -/
def queueCommit (k : CommitKind) (s : State) : State :=
  let st := s.sto
  let q : Queued := { kind := k, aon := s.aon, vmain := s.pwc.vmainOk, body := packBody s, m4 := st.maxS, m5 := st.maxPipe, m6 := st.maxChan }
  let full := decide (2 ≤ st.cqueue.length)
  let q' := match full, st.cqueue.getLast? with
    | true, some o => carryMaxima o q
    | _, _ => q
  { s with
    sto := { st with
      cqueue := st.cqueue.take 1 ++ (if full then [] else st.cqueue.drop 1) ++ [q']
      lastQueued := some s.aon, deferred := if 4 < k.code then st.deferred else none, maxS := 0, maxPipe := 0, maxChan := 0 }
    whl := { s.whl with commitMerged := if full then satInc s.whl.commitMerged else s.whl.commitMerged } }

/-- The maxima of the open interval take the round: ΣS̄ of the total variant in VA, |Q| of pipes and of the channel in mL/s,
rounded up (R388). -/
def maximaRound (s : State) : State :=
  let ps := (List.range 3).filter fun p => contributes s p
  let sum := ps.foldl (fun a p => a + (lineQuant s p 0).s) (0 : Rat)
  let ml := fun (q : Int) => (q.natAbs + 999) / 1000
  let pipe := max (ml s.flw.qc) (max (ml (flowPath s 0).q) (ml (flowPath s 1).q))
  setSto (fun t => { t with
    maxS := max t.maxS sum.ceil.toNat, maxPipe := max t.maxPipe pipe, maxChan := max t.maxChan (ml (flowPath s 2).q) }) s

/-- MAINS_INT in ms (Table 13-7). -/
def mainsInt (s : State) : Nat := bits (cfgV s 0xF200) 15 0
/-- BAT_MAX_S in s. -/
def batMax (s : State) : Nat := bits (cfgV s 0xF200) 31 16

/-- PERIOD falls due with VMAIN present: where a line cycle completed in this round if MAINS_INT is 0, else after each
further MAINS_INT ms (Table 13-2). -/
def periodRound (cycle : Bool) (s : State) : State :=
  if !s.pwc.vmainOk then s
  else if mainsInt s = 0 then (if cycle then commitDue .period s else s)
  else if s.sto.periodAt + aonOfMs (mainsInt s) ≤ s.aon then
    commitDue .period (setSto (fun t => { t with periodAt := s.aon }) s)
  else s

/-- At a round close the due commit is packed if the previous one lies 10 ms back (R382). -/
def commitRound (s : State) : State :=
  match s.sto.deferred with
  | none => s
  | some k =>
    let ok := match s.sto.lastQueued with
      | none => true
      | some t => decide (t + 328 ≤ s.aon)
    if ok then queueCommit k s else s

/-- The counter area follows the accumulators' high words (R386, R397). -/
def highRound (s : State) : State := setSto (fun t => { t with highWords := highWords s }) s

/-! ### Writing -/

/-- The store address of w254 of a slot, where a failed read-back is reported. -/
def slotAddress (i : Nat) : Nat := 0xC000 + 0x400 * i + 0x3F8

/-- STORE_FAULT (Table 13-8). -/
def storeFault (cause addr : Nat) : Ev := { code := 0x0D03, sev := 3, who := 31, w4 := w32 cause, w5 := w32 addr }

/-- The record at the head of the queue is written and read back: `rb` is 0 when it closed at once, 1 when its rewrite
closed, 2 when neither did (R383, R384); the maxima of one that did not close pass to the next. The first record of a store
takes SEQ 1. -/
def commitClose (rb : Nat) (s : State) : State :=
  match s.sto.cqueue with
  | [] => s
  | q :: rest =>
    let n := newestClosed s
    let i := match n with
      | none => 0
      | some x => 1 - x.1
    let seq := match n with
      | none => 1
      | some x => (x.2.seq + 1) % 65536
    let ok := decide (rb < 2)
    let m : Marker := { seq := seq, kind := q.kind, vmain := q.vmain, start := (n.map fun x => x.2.aon).getD 0, stop := q.aon,
                        m4 := q.m4, m5 := q.m5, m6 := q.m6 }
    let r : CommitRec := { aon := q.aon, seq := seq, kind := q.kind, body := q.body, crcOk := ok, marked := ok }
    emitAll (evIf (!ok) (storeFault 1 (slotAddress i))) (setSto (fun t => { t with
      slots := vmod t.slots i fun _ => some r
      markers := vmod t.markers i fun _ => some m
      cqueue := if ok then rest else rest.map (carryMaxima q)
      commitCount := if ok then satInc t.commitCount else t.commitCount
      commitFail := satAdd t.commitFail rb
      maxS := if ok || !rest.isEmpty then t.maxS else max t.maxS q.m4
      maxPipe := if ok || !rest.isEmpty then t.maxPipe else max t.maxPipe q.m5
      maxChan := if ok || !rest.isEmpty then t.maxChan else max t.maxChan q.m6 }) s)

/-- DIAG_COMMIT_STAT (Table 13-7). -/
def commitStat (s : State) : Word :=
  let n := newestClosed s
  pack [(0, (n.map Prod.fst).getD 0), (1, (n.map fun x => x.2.kind.code).getD 0), (4, b2n (!s.sto.cqueue.isEmpty)),
    (16, (n.map fun x => x.2.seq).getD 0)]

/-- BAT_MAX_S has passed on battery since the previous commit: a PAIR commit falls due (Table 13-2). -/
def batMaxDue (s : State) : Bool := !s.pwc.vmainOk && decide (s.sto.lastQueued.getD 0 + batMax s * 32768 ≤ s.aon)

/-! ### Recovery -/

/-- A record whose area holds an uncorrectable word fails its CRC (R393). -/
def spoil (bad : List Nat) (i : Nat) (r : Option CommitRec) : Option CommitRec :=
  let lo := 0xC000 + 0x400 * i
  if bad.any fun a => decide (lo ≤ a) && decide (a < lo + 0x400) then r.map fun x => { x with crcOk := false } else r

/-- A marker whose area holds an uncorrectable word fails its CRC. -/
def spoilMarker (bad : List Nat) (i : Nat) (m : Option Marker) : Option Marker :=
  let lo := 0xC800 + 0x20 * i
  if bad.any fun a => decide (lo ≤ a) && decide (a < lo + 0x20) then none else m

/-- The latest AON count in a closed record or a marker (R416). -/
def latestAon (s : State) : Nat :=
  let r := s.sto.slots.toList.filterMap fun x => (x.filter CommitRec.closed).map CommitRec.aon
  let m := s.sto.markers.toList.filterMap fun x => x.map Marker.stop
  (r ++ m).foldl max 0

/-- The unclosed interval after the newest closed record `n` in slot i (R394). -/
def unclosedAfter (s : State) (i : Nat) (n : CommitRec) : Unclosed :=
  let own := vget s.sto.markers i none
  let mains := (own.map fun m => m.vmain && decide (m.seq = n.seq)).getD false
  match vget s.sto.markers (1 - i) none with
  | none => { len := none, m4 := 0, m5 := 0, m6 := 0, mains := mains, final := false }
  | some m =>
    if m.seq = (n.seq + 1) % 65536 ∧ m.start = n.aon then
      { len := some (m.stop - m.start), m4 := m.m4, m5 := m.m5, m6 := m.m6, mains := m.vmain, final := decide (m.kind = .final) }
    else { len := none, m4 := 0, m5 := 0, m6 := 0, mains := mains, final := false }

/-- COMMIT_RECOVERED (Table 13-8). -/
def recoveredEv (r : CommitRec) : Ev := { code := 0x0D02, sev := 1, who := 31, w4 := w32 r.seq, w5 := w32 r.kind.code }

/-- A record complete but for its mark is closed and restored (R393). -/
def recoverSlot (i : Nat) (r : CommitRec) (s : State) : State :=
  let r' := { r with marked := true }
  let pwc := s.pwc
  { setSto (fun t => { t with
      slots := vmod t.slots i fun _ => some r', restore := some r', gap := true, uncl := none
      pfFinal := if r.kind = .final then satInc t.pfFinal else t.pfFinal }) s with
    pwc := { pwc with startEvents := pwc.startEvents ++ [recoveredEv r'], afterPf := decide (r.kind = .final) } }

/-- Recovery of the commit area (R393, R395): what is restored, and what the start will report. -/
def recover (s : State) : State :=
  let complete := fun (r : Option CommitRec) => r.filter fun x => x.crcOk && !x.marked
  let none_ := { setSto (fun t => { t with restore := none, gap := s.pwc.pfBefore, uncl := none }) s with
    pwc := { s.pwc with
      startEvents := s.pwc.startEvents ++ [{ code := 0x0D04, sev := 3, who := 31 }], afterPf := false } }
  match newestClosed s with
  | none =>
    match complete (vget s.sto.slots 0 none), complete (vget s.sto.slots 1 none) with
    | some r, _ => recoverSlot 0 r s
    | none, some r => recoverSlot 1 r s
    | none, none => none_
  | some (i, n) =>
    match complete (vget s.sto.slots (1 - i) none) with
    | some o => if o.seq = (n.seq + 1) % 65536 then recoverSlot (1 - i) o s else plain i n
    | none => plain i n
where
  /-- The newest closed record is restored; unless it is FINAL or RESET the interval after it is unclosed. GAP too where a power-fail
  sequence came after it (R301). -/
  plain (i : Nat) (n : CommitRec) : State :=
    let open_ := decide (n.kind ≠ .final) && decide (n.kind ≠ .reset)
    let u := unclosedAfter s i n
    { setSto (fun t => { t with
        restore := some n, gap := open_ || decide (n.kind = .final) || s.pwc.pfBefore, uncl := if open_ then some u else none }) s with
      pwc := { s.pwc with afterPf := decide (n.kind = .final) || (open_ && u.final) } }

/-- The maxima and length of an unclosed interval, in VA, mL/s, mL/s and seconds, and whether full scales stand in
(R394). -/
def unclosedBound (s : State) (u : Unclosed) : Rat × Rat × Rat × Rat × Bool :=
  match u.len with
  | some n => (u.m4, u.m5, u.m6, (n : Rat) / 32768, false)
  | none =>
    let sec : Rat := if u.mains then (if mainsInt s = 0 then 25 / 1000 else (mainsInt s : Rat) / 1000) else (batMax s : Rat)
    let e := ((List.range 3).filter fun p => contributes s p).foldl (fun a p => a + pFs s p) (0 : Rat)
    let pipe := fun p => if pathExists s p then
        let f := flowCfg s.cfg p
        (f.vMax : Rat) * piRat * (f.d * f.d : Nat) / 4 / 1000000000
      else 0
    let top := ((sectionPts s).getLastD (0, 0, 0)).2.1
    let chan := if pathExists s 2 then ((flowCfg s.cfg 2).vMax * top : Nat) / (10 : Rat) else 0
    (e, max (pipe 0) (pipe 1), chan, sec, true)

/-- The unclosed interval is counted and reported, once the structure is applied (R393, R394, R404). -/
def reportUnclosed (s : State) : State :=
  match s.sto.uncl with
  | none => s
  | some u =>
    let b := unclosedBound s u
    let ms := (b.2.2.2.1 * 1000).ceil.toNat
    let s1 := setSto (fun t => { t with uncl := none, unclosed := satInc t.unclosed, unclMs := satAdd t.unclMs ms }) s
    emit { code := 0x0D01, sev := 3, who := 31,
           w4 := pack [(0, ms % 2 ^ 20), (28, b2n b.2.2.2.2), (29, b2n u.final)],
           w5 := w32 (ceil32 (b.1 * b.2.2.2.1 / 3600 * 1000)),
           w6 := w32 (ceil32 (b.2.1 * b.2.2.2.1)), w7 := w32 (ceil32 (b.2.2.1 * b.2.2.2.1)) } s1

/-! ### Restoring -/

/-- The energy sets that the applied structure defines take a record's values (R386). -/
def restoreEnergy (r : CommitBody) (s : State) : State :=
  let val := fun k a => r.energy.getD (8 * k + a) 0 + s.sto.highWords.getD (8 * k + a) 0 * 2 ^ 96
  let one := fun k (e : EnSet) => if setDefined s k then { e with acc := vmap e.acc fun a _ => val k a } else e
  { s with nrg := { s.nrg with sets := vmap s.nrg.sets one } }

/-- The volume sets take a record's values (R386, R387). -/
def restoreVolume (r : CommitBody) (s : State) : State :=
  (List.range 3).foldl (fun a p => match volPos a p with
    | none => a
    | some v =>
      let g := fun i => r.volume.getD (3 * p + i) 0 + a.sto.highWords.getD (64 + 3 * p + i) 0 * 2 ^ 96
      { a with flw := { a.flw with vol := vmod a.flw.vol v fun x =>
          { x with fwd := g 0, rev := g 1, held := g 2, unmeas := r.vunmeas.getD p 0 * 32768, holdT := r.vholdms.getD p 0 * 32768 } } }) s

/-- The gauge takes a record's values, with GAP where R301 has it. -/
def restoreGauge (r : CommitBody) (gap : Bool) (s : State) : State :=
  let prim := batPrimary s
  let s1 := setBat (fun b => { b with switchCount := satAdd r.switchCount b.switchCount, gap := b.gap || (gap && instsOf s 0x0501 != []) }) s
  if instsOf s 0x0501 = [] ∨ r.gauge = false then s1
  else setBat (fun b => { b with
    charge := (r.batCharge : Rat), unc := (r.batUnc : Rat) * 1000
    used := if prim then (r.batUsed : Rat) * 1000 else 0
    cycles := if prim then 0 else (r.batUsed : Rat)
    socAbs := (r.batSoc : Rat) / 65536, anchored := r.anchored && (prim || !gap), intoPrimary := r.chargePrimary
    changed := r.cellChanged, fcc := (r.fcc : Rat), iavg := (r.iavg : Rat) }) s1

/-- θ and the latched causes (R344, R360): θ decays over the AON time since the record if AON ran throughout, and causes
other than START and SUPPLY stay in SAF_ENTRY_CAUSE. -/
def restoreSafety (r : CommitRec) (s : State) : State :=
  let sec : Rat := ((s.aon - r.aon : Nat) : Rat) / 32768
  let f : Rat := if s.pwc.aonCont then expNeg (sec / (curveCool s * curveTau s : Nat)) else 1
  let keep := r.body.entryCause &&& (max32 - 2 ^ 24 - 2 ^ 25)
  setSaf (fun x => { x with
    theta := vmap x.theta (fun p _ => (rnd 152 (thetaOf s (r.body.therm.getD p 0) * f)).toNat)
    entry := if r.body.safeLatched then x.entry ||| keep else x.entry }) s

/-- The restored values enter the sets and units that the applied structure defines (R393). -/
def restoreAll (s : State) : State :=
  match s.sto.restore with
  | none => setBat (fun b => { b with gap := b.gap || (s.sto.gap && instsOf s 0x0501 != []) }) s
  | some r =>
    let b := r.body
    let s1 := restoreSafety r (restoreGauge b s.sto.gap (restoreVolume b (restoreEnergy b s)))
    { s1 with
      pq := { s1.pq with
        counts := Vector.ofFn fun (i : Fin 12) => b.pqCounts.getD (pqOrder.idxOf i.val) 0
        durs := Vector.ofFn fun (i : Fin 3) => b.pqMs.getD i.val 0 }
      dsp := { s1.dsp with legalFaults := b.legalFaults } }

/-- The link's role and epoch at structure application (R257): from the newest commit record, else from CHD_CFG.INIT_ROLE. -/
def restoreRole (s : State) : State :=
  if !pathExists s 2 then s
  else match ((newestClosed s).map Prod.snd).filter fun r => r.body.roleValid with
    | some r => setChd (fun c => { c with leader := r.body.leader, epoch := r.body.epoch, roleAt := s.aon, revert := none }) s
    | none => setChd (fun c => { c with leader := bit (cfgV s 0x3800) 0, epoch := 0, roleAt := s.aon, revert := none }) s

/-- The newest closed record is read back; its uncorrectable 64-bit word, if it has one, is counted and reported, and the other
closed record stands in (R380, R396, R403, R404). -/
def reloadFrom (recBad : Option (Fin 128)) (s : State) : Option CommitRec × State :=
  match newestClosed s, recBad with
  | none, _ => (none, s)
  | some (_, n), none => (some n, s)
  | some (i, _), some w =>
    (closedIn s (1 - i), emit (storeFault 2 (0xC000 + 0x400 * i + 8 * w.val)) (setSto (fun t => { t with eccUncorr := t.eccUncorr + 1 }) s))

/-- An energy set reloaded from a commit record; answers with the record's age in rounds (R123, R396). -/
def reloadSet (k : Nat) (recBad : Option (Fin 128)) (s0 : State) : State × Nat :=
  let f := reloadFrom recBad s0
  let s := f.2
  match f.1 with
  | none => ({ s with nrg := { s.nrg with sets := vmod s.nrg.sets k fun e => { e with acc := Vector.replicate 8 0 } } }, 0)
  | some r =>
    ({ s with nrg := { s.nrg with sets := vmod s.nrg.sets k fun e =>
        { e with acc := vmap e.acc fun a _ => r.body.energy.getD (8 * k + a) 0 + s.sto.highWords.getD (8 * k + a) 0 * 2 ^ 96 } } },
     ((s.aon - r.aon) * 8000 + 32767) / 32768)

/-! ### Counter copies -/

/-- The median of three values. -/
def median (a b c : Nat) : Nat := max (min a b) (min (max a b) c)

/-- All three copies differ (R397). -/
def copiesDiffer (c : Nat × Nat × Nat × Nat) : Bool :=
  decide (c.2.1 ≠ c.2.2.1) && decide (c.2.1 ≠ c.2.2.2) && decide (c.2.2.1 ≠ c.2.2.2)

/-- A counter whose copies do not agree takes their median (R397): 0 PQ_EVT_INDEX, 1 SAF_ENTRIES, 2 SAF_DF_COUNT, 3
DIAG_PF_FINAL, 4 DIAG_UNCLOSED, 5 DIAG_UNCL_MS, 6 and 7 the log overwrite counters, 8 the event sequence mark, 9 and up the
accumulator high words. -/
def takeMedian (s : State) (c : Nat × Nat × Nat × Nat) : State :=
  let v := median c.2.1 c.2.2.1 c.2.2.2 % 2 ^ 32
  if c.1 = 0 then { s with pq := { s.pq with evtIndex := v } }
  else if c.1 = 1 then setSaf (fun f => { f with entries := v }) s
  else if c.1 = 2 then setSaf (fun f => { f with dfCount := v }) s
  else setSto (fun t =>
    if c.1 = 3 then { t with pfFinal := v }
    else if c.1 = 4 then { t with unclosed := v }
    else if c.1 = 5 then { t with unclMs := v }
    else if c.1 = 6 then { t with ovwM := v }
    else if c.1 = 7 then { t with ovwG := v }
    else if c.1 = 8 then { t with evtMark := v }
    else { t with highWords := t.highWords.set (c.1 - 9) v }) s

/-! ### User areas -/

/-- The first byte of user area n, 1 to 4, among the areas. -/
def areaBase (n : Nat) : Nat := 0x2000 * (n - 1)

/-- The words of a staged WRITE reach the store in ascending order; the writing facet's count follows (R399, R400). -/
def landWords (w : AreaWrite) (n : Nat) (s : State) : State :=
  let ws := w.words.take n
  setFacet w.facet.val (fun f => { f with nvuWrites := vmod f.nvuWrites (w.area - 1) fun c => satAdd c ws.length })
    (setSto (fun t => { t with areas := ws.foldl (fun m p => memPutWord m (areaBase w.area + p.1) p.2) t.areas }) s)

/-- The oldest staged WRITE lands whole (R400). -/
def areaLand (s : State) : State :=
  match s.sto.areaWrites with
  | [] => s
  | w :: rest => setSto (fun t => { t with areaWrites := rest }) (landWords w w.words.length s)

/-- Zeroing of a user area completes (R399). -/
def areaClearDone (s : State) : State :=
  match s.sto.clearing with
  | none => s
  | some n => setSto (fun t => { t with clearing := none, areas := memClear t.areas (areaBase n) (areaBase n + 0x2000) }) s

/-- A supply loss leaves a prefix of `n` words of the write or clearing in progress (R400, Table 13-4). -/
def areaAbandon (n : Nat) (s : State) : State :=
  let s1 := match s.sto.areaWrites with
    | [] => s
    | w :: _ => landWords w n s
  setSto (fun t => { t with
    areaWrites := [], clearing := none
    areas := match t.clearing with
      | none => t.areas
      | some a => memClear t.areas (areaBase a) (areaBase a + min 0x2000 (4 * n)) }) s1

/-- A log record whose write the power-fail sequence abandons leaves its slot's mask byte 0: the slot is empty and the record lost from
the log, which nothing counts (R401). -/
def logAbandon (cut : Option Bool) (s : State) : State :=
  match cut with
  | none => s
  | some false => setSto (fun t => { t with ringM := t.ringM.dropLast }) s
  | some true => setSto (fun t => { t with ringG := t.ringG.dropLast }) s

end Sys2Proof.Machine
end

