-- ==== Sys2Proof/Machine/Round.lean ====
section
/-! DEFINITION. The wheel's commands (chapter 03): sectors with scrub and flex rotation (R104 to R106, R122, R123), the
sector guard (R108), the round close (R113, R114, R118 to R121) and the return of faulted units (R119). -/

namespace Sys2Proof.Machine

open Sys2Proof

/-- Changes the wheel. -/
def setWhl (f : Whl → Whl) (s : State) : State := { s with whl := f s.whl }

/-! ### Units -/

/-- The management state of a unit (Table 3-5). -/
def unitMgmt (s : State) (u : Nat) : Mgmt :=
  if 1 ≤ u ∧ u ≤ 8 then (chan s (u - 1)).state
  else if 0x10 ≤ u ∧ u ≤ 0x12 then (flowPath s (u - 0x10)).state
  else if u = 0x18 then s.chd.state
  else if u = 0x20 then s.bat.state
  else if u = 0x28 then s.dsp.state
  else .off

/-- The units an instance serves (Table 3-5). -/
def unitsOf (i : InstRec) : List Nat :=
  let bitU := fun (b u : Nat) => if nbit i.chans b then [u] else []
  if i.code = 0x0101 ∨ i.code = 0x0801 then (List.range 8).flatMap fun k => bitU k (k + 1)
  else if i.code = 0x0301 then bitU 8 0x10 ++ bitU 9 0x11 ++ bitU 10 0x12
  else if i.code = 0x0302 then bitU 8 0x10 ++ bitU 9 0x11
  else if i.code = 0x0401 then bitU 10 0x12 ++ bitU 11 0x18
  else if i.code = 0x0501 then [0x20]
  else if i.code = 0x0601 then [0x28]
  else []

/-- Unit u is forced to FAULT with INVALID words, counted under R119 (R108, R118, R123). -/
def forceUnit (u : Nat) (s : State) : State :=
  if 1 ≤ u ∧ u ≤ 8 then chanForce (u - 1) s
  else if 0x10 ≤ u ∧ u ≤ 0x12 then forceRecord u (pathStop (u - 0x10) .fault s)
  else if u = 0x18 then forceRecord u (linkState .fault (Config.otherCause 2) s)
  else if u = 0x20 then forceRecord u (setBat (fun b => { b with state := .fault }) s)
  else if u = 0x28 then
    let s1 := dspStop s.dsp.cause (forceRecord u (setDsp (fun d => { d with state := .fault }) s))
    emit (dspEv s1 .fault (Config.otherCause 3)) s1
  else s

/-- Facets that own the block of a unit. -/
def unitOwners (s : State) (us : List Nat) : Nat := who s fun f => decide (f = 0) || us.any fun u => ownsBlock s f (unitBlock u)

/-! ### Sectors -/

/-- Runs steps that fit in the cycles left: what remains of the work, and of the cycles (R106). -/
def runSteps : List Nat → Nat → List Nat × Nat
  | [], c => ([], c)
  | x :: xs, c => if x ≤ c then runSteps xs (c - x) else (x :: xs, c)

/-- A flex sector's rotation from its pointer on, wrapping once: each entry runs what fits (R105). -/
def runRotation (entries : List Nat) (w : List (Nat × List Nat)) : List (Nat × List Nat) :=
  (entries.foldl (fun (a : List (Nat × List Nat) × Nat) i =>
    let r := runSteps (workOf a.1 i) a.2
    (putWork a.1 i r.1, r.2)) (w, 120)).1

/-- The flex sector records of the applied image, in order. -/
def flexRecs (s : State) : List SectorRec :=
  match s.str with
  | none => []
  | some im => im.sectors.filter fun x => decide (x.kind = 1)

/-- A flex sector serves its rotation and advances its pointer (R105); KC-BANK's steps empty its receive queue first (log 72). -/
def runFlex (j : Nat) (r : SectorRec) (s : State) : State :=
  let all := ((s.str.map Image.rots).getD []).drop r.first |>.take r.len
  let p := s.whl.ptrs.getD j 0
  let ptrs := (List.range (flexRecs s).length).map fun i => s.whl.ptrs.getD i 0
  let left := runRotation (all.drop p ++ all.take p) s.whl.pending
  let bank := (((s.str.map Image.insts).getD []).findIdx? fun i => i.code = 0x0401).getD 0
  let ran := (workOf s.whl.pending bank).length - (workOf left bank).length
  setWhl (fun w => { w with pending := left, ptrs := ptrs.set j (if r.len = 0 then 0 else (p + 1) % r.len) })
    { s with chd := { s.chd with rxq := s.chd.rxq - ran } }

/-- The runs of fixed sector n in the order of the instance records, true for a shadow run; in BURST an instance without a running
unit spends no cycles (R101, R104). -/
def fixedRuns (s : State) (n : Nat) : List (Nat × Bool) :=
  (((s.str.map Image.insts).getD []).mapIdx fun j i =>
    if !spends s i then []
    else (if i.prim = n then [(j, false)] else []) ++ if nbit i.flags 0 ∧ i.shad = n then [(j, true)] else []).flatten

/-- A fixed sector runs its instances: what they compute from the round's sample stands at the close (log 85); a fault of a safety
run makes words of its record or of its state half wrong (R104, R112, R113). -/
def runFixed (n : Nat) (faults : List RunFault) (s : State) : State :=
  let runs := fixedRuns s n
  let hit := runs.flatMap fun r => (faults.filter fun w => w.inst = r.1).map fun w => (r.2, w)
  setWhl (fun w => { w with
    ran := w.ran ++ runs
    wrong := w.wrong ++ hit
    halves := w.halves ++ (hit.filter fun x => x.2.word = 8).map fun x => (x.2.inst, x.2.off) }) s

/-- Sector n runs (R104, R105). -/
def runSector (n : Nat) (faults : List RunFault) (s : State) : State :=
  match (flexRecs s).findIdx? fun x => x.num = n with
  | none => runFixed n faults s
  | some j =>
    match (flexRecs s)[j]? with
    | none => s
    | some r => runFlex j r s

/-- The paths whose bit lies in a channel set, with their indexes 0 to 2. -/
def pathsOf (i : InstRec) : List Nat := (List.range 3).filter fun p => nbit i.chans (8 + p)

/-- What zeroing the state block of instance j leaves of the quantities its kernel keeps (R123, R128; log 85). -/
def zeroBlock (j : Nat) (i : InstRec) (s0 : State) : State :=
  let c := fun k => nbit i.chans k
  let inBlock := fun a => decide (i.off ≤ 8 * a) && decide (8 * a < i.off + i.len)
  let s := setWhl (fun w => { w with
    pending := putWork w.pending j []
    flips := w.flips.filter fun f => !inBlock f.1
    halves := w.halves.filter fun h => decide (h.1 ≠ j)
    recs := w.recs.filter fun r => decide (r.1 ≠ j) }) s0
  let paths := fun (f : FPath → FPath) => { s with flw := { s.flw with
    path := vmap s.flw.path fun p x => if (pathsOf i).contains p then f x else x } }
  if i.code = 0x0101 then
    { s with
      met := { s.met with ch := vmap s.met.ch fun k x => if c k then { x with hist := [], integ := 0, integX := 0 } else x }
      nrg := { s.nrg with hist := vmap s.nrg.hist fun k h => if c k then [] else h } }
  else if i.code = 0x0102 then
    { s with
      nrg := { s.nrg with
        ph := vmap s.nrg.ph fun k x => if c k then (⟨0, 0⟩, .invalid) else x
        dem := vmap s.nrg.dem fun k x => if c k then [] else x
        winDem := vmap s.nrg.winDem fun k x => if c k then [] else x }
      pq := { s.pq with lastX := none, lastRise := none, prevFc := none, good := 0 } }
  else if i.code = 0x0201 then
    { s with
      nrg := { s.nrg with win := vmap s.nrg.win fun k w => if c k then [] else w }
      pq := { s.pq with
        ev := Vector.replicate 12 SupEv.none, armed := false, winOn := false
        hrms := Vector.replicate 3 0, hrmsTag := Vector.replicate 3 .invalid
        imb := Vector.replicate 4 0, imbTag := Vector.replicate 4 .invalid } }
  else if i.code = 0x0202 then { s with nrg := { s.nrg with win := vmap s.nrg.win fun k w => if c k then [] else w } }
  else if i.code = 0x0301 then
    let t := paths fun x => { x with pair := none }
    { t with flw := { t.flw with bufs := s.flw.bufs.filter fun b => !(pathsOf i).contains b.1 } }
  else if i.code = 0x0302 then
    let t := paths fun x => { x with prev := none, last := none, kPrev := 1, validRun := 0, consec := 0 }
    { t with flw := { t.flw with pend := s.flw.pend.filter fun v => !((pathsOf i).map (0x10 + ·)).contains v.unit } }
  else if i.code = 0x0401 then
    { s with
      flw := { s.flw with
        path := vmod s.flw.path 2 fun x => { x with prev := none, last := none, kPrev := 1, validRun := 0, consec := 0 }
        pend := s.flw.pend.filter fun v => decide (v.unit ≠ 0x12) }
      chd := { s.chd with theta := 0, rate := 0, seed := 0, latest := 0, outRun := 0, resid := [], delays := [], rxq := 0 } }
  else if i.code = 0x0501 then
    setBat (fun b => { b with
      anchored := false, anchor := none, gotI := false, gotV := false, iavg := 0, presRun := 0, quietRun := 0, lowSince := none
      restFrom := none, stepFrom := none, fastFrom := none, fullSince := none, emptySince := none }) s
  else if i.code = 0x0601 then setDsp (fun d => { d with diverse := none, item := 0, nextItem := false }) s
  else if i.code = 0x0701 then setSaf (fun f => { f with theta := Vector.replicate 3 0, toc := Vector.replicate 3 false }) s
  else if i.code = 0x0702 then setSaf (fun f => { f with plRun := 0 }) s
  else if i.code = 0x0703 then setSaf (fun f => { f with efRun := 0 }) s
  else if i.code = 0x0704 then setSaf (fun f => { f with dryRun := 0 }) s
  else if i.code = 0x0801 then
    let clear := fun (x : ChanSt) => { x with avgG := 0, avgD := 0, seeded := false, sumI := 0, sumQ := 0, cnt := 0, win := [] }
    { s with met := { s.met with ch := vmap s.met.ch fun k x => if c k then clear x else x } }
  else s

/-- An event of the open round waits for its close (Table 3-7). -/
def heldEv (e : Ev) (s : State) : State := { s with sto := { s.sto with evq := s.sto.evq ++ [e] } }

/-- SECDED corrects word a (R122). -/
def eccCorrected (a : Nat) (s : State) : State :=
  heldEv { code := 0x0304, sev := 0, who := onlyF0, w4 := w32 a,
           w5 := w32 (match stateBlockAt s a with
             | none => Config.otherCause 6
             | some x => x.1) }
    (setWhl (fun w => { w with eccCorr := satInc w.eccCorr, flips := putFlips w.flips a 0 }) s)

/-- The accumulator set in whose eighth of the KM-ACC block word a lies (log 85). -/
def accSetAt (i : InstRec) (a : Nat) : Nat := min 7 ((8 * a - i.off) / 160)

/-- An uncorrectable error at word a (R123): in a state block its instance counts as stopped in this round, so that its units go to
FAULT at the close, and the block is zeroed, or for KM-ACC the set reloaded. In no block it is counted alone (DESIGN CHOICE,
log 85). -/
def eccUncorrectable (recBad : Option (Fin 128)) (a : Nat) (s : State) : State :=
  let s0 := setWhl (fun w => { w with eccUncorr := satInc w.eccUncorr }) s
  match stateBlockAt s a with
  | none => s0
  | some (j, i) =>
    let acc := decide (i.code = 0x0103)
    let r := if acc then reloadSet (accSetAt i a) recBad (setWhl (fun w => { w with flips := putFlips w.flips a 0 }) s0)
      else (zeroBlock j i s0, 0)
    heldEv { code := 0x0305, sev := 3, who := unitOwners s (unitsOf i), w4 := w32 a,
             w5 := w32 (if acc then j + 256 * accSetAt i a else j), w6 := w32 (min r.2 max32) }
      (markDf (isSafetyKernel i.code) (10, i.code) (setWhl (fun w => { w with stop := w.stop ++ [j] }) r.1))

/-- A word of state memory is read through SECDED: one wrong bit is corrected and written back, more are detected (R122; of more
than two, log 85). -/
def readWord (recBad : Option (Fin 128)) (a : Nat) (s : State) : State :=
  let n := flipCount (flipsAt s.whl.flips a)
  if n = 0 then s else if n = 1 then eccCorrected a s else eccUncorrectable recBad a s

/-- The entry cycles of a sector: one scrub step, at the next word of 8192 (R100, R122). -/
def scrubStep (recBad : Option (Fin 128)) (s : State) : State :=
  setWhl (fun w => { w with
    scrubAny := true
    scrubWord := (w.scrubWord + 1) % 8192
    scrubPass := if w.scrubWord = 8191 then w.scrubPass + 1 else w.scrubPass }) (readWord recBad s.whl.scrubWord s)

/-- Flex work that has become pending joins what is left (R105, R106). -/
def addWork (work : List (Nat × List Nat)) (s : State) : State :=
  setWhl (fun w => { w with pending := work.foldl (fun l x => putWork l x.1 (workOf l x.1 ++ x.2)) w.pending }) s

/-- The next sector of the round begins while ENG runs: the decimators' words, upsets and new work are there, its entry cycles
scrub one word, and it runs, reading state memory through SECDED (R99, R100, R104, R105, R122, R137). -/
def sectorStart (i : SectorIn) (s : State) : State :=
  if s.whl.state = .stopped ∨ 64 ≤ s.whl.sector then s
  else
    let s1 := if s.pwc.clk.mod then i.mod.foldl (fun a v => modBoundary v a) s else s
    let s2 := setWhl (fun w => { w with flips := i.flips.foldl (fun m f =>
      putFlips m f.1 (flipsAt m f.1 ^^^ BitVec.ofNat 72 (2 ^ f.2))) w.flips }) s1
    let s3 := runSector s.whl.sector i.wrong (addWork i.work (scrubStep i.recBad s2))
    setWhl (fun w => { w with sector := w.sector + 1 }) (i.reads.foldl (fun a x => readWord i.recBad x a) s3)

/-- Instance j runs in the sector that has begun last (R104, R105). -/
def runsNow (s : State) (j : Nat) (i : InstRec) : Bool :=
  let n := s.whl.sector - 1
  decide (0 < s.whl.sector) && (decide (i.prim = n) || decide (i.shad = n)
    || (flexRecs s).any fun r => decide (r.num = n) && ((((s.str.map Image.rots).getD []).drop r.first).take r.len).contains j)

/-- The sector guard stops an instance that runs in the present sector (R108): its run does not complete and its unfinished work is
lost; at the close its words are INVALID and its units go to FAULT. For a safety kernel it is a dangerous failure. -/
def sectorOverrun (inst : Nat) (s : State) : State :=
  if s.whl.state = .stopped then s
  else
    match instAt s inst with
    | none => s
    | some i =>
      if !runsNow s inst i then s
      else
        let n := s.whl.sector - 1
        heldEv { code := 0x0306, sev := 3, who := onlyF0, w4 := w32 n, w5 := w32 inst, w6 := w32 (s.whl.rounds + 1) }
          (markDf (isSafetyKernel i.code) (11, i.code) (setWhl (fun w => { w with
            guards := satInc w.guards
            stop := w.stop ++ [inst]
            pending := putWork w.pending inst []
            ran := w.ran.filter fun r => !(decide (r.1 = inst) && decide ((if r.2 then i.shad else i.prim) = n)) })
            (if i.code = 0x0401 then setChd (fun c => { c with rxq := 0 }) s else s)))

/-- A forced unit returns to STARTING 1 s later, unless its fault has latched (R119). -/
def unitReturn (u : Nat) (s : State) : State :=
  let r := faultRec s u
  let due := match r.returnAt with
    | none => false
    | some t => decide (t ≤ s.aon)
  if due && !r.latched && decide (unitMgmt s u = .fault) then
    let s1 := setWhl (fun w => { w with faults := putFault w.faults u { r with returnAt := none } }) s
    if 1 ≤ u ∧ u ≤ 8 then { s1 with met := { s1.met with ch := vmod s1.met.ch (u - 1) (chanStart 12) } }
    else if 0x10 ≤ u ∧ u ≤ 0x12 then pathBack (u - 0x10) s1
    else if u = 0x18 then linkEnter 4 s1
    else if u = 0x20 then batEnter s1
    else dspReturn s1
  else s

/-! ### The round close -/

/-- The tag of a code (Table 0-8). -/
def tagOfCode (n : Nat) : Tag :=
  match n % 4 with
  | 0 => .valid
  | 1 => .settling
  | 2 => .held
  | _ => .invalid

/-- A word that carries a tag which the state of its unit does not allow (R118). -/
def disallowed (s : State) (b : BadTag) : Bool := !allowed (unitMgmt s b.unit) (tagOfCode b.tag)

/-- A unit that several faults of one round force to FAULT is forced once (R119). -/
def forceOnce (u : Nat) (s : State) : State :=
  if unitMgmt s u = .fault ∧ (faultRec s u).times.getLast? = some s.aon then s else forceUnit u s

/-- The consistency test of one unit's offending word: the unit is forced to FAULT (R118). -/
def consistency (b : BadTag) (s : State) : State :=
  let m := unitMgmt s b.unit
  if disallowed s b then
    let s1 := forceOnce b.unit s
    let safe := feedsSafety s (unitBit b.unit)
    emit { code := 0x0301, unit := b.unit, sev := 2, who := blockAndF0 s (unitBlock b.unit), w4 := w32 m.code,
           w5 := pack [(0, b.off % 65536), (16, b.tag % 4)], w6 := w32 (s.whl.rounds + 1),
           w7 := w32 (b2n (latched s1 b.unit) + 2 * b2n safe) }
      (markDf safe (9, unitBit b.unit) (setWhl (fun w => { w with consist := satInc w.consist }) s1))
  else s

/-- A disagreement of a safety instance's two runs: its kernel and the word (R114). -/
def shadowMismatch (m : Nat × Nat) (s : State) : State :=
  let ack := match ackFacet s with
    | none => onlyF0
    | some f => who s fun g => decide (g = 0) || decide (g = f)
  emit { code := 0x0302, sev := 3, who := ack, w4 := w32 m.1, w5 := w32 m.2, w6 := w32 (s.whl.rounds + 1) }
    (markDf true (8, m.1) (setWhl (fun w => { w with shadow := satInc w.shadow }) s))

/-- MOD has stopped at the boundary before: channels are OFF and the frequency source is gone (R150, R184, R186). -/
def modGone (s : State) : State := sourceRound (modStop s)

/-- A routed channel is not yet OFF although MOD has stopped. -/
def modPending (s : State) : Bool := (List.range 8).any fun k => routed s k && decide ((chan s k).state ≠ .off)

/-- The wheel leaves RUNNING after a round close on battery: supply events are truncated, a MODE commit falls due and the
window watchdog is disarmed (R101, R199, R382, Table 14-5). -/
def leaveRunning (s : State) : State :=
  commitDue .mode (setSaf (fun f => { f with wdt := false, tokRef := false }) (setWhl (fun w => { w with state := .burst }) (truncateSupply s)))

/-- A METER structure routes a metering channel, so MOD runs (Table 14-2). -/
def routesAny (s : State) : Bool := (List.range 8).any fun k => routed s k

/-- The wheel leaves STOPPED or BURST on mains: where a metering channel is routed MOD starts, the wheel is RUNNING and every
routed channel runs Table 4-7 from step 0; without one MOD stays off and the wheel is in BURST (R101, R149, Table 14-2). -/
def enterRunning (s : State) : State :=
  if routesAny s then
    let s1 := setWhl (fun w => { w with state := .running }) s
    modStart { s1 with pwc := { s1.pwc with clk := { s1.pwc.clk with mod := true } } }
  else setWhl (fun w => { w with state := .burst }) s

/-- The wheel changes state after a round's close (R101, R410, R411): with a function enabled, SUPPLY is raised at one
close and RUNNING is left at the next. `supply` says that SUPPLY was raised at this close. -/
def wheelStep (supply : Bool) (s : State) : State :=
  if s.whl.state = .running ∧ s.pwc.vmainOk = false ∧ supply = false then
    let s1 := leaveRunning s
    { s1 with pwc := { s1.pwc with clk := { s1.pwc.clk with mod := false }, mode := .shot } }
  else if s.whl.state = .burst ∧ s.pwc.vmainOk = true ∧ routesAny s = true then enterRunning s
  else s

/-- The units that this close forces to FAULT: those with a disallowed tag, those that a stopped instance serves, and channels that
the fast pilot check finds at fault (R108, R118, R123, R147). -/
def forcedUnits (r : RoundIn) (s : State) : List Nat :=
  ((r.bad.filter (disallowed s)).map BadTag.unit)
    ++ (s.whl.stop.flatMap fun j => match instAt s j with
      | none => []
      | some i => unitsOf i)
    ++ ((List.range 8).filter (pilotLost s)).map fun k => k + 1

/-- Every word of the round of the forced units is INVALID, before any output that uses it is formed (R117, R118). -/
def invalidate (us : List Nat) (s : State) : State :=
  { s with met := { s.met with ch := vmap s.met.ch fun k c => if us.contains (k + 1) then { c with tag := .invalid } else c } }

/-- What the fixed kernels of the round compute while MOD runs: samples, power quality, gates, safety. `code` gives the round
sample of a channel that has one. The second part says that a line cycle has ended. -/
def kernelRound (code : Nat → Option Int) (s : State) : State × Bool :=
  let had := fun k => (code k).isSome
  let q := pqRound (auxRound (had 7) (takeSamples had s))
  (writeRecords (safRound code (creepRound q.1)), q.2)

/-- Forces the units of the close to FAULT: each disagreement with its event, then the units of stopped instances that are not yet
in FAULT, then the channels at fault (Table 3-7, step 3). -/
def forceAll (r : RoundIn) (lost : List Nat) (s : State) : State :=
  let s1 := r.bad.foldl (fun a b => consistency b a) s
  let s2 := (s.whl.stop.flatMap fun j => match instAt s j with
    | none => []
    | some i => unitsOf i).foldl (fun a u => if unitMgmt a u = .fault ∨ unitMgmt a u = .off then a else forceUnit u a) s1
  lost.foldl (fun a k => pilotForce k a) s2

/-- The increments of the round: energy and volume are applied or discarded by their tags, and the charge of a gauge that the close
forced is taken back (R120). -/
def applyIncrements (run : Bool) (us : List Nat) (s : State) : State :=
  let s1 := volRound us (if run then energyRound s else s)
  match s.pub with
  | none => s1
  | some b => if us.contains 0x20 then setBat (fun x => { x with
      charge := b.bat.charge, unc := b.bat.unc, used := b.bat.used, socAbs := b.bat.socAbs, cycles := b.bat.cycles }) s1
    else s1

/-- The round close (R121), once the 64 sectors of the round have begun: results compared, units tested, increments applied, the
bank published, the safety logic told, then the wheel's state, a due commit, and the register values for the next round. -/
def roundClose (r : RoundIn) (s : State) : State :=
  if s.whl.state = .stopped ∨ s.whl.sector < 64 then s
  else
    let run := decide (s.whl.state = .running)
    let code := fun k => (roundWord? (chan s k)).map FifoWord.code
    let s0 := if run then metRound s else if modPending s then modGone s else s
    let us := forcedUnits r s0
    let lost := (List.range 8).filter (pilotLost s0)
    let k := if run then kernelRound code (invalidate us s0) else (s0, false)
    let mis := (safInsts k.1).filterMap fun x => (disagrees k.1 x.1 x.2).map fun n => (x.2.code, n)
    let s1 := forceAll r lost (mis.foldl (fun a m => shadowMismatch m a) k.1)
    let s2 := applyIncrements run us s1
    let df := s2.whl.df
    let s3 := publishBank (maximaRound (highRound (setWhl (fun w => { w with
      rounds := (w.rounds + 1) % 2 ^ 32, sector := 0, dfSignal := !df.isEmpty, df := [], ran := [], stop := [], wrong := [],
      closedAt := s.aon })
      { s2 with nrg := { s2.nrg with eng := s2.nrg.eng + 1 } })))
    let supply := s3.saf.supply && anyFn s3
    let first := run && !s3.saf.wdt && s3.pwc.vmainOk
    let s4 := safClose r (mis.map Prod.fst) df s3
    let s5 := if first then setSaf (fun f => { f with wdt := true, tokRef := true, tokOk := true, tokSince := s.aon }) s4 else s4
    let s6 := commitRound (periodRound k.2 (wheelStep supply s5))
    let s7 := pqConfigTakes s6
    { s7 with cfgR := s7.cfg }

/-- DIAG_WHEEL_STATUS (Table 3-11). -/
def wheelStatus (s : State) : Word :=
  let st := match s.whl.state with
    | .stopped => 0
    | .running => 1
    | .burst => 2
  pack [(0, st), (8, b2n s.pwc.pllLock), (9, b2n s.whl.dfSignal), (16, sectorsOf s 0), (24, sectorsOf s 1)]

/-- DIAG_SCRUB (Table 3-10). -/
def scrubWord (s : State) : Word :=
  pack [(0, if s.whl.scrubAny then (s.whl.scrubWord + 8191) % 8192 else 0), (16, s.whl.scrubPass % 65536)]

end Sys2Proof.Machine
end

