-- ==== Sys2Proof/Machine/Power.lean ====
section
/-! DEFINITION. Power modes, demands, clock domains, HFX and crystal failures, and the real-time clock (R405 to R419). Resets
and the start sequence are in Start.lean. -/

namespace Sys2Proof.Machine

open Sys2Proof

/-- Changes the power manager. -/
def setPwc (f : Pwc → Pwc) (s : State) : State := { s with pwc := f s.pwc }

/-! ### Modes -/

/-- The code of a mode (Table 14-12); SHELF is never read. -/
def Mode.code : Mode → Nat
  | .idle => 0
  | .shot => 1
  | .meter => 2
  | .shelf => 0

/-- The mode of Table 14-2 (R405, R407, R408). -/
def modeNow (s : State) : Mode :=
  if s.pwc.mode = .shelf then .shelf
  else if s.str.isNone then .idle
  else if s.pwc.vmainOk then .meter
  else if s.pwc.clk.hfx then .shot
  else .idle

/-- The mode is evaluated: an exit from IDLE counts, and SAF runs in METER and SHOT (Tables 14-2 and 14-7). -/
def evalMode (s : State) : State :=
  let m := modeNow s
  setPwc (fun p => { p with
    mode := m
    wakes := if p.mode = .idle ∧ (m = .shot ∨ m = .meter) then satInc p.wakes else p.wakes
    clk := { p.clk with saf := decide (m = .shot) || decide (m = .meter) } }) s

/-! ### Demands -/

/-- A pipe pair is in flight. -/
def pipeDemand (s : State) : Bool := (flowPath s 0).pair.isSome || (flowPath s 1).pair.isSome

/-- A follower whose link is STARTING or HOLD has no SYNC prediction (Table 14-3). -/
def followerDemand (s : State) : Bool :=
  !s.chd.leader && s.chd.pred.isNone && decide (s.chd.state = .starting ∨ s.chd.state = .hold)

/-- A commit waits or is being written. -/
def commitDemand (s : State) : Bool := s.sto.deferred.isSome || !s.sto.cqueue.isEmpty

/-- The follower has received SYNC and not yet sent its ARRIVE. -/
def arriveDemand (s : State) : Bool := linkLive s && !s.chd.leader && s.chd.gotReply && !s.chd.gotArrive

/-- The loader verifies or switches (R424). -/
def loadDemand (s : State) : Bool := decide (s.img.loader = .verifying) || decide (s.img.loader = .switchPending)

/-- A demand of Table 14-3 needs HFX on battery; a round close is owed while an increment, a result, SUPPLY or
MOD's stop waits for it. -/
def needsHfx (s : State) : Bool :=
  pipeDemand s || (flowPath s 2).pair.isSome || s.pwc.dem.bank || arriveDemand s || followerDemand s || s.pwc.dem.gauge || commitDemand s
    || (decide (s.dsp.seq ≠ .off) && tileDef s 0) || loadDemand s || s.pwc.dem.trim || !s.flw.pend.isEmpty || modPending s
    || (s.saf.supply && anyFn s) || s.pub.isSome

/-- A host frame is in progress, from its first edge until its reply is taken (Table 14-3). -/
def hostDemand (s : State) : Bool :=
  s.port.toList.any fun p => p.executing.isSome || p.waiting.isSome || p.transient.isSome || (p.held.isSome && !p.taken)

/-- Demand d of Table 14-3, in table order from 0, is still in progress. -/
def demandActive (s : State) (d : Nat) : Bool :=
  match d with
  | 0 => pipeDemand s || commitDemand s
  | 1 => (flowPath s 2).pair.isSome || arriveDemand s
  | 2 => followerDemand s
  | 3 => false
  | 4 => commitDemand s
  | 5 => s.sdi.txn.isSome
  | 6 => hostDemand s
  | 7 => decide (s.dsp.seq ≠ .off)
  | 8 => decide (s.img.loader ≠ .idle)
  | _ => s.pwc.dem.trim

/-- HFX starts, counted (R413, PWC_HFX_STARTS). -/
def hfxStart (s : State) : State :=
  if s.pwc.clk.hfx then s
  else evalMode (setPwc (fun p => { p with
    hfxStarting := true, hfxStartAt := s.aon, hfxOk := false, hfxStarts := satInc p.hfxStarts, clk := { p.clk with hfx := true } }) s)

/-- The demands of a structure on battery start HFX where they need it (R408). -/
def wake (s : State) : State :=
  if s.str.isSome && !s.pwc.vmainOk && !s.pwc.clk.hfx && decide (s.pwc.start = .served) && decide (s.pwc.pf = .none) && needsHfx s then
    hfxStart s
  else s

/-- The wheel is STOPPED and HFX, the PLL, ENG, MOD and USX are off (R408, R414). -/
def hfxOff (s : State) : State :=
  evalMode (publishBank (setWhl (fun w => { w with state := .stopped, sector := 0, ran := [], stop := [], wrong := [] })
    (setPwc (fun p => { p with
      hfxStarting := false, hfxOk := false, pllLock := false
      clk := { p.clk with hfx := false, mod := false, eng := false, usx := false } }) s)))

/-- With no demand left, the domains stop on battery, once the wheel has left RUNNING (R408, Table 14-5 step 5). -/
def powerSettle (s : State) : State :=
  if !(s.pwc.vmainOk && s.str.isSome) && s.pwc.clk.hfx && decide (s.whl.state ≠ .running) && !needsHfx s then hfxOff s else s

/-- Demand d has ended. -/
def demandEnd (d : Nat) (s : State) : State :=
  if demandActive s d then s
  else powerSettle (setPwc (fun p => { p with dem :=
    { bank := p.dem.bank && decide (d ≠ 1), gauge := p.dem.gauge && decide (d ≠ 3), trim := p.dem.trim } }) s)

/-- On battery a gauge sample is a demand (R287, Table 14-3). -/
def gaugeDemand (s : State) : State :=
  if s.pwc.vmainOk then s else wake (setPwc (fun p => { p with dem := { p.dem with gauge := true } }) s)

/-- AON wakes the device for the next link cycle (R244, R254). -/
def cycleWake (s : State) : State :=
  if linkLive s && !s.pwc.vmainOk then wake (setPwc (fun p => { p with dem := { p.dem with bank := true } }) s) else s

/-! ### HFX and the PLL -/

/-- A unit that a failure of HFX placed in FAULT, and no fault counted under R119. -/
def hfxHeld (s : State) (u : Nat) : Bool :=
  decide (unitMgmt s u = .fault) && !latched s u && (faultRec s u).returnAt.isNone

/-- The units of HFX enter STARTING (R414). -/
def hfxUnitsBack (s : State) : State :=
  let path := fun (p : Nat) (s : State) => if pathExists s p && hfxHeld s (0x10 + p) then pathBack p s else s
  let s1 := if routesAny s && s.pwc.vmainOk then modStart s else s
  let s2 := path 2 (path 1 (path 0 s1))
  let s3 := if hfxHeld s2 0x18 then linkEnter 4 s2 else s2
  if hfxHeld s3 0x20 then batEnter s3 else s3

/-- HFX is qualified and the PLL starts; after a failure HFX_BACK is queued and the units start (R413, R414). -/
def hfxQualified (s : State) : State :=
  if !s.pwc.hfxStarting then s
  else
    let back := s.pwc.hfxFail
    let s1 := setPwc (fun p => { p with hfxOk := true, hfxStarting := false, hfxFail := false }) s
    if back then
      hfxUnitsBack (emit { code := 0x0E03, sev := 1, who := everyone s, w4 := w32 (min (msUp (s.aon - s.pwc.hfxFailAt)) max32) } s1)
    else s1

/-- A pipe path, the bank path or the chord link exists (Table 14-7, USX). -/
def usesUsx (s : State) : Bool := (List.range 3).any fun p => pathExists s p

/-- The PLL locks: ENG and USX run, and the wheel leaves STOPPED (R101, R410, R411). -/
def pllLocks (s : State) : State :=
  if !s.pwc.hfxOk || s.pwc.pllLock then s
  else
    let s1 := setPwc (fun p => { p with pllLock := true, clk := { p.clk with eng := true, usx := usesUsx s } }) s
    let s2 := setWhl (fun w => { w with rounds := 0, sector := 0, closedAt := s.aon }) s1
    if s.pwc.vmainOk && s.str.isSome then enterRunning s2 else setWhl (fun w => { w with state := .burst }) s2

/-- Every channel, path, the link and the gauge go to FAULT outside R119 (R414). -/
def hfxUnitsFault (s : State) : State :=
  let down := fun (k : Nat) (c : ChanSt) =>
    if routed s k && decide (c.state ≠ .off) then { c with state := .fault, tag := .invalid, okRun := 0 } else c
  let path := fun (p : Nat) (s : State) => if decide ((flowPath s p).state ≠ .off) then pathStop p .fault s else s
  let s1 := path 2 (path 1 (path 0 { s with met := { s.met with ch := vmap s.met.ch down, auxTag := .invalid } }))
  let s2 := if linkLive s1 then linkState .fault (Config.otherCause 2) s1 else s1
  if s2.bat.state = .starting ∨ s2.bat.state = .run ∨ s2.bat.state = .hold then setBat (fun b => { b with state := .fault }) s2 else s2

/-- Pairs in flight fail with ABORT, and the front end is free (R216, R414). -/
def abortAll (s : State) : State :=
  let s1 := abortBank (abortPair 1 (abortPair 0 s))
  { s1 with flw := { s1.flw with queue := [], waited := [], front := none, shot := none, bufs := [] } }

/-- A commit queued now and packed from a bank published earlier (R390, R414). -/
def queueFrom (b : OutBank) (k : CommitKind) (s : State) : State := { queueCommit k { s with pub := some b } with pub := s.pub }

/-- An HFX failure: `cause` is 1 start time-out, 2 monitor, 3 lock lost (R414). The increments that no round close will take
are discarded, the gauge's charge of the open round among them; the store controller packs a MODE commit at once, from the bank
published last. -/
def hfxFailure (cause : Nat) (s : State) : State :=
  let mode := s.pwc.mode.code
  let last := s.pub.getD (bankOf s)
  let s0 := { s with bat := { (seen s).bat with state := s.bat.state } }
  let s1 := abortAll (volRound [0x10, 0x11, 0x12] (if s.whl.state = .running then truncateSupply s0 else s0))
  let s2 := sourceRound (hfxUnitsFault s1)
  let s3 := queueFrom last .mode (diagFails 15 2 (setPwc (fun p => { p with
    hfxFail := true, hfxFailAt := s.aon, hfxFails := satInc p.hfxFails }) (hfxOff s2)))
  emit { code := 0x0E02, sev := 3, who := everyone s, w4 := w32 cause, w5 := w32 s3.pwc.hfxFails, w6 := w32 mode } s3

/-- The failures that a row reports: a start that did not qualify within 10 ms, a judgement while HFX runs, a lost lock (R413, R414). -/
def hfxFails (cause : Nat) (s : State) : State :=
  let due := if cause = 0 then s.pwc.hfxStarting && decide (s.pwc.hfxStartAt + 328 ≤ s.aon) else if cause = 1 then s.pwc.hfxOk else s.pwc.pllLock
  if due then hfxFailure (cause + 1) s else s

/-- On mains HFX is started again 1 s after a failure (R414). -/
def hfxRetry (s : State) : State :=
  if s.pwc.hfxFail && s.pwc.vmainOk && s.str.isSome && decide (s.pwc.hfxFailAt + 32768 ≤ s.aon) then hfxStart s else s

/-! ### The crystal, the RC and the monitors -/

/-- AON_FAULT (Table 14-14). -/
def aonFaultEv (s : State) (st : Nat) : Ev :=
  { code := 0x0E04, sev := 2, who := blockAndF0 s 2, w4 := w32 st, w5 := i32 s.pwc.aonTrim }

/-- AON runs on its RC with XTAL32_FAIL; the crystal is restarted every 64 s (R415). -/
def aonFails (st : Nat) (s : State) : State :=
  emit (aonFaultEv s st) (setPwc (fun p => { p with aonRc := true, xtalFail := true, xtalRestartAt := some (s.aon + 64 * 32768) }) s)

/-- The crystal has qualified: AON moves to it (R415). -/
def xtalTakeover (s : State) : State :=
  if !s.pwc.aonRc then s
  else
    let back := s.pwc.xtalFail
    emitAll (evIf back (aonFaultEv s 4)) (setPwc (fun p => { p with aonRc := false, xtalFail := false, xtalRestartAt := none }) s)

/-- The crystal has not started 1 s after POR, or not qualified after 2 s (R415). -/
def xtalTimeout (s : State) : State :=
  if s.pwc.aonRc && !s.pwc.xtalFail && nbit s.pwc.resetCause 0 && decide (s.pwc.startAt + 32768 ≤ s.aon) then aonFails 2 s else s

/-- The crystal's edges stop after takeover (R415). -/
def xtalStop (s : State) : State := if s.pwc.aonRc then s else aonFails 1 s

/-- The crystal is restarted every 64 s (R415). -/
def xtalRestart (s : State) : State :=
  match s.pwc.xtalRestartAt with
  | none => s
  | some t => if t ≤ s.aon then setPwc (fun p => { p with xtalRestartAt := some (s.aon + 64 * 32768) }) s else s

/-- The trim of the RC against HFX: it is done while HFX runs; on battery with HFX off the trim is first a demand, 64 s after the
latest trim (R415, Table 14-3). -/
def rcTrim (ppm : Int) (s : State) : State :=
  if !s.pwc.aonRc then s
  else if s.pwc.hfxOk then setPwc (fun p => { p with aonTrim := clamp32 ppm, trimAt := s.aon, dem := { p.dem with trim := false } }) s
  else if s.pwc.vmainOk ∨ s.aon < s.pwc.trimAt + 64 * 32768 then s
  else wake (setPwc (fun p => { p with dem := { p.dem with trim := true } }) s)

/-- Frequency a differs by more than 10 % from b. -/
def tenOff (a b : Nat) : Bool := decide (11 * b < 10 * a) || decide (10 * a < 9 * b)

/-- The clock monitors (R367) and the count of FAB against HFX (Table 14-7), while SAF and HFX run. -/
def clockMonitor (i : ClockIn) (s : State) : State :=
  if !s.pwc.clk.saf || !s.pwc.hfxOk then s
  else if tenOff i.hfx i.saf && tenOff i.hfx i.aon then hfxFailure 2 s
  else if tenOff i.saf i.hfx && tenOff i.saf i.aon then
    let s1 := setSaf (fun f => { f with safFail := true, lvl := (false, false), togB := false }) s
    if anyFn s then diagFails 15 10 s1 else s1
  else
    let s1 := if tenOff i.aon i.hfx && tenOff i.aon i.saf && !s.pwc.aonRc then aonFails 3 s else s
    if (decide (105 * i.hfx < 100 * i.fab) || decide (100 * i.fab < 95 * i.hfx)) && anyFn s1 then diagFails 15 7 s1 else s1

/-! ### VMAIN and VIO -/

/-- A change of source before step 8 of a start counts too; its event follows DEVICE_START (R283, R423). A device held in reset or
in the power-fail sequence counts nothing. -/
def countSupply (src : Nat) (s : State) : State :=
  if s.pwc.start = .heldInReset ∨ s.pwc.pf ≠ .none then s
  else setPwc (fun p => { p with startEvents := p.startEvents ++ (supplyEvs src s).map fun e => { e with who := 31 } }) (supplyCount src s)

/-- VMAIN_OK falls (R410): the node changes source, SUPPLY is due at the next round close, and the display decides. -/
def vmainLost (s : State) : State :=
  if !s.pwc.vmainOk then s
  else
    let s1 := setPwc (fun p => { p with vmainOk := false, vmainLostAt := some s.aon }) s
    if s.pwc.start ≠ .served ∨ s.pwc.pf ≠ .none then countSupply 1 s1
    else wake (evalMode (dspVmainLost (setSaf (fun f => { f with supply := true }) (supplyChange 1 s1))))

/-- 5 ms, which a qualification takes, fit between the fall of VMAIN below 2.70 V and now (Table 10-2, R283). -/
def vmainMay (s : State) : Bool :=
  match s.pwc.vmainLostAt with
  | none => true
  | some t => decide (5 * 32768 < (s.aon - t + 1) * 1000)

/-- VMAIN_OK rises outside SHELF (R411). -/
def vmainReturns (s : State) : State :=
  if s.pwc.vmainOk || !vmainMay s then s
  else
    let s1 := setPwc (fun p => { p with vmainOk := true, vmainLostAt := none }) s
    if s.pwc.start ≠ .served ∨ s.pwc.pf ≠ .none then countSupply 0 s1
    else
      let s2 := dspEval 1 0 (setSto (fun t => { t with periodAt := s.aon }) (supplyChange 0 s1))
      if s2.str.isSome then hfxStart (evalMode s2) else s2

/-- VIO falls below 1.62 V (R471): TRIPA and TRIPB are static. -/
def vioLost (s : State) : State :=
  setSaf (fun f => { f with lvl := (false, false), togB := false }) (setPwc (fun p => { p with vioOk := false }) s)

/-- VIO is back (R471). -/
def vioRestored (s : State) : State := setPwc (fun p => { p with vioOk := true }) s

/-! ### The real-time clock -/

/-- The RTC count, 48 bits. -/
def rtcNow (s : State) : Nat := s.pwc.rtc % 2 ^ 48

/-- RTC_SET (Table 14-14). -/
def rtcSetEv (s : State) (old new : Nat) (epoch : Word) : Ev :=
  { code := 0x0E05, sev := 1, who := everyone s, w4 := w32 old, w5 := w32 new,
    w6 := pack [(0, old / 2 ^ 32 % 65536), (16, new / 2 ^ 32 % 65536)], w7 := epoch }

/-- A write of PWC_RTC_W0 stages the low word (R417). -/
def rtcStage (v : Word) (s : State) : State := setPwc (fun p => { p with rtcStage := v }) s

/-- A write of PWC_RTC_W1: the staged value is applied at the next AON edge (R417). -/
def rtcSet (v : Word) (s : State) : State :=
  let new := bits v 15 0 * 2 ^ 32 + s.pwc.rtcStage.toNat
  let s1 := setPwc (fun p => { p with rtcNext := some new, rtcValid := true }) s
  emit (rtcSetEv s (rtcNow s) new (cfgV s 0x0820)) s1

/-- A write of PWC_EPOCH applies at once (R417). -/
def epochWrite (v : Word) (s : State) : State :=
  emit (rtcSetEv s (rtcNow s) (rtcNow s) v) (setPwc (fun p => { p with rtcValid := true }) { s with cfg := cfgSet s.cfg 0x0820 v })

/-- The RTC count equals the enabled alarm (R418). -/
def rtcAlarm (s : State) : State :=
  let a := bits (cfgV s 0x0828) 15 0 * 2 ^ 32 + (cfgV s 0x0824).toNat
  if bit (cfgV s 0x0828) 31 && decide (rtcNow s = a) then
    emit { code := 0x0E06, sev := 1, who := blockAndF0 s 2, w4 := w32 (rtcNow s), w5 := w32 (rtcNow s / 2 ^ 32) } s
  else s

/-! ### Registers -/

/-- PWC_STAT (Table 14-12). -/
def pwcStat (s : State) : Word :=
  let p := s.pwc
  pack [(0, p.mode.code), (2, b2n (decide (s.dsp.seq ≠ .off))), (3, b2n p.shipping), (4, b2n p.vmainOk), (5, b2n p.aonRc),
    (6, b2n p.xtalFail), (7, b2n p.hfxOk), (8, b2n p.hfxFail), (9, b2n p.pllLock), (10, b2n p.rtcValid), (11, b2n p.aonCont)]

/-- The panel is being scanned (Table 14-7, PIX). -/
def scanning (q : DspSeq) : Bool :=
  match q with
  | .zero _ => true
  | .run => true
  | .stop => true
  | .stopZero _ => true
  | .disch => true
  | _ => false

/-- A rail is enabled (Table 14-7, DCV). -/
def railsOn (s : State) : Bool :=
  match s.dsp.seq with
  | .rails _ => true
  | .down n => decide (n < 4)
  | q => scanning q

/-- PWC_CLKSTAT (Table 14-7). A register is read while FAB runs; a quiet sample's conversions are one step of the model (log 52). -/
def clkStat (s : State) : Word :=
  let c := s.pwc.clk
  pack [(0, 1), (1, b2n (brcOn s)), (2, b2n c.hfx), (3, b2n c.mod), (4, b2n c.eng), (5, b2n c.usx), (6, b2n s.flw.front.isSome), (7, 1),
    (8, b2n (scanning s.dsp.seq)), (9, b2n (railsOn s)), (10, b2n c.saf)]

/-- A read-only PWC register (Table 14-11); the RTC registers show the count. -/
def pwcRead (s : State) (off : Nat) : Word :=
  let p := s.pwc
  match off with
  | 0x0800 => pwcStat s
  | 0x0804 => clkStat s
  | 0x0808 => w32 (p.resetCause + 256 * b2n p.afterPf)
  | 0x0810 => w32 (s.aon % 2 ^ 48)
  | 0x0814 => w32 (s.aon % 2 ^ 48 / 2 ^ 32)
  | 0x0818 => w32 (rtcNow s)
  | 0x081C => w32 (rtcNow s / 2 ^ 32)
  | 0x082C => pack [(0, p.startT8), (16, p.startT10)]
  | 0x0830 => i32 p.aonTrim
  | 0x0834 => w32 p.downMs
  | 0x0838 => w32 p.hfxStarts
  | 0x083C => w32 p.hfxFails
  | 0x0840 => w32 p.wakes
  | _ => 0

end Sys2Proof.Machine
end

