-- ==== Sys2Proof/Machine/Image.lean ====
section
/-! DEFINITION. A Lattice image as bytes: header, directory, sections and records (R22 to R33), and the parts of them the
rules of stages 4 to 12 read. Parsing is total; stage 4 (Verify.lean) says which images it may be used on. -/

namespace Sys2Proof.Machine

open Sys2Proof

/-! ### Header and directory -/

/-- The bytes of a bank up to a length (R53: word k holds bytes 4k to 4k + 3). -/
def bankBytes (m : List Host.Cell) (n : Nat) : List Byte := memBytes m 0 n

/-- The slice of n bytes at offset o. -/
def slice (b : List Byte) (o n : Nat) : List Byte := (b.drop o).take n

/-- One of the eight directory entries (Table 1-3). -/
def dirEntry (b : List Byte) (i : Nat) : DirEntry :=
  let e := slice b (0x40 + 48 * i) 48
  { typ := leAt e 0 1, idx := leAt e 1 1, flags := leAt e 2 2, off := leAt e 4 4, len := leAt e 8 4, ver := leAt e 12 4,
    digest := slice e 16 32 }

/-- Every directory entry. -/
def dirAll (b : List Byte) : List DirEntry := (List.range 8).map fun i => dirEntry b i

/-- The used entries: TYPE 0x00 marks an unused one (Table 1-3). -/
def dirUsed (b : List Byte) : List DirEntry := (dirAll b).filter fun e => decide (e.typ ≠ 0)

/-- The body of an entry's section. -/
def bodyOf (b : List Byte) (e : DirEntry) : List Byte := slice b e.off e.len

/-- The signature records (Table 1-4). -/
def sigRecs (b : List Byte) : List SigRec :=
  let o := leAt b 0x28 4
  (List.range (min (leAt b 0x2C 4) 12)).map fun i =>
    let r := slice b (o + 68 * i) 68
    { signer := leAt r 0 1, typ := leAt r 1 1, idx := leAt r 2 1, rsv := leAt r 3 1, sig := slice r 4 64 }

/-! ### Tables inside a section -/

/-- The offset and count of the table entry at `o` of a fixed part (R30, R33). -/
def tabOff (b : List Byte) (o : Nat) : Nat := leAt b o 2
/-- Its count. -/
def tabCount (b : List Byte) (o : Nat) : Nat := leAt b (o + 2) 2

/-- The records of a table. -/
def tabRecs (b : List Byte) (o size : Nat) : List (List Byte) :=
  (List.range (tabCount b o)).map fun i => slice b (tabOff b o + size * i) size

/-- A table lies inside its body (R27). -/
def tabInside (b : List Byte) (o size : Nat) : Bool := decide (tabOff b o + tabCount b o * size ≤ b.length)

/-- The preset records of a table entry (R29). -/
def presetsAt (b : List Byte) (o : Nat) : List Preset :=
  (tabRecs b o 8).map fun r => { off := leAt r 0 2, facet := leAt r 2 1, rsv := leAt r 3 1, val := w32 (leAt r 4 4) }

/-- The FRAME tables of Table 1-6 with their record sizes, but for PROOF. -/
def frameTabs : List (Nat × Nat) :=
  [(0x08, 4), (0x0C, 8), (0x10, 16), (0x14, 4), (0x18, 2), (0x1C, 4), (0x20, 4), (0x24, 4), (0x28, 68), (0x30, 8)]

/-- The METROLOGY tables with their record sizes (R33, R164, R223, R254, R329). -/
def metroTabs : List (Nat × Nat) := [(0x04, 8), (0x08, 8), (0x0C, 12), (0x10, 12), (0x14, 8)]

/-- The bytes of the fixed part of a section type (R30 to R33). -/
def fixedLen (typ : Nat) : Nat := if typ = 1 then 0x34 else if typ = 2 then 0x30 else if typ = 3 then 0x48 else 0x18

/-- The fixed part and every table of a body lie inside it, with the counts of Table 1-6 (R27, R30). -/
def bodyFits (typ : Nat) (b : List Byte) : Bool :=
  decide (fixedLen typ ≤ b.length) &&
    (match typ with
     | 1 => frameTabs.all (fun t => tabInside b t.1 t.2) && decide (tabOff b 0x2C + 128 + 4 * tabCount b 0x2C ≤ b.length)
        && decide (tabCount b 0x10 ≤ 96) && decide (tabCount b 0x14 = 64) && decide (tabCount b 0x28 ≤ 5)
     | 2 => tabInside b 0x2C 8
     | 3 => tabInside b 0x44 8
     | _ => metroTabs.all fun t => tabInside b t.1 t.2)

/-- The enrolment records of a FRAME body (Table 1-7). -/
def enrolRecs (b : List Byte) : List EnrolRec := (tabRecs b 0x28 68).map fun r => { slot := leAt r 0 1, key := slice r 4 64 }

/-- The first used entry of a type. -/
def entryOf (b : List Byte) (typ : Nat) : Option DirEntry := (dirUsed b).find? fun e => decide (e.typ = typ)

/-- The body of the section of a type, empty where there is none. -/
def bodyOfType (b : List Byte) (typ : Nat) : List Byte :=
  match entryOf b typ with
  | none => []
  | some e => bodyOf b e

/-! ### The whole image -/

/-- A FACET body (R31). -/
def parseFacet (e : DirEntry) (b : List Byte) : FacetSec :=
  { facet := e.idx, release := nbit e.flags 0, consent := slice b 4 32, wdt := leAt b 0x24 2, irq := leAt b 0x26 2,
    mask := leAt b 0x28 4, presets := presetsAt b 0x2C }

/-- An image from its bytes. -/
def parseImage (b : List Byte) : Image :=
  let f := bodyOfType b 1
  let sf := bodyOfType b 3
  let m := bodyOfType b 4
  let po := tabOff f 0x2C
  let len := leAt b 0x10 4
  { len := len, seq := leAt b 0x14 4, target := leAt b 0x18 1, device := leAt b 0x08 4, site := slice b 0x1C 12
    entries := dirUsed b, sigs := sigRecs b
    lifecycle := leAt f 0 1, facetMask := leAt f 1 1 / 2 % 16 * 2, portcMode := leAt f 2 1, portcAddr := leAt f 3 1 % 128
    cosign := leAt f 4 1
    balls := (tabRecs f 0x08 4).map fun r => { ball := leAt r 0 1, fn := leAt r 1 1, opt := leAt r 2 2 }
    routes := (tabRecs f 0x0C 8).map fun r =>
      { input := leAt r 0 1, chan := leAt r 1 1, pga := leAt r 2 1, sensor := leAt r 3 1, opt := leAt r 4 4 }
    insts := (tabRecs f 0x10 16).map fun r =>
      { code := leAt r 0 2, inst := leAt r 2 1, flags := leAt r 3 1, chans := leAt r 4 4, off := leAt r 8 2, len := leAt r 10 2,
        prim := leAt r 12 1, shad := leAt r 13 1, rsv := leAt r 14 2 }
    sectors := (tabRecs f 0x14 4).map fun r => { num := leAt r 0 1, kind := leAt r 1 1, first := leAt r 2 1, len := leAt r 3 1 }
    rots := (tabRecs f 0x18 2).map fun r => leAt r 0 1
    facRecs := (tabRecs f 0x1C 4).map fun r => { facet := leAt r 0 1, ports := leAt r 1 1, rsv := leAt r 2 2 }
    grants := (tabRecs f 0x20 4).map fun r => { cls := leAt r 0 1, idx := leAt r 1 1, facet := leAt r 2 1, kind := leAt r 3 1 }
    policies := (tabRecs f 0x24 4).map fun r => { act := leAt r 0 1, pol := leAt r 1 1, order := leAt r 2 2 }
    enrols := enrolRecs f
    proofCount := tabCount f 0x2C
    loads := (List.range 64).map fun i => leAt f (po + 2 * i) 2
    budgets := (List.range (tabCount f 0x2C)).map fun i => leAt f (po + 128 + 4 * i) 4
    framePresets := presetsAt f 0x30
    facets := ((dirUsed b).filter fun e => decide (e.typ = 2)).map fun e => parseFacet e (bodyOf b e)
    ackFacet := leAt sf 0 1, assessor := slice sf 4 64, safPresets := presetsAt sf 0x44
    accClear := nbit (leAt m 0 4) 0
    accDef := (tabRecs m 0x04 8).map fun r => leAt r 0 4
    legal := (tabRecs m 0x08 8).map fun r =>
      { kind := leAt r 0 1, idx := leAt r 1 1, dwell := leAt r 4 1, opt := leAt r 1 3 }
    profile := (tabRecs m 0x0C 12).map fun r => { path := leAt r 0 1, re := leAt r 4 4, k := leAt r 8 4 }
    section_ := (tabRecs m 0x10 12).map fun r => { h := leAt r 0 4, a := leAt r 4 4, k := leAt r 8 4 }
    metPresets := presetsAt m 0x14
    digest := sha256 (b.take len) }

/-- The image that a bank holds. -/
def bankImage (k : Bank) : Image := parseImage (bankBytes k.mem 24576)

/-- The directory entry of a section in an image. -/
def Image.entry (im : Image) (typ idx : Nat) : Option DirEntry :=
  im.entries.find? fun e => decide (e.typ = typ) && decide (e.idx = idx)

/-- The DIGEST of a section, empty where it is absent. -/
def Image.digestOf (im : Image) (typ idx : Nat) : List Byte :=
  match im.entry typ idx with
  | none => []
  | some e => e.digest

/-- Facet f exists in the image (R1, R30). -/
def Image.defines (im : Image) (f : Nat) : Bool := decide (f = 0) || (decide (f < 5) && nbit im.facetMask f)

/-- The route of channel k. -/
def Image.route (im : Image) (k : Nat) : Option RouteRec := im.routes.find? fun r => decide (r.chan = k)

/-- Channel k is routed. -/
def Image.routed (im : Image) (k : Nat) : Bool := (im.route k).isSome

/-- The instances of a kernel. -/
def Image.of (im : Image) (code : Nat) : List InstRec := im.insts.filter fun i => decide (i.code = code)

/-- The image has an instance of a kernel. -/
def Image.has (im : Image) (code : Nat) : Bool := im.insts.any fun i => decide (i.code = code)

/-- The channel set of a kernel's first instance, 0 where there is none. -/
def Image.set (im : Image) (code : Nat) : Nat := (((im.of code).head?).map InstRec.chans).getD 0

/-- Pipe path p exists (R204). -/
def Image.path (im : Image) (p : Nat) : Bool := nbit (im.set 0x0301) (8 + p) && nbit (im.set 0x0302) (8 + p)

/-- IX serves as auxiliary input (R134). -/
def Image.auxIx (im : Image) : Bool :=
  match im.route 7 with
  | none => false
  | some r => decide (r.sensor = 5) || decide (r.sensor = 6)

/-- Every preset that is not of FACET class, in order. -/
def Image.presets (im : Image) : List Preset := im.framePresets ++ im.safPresets ++ im.metPresets

/-- The register file that the presets give (R29). -/
def Image.regs (im : Image) : List (Nat × Word) := im.presets.foldl (fun c p => cfgSet c p.off p.val) []

/-- A register's value after the presets. -/
def regIn (c : List (Nat × Word)) (off : Nat) : Word := (cfgFind c off).getD (regReset off)

/-- An accumulator definition record names a class and index (R164). -/
def Image.defs (im : Image) (cls idx : Nat) : Bool := im.accDef.any fun d => decide (d % 65536 = cls + 256 * idx)

/-- The owners that grant records give a resource. -/
def Image.owners (im : Image) (cls idx : Nat) : List Nat :=
  (im.grants.filter fun g => decide (g.cls = cls) && decide (g.idx = idx) && decide (g.kind = 1)).map GrantRec.facet

/-- Facet f holds an owner or read grant on a resource. -/
def Image.holds (im : Image) (f cls idx : Nat) : Bool :=
  im.grants.any fun g => decide (g.cls = cls) && decide (g.idx = idx) && (decide (g.facet = f) || decide (g.facet = 255))

/-- A ball record gives the function (R465). -/
def Image.ballFn (im : Image) (fn : Nat) : Bool := im.balls.any fun b => decide (b.fn = fn)

end Sys2Proof.Machine
end

