-- ==== Sys2Proof/Machine/Rules.lean ====
section
/-! DEFINITION. Stages 11 and 12 of the verification: the structure rules that every chapter adds, with their codes, and
the schedule check (R40, R43, R45 and the rules named at each definition). A fault is its code of Table 1-10, section type
and index. Which section a fault between two sections belongs to is in log 30. -/

namespace Sys2Proof.Machine

open Sys2Proof

/-- A fault of a stage: code, section type, index. -/
abbrev StageFault := Nat × Nat × Nat

/-- A fault if a condition holds. -/
def bad (c : Bool) (code sec : Nat) (idx : Nat := 0) : List StageFault := if c then [(code, sec, idx)] else []

/-- The number of bits set below n. -/
def popIn (m n : Nat) : Nat := ((List.range n).filter fun i => nbit m i).length

/-- A list holds no element twice. -/
def distinct : List Nat → Bool
  | [] => true
  | x :: xs => !xs.contains x && distinct xs

/-! ### Kernel catalogue (Table 3-3) -/

/-- c, p and b of Table 3-3. -/
def chCount (cs : Nat) : Nat := popIn (cs % 256) 8
/-- Pipe paths in a channel set. -/
def pathCount (cs : Nat) : Nat := popIn (cs / 256 % 4) 2
/-- The bank path in a channel set. -/
def bankCount (cs : Nat) : Nat := b2n (nbit cs 10)

/-- Fixed cost in cycles; 0 for a flex kernel. -/
def fixedCost (code cs : Nat) : Nat :=
  match code with
  | 0x0101 => 20 + 44 * chCount cs
  | 0x0102 => 16 + 24 * chCount cs
  | 0x0103 => 112
  | 0x0201 => 16 + 12 * chCount cs
  | 0x0701 => 48
  | 0x0702 => 40
  | 0x0703 => 32
  | 0x0704 => 24
  | 0x0801 => 8 + 12 * chCount cs
  | _ => 0

/-- Minimum flex budget; 0 for a fixed kernel. -/
def flexMin (code cs : Nat) : Nat :=
  match code with
  | 0x0202 => 8 + 8 * chCount cs
  | 0x0301 => 8 + 96 * pathCount cs + 16 * bankCount cs
  | 0x0302 => 4 + 16 * pathCount cs
  | 0x0401 => 24
  | 0x0501 => 4
  | 0x0601 => 32
  | 0x0901 => 8
  | _ => 0

/-- State size in bytes. -/
def stateSize (code cs : Nat) : Nat :=
  match code with
  | 0x0101 => 128 + 384 * chCount cs
  | 0x0102 => 512 + 256 * chCount cs
  | 0x0103 => 1280
  | 0x0201 => 256 + 128 * chCount cs
  | 0x0202 => 1024 + 2560 * chCount cs
  | 0x0301 => 4096 + 2048 * (pathCount cs + bankCount cs)
  | 0x0302 => 1024 + 512 * pathCount cs
  | 0x0401 => 2048
  | 0x0501 => 1536
  | 0x0601 => 1024
  | 0x0701 => 512
  | 0x0702 => 384
  | 0x0703 => 256
  | 0x0704 => 256
  | 0x0801 => 128 + 64 * chCount cs
  | 0x0901 => 1152
  | _ => 0

/-- The kernel is placed in flex sectors only. -/
def isFlex (code : Nat) : Bool := [0x0202, 0x0301, 0x0302, 0x0401, 0x0501, 0x0601, 0x0901].contains code

/-- The kernel is placed in fixed sectors only. -/
def isFixed (code : Nat) : Bool := [0x0101, 0x0102, 0x0103, 0x0201, 0x0801].contains code || isSafetyKernel code

/-- The channel set lies within Table 3-3 (R110, R111). -/
def setAccepted (code cs : Nat) : Bool :=
  let lowOnly := decide (cs / 256 = 0)
  let c := chCount cs
  match code with
  | 0x0101 => [1, 2, 4, 8, 16, 32, 9, 18, 36, 64, 128, 192].contains cs
  | 0x0102 => lowOnly && decide (1 ≤ c) && decide (c ≤ 4)
  | 0x0103 => lowOnly
  | 0x0201 => lowOnly && decide (1 ≤ c)
  | 0x0202 => lowOnly && decide (1 ≤ c)
  | 0x0301 => decide (cs % 256 = 0) && decide (cs / 2048 = 0) && decide (cs ≠ 0)
  | 0x0302 => decide (cs % 256 = 0) && decide (cs / 1024 = 0) && decide (cs ≠ 0)
  | 0x0401 => (decide (cs = 0xC80)) || (decide (cs % 65536 = 0xC00) && decide (popIn (cs / 65536) 8 = 1) && decide (cs / 2 ^ 24 = 0))
  | 0x0501 => decide (cs = 0x1000)
  | 0x0601 => decide (cs = 0x2000)
  | 0x0701 => decide (cs = 0x38) || decide (cs = 0x78)
  | 0x0702 => decide (cs = 0x3F)
  | 0x0703 => decide (cs = 0x80) || decide (cs = 0x78)
  | 0x0704 => decide (cs % 256 = 0x3F) && decide (cs / 1024 % 64 = 0) && decide (popIn (cs / 65536) 8 ≤ 1) && decide (cs / 2 ^ 24 = 0)
  | 0x0801 => lowOnly && decide (1 ≤ c)
  | 0x0901 => decide (cs = 0x4000)
  | _ => false

/-! ### Balls (R464 to R466, R267, R341) -/

/-- GP0 to GP5 and CF1 to CF3. -/
def outFns : List Nat := [0x20, 0x21, 0x22, 0x23, 0x24, 0x25, 0x28, 0x29, 0x2A]

/-- The functions available on a ball; none on a fixed-function ball and beyond 143 (Table 17-3). -/
def ballFns (i : Nat) : List Nat :=
  match i with
  | 0x34 => [0x18, 0x20]
  | 0x35 => [0x19, 0x21]
  | 0x36 => [0x1A, 0x22]
  | 0x37 => [0x1B, 0x23]
  | 0x40 => [0x01, 0x24]
  | 0x41 => [0x02, 0x25]
  | 0x42 => [0x03, 0x28]
  | 0x43 => [0x04, 0x29]
  | 0x4C => [0x05, 0x2A]
  | 0x4D => [0x08, 0x0A]
  | 0x4E => [0x09, 0x0B]
  | 0x4F => [0x0C, 0x20]
  | 0x58 => [0x10, 0x21]
  | 0x59 => [0x11, 0x22]
  | 0x5A => [0x12, 0x23]
  | 0x5B => [0x14, 0x24]
  | 0x64 => [0x15, 0x25]
  | 0x65 => [0x28, 0x20]
  | 0x66 => [0x29, 0x21]
  | 0x70 => [0x2A, 0x22]
  | 0x71 => outFns
  | 0x72 => outFns
  | 0x7A => outFns
  | 0x7B => outFns
  | 0x7C => outFns
  | 0x7D => outFns
  | 0x86 => outFns
  | 0x87 => outFns
  | _ => []

/-- The options a function allows (Table 17-4); a function outside the table is a BALL fault and no RANGE fault. -/
def ballOptOk (fn opt : Nat) : Bool :=
  let only := fun (m : Nat) => decide (opt &&& m = opt)
  if fn = 0x01 ∨ fn = 0x02 ∨ fn = 0x03 ∨ fn = 0x09 ∨ fn = 0x11 ∨ fn = 0x1B then only 4
  else if fn = 0x04 ∨ fn = 0x10 ∨ fn = 0x12 then only 8
  else if fn = 0x08 then decide (opt ≤ 8)
  else if fn = 0x15 then only 1
  else if 0x20 ≤ fn ∧ fn ≤ 0x25 then only 11
  else if 0x28 ≤ fn ∧ fn ≤ 0x2A then only 9
  else if [0x05, 0x0A, 0x0B, 0x0C, 0x14, 0x18, 0x19, 0x1A].contains fn then decide (opt = 0)
  else true

/-- The SDI-12 port is in use by its presets (R267). -/
def sdiInUse (c : List (Nat × Word)) : Bool := bit (regIn c 0x3C00) 0 || (List.range 8).any fun k => bit (regIn c (slotBase k)) 24

/-- The functions that the image needs (Table 17-5). -/
def ballsNeeded (im : Image) (c : List (Nat × Word)) : List Nat :=
  let saf := regIn c 0x6000
  (if im.facRecs.any (fun r => nbit r.ports 1) then [1, 2, 3, 4, 5] else [])
    ++ (if im.portcMode = 1 then [8, 9, 0xC] else if im.portcMode = 2 then [0xA, 0xB, 0xC] else [])
    ++ (if im.has 0x0401 then [0x10, 0x11, 0x12] else [])
    ++ (if sdiInUse c then (if bits (regIn c 0x3C00) 2 1 = 1 ∨ bits (regIn c 0x3C00) 2 1 = 2 then [0x14, 0x15] else [0x14]) else [])
    ++ (if bits saf 3 0 = 0 then [] else [0x18, 0x19, 0x1A])
    ++ (if bit saf 6 then [0x1B] else [])
    ++ ((im.grants.filter fun g => decide (g.cls = 7) && decide (g.idx ≤ 8)).map fun g => if g.idx < 6 then 0x20 + g.idx else 0x22 + g.idx)

/-- BALL faults and the RANGE faults of ball options (R429, R465, R466). -/
def ballFaults (im : Image) (c : List (Nat × Word)) : List StageFault :=
  bad (im.balls.any fun b => !(ballFns b.ball).contains b.fn) 0x11 1
    ++ bad (!distinct (im.balls.map BallRec.ball)) 0x11 1
    ++ bad (!distinct (im.balls.map BallRec.fn)) 0x11 1
    ++ bad (decide (im.portcMode ≠ 1) && (im.ballFn 8 || im.ballFn 9)) 0x11 1
    ++ bad (decide (im.portcMode ≠ 2) && (im.ballFn 0xA || im.ballFn 0xB)) 0x11 1
    ++ bad ((ballsNeeded im c).any fun f => !im.ballFn f) 0x11 1
    ++ bad (im.balls.any fun b => !ballOptOk b.fn b.opt) 0x17 1
    ++ bad (decide (2 < im.portcMode)) 0x17 1
    ++ bad (decide (im.portcMode = 2) && (decide (im.portcAddr < 8) || decide (0x78 ≤ im.portcAddr))) 0x17 1

/-! ### Routing (R111, R130, R183, R205, R238, R270, R341) -/

/-- A routing record keeps Table 4-3. -/
def routeOk (r : RouteRec) : Bool :=
  let inv := decide (r.opt &&& 15 = r.opt)
  let hpf := nbit r.opt 1
  let fast := nbit r.opt 2
  let n60 := nbit r.opt 3
  let current := (decide (r.sensor = 2) || decide (r.sensor = 3) || decide (r.sensor = 4)) && decide (r.pga ≤ 5)
    && !(hpf && decide (r.sensor = 3)) && (!n60 || decide (r.sensor = 3))
  let aux := (decide (r.sensor = 5) || decide (r.sensor = 6)) && decide (r.pga = 0) && hpf && !fast && !n60
  inv && (if r.input ≤ 2 then decide (r.chan ≤ 2) && decide (r.sensor = 1) && decide (r.pga = 0) && !fast && !n60
    else if r.input ≤ 6 then decide (3 ≤ r.chan) && decide (r.chan ≤ 6) && current
    else decide (r.input = 7) && decide (r.chan = 7) && (current || aux))

/-- Routed channels of a channel set. -/
def routesOf (im : Image) (cs : Nat) : List RouteRec := im.routes.filter fun r => decide (r.chan < 8) && nbit cs r.chan

/-- A channel set names only routed or instantiated resources (R111, R270). -/
def setInstantiated (im : Image) (c : List (Nat × Word)) (i : InstRec) : Bool :=
  (List.range 8).all (fun k => !nbit i.chans k || im.routed k)
    && (List.range 8).all (fun k => !nbit i.chans (16 + k) || bit (regIn c (slotBase k)) 24)
    && (decide (i.code = 0x0301) || decide (i.code = 0x0302) || (List.range 2).all fun p => !nbit i.chans (8 + p) || im.path p)
    && (!nbit i.chans 13 || decide (tW (regIn c 0x4820) ≠ 0))

/-- The phases that contribute to the sum sets (R159, R164). -/
def phasesIn (im : Image) : List Nat := (List.range 3).filter fun p => im.routed p && im.routed (p + 3)

/-- The channels of the accumulator sets defined (R164). -/
def accChans (im : Image) : Nat :=
  maskOf 6 fun k => (phasesIn im).contains (k % 3) &&
    (im.defs 3 (2 * (k % 3)) || im.defs 3 (2 * (k % 3) + 1) || im.defs 3 6 || im.defs 3 7)

/-- ROUTE faults of the routing records (R130). -/
def routeFaults (im : Image) : List StageFault :=
  bad (im.routes.any fun r => !routeOk r) 0x12 1
    ++ bad (!distinct (im.routes.map RouteRec.input) || !distinct (im.routes.map RouteRec.chan)) 0x12 1
    ++ bad ((im.of 0x0101).any fun i =>
        let rs := routesOf im i.chans
        rs.any (fun r => nbit r.opt 1) && rs.any fun r => !nbit r.opt 1) 0x12 1
    ++ bad ((im.of 0x0701 ++ im.of 0x0703).any fun i => (routesOf im i.chans).any fun r => !nbit r.opt 2 || decide (r.sensor = 3)) 0x12 1
    ++ bad (decide (5 < (im.routes.filter fun r => nbit r.opt 2).length)) 0x12 1

/-- ROUTE faults of the instances (R111, R164, R183, R205, R238, R270, R341). -/
def instFaults (im : Image) (c : List (Nat × Word)) : List StageFault :=
  let count := fun code => (im.of code).length
  let cover := fun code k => ((im.of code).filter fun i => nbit i.chans k).length
  let xc := im.set 0x0301
  let saf := regIn c 0x6000
  bad (im.insts.any fun i => !setAccepted i.code i.chans || !setInstantiated im c i) 0x12 1
    ++ bad ((List.range 8).any fun k => im.routed k && (decide (cover 0x0101 k ≠ 1) || decide (cover 0x0801 k ≠ 1))) 0x12 1
    ++ bad (im.has 0x0101 && decide (count 0x0103 ≠ 1)) 0x12 1
    ++ bad (decide (count 0x0901 ≠ 1)) 0x12 1
    ++ bad ([0x0202, 0x0301, 0x0302, 0x0401, 0x0501, 0x0601, 0x0701, 0x0702, 0x0703, 0x0704].any fun k => decide (1 < count k)) 0x12 1
    ++ bad (im.has 0x0601 != decide (tW (regIn c 0x4820) ≠ 0)) 0x12 1
    ++ bad (im.has 0x0103 && decide (im.set 0x0103 ≠ accChans im)) 0x12 1
    ++ bad ((List.range 8).any fun k => (im.of 0x0202).any (fun i => nbit i.chans k) && !(im.of 0x0201).any fun i => nbit i.chans k) 0x12 1
    ++ bad (im.auxIx && ((im.of 0x0201 ++ im.of 0x0202).any fun i => nbit i.chans 7)) 0x12 1
    ++ bad (nbit xc 8 && nbit xc 10) 0x12 1
    ++ bad ((List.range 2).any fun p => nbit (im.set 0x0302) (8 + p) && !nbit xc (8 + p)) 0x12 1
    ++ bad (im.has 0x0401 != nbit xc 10) 0x12 1
    ++ bad (im.has 0x0401 && !(im.ballFn 0x10 && im.ballFn 0x11 && im.ballFn 0x12)) 0x12 1
    ++ bad ((List.range 4).any fun n => im.has (0x0701 + n) && !bit saf n) 0x12 1

/-- ROUTE faults of SAFETY (R341). -/
def safRouteFaults (im : Image) (c : List (Nat × Word)) : List StageFault :=
  let saf := regIn c 0x6000
  let ef := im.set 0x0703
  let src := regIn c 0x6040
  let pgas := (routesOf im 0x78).map RouteRec.pga
  bad ((List.range 4).any fun n => bit saf n && !im.has (0x0701 + n)) 0x12 3
    ++ bad (im.has 0x0703 && (if bit saf 5 then decide (ef ≠ 0x78) || pgas.any (fun p => decide (p ≠ pgas.headD 0)) else decide (ef ≠ 0x80))) 0x12 3
    ++ bad (im.has 0x0704 && ((decide (bits src 1 0 = 1) && !nbit (im.set 0x0704) 8) || (decide (bits src 1 0 = 2) && !nbit (im.set 0x0704) 9)
        || (bit src 12 && !nbit (im.set 0x0704) (16 + bits src 6 4)))) 0x12 3

/-- ROUTE faults of METROLOGY (R164, R183, R205, R238). -/
def metRouteFaults (im : Image) (c : List (Nat × Word)) : List StageFault :=
  let n := im.section_.length
  let lv := regIn c 0x3330
  let kc := im.set 0x0401
  bad ((List.range 6).any fun k => im.defs 3 k && !(phasesIn im).contains (k / 2)) 0x12 4
    ++ bad ((im.defs 3 6 || im.defs 3 7) && (phasesIn im).isEmpty) 0x12 4
    ++ bad (!distinct ((im.accDef.filter fun d => decide (d % 256 = 3) || decide (d % 256 = 4)).map fun d => d % 65536)) 0x12 4
    ++ bad (bit (regIn c 0x2800) 1 && !(im.routed 0 && im.routed 1 && im.routed 2)) 0x12 4
    ++ bad ((List.range 2).any fun p => im.defs 4 p && !im.path p) 0x12 4
    ++ bad (im.defs 4 2 && !(im.path 0 || im.path 1)) 0x12 4
    ++ bad (im.defs 4 3 && !im.has 0x0401) 0x12 4
    ++ bad (im.profile.any fun x => decide (x.path = 0) || decide (2 < x.path) || !im.path (x.path - 1)) 0x12 4
    ++ bad (if im.has 0x0401 then decide (n ≠ 32) else decide (n ≠ 0)) 0x12 4
    ++ bad (im.has 0x0401 && !(if bit lv 0 then nbit kc 7 && im.auxIx else nbit kc (16 + bits lv 6 4))) 0x12 4

/-! ### Grants and policies (R43, R68, R71 to R74, R87, R88, R341) -/

/-- Class, index and kind of a grant are allowed (Tables 2-1 and 2-2, R72, R74). -/
def grantOk (g : GrantRec) : Bool :=
  let kind := decide (g.kind = 1) || decide (g.kind = 2)
  let all := decide (g.facet = 255)
  kind && (!all || decide (g.kind = 2)) &&
    (match g.cls with
     | 1 => [3, 6, 7, 8, 9, 10, 11].contains g.idx
        || ((decide (g.idx = 2) || decide (g.idx = 13)) && decide (g.kind = 2) && decide (g.facet ≠ 0))
     | 2 => decide (g.idx ≤ 3) && decide (g.kind = 2)
     | 3 => decide (g.idx ≤ 7)
     | 4 => decide (g.idx ≤ 3)
     | 5 => decide (1 ≤ g.idx) && decide (g.idx ≤ 7)
     | 6 => decide (1 ≤ g.idx) && decide (g.idx ≤ 4)
     | 7 => decide (g.idx ≤ 8)
     | 8 => decide (g.idx = 0)
     | 9 => decide (g.idx = 0)
     | _ => false)

/-- The image instantiates the resource (R73, R164, R326). -/
def grantExists (im : Image) (c : List (Nat × Word)) (g : GrantRec) : Bool :=
  match g.cls with
  | 3 => im.defs 3 g.idx
  | 4 => im.defs 4 g.idx
  | 5 => decide (tW (regIn c (0x4820 + 4 * g.idx)) ≠ 0)
  | _ => true

/-- The grants with an effect that give facet t the resource of g (R72, R73). -/
def sharesOf (im : Image) (t : Nat) (g : GrantRec) : Nat :=
  let same := fun (x : GrantRec) => decide (x.cls = g.cls) && decide (x.idx = g.idx)
  let holds22 := decide (t = 0) && decide (g.cls = 1) && (decide (g.idx = 2) || decide (g.idx = 13))
  let own := im.grants.any fun x => same x && decide (x.facet = t) && decide (x.kind = 1)
  (im.grants.filter fun x => same x && (decide (x.facet = t) || (decide (x.facet = 255) && !holds22 && !own))).length

/-- The resource of a shared actuator of Table 2-8. -/
def actRes (a : Nat) : Nat × Nat := if a < 6 then (7, a) else if a = 6 then (8, 0) else (9, 0)

/-- An order field lists exactly these facets, once each, 0xF ending the list (Table 2-8). -/
def orderOk (order : Nat) (owners : List Nat) : Bool :=
  let l := orderList order
  let head := l.takeWhile fun x => decide (x ≠ 15)
  (l.drop head.length).all (fun x => decide (x = 15)) && distinct head
    && head.all (fun f => owners.contains f) && owners.all fun f => head.contains f

/-- A policy record keeps Table 2-8 (R88). -/
def policyOk (im : Image) (p : PolicyRec) : Bool :=
  let r := actRes p.act
  decide (p.act ≤ 7) && (decide (p.pol = 3) || (if p.act = 6 then decide (p.pol = 2) else decide (p.pol = 1)))
    && (if p.pol = 3 then orderOk p.order (im.owners r.1 r.2) else decide (p.order = 0xFFFF))

/-- A policy record names the resource. -/
def hasPolicy (im : Image) (cls idx : Nat) : Bool := im.policies.any fun p => decide (p.act ≤ 7) && decide (actRes p.act = (cls, idx))

/-- GRANT faults (R43, R68, R71 to R74, R88, R341). -/
def grantFaults (im : Image) (c : List (Nat × Word)) : List StageFault :=
  let facets := im.facRecs.map FacetRec.facet
  let ports := fun n => (im.facRecs.filter fun r => nbit r.ports n).length
  bad ((List.range 5).any fun f => im.defines f && !facets.contains f) 0x13 1
    ++ bad (!distinct facets || facets.any fun f => !im.defines f) 0x13 1
    ++ bad ((List.range 3).any fun n => decide (1 < ports n)) 0x13 1
    ++ bad (decide (im.portcMode = 0) && decide (0 < ports 2)) 0x13 1
    ++ bad (im.grants.any fun g => !grantOk g || !(decide (g.facet = 255) || im.defines g.facet) || !grantExists im c g) 0x13 1
    ++ bad (im.grants.any fun g => (List.range 5).any fun t => im.defines t && decide (1 < sharesOf im t g)) 0x13 1
    ++ bad (im.grants.any fun g =>
        let shared := decide (g.cls = 8) || decide (g.cls = 9) || (decide (g.cls = 7) && hasPolicy im 7 g.idx)
        decide (g.kind = 1) && (if shared then !hasPolicy im g.cls g.idx else decide (1 < (im.owners g.cls g.idx).length))) 0x13 1
    ++ bad (im.policies.any fun p => !policyOk im p) 0x13 1
    ++ bad (!distinct (im.policies.map PolicyRec.act)) 0x13 1
    ++ bad (!im.defines im.ackFacet || !(im.owners 9 0).contains im.ackFacet) 0x13 3

/-! ### Tiles and state blocks (R43, R111, R326) -/

/-- TILE faults: tiles 1 to 7 belong to FRAME, tile 0 to METROLOGY (R326). -/
def tileFaults (im : Image) (c : List (Nat × Word)) : List StageFault :=
  let t := fun n => regIn c (0x4820 + 4 * n)
  let low := (List.range 7).map (· + 1)
  bad (low.any fun n => !tileGrid (t n)) 0x14 1
    ++ bad (low.any fun n => (List.range n).any fun m => tileOverlap (t n) (t m)) 0x14 1
    ++ bad (low.any fun n => decide (tW (t n) ≠ 0) && decide ((im.owners 5 n).length ≠ 1)) 0x14 1
    ++ bad (!tileGrid (t 0) || decide (tW (t 0) ≠ 0) != !im.legal.isEmpty) 0x14 4
    ++ bad (decide (tW (t 0) ≠ 0) && !(decide (tH (t 0) = 16) && decide (96 ≤ tW (t 0)))) 0x14 4

/-- Two state blocks share a byte. -/
def blocksMeet (a b : InstRec) : Bool := decide (a.off < b.off + b.len) && decide (b.off < a.off + a.len)

/-- STATE faults (Table 1-7, R43, R111). -/
def stateFaults (im : Image) : List StageFault :=
  bad (im.insts.any fun i => decide (i.off % 8 ≠ 0) || decide (65536 < i.off + i.len) || decide (i.len < stateSize i.code i.chans)) 0x15 1
    ++ bad ((List.range im.insts.length).any fun j => match im.insts[j]? with
        | none => false
        | some a => (im.insts.take j).any fun b => blocksMeet a b) 0x15 1

/-! ### Presets (R29, R456) and ranges -/

/-- The fields of a FACET-class register that a preset of facet f may carry, or none where the register is not FACET class or
facet f may not write it (R456). A request of 3 is no value of Table 2-9. -/
def facetReg (im : Image) (f off : Nat) : Option (List Fld) :=
  let owns := fun cls idx => (im.owners cls idx).contains f
  if off = 0x001C then some [fZero 0 16 10 60000]
  else if within off 0x7800 0x7814 then (if owns 7 ((off - 0x7800) / 4) then some [fElse 0 2 2 1] else none)
  else if off = 0x7818 then (if owns 8 0 then some [fAny 0 8, fAny 8 1] else none)
  else if off = 0x781C then (if owns 9 0 then some [fElse 0 2 2 1] else none)
  else if off = 0x6800 then
    (if (List.range 4).any fun a => im.holds f 6 (a + 1) then some [⟨0, 3, id, fun v => decide (1 ≤ v) && decide (v ≤ 4) && im.holds f 6 v⟩] else none)
  else none

/-- A preset of a FRAME, SAFETY or METROLOGY section keeps R29 and R456. No rule says what a nonzero reserved byte (+3) of the
record does: it is not checked (DESIGN CHOICE, log 89). -/
def presetRule (im : Image) (cls : RegClass) (p : Preset) : Bool :=
  im.defines p.facet && (match specOf p.off with
    | none => false
    | some r => decide (r.cls = cls) && r.preset)

/-- A preset value lies in its register's range and sets no reserved bit (R29). -/
def presetRange (p : Preset) : Bool :=
  match specOf p.off with
  | none => true
  | some r => presetOk r.flds p.val

/-- PRESET and RANGE faults of the presets of a section. -/
def presetFaults (im : Image) (cls : RegClass) (sec : Nat) (ps : List Preset) : List StageFault :=
  bad (ps.any fun p => !presetRule im cls p) 0x16 sec
    ++ bad (!distinct (ps.map Preset.off)) 0x16 sec
    ++ bad (ps.any fun p => !presetRange p) 0x17 sec

/-- Faults of a FACET section's presets and fixed part (R29, R31, R449, R456). -/
def facetFaults (im : Image) (x : FacetSec) : List StageFault :=
  bad (x.presets.any fun p => decide (p.facet ≠ x.facet) || (facetReg im x.facet p.off).isNone) 0x16 2 x.facet
    ++ bad (!distinct (x.presets.map Preset.off)) 0x16 2 x.facet
    ++ bad (x.presets.any fun p => match facetReg im x.facet p.off with
        | none => false
        | some fs => !presetOk fs p.val) 0x17 2 x.facet
    ++ bad (!(decide (x.wdt = 0) || (decide (10 ≤ x.wdt) && decide (x.wdt ≤ 60000)))) 0x17 2 x.facet
    ++ bad (decide (x.irq &&& 0x7F0F ≠ x.irq) || decide (64 < x.irq / 256 % 128)) 0x17 2 x.facet

/-- A value preset for an offset, if one is. -/
def presetOf (im : Image) (off : Nat) : Option Word := cfgFind im.regs off

/-- RANGE faults of FRAME beyond single fields (R244, R270, R291, R308, R312, Table 10-5). -/
def frameRanges (im : Image) (c : List (Nat × Word)) : List StageFault :=
  let r := regIn c
  let bat := r 0x4000
  bad (im.has 0x0401 && !decide ((50000 + 2 * (flowCfg c 2).gapUs) * 1024 ≤ (r 0x3804).toNat * 1000000)) 0x17 1
    ++ bad (!batCfgOk bat r || (bit bat 5 && decide (r 0x4004 = 0))) 0x17 1
    ++ bad (!railsOk (r 0x4804)) 0x17 1
    ++ bad (!greyOk ((List.range 4).map fun j => r (0x4810 + 4 * j))) 0x17 1

/-- The profile points of a path keep R223; `idx` are their point indices. -/
def profileOk (ps : List ProfPoint) (idx : List Nat) : Bool :=
  decide (ps.length ≠ 1) && decide (ps.length ≤ 16) && decide (idx = List.range idx.length)
    && ps.all (fun x => decide (x.re ≠ 0) && decide (0x20000000 ≤ x.k) && decide (x.k ≤ 0x4CCCCCCD))
    && rising (ps.map fun x => (x.re : Int))

/-- The section table keeps R254. -/
def sectionOk (ps : List SecPoint) : Bool :=
  rising (ps.map fun x => sgn (w32 x.h)) && ps.all (fun x => decide (0x20000000 ≤ x.k) && decide (x.k ≤ 0x4CCCCCCD))
    && (ps.zip ps.tail).all fun x => decide (x.1.a ≤ x.2.a)

/-- A legal tile item keeps R329. -/
def legalOk (im : Image) (x : LegalItem) : Bool :=
  let set_ := x.opt % 256
  let item := x.opt / 256 % 256
  let fmt := x.opt / 65536
  decide (1 ≤ x.dwell) && decide (x.dwell ≤ 60) && decide (fmt &&& 0x33 = fmt) &&
    (match x.kind with
     | 1 => im.defs 3 set_ && decide (set_ ≤ 7) && decide (item ≤ 7) && decide (fmt % 4 ≤ 2)
     | 2 => im.defs 4 set_ && decide (set_ ≤ 3) && decide (item ≤ 3) && decide (fmt % 4 ≤ 1)
     | 3 => decide (x.opt = 0)
     | 4 => decide (x.opt = 0)
     | _ => false)

/-- The CF output n keeps R176 where it is enabled. -/
def cfOk (im : Image) (c : List (Nat × Word)) (n : Nat) : Bool :=
  let w := regIn c (0x7840 + 16 * n)
  let set_ := bits w 2 0
  !bit w 17 || (decide (regIn c (0x7844 + 16 * n) ≠ 0) && im.defs 3 set_ && (im.owners 7 (6 + n)).all fun f => im.holds f 3 set_)

/-- RANGE faults of METROLOGY beyond single fields (R154, R164, R173, R176, R202, R210, R215, R223, R236, R254, R270, R329);
`idx` gives the point index of each profile record. -/
def metRanges (im : Image) (c : List (Nat × Word)) (idx : List Nat) : List StageFault :=
  let r := regIn c
  let paths := (List.range 2).filter fun p => im.path p
  let kinds := im.legal.map LegalItem.kind
  bad ((List.range 8).any fun k => decide (presetOf im (0x1100 + 4 * k) = some 0) && im.routed k && !(decide (k = 7) && im.auxIx)) 0x17 4
    ++ bad (im.accDef.any fun d => !(decide (d % 256 = 3) || decide (d % 256 = 4)) || decide (1 < d / 65536)
        || decide ((if d % 256 = 3 then 7 else 3) < d / 256 % 256)) 0x17 4
    ++ bad ((List.range 3).any fun p => (presetOf im (0x1230 + 4 * p)).any (fun v => decide (v.toNat < 85900)) &&
        (decide (bits (r 0x1200) (4 * p + 1) (4 * p) = 2) || decide (bits (r 0x1200) (4 * p + 3) (4 * p + 2) = 2))) 0x17 4
    ++ bad ((List.range 3).any fun n => !cfOk im c n) 0x17 4
    ++ bad (!pqThrOk (r 0x2808)) 0x17 4
    ++ bad ((List.range 2).any fun p => [0x00, 0x10, 0x20, 0x28].any fun o => !flowRelOk c p (0x3100 + 0x100 * p + o)) 0x17 4
    ++ bad (paths.any fun p => !flowRelOk c p 0x3000) 0x17 4
    ++ bad ([0x3300, 0x330C, 0x331C, 0x3324].any fun o => !flowRelOk c 2 o) 0x17 4
    ++ bad ((List.range 2).any fun p =>
        let ps := (im.profile.zip idx).filter fun x => decide (x.1.path = p + 1)
        !profileOk (ps.map Prod.fst) (ps.map Prod.snd)) 0x17 4
    ++ bad (!sectionOk im.section_) 0x17 4
    ++ bad ((List.range 8).any fun k => !slotOk (r (slotBase k)) (r (slotBase k + 4))) 0x17 4
    ++ bad (!kinds.isEmpty && (decide (16 < kinds.length) || decide (kinds.count 3 ≠ 1) || decide (kinds.count 4 ≠ 1)
        || im.legal.any fun x => !legalOk im x)) 0x17 4

/-- Every fault of stage 11 (R40, R43). -/
def stage11 (im : Image) (idx : List Nat) : List StageFault :=
  let c := im.regs
  ballFaults im c ++ routeFaults im ++ instFaults im c ++ safRouteFaults im c ++ metRouteFaults im c ++ grantFaults im c
    ++ tileFaults im c ++ stateFaults im
    ++ presetFaults im .frame 1 im.framePresets ++ presetFaults im .safety 3 im.safPresets ++ presetFaults im .metrology 4 im.metPresets
    ++ ((im.facets.filter fun x => !x.release).flatMap fun x => facetFaults im x)
    ++ frameRanges im c ++ metRanges im c idx

/-! ### The schedule (R45, R97, R103, R107, R112) -/

/-- Usable cycles of a sector. -/
def usable : Nat := 120

/-- The sector record of a number. -/
def sectorRec (im : Image) (n : Nat) : Option SectorRec := im.sectors.find? fun x => decide (x.num = n)

/-- Sector n is fixed. -/
def fixedSector (im : Image) (n : Nat) : Bool := (sectorRec im n).any fun x => decide (x.kind = 0)

/-- The entries of a flex sector's rotation. -/
def rotation (im : Image) (x : SectorRec) : List Nat := if x.kind = 1 then (im.rots.drop x.first).take x.len else []

/-- The load of sector n (R45). -/
def sectorLoad (im : Image) (n : Nat) : Nat :=
  if fixedSector im n then
    (im.insts.filter fun i => decide (i.prim = n) || decide (i.shad = n)).foldl (fun a i => a + fixedCost i.code i.chans) 0
  else usable

/-- The budget of instance j in 1/16 cycle a round (R45). -/
def flexBudget (im : Image) (j : Nat) : Nat :=
  im.sectors.foldl (fun a x => a + 16 * usable * (rotation im x).count j / max 1 x.len) 0

/-- Instance j appears in a rotation. -/
def rotated (im : Image) (j : Nat) : Bool := im.sectors.any fun x => (rotation im x).contains j

/-- Kernel p is a producer of kernel c among fixed kernels (Table 3-4). -/
def reads (c p : Nat) : Bool :=
  match c with
  | 0x0102 => decide (p = 0x0101)
  | 0x0103 => decide (p = 0x0101) || decide (p = 0x0102)
  | 0x0201 => decide (p = 0x0102)
  | 0x0704 => decide (p = 0x0101)
  | _ => false

/-- Instance p is a producer for fixed instance c (R103). -/
def produces (p c : InstRec) : Bool :=
  reads c.code p.code && (decide (p.chans &&& c.chans &&& 255 ≠ 0)
    || (decide (p.code = 0x0102) && decide (p.chans &&& 63 ≠ 0)))

/-- The sector, rotation and instance records that the check reads are sound (R45). -/
def recordsOk (im : Image) : Bool :=
  im.sectors.all (fun x => decide (x.num < 64) && decide (x.kind ≤ 1)
      && (if x.kind = 0 then decide (x.len = 0) else [1, 2, 4, 8, 16].contains x.len && decide (x.first + x.len ≤ im.rots.length)))
    && distinct (im.sectors.map SectorRec.num)
    && im.rots.all (fun j => decide (j < im.insts.length))
    && im.insts.all fun i => (decide (i.prim < 64) || decide (i.prim = 255)) && (decide (i.shad < 64) || decide (i.shad = 255))

/-- Placement of instance j (R45, R103, R107): no fixed kernel without a primary sector or in a rotation, no flex kernel in a
sector, no instance in a flex sector, and every producer earlier than both sectors of its consumer. -/
def placeOk (im : Image) (j : Nat) (i : InstRec) : Bool :=
  let secs := [i.prim, i.shad].filter fun n => decide (n ≠ 255)
  (!isFixed i.code || (decide (i.prim ≠ 255) && !rotated im j)) && (!isFlex i.code || secs.isEmpty)
    && secs.all (fun n => fixedSector im n)
    && (!isFixed i.code || im.insts.all fun p => !produces p i || secs.all fun n => decide (p.prim < n))

/-- The shadow rules of instance i (R45, R112). -/
def shadowOk (im : Image) (i : InstRec) : Bool :=
  let has := nbit i.flags 0
  if isSafetyKernel i.code then
    has && decide (i.shad ≠ 255) && fixedSector im i.prim && fixedSector im i.shad && decide (i.prim / 32 ≠ i.shad / 32)
  else !has && decide (i.shad = 255)

/-- Every fault of stage 12 (R45, R103, R107). -/
def stage12 (im : Image) : List StageFault :=
  let ix := im.insts.zipIdx
  bad (!recordsOk im || ix.any (fun x => !placeOk im x.2 x.1)) 0x18 1
    ++ bad ((List.range 64).any fun n => decide (usable < sectorLoad im n)) 0x18 1
    ++ bad (ix.any fun x => isFlex x.1.code && decide (flexBudget im x.2 < 16 * flexMin x.1.code x.1.chans)) 0x19 1
    ++ bad (im.insts.any fun i => !shadowOk im i) 0x1A 1
    ++ bad (decide (im.proofCount ≠ im.insts.length) || decide (im.loads ≠ (List.range 64).map fun n => sectorLoad im n)
        || decide (im.budgets ≠ (List.range im.insts.length).map fun j => flexBudget im j)) 0x1B 1

end Sys2Proof.Machine
end

