-- ==== Sys2Proof/Machine/Verify.lean ====
section
/-! DEFINITION. The verification of an image in the stages of Table 1-9 (R24 to R48), at run time and at a start (R40, R50). -/

namespace Sys2Proof.Machine

open Sys2Proof

/-- What a verification is judged against: a start or run time, the received-word map of a session (none at a start), the
running image, and at a start whether R35 is taken as met and whether no bank was ACTIVE (R35, R41, R50). -/
structure VerCtx where
  start : Bool
  received : Option (BitVec 6144)
  running : Option Image
  met35 : Bool
  noActive : Bool
  deriving DecidableEq, Repr

/-- The fault a stage reports: the code that stands first in its Codes column, which ascends, and of that code the one met
first in byte order (R40). -/
def pickFault : List StageFault → Option StageFault
  | [] => none
  | f :: fs => match pickFault fs with
    | none => some f
    | some g => if g.1 < f.1 ∨ (g.1 = f.1 ∧ (g.2.1 < f.2.1 ∨ (g.2.1 = f.2.1 ∧ g.2.2 < f.2.2))) then some g else some f

/-! ### Stages 1 to 5 -/

/-- Stage 1: the header's words, then every word below min(IMAGE_LEN, 0x6000). -/
def stage1 (b : List Byte) (received : Option (BitVec 6144)) : List StageFault :=
  match received with
  | none => []
  | some m =>
    let n := max 16 ((min (leAt b 0x10 4) 0x6000 + 3) / 4)
    bad ((List.range n).any fun k => !m.getLsbD k) 1 0

/-- Stage 2 (Table 1-2, R25). -/
def stage2 (b : List Byte) : List StageFault :=
  let target := leAt b 0x18 1
  bad (decide (leAt b 0 4 ≠ 0x4654414C) || decide (leAt b 4 2 ≠ 1) || decide (leAt b 6 2 ≠ 0x40) || decide (target ≠ 1 ∧ target ≠ 2)
    || decide (leAt b 0x14 4 = 0) || decide (crc32 (b.take 60) ≠ w32 (leAt b 0x3C 4))) 2 0

/-- DIAG_ID and DIAG_CATALOGUE (Table 16-20). -/
def diagId : Nat := 0x63400C01
/-- The kernel catalogue version. -/
def catalogue : Nat := 0x0301

/-- Stage 3: TARGET_ID [31:8] and CATALOGUE. -/
def stage3 (b : List Byte) : List StageFault :=
  bad (decide (leAt b 8 4 / 256 ≠ diagId / 256) || decide (leAt b 0xC 4 ≠ catalogue)) 3 0

/-- LAYOUT faults of the header (Table 1-2, R27). -/
def headerFits (b : List Byte) : List StageFault :=
  let len := leAt b 0x10 4
  let n := leAt b 0x2C 4
  let so := leAt b 0x28 4
  let last := match (dirUsed b).getLast? with
    | none => 0x1C0
    | some e => e.off + e.len
  bad (decide (len % 4 ≠ 0) || decide (0x6000 < len) || decide (leAt b 0x19 1 < 3) || decide (8 < leAt b 0x19 1)
    || decide (n < 1) || decide (12 < n) || decide (so ≠ last) || decide (len ≠ so + 68 * n)) 4 0

/-- LAYOUT faults of the directory's offsets and lengths (R27). -/
def offsetFaults (b : List Byte) : List StageFault :=
  go 0x1C0 (dirUsed b)
where
  /-- `at_` is where the next body starts. -/
  go : Nat → List DirEntry → List StageFault
    | _, [] => []
    | at_, e :: es => bad (decide (e.off ≠ at_) || decide (e.len % 4 ≠ 0) || decide (e.len < 4)) 4 e.typ e.idx ++ go (e.off + e.len) es

/-- LAYOUT faults of the bodies and the enrolment slots (R27, R30, R37). -/
def bodyFaults (b : List Byte) : List StageFault :=
  let fr := bodyOfType b 1
  let mask := leAt fr 1 1
  let slots := (enrolRecs fr).map EnrolRec.slot
  (dirUsed b).flatMap (fun e => bad (decide (1 ≤ e.typ ∧ e.typ ≤ 4) && !bodyFits e.typ (bodyOf b e)) 4 e.typ e.idx)
    ++ bad (bodyFits 1 fr && (!distinct slots || slots.any fun k => decide (k < 1) || decide (5 < k) || (decide (2 ≤ k) && !nbit mask (k - 1)))) 4 1

/-- The place of an entry in the order of R26; 0 for an entry that R22 does not know. -/
def entryRank (e : DirEntry) : Nat :=
  if e.typ = 2 then (if 1 ≤ e.idx ∧ e.idx ≤ 4 then 1 + e.idx else 0)
  else if e.idx ≠ 0 then 0
  else if e.typ = 1 then 1 else if e.typ = 3 then 6 else if e.typ = 4 then 7 else 0

/-- A strictly rising list of numbers. -/
def strictly : List Nat → Bool
  | a :: b :: l => decide (a < b) && strictly (b :: l)
  | _ => true

/-- DIRECTORY faults (R22, R26, R31). -/
def directoryFaults (b : List Byte) : List StageFault :=
  let used := dirUsed b
  let mask := leAt (bodyOfType b 1) 1 1
  let has := fun t i => used.any fun e => decide (e.typ = t) && decide (e.idx = i)
  bad (decide (used.length ≠ leAt b 0x19 1) || !(has 1 0 && has 3 0 && has 4 0)
      || (List.range 4).any (fun n => nbit mask (n + 1) && !has 2 (n + 1))) 5 0
    ++ bad (decide ((dirAll b).take used.length ≠ used) || !strictly (used.map entryRank)
        || (slice b (0x40 + 48 * used.length) (48 * (8 - used.length))).any fun x => decide (x ≠ 0)) 5 0
    ++ used.flatMap fun e =>
        bad (decide (entryRank e = 0) || decide (1 < e.flags) || (decide (e.typ ≠ 2) && decide (e.flags ≠ 0))
          || (decide (e.typ = 2) && nbit mask e.idx == nbit e.flags 0)
          || (decide (e.typ = 2) && (decide (leAt (bodyOf b e) 0 1 ≠ e.idx) || nbit (leAt (bodyOf b e) 1 1) 0 != nbit e.flags 0))) 5 e.typ e.idx

/-- Stage 4. -/
def stage4 (b : List Byte) : List StageFault := headerFits b ++ offsetFaults b ++ bodyFaults b ++ directoryFaults b

/-- Stage 5. -/
def stage5 (b : List Byte) (im : Image) : List StageFault :=
  im.entries.flatMap fun e => bad (decide (sha256 (bodyOf b e) ≠ e.digest)) 6 e.typ e.idx

/-! ### Stage 6: keys (R36, R37, R39) -/

/-- The key a device holds in slot k. -/
def slotKey (s : State) (k : Nat) : Option (List Byte) := vget s.sec.keys k none

/-- The key an image enrols for slot k. -/
def enrolKey (im : Image) (k : Nat) : Option (List Byte) := (im.enrols.find? fun e => decide (e.slot = k)).map EnrolRec.key

/-- The image needs slot k: the integrator's always, and that of every facet it defines (R37). -/
def needsSlot (im : Image) (k : Nat) : Bool := decide (k = 1) || im.defines (k - 1)

/-- KEY_EMPTY and KEY_MISMATCH of slot k, with the facet it serves as index. -/
def keyFaults (s : State) (im : Image) (k : Nat) : List StageFault :=
  match slotKey s k, enrolKey im k with
  | none, r => bad (needsSlot im k && (r.isNone || vget s.sec.defective k false || (decide (k = 1) && decide (s.sec.lifecycle ≠ .shipped)))) 7 1 (k - 1)
  | some key, some r => bad (decide (r ≠ key)) 8 1 (k - 1)
  | some _, none => []

/-- Stage 6. -/
def stage6 (s : State) (im : Image) : List StageFault := (List.range 5).flatMap fun j => keyFaults s im (j + 1)

/-! ### Stage 7: signatures (R28, R41, R42) -/

/-- The 56-byte signed record of a section (Table 1-5). -/
def signedRecord (im : Image) (e : DirEntry) : List Byte :=
  leBytes 1 e.typ ++ leBytes 1 e.idx ++ leBytes 2 e.flags ++ leBytes 4 e.ver ++ leBytes 4 (im.device / 256 * 256) ++ im.site ++ e.digest

/-- The signer of Table 1-1. -/
def primarySigner (e : DirEntry) : Nat := if e.typ = 2 then e.idx + 1 else 1

/-- A signer may sign or co-sign a section (R41). -/
def maySign (e : DirEntry) (signer : Nat) : Bool :=
  decide (signer = primarySigner e) || (decide (e.typ = 4) && decide (2 ≤ signer) && decide (signer ≤ 5)) || (decide (e.typ = 3) && decide (signer = 6))

/-- The key a signer is verified against (R37, R42). -/
def signerKey (s : State) (im : Image) (signer : Nat) : Option (List Byte) :=
  if signer = 6 then (if s.sec.lifecycle = .sealed then s.sec.anchor else some im.assessor)
  else match slotKey s signer with
    | some k => some k
    | none => enrolKey im signer

/-- A signature record verifies over its section. -/
def sigOk (s : State) (im : Image) (e : DirEntry) (r : SigRec) : Bool :=
  match signerKey s im r.signer with
  | none => false
  | some k => ecdsaVerify k (signedRecord im e) r.sig

/-- The facets and the assessor (bit 5) whose co-signatures an image needs: those of COSIGN only for SEALED, with the union of
the running and the new sets in SEALED; and in SEALED the anchored assessor where the key changes (R41, R42). -/
def cosignNeed (s : State) (ctx : VerCtx) (im : Image) : Nat :=
  let run := if s.sec.lifecycle = .sealed then (match ctx.running with
    | none => 0
    | some r => r.cosign) else 0
  let key := decide (s.sec.lifecycle = .sealed) && (match s.sec.anchor with
    | none => false
    | some a => decide (a ≠ im.assessor))
  (if im.target = 2 then (im.cosign ||| run) &&& 0x3E else 0) ||| (if key then 0x20 else 0)

/-- The fault of signature record i, with its code; a record that names no section shows section 0 (Table 1-18). No rule says what
a nonzero reserved byte of the record does: it is not checked (DESIGN CHOICE, log 89). -/
def sigFault (s : State) (im : Image) (i : Nat) (r : SigRec) : Option RefuseReg :=
  let at_ := fun code => some (⟨code, 7, r.typ, r.idx, i, false⟩ : RefuseReg)
  match im.entry r.typ r.idx with
  | none => some ⟨0xA, 7, 0, 0, i, false⟩
  | some e =>
    if !maySign e r.signer then at_ 0xA
    else if !sigOk s im e r then at_ 9
    else if (im.sigs.take i).any fun q => decide ((q.signer, q.typ, q.idx) = (r.signer, r.typ, r.idx)) then at_ 0xA
    else none

/-- The missing signatures of each section in directory order: the primary one, then the co-signatures (R41). A missing
facet's co-signature shows the facet as index. -/
def missingSigs (s : State) (ctx : VerCtx) (im : Image) : List RefuseReg :=
  let has := fun signer typ idx => im.sigs.any fun q => decide ((q.signer, q.typ, q.idx) = (signer, typ, idx))
  let need := cosignNeed s ctx im
  let miss := fun (typ idx : Nat) => (⟨0xA, 7, typ, idx, 0, false⟩ : RefuseReg)
  im.entries.flatMap fun e =>
    (if has (primarySigner e) e.typ e.idx then [] else [miss e.typ e.idx])
      ++ (if e.typ = 3 ∧ nbit need 5 = true ∧ has 6 3 0 = false then [miss 3 0] else [])
      ++ (if e.typ = 4 then ((List.range 4).filter fun j => nbit need (j + 1) && !has (j + 2) 4 0).map fun j => miss 4 (j + 1) else [])

/-- Stage 7: SIGNATURE stands before COSIGN, and sections stand before the signature block (R40). -/
def stage7 (s : State) (ctx : VerCtx) (im : Image) : Option RefuseReg :=
  let fs := im.sigs.zipIdx.filterMap fun x => sigFault s im x.2 x.1
  match fs.find? fun f => decide (f.code = 9) with
  | some f => some f
  | none => (missingSigs s ctx im ++ fs).head?

/-! ### Stages 8 to 10 -/

/-- The anti-rollback counter of a section (R46). -/
def arbIndex (typ idx : Nat) : Nat := if typ = 1 then 0 else if typ = 2 then idx else if typ = 3 then 5 else 6

/-- A bank's state. -/
def bankState (s : State) (i : Nat) : BankState := (vget s.img.banks i Bank.empty).state

/-- ACTIVE_BANK: none in the shipping lattice, but from step 4 of a switch on (Tables 1-11 and 1-16). -/
def activeBank (s : State) : Option Nat :=
  if s.str.isNone ∧ s.img.step ≠ .apply then none
  else (List.range 2).find? fun i => decide (bankState s i = .active)

/-- IMG_ACTIVE_SEQ (Table 1-15). -/
def activeSeq (s : State) : Nat :=
  match activeBank s with
  | none => 0
  | some i => (memWord (vget s.img.banks i Bank.empty).mem 0x14).toNat

/-- Stage 8 (R46 to R48). -/
def stage8 (s : State) (ctx : VerCtx) (im : Image) : List StageFault :=
  im.entries.flatMap (fun e => bad (decide (e.ver < arb s.sec (arbIndex e.typ e.idx))) 0xB e.typ e.idx)
    ++ bad (!ctx.start && decide (im.seq ≤ activeSeq s)) 0xC 0

/-- Stage 9 (Table 1-13, R62). -/
def stage9 (s : State) (im : Image) : List StageFault :=
  let ok := match s.sec.lifecycle with
    | .shipped => decide (im.target = 1)
    | .commissioning => true
    | .sealed => decide (im.target = 2)
  bad (!ok) 0xD 0 ++ bad (decide (im.lifecycle ≠ im.target)) 0xD 1 ++ bad (im.accClear && decide (im.target ≠ 1)) 0xD 4

/-- The shared actuators that a grant record gives its facet an owner grant on (R34). -/
def ownsActuator (g : List Byte) (act : Nat) : Bool :=
  let r := actRes act
  decide (leAt g 3 1 = 1) && decide (leAt g 0 1 = r.1) && decide (leAt g 1 1 = r.2)

/-- The consent digest of facet n: its facet, grant and policy records as stored, and the COSIGN byte (R34). -/
def consentOf (b : List Byte) (n : Nat) : List Byte :=
  let f := bodyOfType b 1
  let grants := (tabRecs f 0x20 4).filter fun g => decide (leAt g 2 1 = n) || decide (leAt g 2 1 = 255)
  let pols := (tabRecs f 0x24 4).filter fun p => decide (leAt p 0 1 ≤ 7) && grants.any fun g => ownsActuator g (leAt p 0 1)
  sha256 (((tabRecs f 0x1C 4).filter fun r => decide (leAt r 0 1 = n)).flatten ++ grants.flatten ++ pols.flatten ++ slice f 4 1)

/-- A release section of facet n is valid (R35). -/
def releaseOk (s : State) (ctx : VerCtx) (im : Image) (x : FacetSec) : Bool :=
  !im.defines x.facet && x.consent.all (fun c => decide (c = 0)) && x.presets.isEmpty
    && (if ctx.noActive then (slotKey s (x.facet + 1)).isSome
        else match ctx.running with
          | none => false
          | some r => r.defines x.facet)

/-- Stage 10 (R34, R35). -/
def stage10 (s : State) (ctx : VerCtx) (b : List Byte) (im : Image) : List StageFault :=
  let gone := fun n => match ctx.running with
    | none => false
    | some r => r.defines n && !im.defines n && !im.facets.any fun x => x.release && decide (x.facet = n)
  (im.facets.filter fun x => !x.release).flatMap (fun x => bad (decide (x.consent ≠ consentOf b x.facet)) 0xE 2 x.facet)
    ++ (if ctx.met35 then []
        else (im.facets.filter fun x => x.release).flatMap (fun x => bad (!releaseOk s ctx im x) 0x10 2 x.facet)
          ++ (if s.sec.lifecycle = .sealed ∧ ctx.noActive = false then (List.range 4).flatMap fun j => bad (gone (j + 1)) 0x10 2 (j + 1) else []))

/-! ### All stages -/

/-- A stage's refusal. -/
def stageRefuse (ctx : VerCtx) (n : Nat) (fs : List StageFault) : Option RefuseReg :=
  (pickFault fs).map fun f => ⟨f.1, n, f.2.1, f.2.2, 0, ctx.start⟩

/-- The verification of the image in a bank: its refusal, or none where every stage passes (R40, Table 1-9). -/
def verify (s : State) (ctx : VerCtx) (k : Bank) : Option RefuseReg :=
  let b := bankBytes k.mem 24576
  let st := stageRefuse ctx
  st 1 (stage1 b ctx.received) <|> st 2 (stage2 b) <|> st 3 (stage3 b) <|> st 4 (stage4 b) <|> (let im := parseImage b
    let idx := (tabRecs (bodyOfType b 4) 0x0C 12).map fun r => leAt r 1 1
    st 5 (stage5 b im) <|> st 6 (stage6 s im) <|> (stage7 s ctx im).map (fun f => { f with atStart := ctx.start })
      <|> st 8 (stage8 s ctx im) <|> st 9 (stage9 s im) <|> st 10 (stage10 s ctx b im) <|> st 11 (stage11 im idx) <|> st 12 (stage12 im))

/-- The IMAGE_SEQ of an image whose stage 2 has passed: IMG_PENDING_SEQ and IMAGE_REFUSED w5 (Tables 1-14 and 1-15). -/
def seqKnown (k : Bank) (refusal : Option RefuseReg) : Nat :=
  match refusal with
  | none => (memWord k.mem 0x14).toNat
  | some r => if 2 < r.stage then (memWord k.mem 0x14).toNat else 0

end Sys2Proof.Machine
end

