-- ==== Sys2Proof/Machine/Loader.lean ====
section
/-! DEFINITION. The image loader at run time: refusals, the load session and its commands, the steps of the switch up to
step 4, and the IMG registers (R44 to R57, R64 to R66, Tables 1-10 to 1-20). -/

namespace Sys2Proof.Machine

open Sys2Proof

/-! ### Reply status codes (Table 15-5) -/

/-- OK. -/
def stOk : Nat := 0x00
/-- Denied. -/
def stDenied : Nat := 0x20
/-- Unmapped. -/
def stUnmapped : Nat := 0x21
/-- Busy. -/
def stBusy : Nat := 0x30
/-- Locked. -/
def stLocked : Nat := 0x40

/-! ### Refusals -/

/-- Changes the loader. -/
def setImg (f : Img → Img) (s : State) : State := { s with img := f s.img }

/-- Changes the security store. -/
def setSec (f : Sec → Sec) (s : State) : State := { s with sec := f s.sec }

/-- Changes bank i. -/
def setBank (i : Nat) (f : Bank → Bank) (s : State) : State := setImg (fun m => { m with banks := vmod m.banks i f }) s

/-- IMG_REFUSE (Table 1-18). -/
def refuseWord (r : RefuseReg) : Word :=
  pack [(0, r.code % 256), (8, r.stage % 16), (12, r.sect % 16), (16, r.index % 8), (20, r.sigrec % 16), (24, b2n r.atStart)]

/-- IMAGE_REFUSED (Table 1-14). -/
def refusedEv (r : RefuseReg) (seq : Nat) : Ev := { code := 0x0102, sev := 2, who := onlyF0, w4 := refuseWord r, w5 := w32 seq }

/-- A refusal is shown and counted (R44). -/
def noteRefusal (r : RefuseReg) (s : State) : State :=
  setSec (fun c => { c with refuseCount := satInc c.refuseCount }) (setImg (fun m => { m with refuse := r }) s)

/-- A refusal at run time: shown, counted and queued to F0 (R44). -/
def refuse (r : RefuseReg) (seq : Nat) (s : State) : State := emit (refusedEv r seq) (noteRefusal r s)

/-- A refusal without stage, section or signature record (Table 1-18). -/
def plainRefusal (code : Nat) (atStart : Bool) : RefuseReg := ⟨code, 0, 0, 0, 0, atStart⟩

/-! ### Session (R51 to R56) -/

/-- The bank that a session loads: the one that is not ACTIVE, bank A when none is (R52). -/
def sessionBank (s : State) : Nat := if bankState s 0 = .active then 1 else 0

/-- The bank of the session. -/
def loadingBank (s : State) : Bank := vget s.img.banks (sessionBank s) Bank.empty

/-- A bank is EMPTY, its marks clear. -/
def emptyBank (i : Nat) (s : State) : State := setBank i (fun b => { b with state := .empty, held := false, apply := false }) s

/-- The loader returns to IDLE. -/
def loaderIdle (s : State) : State :=
  setImg (fun m => { m with loader := .idle, hold := false, step := .none, pendingSeq := 0 }) s

/-- BEGIN: a session starts, or starts again, on the loading bank (R52, Table 1-20). -/
def begin_ (p : Port) (s : State) : State :=
  setImg (fun m => { m with loader := .receiving, sessionPort := p, hold := false, step := .none, pendingSeq := 0, received := 0 })
    (setBank (sessionBank s) (fun b => { b with state := .loading, held := false, apply := false }) s)

/-- The session ends: its bank is EMPTY and the loader IDLE (R54, R56). -/
def dropSession (s : State) : State := loaderIdle (emptyBank (sessionBank s) s)

/-- A session is open whose switch has not started. -/
def sessionOpen (s : State) : Bool := decide (s.img.loader ≠ .idle) && decide (s.img.step = .none)

/-- The session is lost before its switch started (R44, R56). -/
def sessionLost (s : State) : State :=
  if sessionOpen s then refuse (plainRefusal 0x1D false) s.img.pendingSeq (dropSession s) else s

/-- Step 0 of Table 1-11: the HELD mark is cleared and the switch commit queued. -/
def startSwitch (s : State) : State :=
  queueCommit .switch (setImg (fun m => { m with loader := .switchPending, hold := false, step := .commit })
    (setBank (sessionBank s) (fun b => { b with held := false }) s))

/-- A write of IMG_CTRL by F0 and its status (R51, R55, Tables 1-17 and 1-20). -/
def imgCtrl (p : Port) (v : Word) (s : State) : State × Nat :=
  let cmd := bits v 7 0
  let l := s.img.loader
  if l ≠ .idle ∧ p ≠ s.img.sessionPort then (s, stBusy)
  else if cmd = 1 then
    if l = .verifying ∨ l = .switchPending then (s, stBusy) else (begin_ p s, stOk)
  else if cmd = 2 then
    if l = .receiving then (setImg (fun m => { m with loader := .verifying, hold := bit v 8 }) s, stOk) else (s, stBusy)
  else if cmd = 3 then
    if l = .idle then (s, stOk) else if s.img.step = .none then (dropSession s, stOk) else (s, stBusy)
  else if cmd = 4 then
    if l = .switchPending ∧ s.img.step = .none then (startSwitch s, stOk) else (s, stBusy)
  else (s, stBusy)

/-- The words of an IMAGE-CHUNK from word offset a are marked received (R53). -/
def markReceived (m : BitVec 6144) (a n : Nat) : BitVec 6144 := m ||| (BitVec.ofNat 6144 (2 ^ n - 1) <<< a)

/-- An IMAGE-CHUNK of F0 and its status (R51, R53). -/
def imageChunk (p : Port) (a : Nat) (ws : List Word) (s : State) : State × Nat :=
  let l := s.img.loader
  if l ≠ .idle ∧ p ≠ s.img.sessionPort then (s, stBusy)
  else if l = .verifying ∨ l = .switchPending then (s, stBusy)
  else if l ≠ .receiving ∨ 6144 < a + ws.length then (s, stUnmapped)
  else (setImg (fun m => { m with received := markReceived m.received a ws.length })
    (setBank (sessionBank s) (fun b => { b with mem := memPutWords b.mem (4 * a) ws }) s), stOk)

/-! ### Verification (R54) -/

/-- The context of a verification at run time (R35, R40). -/
def runCtx (s : State) : VerCtx :=
  { start := false, received := some s.img.received, running := s.str, met35 := false, noActive := false }

/-- The stages have run: a refusal, or the bank ARMED and the switch waiting or started (R54). A verification that passes
leaves IMG_REFUSE with code None (log 31). -/
def verificationComplete (s : State) : State :=
  if s.img.loader ≠ .verifying then s
  else
    let k := loadingBank s
    let r := verify s (runCtx s) k
    let seq := seqKnown k r
    let s1 := setImg (fun m => { m with pendingSeq := seq }) s
    match r with
    | some r => refuse r seq (setImg (fun m => { m with loader := .refused, hold := false }) s1)
    | none =>
      let s2 := setImg (fun m => { m with loader := .switchPending, refuse := plainRefusal 0 false })
        (setBank (sessionBank s) (fun b => { b with state := .armed, held := s.img.hold }) s1)
      if s.img.hold then s2 else startSwitch s2

/-! ### Steps 2 to 4 of Table 1-11 -/

/-- The slots that an image enrols and that are still empty, ascending, with their keys (R37, Table 1-11). -/
def slotsToProgram (s : State) (im : Image) : List (Nat × List Byte) :=
  (List.range 5).filterMap fun j =>
    let k := j + 1
    if (slotKey s k).isNone && needsSlot im k then (enrolKey im k).map fun key => (k, key) else none

/-- Programs slots in order up to the first that fails its read-back (R39); answers whether all hold. -/
def programSlots (failed : List Nat) : List (Nat × List Byte) → State → State × Bool
  | [], s => (s, true)
  | (k, key) :: l, s =>
    if failed.contains k then (setSec (fun c => { c with defective := vmod c.defective k fun _ => true }) s, false)
    else programSlots failed l (setSec (fun c => { c with keys := vmod c.keys k fun _ => some key }) s)

/-- A section's DIGEST differs between two images. With no image running before there is no old DIGEST to compare: both sections
count as changed, and METRO_CHANGE shows 0 for the old DIGEST (DESIGN CHOICE, log 89). -/
def digestDiffers (old : Option Image) (new : Image) (typ : Nat) : Bool :=
  match old with
  | none => true
  | some o => decide (o.digestOf typ 0 ≠ new.digestOf typ 0)

/-- The sections of METROLOGY and SAFETY that changed, in the order of R65. -/
def metroChanged (old : Option Image) (new : Image) : List Nat := [4, 3].filter fun t => digestDiffers old new t

/-- Step 3: the anti-rollback counters, the lifecycle, the assessor anchor and the metrological event counter (R42, R47, R64,
R65, Table 1-13). -/
def securityStep (old : Option Image) (im : Image) (c : Sec) : Sec :=
  let sealing := decide (im.target = 2)
  { c with
    arb := im.entries.foldl (fun a e => vmod a (arbIndex e.typ e.idx) fun v => v.raise e.ver) c.arb
    lifecycle := if c.lifecycle = .sealed ∨ sealing = true then .sealed else .commissioning
    anchor := if sealing then (if im.assessor.all (fun b => decide (b = 0)) then none else some im.assessor) else c.anchor
    metroEvt := if c.lifecycle = .sealed then .all (satAdd c.metroEvt.vote (metroChanged old im).length)
      else if sealing then .all 0 else c.metroEvt }

/-- The code of a lifecycle state (Table 1-15). -/
def Lifecycle.code : Lifecycle → Nat
  | .shipped => 0
  | .commissioning => 1
  | .sealed => 2

/-- METRO_CHANGE of the j-th changed section, after that many increments (R65). -/
def metroEv (old : Option Image) (im : Image) (before j typ : Nat) : Ev :=
  { code := 0x0103, sev := 2, who := 31, w4 := w32 typ, w5 := w32 (satAdd before (j + 1))
    w6 := w32 (leAt ((old.map fun o => o.digestOf typ 0).getD []) 0 4), w7 := w32 (leAt (im.digestOf typ 0) 0 4) }

/-- The events of step 6 (Table 1-11, Table 1-14), from the store before and after step 3. -/
def stepSix (i : Nat) (old : Option Image) (im : Image) (before after_ : Sec) : List Ev :=
  { code := 0x0101, sev := 1, who := 31, w4 := w32 im.seq, w5 := w32 ((old.map Image.seq).getD 0), w6 := w32 after_.lifecycle.code, w7 := w32 i }
    :: (if before.lifecycle = .sealed then (metroChanged old im).mapIdx fun j t => metroEv old im before.metroEvt.vote j t else [])

/-- Steps 3 and 4: bank i becomes ACTIVE with its APPLY mark, the previous ACTIVE bank ARMED (R49, Table 1-11). -/
def activateBank (i : Nat) (old : Option Image) (im : Image) (s : State) : State :=
  setSec (fun c => { securityStep old im c with owed := stepSix i old im c (securityStep old im c) }) (setImg (fun m => { m with banks := vmap m.banks fun j b =>
    if j = i then { b with state := .active, held := false, apply := true }
    else if b.state = .active then { b with state := .armed, held := false, apply := false } else b }) s)

/-- Steps 3 and 4 at run time; the loader then waits for the round boundary of step 5. -/
def switchActivate (s : State) : State :=
  setImg (fun m => { m with step := .apply }) (activateBank (sessionBank s) s.str (bankImage (loadingBank s)) s)

/-- The switch commit closed: slots are programmed where R37 enrols any, and steps 3 and 4 follow (Table 1-11). -/
def switchCommitClosed (s : State) : State :=
  if s.img.step ≠ .commit then s
  else if (slotsToProgram s (bankImage (loadingBank s))).isEmpty then switchActivate s
  else setImg (fun m => { m with step := .slots }) s

/-- Step 2 ends: the slots named in `failed` do not read back; the switch goes on, or is abandoned with STORE (R39). -/
def slotsProgrammed (failed : List Nat) (s : State) : State :=
  if s.img.step ≠ .slots then s
  else
    let r := programSlots failed (slotsToProgram s (bankImage (loadingBank s))) s
    if r.2 then switchActivate r.1
    else refuse (plainRefusal 0x1C false) s.img.pendingSeq (dropSession r.1)

/-! ### IMG registers (Tables 1-15 and 1-16) -/

/-- The code of a bank state (R49). -/
def BankState.code : BankState → Nat
  | .empty => 0
  | .loading => 1
  | .armed => 2
  | .active => 3

/-- The code of a loader state (Table 1-16). -/
def LoaderState.code : LoaderState → Nat
  | .idle => 0
  | .receiving => 1
  | .verifying => 2
  | .switchPending => 3
  | .refused => 4

/-- IMG_STATUS. -/
def imgStatus (s : State) : Word :=
  pack [(0, (activeBank s).getD 2), (2, (bankState s 0).code), (4, (bankState s 1).code), (8, s.img.loader.code),
    (11, if s.img.loader = .idle then 0 else s.img.sessionPort.val), (13, b2n (s.img.hold && decide (s.img.loader = .switchPending)))]

/-- The digest of the ACTIVE image, zeros in the shipping lattice. -/
def activeDigest (s : State) : List Byte :=
  match activeBank s with
  | none => List.replicate 32 0
  | some i => (bankImage (vget s.img.banks i Bank.empty)).digest

/-- A readable IMG register. -/
def imgRead (s : State) (off : Nat) : Word :=
  if off = 0x0400 then imgStatus s
  else if off = 0x0408 then refuseWord s.img.refuse
  else if off = 0x040C then w32 (activeSeq s)
  else if off = 0x0410 then w32 s.img.pendingSeq
  else if off = 0x0414 then w32 s.sec.lifecycle.code
  else if off = 0x0418 then w32 s.sec.metroEvt.vote
  else if off = 0x041C then pack [(0, maskOf 6 fun k => (slotKey s k).isSome), (8, maskOf 6 fun k => vget s.sec.defective k false)]
  else if within off 0x0420 0x0438 then w32 (arb s.sec ((off - 0x0420) / 4))
  else if off = 0x0440 then w32 s.sec.refuseCount
  else if off = 0x0444 then w32 (popIn s.img.received.toNat 6144)
  else if within off 0x0460 0x047C then w32 (leAt (activeDigest s) (off - 0x0460) 4)
  else 0

end Sys2Proof.Machine
end

