-- ==== Sys2Proof/Machine/Apply.lean ====
section
/-! DEFINITION. Applying a structure: steps 5 and 6 of an image switch and step 8 of a start (R57 to R59, R91, R128, R150,
R257, R277, R328, R361, R387, R424; Tables 1-11 and 1-12). `old` is the image that ran before, none for the shipping
lattice. -/

namespace Sys2Proof.Machine

open Sys2Proof

/-! ### Registers (R29, R58) -/

/-- The section that presets a class (R29). -/
def RegClass.section_ : RegClass → Nat
  | .frame => 1
  | .facet => 2
  | .safety => 3
  | .metrology => 4

/-- A section's DIGEST is unchanged (Table 1-12). -/
def sameSection (old : Option Image) (im : Image) (typ idx : Nat) : Bool :=
  match old with
  | none => false
  | some o => (o.entry typ idx).isSome && (im.entry typ idx).isSome && decide (o.digestOf typ idx = im.digestOf typ idx)

/-- A register keeps its value across the switch; the SAF registers take their presets at every activation that enters or
stays in SEALED (R58, R373). -/
def keepsReg (old : Option Image) (im : Image) (off : Nat) : Bool :=
  match specOf off with
  | none => false
  | some r => sameSection old im r.cls.section_ 0 && (decide (r.cls ≠ .safety) || decide (im.target ≠ 2))

/-- The register file after the switch: kept values, and the new presets of the sections that changed. -/
def switchRegs (old : Option Image) (im : Image) (c : List (Nat × Word)) : List (Nat × Word) :=
  im.presets.foldl (fun c p => if keepsReg old im p.off then c else cfgSet c p.off p.val) (c.filter fun x => keepsReg old im x.1)

/-! ### Facets and ports (R58, R85, R86, R453) -/

/-- The value that facet f's section presets for a register of class FACET (R29, R456). -/
def facetPreset? (im : Option Image) (f off : Nat) : Option Word :=
  im.bind fun i => (i.facets.find? fun x => decide (x.facet = f)).bind fun x =>
    (x.presets.find? fun p => decide (p.off = off)).map Preset.val

/-- The initial value of a register of class FACET whose reset value is 0 (Table 2-9). -/
def facetPreset (im : Option Image) (f off : Nat) : Word := (facetPreset? im f off).getD 0

/-- Facet f's requests at their preset or reset values (Table 2-7). -/
def presetRequests (im : Option Image) (f : Nat) (x : FacetSt) : FacetSt :=
  { x with
    gpReq := Vector.ofFn fun (n : Fin 6) => bits (facetPreset im f (0x7800 + 4 * n.val)) 1 0
    brightLevel := bits (facetPreset im f 0x7818) 7 0
    brightValid := bit (facetPreset im f 0x7818) 8
    pumpReq := bits (facetPreset im f 0x781C) 1 0 }

/-- The reset value of TIMEOUT_MS: the FACET section's, 0 for F0 (R83). -/
def wdtReset (im : Option Image) (f : Nat) : Nat :=
  match im with
  | none => 0
  | some i => if f = 0 then 0 else ((i.facets.find? fun x => decide (x.facet = f)).map FacetSec.wdt).getD 0

/-- The lowest user area that facet f holds, 0 where it holds none (Table 13-5). -/
def firstArea (im : Image) (f : Nat) : Nat := ((List.range 5).find? fun a => decide (a ≠ 0) && im.holds f 6 a).getD 0

/-- The copies of the FACET-class registers at their values after a reset (R29, R456). -/
def facetFresh (im : Image) (f : Nat) (x : FacetSt) : FacetSt :=
  let sel := bits (facetPreset (some im) f 0x6800) 2 0
  presetRequests (some im) f { x with
    timeoutMs := match facetPreset? (some im) f 0x001C with
      | none => wdtReset (some im) f
      | some v => bits v 15 0
    nvuSel := if sel = 0 then firstArea im f else sel }

/-- The facet record, grants and policies that concern facet f (Table 2-6). -/
def facetView (im : Option Image) (f : Nat) : List FacetRec × List GrantRec × List PolicyRec :=
  match im with
  | none => ([], [], [])
  | some i =>
    let owns := fun act => if act < 6 then (i.owners 7 act).contains f else if act = 6 then (i.owners 8 0).contains f else (i.owners 9 0).contains f
    (i.facRecs.filter fun r => decide (r.facet = f), grantsOf i f, i.policies.filter fun p => owns p.act)

/-- A facet defined by the image that ran before. -/
def wasDefined (old : Option Image) (f : Nat) : Bool :=
  match old with
  | none => decide (f = 0)
  | some o => o.defines f

/-- Requests without an owner grant are withdrawn, and NVU_SEL names an area that the facet holds (R58, Table 13-5). -/
def withdraw (im : Image) (f : Nat) (x : FacetSt) : FacetSt :=
  let owns := fun cls idx => (im.owners cls idx).contains f
  { x with
    gpReq := vmap x.gpReq fun n r => if owns 7 n then r else 0
    brightValid := x.brightValid && owns 8 0
    brightLevel := if owns 8 0 then x.brightLevel else 0
    pumpReq := if owns 9 0 then x.pumpReq else 0
    nvuSel := if im.holds f 6 x.nvuSel then x.nvuSel else firstArea im f }

/-- A facet after the structure is applied: removed, added, or continuing with the copies of an unchanged section (R58,
R456); `run` marks a switch at run time, which alone sets GRANTS_CHANGED. -/
def switchFacet (run : Bool) (old : Option Image) (im : Image) (f : Nat) (x : FacetSt) : FacetSt :=
  if !im.defines f then FacetSt.zero
  else
    let y := if !run || !wasDefined old f then facetFresh im f FacetSt.zero
      else if f ≠ 0 ∧ sameSection old im 2 f = false then facetFresh im f x else x
    withdraw im f { y with
      grantsChanged := y.grantsChanged || (run && wasDefined old f && decide (facetView old f ≠ facetView (some im) f)) }

/-- The facet that a port is bound to (R69); in the shipping lattice port A is bound to F0 (R60). -/
def boundTo (im : Option Image) (p : Nat) : Option Facet :=
  match im with
  | none => if p = 0 then some 0 else none
  | some i => match i.facRecs.find? fun r => nbit r.ports p with
    | none => none
    | some r => if h : r.facet < 5 then some ⟨r.facet, h⟩ else none

/-- A port after the structure is applied: a changed binding resets it, but for its counters (R453). -/
def rebind (b : Option Facet) (p : PortSt) : PortSt :=
  if p.facet = b then p
  else { PortSt.zero with facet := b, frames := p.frames, crcErr := p.crcErr, fmtErr := p.fmtErr, busy := p.busy, untaken := p.untaken }

/-- The user areas of facets that the structure removes or adds are zeroed (Table 1-12). -/
def clearAreas (old : Option Image) (im : Image) (m : List Host.Cell) : List Host.Cell :=
  (List.range 5).foldl (fun m a =>
    let gone := match old with
      | none => false
      | some o => (o.owners 6 a).any fun f => !im.defines f
    let come := (im.owners 6 a).any fun f => !wasDefined old f
    if a ≠ 0 ∧ (gone || come) = true then memClear m (areaBase a) (areaBase a + 0x2000) else m) m

/-! ### Sets, generators and the thermal model -/

/-- ACC_CLEAR (R59). -/
def accClear (s : State) : State :=
  { s with
    nrg := { s.nrg with
      sets := vmap s.nrg.sets fun _ e => { e with acc := Vector.replicate 8 0, disc := 0, setl := 0 }
      cf := vmap s.nrg.cf fun _ c => cfClear c }
    flw := { s.flw with vol := vmap s.flw.vol fun _ v => { v with fwd := 0, rev := 0, held := 0, unmeas := 0, holdT := 0 } }
    pq := { s.pq with counts := Vector.replicate 12 0, durs := Vector.replicate 3 0 }
    sto := { s.sto with highWords := s.sto.highWords.map fun _ => 0 } }

/-- Every gate starts set; at a switch each change of a gate queues CREEP_CHANGE (R172). -/
def gatesStart (run : Bool) (s : State) : State :=
  let s1 := gatesSet s
  let es := (List.range 6).flatMap fun k =>
    let a := enSet s k
    let b := enSet s1 k
    evIf (run && (a.gateA != b.gateA || a.gateR != b.gateR))
      { code := 0x0503, sev := 0, who := who s fun f => decide (f = 0) || holdsRes s f 3 k,
        w4 := w32 k, w5 := w32 (b2n b.gateA + 2 * b2n b.gateR) }
  emitAll es s1

/-- A VOLSET 3 that replaces VOLSET 0, or the reverse, starts at zero (R387). -/
def volSwap (old : Option Image) (im : Image) (s : State) : State :=
  let had := fun v => (old.map fun o => o.defs 4 v).getD false
  let zero := fun v => { s with flw := { s.flw with vol := vmod s.flw.vol v fun _ => ⟨0, 0, 0, 0, 0, .invalid, false, false⟩ } }
  if had 0 && im.defs 4 3 && !im.defs 4 0 then zero 3
  else if had 3 && im.defs 4 0 && !im.defs 4 3 then zero 0
  else s

/-- Generators whose SET, ACC or CONST changed are cleared; one whose ENABLE falls ends its pulse too (R175, R180). -/
def cfSwitch (before : State) (s : State) : State :=
  let same := fun (n : Nat) => decide (cfgV before (0x7840 + 16 * n) &&& 0x77 = cfgV s (0x7840 + 16 * n) &&& 0x77)
    && decide (cfgV before (0x7844 + 16 * n) = cfgV s (0x7844 + 16 * n))
  let next := fun (n : Nat) (c : CfSt) =>
    if cfOn s n then (if same n then c else cfClear c) else if cfOn before n then cfOff s.nrg.eng c else c
  { s with nrg := { s.nrg with cf := vmap s.nrg.cf next } }

/-- θ is kept as a fraction of the thermal limit of the new curve (R58, R344). -/
def thetaSwitch (before : State) (s : State) : State :=
  if before.str.isNone = true ∨ kSquare before = kSquare s then setSaf (fun f => { f with theta := before.saf.theta }) s
  else setSaf (fun f => { f with
    theta := vmap before.saf.theta fun _ t => (rnd 153 ((t * kSquare s : Nat) / (kSquare before : Rat))).toNat }) s

/-! ### State blocks (R128) -/

/-- An instance keeps its state block: kernel, channel set, offset and length are unchanged (R128). -/
def sameBlock (old : Option Image) (i : InstRec) : Bool :=
  match old with
  | none => false
  | some o => o.insts.any fun j =>
      decide (j.code = i.code) && decide (j.chans = i.chans) && decide (j.off = i.off) && decide (j.len = i.len)

/-- Instances with a fresh state block, with their indexes. -/
def freshInsts (old : Option Image) (im : Image) : List (Nat × InstRec) :=
  ((List.range im.insts.length).zip im.insts).filter fun x => !sameBlock old x.2

/-- Fresh state blocks are zero; θ is carried by R58. -/
def zeroBlocks (old : Option Image) (im : Image) (s : State) : State :=
  let θ := s.saf.theta
  setSaf (fun f => { f with theta := θ }) ((freshInsts old im).foldl (fun a x => zeroBlock x.1 x.2 a) s)

/-- What the wheel holds of an instance that keeps its state block goes with it to its index in the new image (R128). -/
def carry {α : Type} (old : Option Image) (im : Image) (l : List (Nat × α)) : List (Nat × α) :=
  l.filterMap fun x => do
    let i ← (← old).insts[x.1]?
    let j ← im.insts.findIdx? fun j =>
      decide (j.code = i.code) && decide (j.chans = i.chans) && decide (j.off = i.off) && decide (j.len = i.len)
    pure (j, x.2)

/-! ### Units (R58, R128, R424) -/

/-- A register in the range lo to hi changed. -/
def regsChanged (before s : State) (lo hi : Nat) : Bool :=
  (List.range ((hi - lo) / 4 + 1)).any fun j => decide (cfgV before (lo + 4 * j) ≠ cfgV s (lo + 4 * j))

/-- Unit u's state block is fresh. -/
def unitHit (old : Option Image) (im : Image) (u : Nat) : Bool := (freshInsts old im).any fun x => (unitsOf x.2).contains u

/-- The channels: one that is no longer routed is OFF; while MOD goes on, a changed record runs Table 4-7 from step 3, and an
unchanged one continues; MOD stops with the last channel and starts with the first (R150, R424). -/
def switchChans (old : Option Image) (im : Image) (before s : State) : State :=
  let oldR := fun k => old.bind fun o => o.route k
  let changed := fun k => decide (oldR k ≠ im.route k) || unitHit old im (k + 1)
  let keep := fun (c : ChanSt) => { ChanSt.idle with ovl := c.ovl, lastOvlEvt := c.lastOvlEvt }
  let run := before.pwc.clk.mod
  let one := fun (k : Nat) (c : ChanSt) =>
    if im.routed k = false then keep c else if changed k && run then chanStart 12 c else c
  let s1 := (List.range 8).foldl (fun a k => if changed k then clearFaults (k + 1) a else a)
    { s with
      met := { s.met with ch := vmap s.met.ch one }
      nrg := { s.nrg with hist := vmap s.nrg.hist fun k h => if decide (oldR k ≠ im.route k) then [] else h } }
  let s2 := if decide (oldR 7 ≠ im.route 7) then
      { s1 with met := { s1.met with auxSum := 0, auxCnt := 0, auxX := 0, auxTag := .invalid, auxWorst := .valid, loopFault := false, auxAt := none } }
    else s1
  if s2.whl.state = .running ∧ routesAny s2 = false then
    let s3 := leaveRunning s2
    sourceRound { s3 with pwc := { s3.pwc with clk := { s3.pwc.clk with mod := false } } }
  else if s2.whl.state = .burst ∧ s2.pwc.vmainOk = true ∧ routesAny s2 = true then enterRunning s2
  else sourceRound s2

/-- One flow path: it goes OFF where it no longer exists, and STARTING where it is new, its registers, its tables or its
state block changed; its reference is checked (R58, R128, R213, Table 7-3). -/
def switchPath (old : Option Image) (im : Image) (before : State) (p : Nat) (s : State) : State :=
  if !pathExists s p then
    (if (flowPath s p).state = .off then s else pathStop p .off { s with flw := dropShots p s.flw })
  else
    let lo := if p < 2 then 0x3100 + 0x100 * p else 0x3300
    let tab := if p < 2 then decide ((old.map fun o => o.profile.filter fun x => x.path = p + 1) ≠ some (im.profile.filter fun x => x.path = p + 1))
      else decide ((old.map Image.section_) ≠ some im.section_)
    let new := decide ((flowPath s p).state = .off)
    let common := decide (p < 2) && regsChanged before s 0x3000 0x3008
    let s1 := if new || tab || common || unitHit old im (0x10 + p) || regsChanged before s lo (lo + 0x3C) then
        clearFaults (0x10 + p) (pathStart p (setPath p (fun x => { x with
          nextAt := if new || !geomOk before p then firstAt s p else x.nextAt }) (calLeft p s)))
      else s
    refCheck p s1

/-- The chord link (R243, R257): a new link takes its role and starts; one whose registers or state block changed starts. -/
def switchLink (old : Option Image) (im : Image) (run : Bool) (before : State) (s : State) : State :=
  let had := run && (old.map fun o => o.has 0x0401).getD false
  let en := bit (cfgV s 0x3800) 2
  if !pathExists s 2 then linkState .off (Config.otherCause 1) (if had && s.chd.leader then closeBankInterval s else s)
  else if !had then
    let s1 := setChd (fun c => { c with nextAt := s.aon }) (restoreRole s)
    if en then linkEnter (Config.otherCause 4) (clearFaults 0x18 s1) else s1
  else if !en then linkState .off (Config.otherCause 1) s
  else if unitHit old im 0x18 || regsChanged before s 0x3800 0x3810 then linkEnter (Config.otherCause 4) (clearFaults 0x18 s)
  else s

/-- The gauge (Table 10-4). -/
def switchGauge (old : Option Image) (im : Image) (before : State) (s : State) : State :=
  if !gaugeOn s then setBat (fun b => { b with state := .off }) s
  else if s.bat.state = .off ∨ unitHit old im 0x20 = true ∨ regsChanged before s 0x4000 0x4018 = true
      ∨ regsChanged before s 0x4040 0x4168 = true then clearFaults 0x20 (batEnter s)
  else s

/-- The SDI-12 port (R277): an open transaction fails; a slot whose registers and bit in each channel set are unchanged keeps
its values; due times run from now (R271). -/
def switchSdi (old : Option Image) (im : Image) (run : Bool) (before : State) (s : State) : State :=
  let s1 := match s.sdi.txn with
    | none => s
    | some t => if t.shot then shotEnd (if t.anyChar then 3 else 2) [] s else sdiFail t.slot (if t.anyChar then 5 else 4) s
  let s2 := (List.range 8).foldl (fun a k => if (sdiSlot a k).pendN.isSome then sdiFail k 4 a else a) s1
  let setOf := fun (i : Option Image) (k : Nat) => show List Nat from
    (i.map fun x => (x.insts.filter fun j => nbit j.chans (16 + k)).map InstRec.code).getD []
  let same := fun (k : Nat) => run && decide (scfg before k = scfg s k) && decide (sper before k = sper s k) && decide (setOf old k = setOf (some im) k)
  let s3 := { s2 with sdi := { s2.sdi with
    base := s.aon
    slots := vmap s2.sdi.slots fun k x =>
      { (if same k then x else { SdiSlot.zero with fails := x.fails, scount := x.scount, sretry := x.sretry }) with due := false } } }
  let s4 := { s3 with sdi := { s3.sdi with slots := vmap s3.sdi.slots fun k x => { x with dueAt := nextDue s3 k } } }
  { s4 with sdi := { s4.sdi with sdp := sdpIdle s4 } }

/-- A running display whose registers, but for its tiles, or whose KD-REND block changed is STARTING again: its rails are up, so
it goes on from step 4 of Table 11-6 (R58, R128). The tiles alone are R328's, which has frames go on. DESIGN CHOICE, log 88. -/
def switchDisplay (old : Option Image) (im : Image) (before s : State) : State :=
  let hit := unitHit old im 0x28 || regsChanged before s 0x4800 0x481C
  if s.dsp.state = .fault ∧ (hit || regsChanged before s 0x4820 0x483C) = true then dspReturn (clearFaults 0x28 s)
  else
    let s1 := dspEval 1 4 s
    if hit = true ∧ s1.dsp.seq = .run then
      let c := Config.otherCause 7
      emit (dspEv s1 .starting c) (setDsp (fun d => { d with state := .starting, seq := .zero 0, cause := c, diverse := none }) s1)
    else s1

/-- The owners that an image's grants give a tile. -/
def tileOwners (i : Option Image) (n : Nat) : List Nat := (i.map fun x => x.owners 5 n).getD []

/-- The display: changed tiles are cleared, every reference is formed anew and one comparison skipped (R58, R328); then R318
is evaluated. -/
def switchTiles (old : Option Image) (im : Image) (s : State) : State :=
  let new := fun n => cfgV s (0x4820 + 4 * n)
  let ch := (List.range 8).filter fun n => decide (new n ≠ tileNow s n) || decide (tileOwners old n ≠ tileOwners (some im) n)
  let m := ch.foldl (fun m n => tileClear (tileClear m (tileNow s n)) (new n)) s.dsp.mem
  setDsp (fun d => { d with
    mem := m
    tile := Vector.ofFn fun (n : Fin 8) => new n.val
    tiles := vmap d.tiles fun n t =>
      { t with exp := if n = 0 then t.exp else tileCrc m (new n), skip := true, run := if ch.contains n then 0 else t.run } }) s

/-! ### The balls -/

/-- The functions of Table 17-4 that drive their ball. -/
def outputFn (fn : Nat) : Bool :=
  [0x04, 0x05, 0x08, 0x0A, 0x0B, 0x0C, 0x10, 0x12, 0x14, 0x15, 0x18, 0x19, 0x1A].contains fn || (decide (0x20 ≤ fn) && decide (fn ≤ 0x25))
    || (decide (0x28 ≤ fn) && decide (fn ≤ 0x2A))

/-- The balls whose record changes at an application and that leave an output function (R468). -/
def leftBalls (old : Option Image) (im : Image) : List Nat :=
  match old with
  | none => []
  | some o => ((o.balls.filter fun b => outputFn b.fn && !im.balls.contains b).map BallRec.ball)

/-! ### The whole application -/

/-- The facets, registers, ports and memories of the new structure, and what depends on them alone (R58, R59, R91, R128,
R172, R387). At a start no register is kept but PWC_EPOCH and the alarm, which continue except after a POR (R417). -/
def applyData (run : Bool) (old : Option Image) (im : Image) (s : State) : State :=
  let time := fun (x : Nat × Word) => !run && !nbit s.pwc.resetCause 0 && decide (x.1 = 0x0820 ∨ x.1 = 0x0824 ∨ x.1 = 0x0828)
  let kept := s.cfg.filter time
  let c := switchRegs (if run then old else none) im s.cfg
  let c1 := if run then c else kept.foldl (fun c x => cfgSet c x.1 x.2) (if nbit s.pwc.resetCause 0 then c else c.filter fun x => !time x)
  { s with
    str := some im, cfg := c1
    fac := vmap s.fac fun f x => switchFacet run old im f x
    port := vmap s.port fun p x => rebind (boundTo (some im) p) x
    cyc := { Cycle.fresh with applied := true, left := leftBalls old im }
    whl := { s.whl with
      sector := 0, ptrs := [], ran := [], stop := [], wrong := []
      pending := carry old im s.whl.pending, halves := carry old im s.whl.halves, recs := carry old im s.whl.recs } }

/-- The units of the new structure, after the register values are in force from this boundary on. -/
def applyUnits (run : Bool) (old : Option Image) (im : Image) (before s : State) : State :=
  let s1 := switchChans old im before s
  let s2 := (List.range 3).foldl (fun a p => switchPath old im before p a) s1
  let s3 := switchGauge old im before (switchLink old im run before s2)
  switchDisplay old im before (switchSdi old im run before s3)

/-- SAFETY or a safety instance record changed (R361). -/
def safetyChanged (old : Option Image) (im : Image) : Bool :=
  let recs := fun (i : Image) => i.insts.filter fun x => isSafetyKernel x.code
  !sameSection old im 3 0 || decide ((old.map recs) ≠ some (recs im))

/-- A ZERO or LEARN that runs as the device becomes SEALED ends with ABORTED: in SEALED it may write nothing (R62, R233). DEDUCED,
log 88. -/
def sealCal (s : State) : State := if s.sec.lifecycle = .sealed ∧ s.flw.cal.status = 1 then calEnd 3 0 s else s

/-- Supply events that end as MOD stops with the last routed channel (R199) are counted before ACC_CLEAR zeroes the counts (R59). -/
def lastSupply (s : State) : State := if s.whl.state = .running ∧ routesAny s = false then truncateSupply s else s

/-- Step 5 of Table 1-11 at run time (R57 to R59). -/
def applyStructure (old : Option Image) (im : Image) (s : State) : State :=
  let s0 := sealCal (abortAll (publishBank s))
  let s1 := applyData true old im s0
  let s2 := pqConfigTakes s1
  let s3 := zeroBlocks old im { s2 with cfgR := s2.cfg, sto := { s2.sto with areas := clearAreas old im s2.sto.areas } }
  let s4 := thetaSwitch s0 (cfSwitch s0 (volSwap old im s3))
  let s5 := switchTiles old im (gatesStart true (if im.accClear then accClear (lastSupply s4) else s4))
  let s6 := applyUnits true old im s0 s5
  prunFollow (if safetyChanged old im then raiseCauses [(26, 0)] s6 else s6)

/-- Step 6: the events, the APPLY mark and the loader (Table 1-11, R49, R65). -/
def finishSwitch (s : State) : State :=
  let s1 := emitAll s.sec.owed s
  loaderIdle (setSec (fun c => { c with owed := [] })
    (setImg (fun m => { m with banks := vmap m.banks fun _ b => { b with apply := false } }) s1))

/-- The bank whose APPLY mark is set. -/
def applyBank (s : State) : Option Nat :=
  (List.range 2).find? fun i => (vget s.img.banks i Bank.empty).apply

/-- STRUCTURE_APPLY: step 5 and 6 at the first round boundary after step 4, or at once while the wheel stands (R57, R424).
Coming from the shipping lattice, the values restored at the start enter the structure's sets and units (R393). -/
def structureApply (s : State) : State :=
  if s.img.step ≠ .apply ∨ (s.whl.state ≠ .stopped ∧ s.whl.sector ≠ 0) then s
  else
    match applyBank s with
    | none => s
    | some i =>
      let im := bankImage (vget s.img.banks i Bank.empty)
      let ship := s.str.isNone
      let s1 := applyStructure s.str im (if ship then restoreInto im s else s)
      let s2 := finishSwitch (if ship then reportUnclosed (setPwc (fun p => { p with shipping := false }) s1) else s1)
      let s3 := evalMode s2
      if s3.pwc.vmainOk then hfxStart s3 else powerSettle (wake s3)
where
  /-- The restored values enter the sets and units that the structure defines (R393); they are set before ACC_CLEAR acts. -/
  restoreInto (im : Image) (s : State) : State :=
    let s1 := restoreAll { s with str := some im, cfg := im.regs, cfgR := im.regs }
    { s1 with str := s.str, cfg := s.cfg, cfgR := s.cfgR }

end Sys2Proof.Machine
end

