-- ==== Sys2Proof/Machine/Start.lean ====
section
/-! DEFINITION. Device resets, the power-fail sequence, SHELF and the start sequence (R35, R38, R44, R50, R389 to R398, R406,
R416, R417, R419 to R423; Tables 13-4 and 14-8 to 14-10). -/

namespace Sys2Proof.Machine

open Sys2Proof

/-! ### What a device reset keeps (Table 14-9) -/

/-- PWC_EPOCH and the alarm, which continue over a reset that is no POR (R417). -/
def keptTime (c : List (Nat × Word)) : List (Nat × Word) := c.filter fun x => decide (x.1 = 0x0820 ∨ x.1 = 0x0824 ∨ x.1 = 0x0828)

/-- The store after a reset: its contents stay, and what its controller held is gone (Table 14-9). -/
def coldSto (t : Sto) : Sto :=
  { t with
    cqueue := [], lastQueued := none, deferred := none, periodAt := 0, restore := none, gap := false, uncl := none, maxS := 0,
    maxPipe := 0, maxChan := 0, commitCount := 0, commitFail := 0, eccCorr := 0, eccUncorr := 0, areaWrites := [], clearing := none
    evHold := false, evq := [] }

/-- The power manager after a reset with the given causes (Tables 14-9 and 14-13, R415 to R417, R419). -/
def coldPwc (por : Bool) (causes : Nat) (s : State) : Pwc :=
  let pf := decide (s.pwc.pf ≠ .none) || (decide (s.pwc.start = .heldInReset) && decide (s.pwc.mode ≠ .shelf))
  if por then { Pwc.por with vioOk := s.pwc.vioOk, resetCause := causes, pfBefore := pf }
  else { Pwc.por with
    pfBefore := pf
    vmainOk := s.pwc.vmainOk, vmainLostAt := s.pwc.vmainLostAt, vioOk := s.pwc.vioOk, aonRc := s.pwc.aonRc, xtalFail := s.pwc.xtalFail
    xtalRestartAt := s.pwc.xtalRestartAt, rtcValid := s.pwc.rtcValid, rtc := s.pwc.rtc, rtcNext := s.pwc.rtcNext, aonCont := true, resetCause := causes
    downMs := min (msUp (s.aon - s.pwc.reqAt)) max32, startAt := s.aon }

/-- Reset release: every register at its reset value, the store, the counters and the image banks kept, the start sequence
at step 0 (R420, R422, R423). The level at TRIPFB is a pin's and stays. -/
def coldState (por : Bool) (causes : Nat) (s : State) : State :=
  { State.reset with
    aon := if por then 0 else s.aon
    cfg := if por then [] else keptTime s.cfg
    img := { Img.idle with banks := s.img.banks }
    sec := s.sec
    sto := coldSto s.sto
    flw := { Flw.idle with refs := s.flw.refs, refHas := s.flw.refHas }
    pq := { Pq.idle with evtIndex := s.pq.evtIndex }
    saf := { Saf.reset with entries := s.saf.entries, dfCount := s.saf.dfCount, fb := s.saf.fb }
    pwc := coldPwc por causes s
    pending := s.pending }

/-! ### Requests for a reset (R392, R420, R421) -/

/-- Some source has requested a reset. -/
def resetAsked (s : State) : Bool := s.pwc.req.nrst || s.pwc.req.safWdt || s.pwc.req.cmd || s.pwc.req.shelf

/-- The RESET commit of the present request has closed (R392); before step 8 of a start and in the shipping lattice none is
made. -/
def resetClosed (s : State) : Bool :=
  decide (s.pwc.start ≠ .served) || s.str.isNone || (match newestClosed s with
    | none => false
    | some n => decide (n.2.kind = .reset) && decide (s.pwc.reqAt ≤ n.2.aon))

/-- A requested reset has its RESET commit queued, but not while a switch is between step 0 and step 6 (R421). -/
def resetCommit (s : State) : State :=
  if resetAsked s && !resetClosed s && decide (s.img.step = .none) && !(s.sto.cqueue.any fun q => decide (q.kind = .reset)) then
    queueCommit .reset s
  else s

/-- A source requests a reset: an open load session is lost first (R421). It has no effect during a power-fail sequence and
in reset. -/
def requestReset (f : ResetReq → ResetReq) (s : State) : State :=
  if s.pwc.pf ≠ .none ∨ s.pwc.start = .heldInReset then s
  else
    let s1 := setPwc (fun p => { p with req := f p.req, reqAt := if resetAsked s then p.reqAt else s.aon }) s
    resetCommit (sessionLost s1)

/-- SHELF (R406): every domain but AON stops. -/
def enterShelf (s : State) : State :=
  let s1 := coldState false 0 s
  setPwc (fun p => { p with mode := .shelf, start := .heldInReset, reqAt := s.aon }) s1

/-- SHELF ends with a device reset of a cause (R406, Table 14-8). -/
def exitShelf (cause : Nat) (s : State) : State := if s.pwc.mode = .shelf then coldState false cause s else s

/-- NRST has been low for 10 µs (R420): from SHELF the device starts at once. -/
def nrst (s : State) : State :=
  if s.pwc.mode = .shelf then exitShelf 4 s else requestReset (fun r => { r with nrst := true }) s

/-- No round close has reached the SAF domain for 1 s while the wheel runs (SAF_WDT, Table 14-8). -/
def safWatchdog (s : State) : State :=
  if s.whl.state = .stopped ∨ s.aon < s.whl.closedAt + 32768 then s else requestReset (fun r => { r with safWdt := true }) s

/-- The requested reset takes effect once its RESET commit has closed; every source present is recorded, and a SHELF command
alone enters SHELF (R392, R406, R421). -/
def deviceReset (s : State) : State :=
  let r := s.pwc.req
  if resetAsked s && resetClosed s && decide (s.img.step = .none) && decide (s.pwc.pf = .none) && decide (s.pwc.start ≠ .heldInReset) then
    if r.nrst || r.safWdt || r.cmd then coldState false (4 * b2n r.nrst + 8 * b2n r.safWdt + 16 * b2n r.cmd) s else enterShelf s
  else s

/-- In the shipping lattice, VMAIN absent for 30 s since the start and no valid frame on port A enter SHELF (R406). -/
def shelfAuto (s : State) : State :=
  if s.pwc.shipping && !s.pwc.vmainOk && !s.pwc.portAFrameSeen && decide (s.pwc.start = .served) && decide (s.pwc.pf = .none)
      && decide (max s.pwc.startAt (s.pwc.vmainLostAt.getD 0) + 30 * 32768 ≤ s.aon) then enterShelf s
  else s

/-- VMAIN_OK rises: it wakes the device from SHELF, else R411 applies (Table 14-4). -/
def vmainQualified (s : State) : State :=
  if s.pwc.mode = .shelf then exitShelf 32 (setPwc (fun p => { p with vmainOk := true, vmainLostAt := none }) s) else vmainReturns s

/-! ### The power-fail sequence (Table 13-4) -/

/-- The open volume interval of every path is closed as unmeasured up to now (Table 13-4, step 1). -/
def closeIntervals (s : State) : State :=
  let one := fun (p v : Nat) (a : State) =>
    if pathExists a p && decide ((flowPath a p).state ≠ .off) && (decide (p < 2) || a.chd.leader) then
      volUnmeasured v ((a.aon - (flowPath a p).from_) * 1000) a
    else a
  let s1 := one 2 3 (one 1 1 (one 0 0 s))
  if pathExists s 0 || pathExists s 1 then volUnmeasured 2 ((s1.aon - s1.flw.qcFrom) * 1000) s1 else s1

/-- The node has fallen below 2.40 V (R389): the load is shed, what the open round has formed is lost, and the FINAL record is
packed from the published bank.
The maxima of the records it abandons go into its marker (R388). Neither before step 8 nor in the shipping lattice is a
record written. `landed` counts the words of a user-area write already in the store, and `cut` is the ring, metrological (false) or
general, whose latest record was being written (R401). -/
def powerFail (landed : Nat) (cut : Option Bool) (s0 : State) : State :=
  let s := { seen s0 with pub := none, sto := { s0.sto with evHold := false, evq := [] } }
  if s.pwc.pf ≠ .none ∨ s.pwc.start = .heldInReset then s0
  else
    let live := decide (s.pwc.start = .served) && s.str.isSome
    let s1 := volRound [0x10, 0x11, 0x12] s
    let s2 := { s1 with flw := { s1.flw with
      path := vmap s1.flw.path fun _ x => { x with pair := none }, queue := [], waited := [], front := none, shot := none, bufs := [] } }
    let s3 := logAbandon cut (areaAbandon landed (emergencyStop (if live then closeIntervals s2 else s2)))
    let s4 := { s3 with
      sdi := { s3.sdi with txn := none, sdp := false }
      chd := { s3.chd with tx := [], rxq := 0 }
      saf := { s3.saf with lvl := (false, false), togB := false }
      whl := { s3.whl with state := .stopped, sector := 0, ran := [], stop := [], wrong := [] }
      sto := { s3.sto with
        cqueue := [], deferred := none
        maxS := s.sto.cqueue.foldl (fun m q => max m q.m4) s3.sto.maxS
        maxPipe := s.sto.cqueue.foldl (fun m q => max m q.m5) s3.sto.maxPipe
        maxChan := s.sto.cqueue.foldl (fun m q => max m q.m6) s3.sto.maxChan }
      pwc := { s3.pwc with
        pf := .writing, reqAt := s.aon, req := ⟨false, false, false, false⟩, mode := .idle, hfxOk := false, hfxStarting := false
        pllLock := false, clk := ⟨false, false, false, false, false⟩ } }
    if live then queueCommit .final s4 else s4

/-- The slot a commit writes: the one that does not hold the newest closed record (R383). -/
def targetSlot (s : State) : Nat :=
  match newestClosed s with
  | none => 0
  | some x => 1 - x.1

/-- The FINAL record has been read back (`e` = 0), or the node fell below 2.00 V and it stays behind its marker without CRC and mark
(1) or without its mark only (2); then the device is held in reset (Table 13-4, steps 2 to 6). -/
def finalClosed (e : Nat) (s : State) : State :=
  if s.pwc.pf = .none then s
  else
    let i := targetSlot s
    let s1 := if s.sto.cqueue.isEmpty then s
      else if e = 0 then setSto (fun t => { t with pfFinal := satInc t.pfFinal }) (commitClose 0 s)
      else
        let t := commitClose 0 s
        setSto (fun u => { u with
          slots := vmod u.slots i fun r => r.map fun x => { x with crcOk := decide (e = 2), marked := false } }) t
    setPwc (fun p => { p with pf := .none, start := .heldInReset, heldAt := s.aon }) s1

/-- 100 ms after step 6 the device starts again, AON having run on (PF_RESTART, Table 14-8). -/
def pfRestart (s : State) : State :=
  if s.pwc.start = .heldInReset ∧ s.pwc.mode ≠ .shelf ∧ s.pwc.heldAt + 3277 ≤ s.aon then coldState false 2 s else s

/-- A power-on reset (Table 14-8). -/
def powerOn (s : State) : State := coldState true 1 s

/-! ### The start sequence, steps 0 to 4 (Table 14-10) -/

/-- A refusal found during a start is shown and counted, and queued at its end (R44). -/
def startRefuse (r : RefuseReg) (seq : Nat) (s : State) : State :=
  setPwc (fun p => { p with startRefusals := p.startRefusals ++ [(r, seq)] }) (noteRefusal r s)

/-- The copies that have gone bad in the security store since the last start (R46, R64). Log 87. -/
def spoilCopies (l : List (Nat × Nat × Nat)) (c : Sec) : Sec :=
  l.foldl (fun c x =>
    if x.1 = 7 then { c with metroEvt := c.metroEvt.spoil x.2.1 x.2.2 }
    else { c with arb := vmod c.arb x.1 fun v => v.spoil x.2.1 x.2.2 }) c

/-- Step 3: words and counter copies, then R393, the AON count of R416, the RTC of R417 and the event sequence of R398. -/
def startRecover (i : StartIn) (s : State) : State :=
  let s1 := setSec (spoilCopies i.spoiled) (i.copies.foldl takeMedian s)
  let s2 := setSto (fun t => { t with
    slots := vmap t.slots fun j r => spoil i.uncorr j r
    markers := vmap t.markers fun j m => spoilMarker i.uncorr j m
    eccCorr := i.corrected, eccUncorr := i.uncorr.length, evtSeq := t.evtMark }) s1
  let s3 := setPwc (fun p => { p with
    startEvents := p.startEvents ++ i.uncorr.map (storeFault 2) ++ (i.copies.filter copiesDiffer).map fun c => storeFault 3 (Config.counterAddr c.1) }) s2
  let s4 := if nbit s.pwc.resetCause 0 then
      let n := latestAon s3 + (s.aon - s.pwc.startAt)
      setPwc (fun p => { p with rtc := n, startAt := latestAon s3 }) { s3 with aon := n }
    else s3
  recover s4

/-- The device runs the shipping lattice: F0 on port A (R60). DEVICE_START, the recovery events and the refusals are queued;
step 8 is not reached. -/
def startShipping (s : State) : State :=
  let s1 := { s with
    str := none, port := vmap s.port fun p x => rebind (boundTo none p) x
    pwc := { s.pwc with shipping := true, start := .served, mode := .idle } }
  let p := s1.pwc
  let ev : Ev := { code := 0x0E01, sev := 1, who := 31, w4 := w32 (p.resetCause + 256 * b2n p.afterPf), w5 := w32 p.downMs }
  let s2 := emitAll (ev :: p.startEvents ++ p.startRefusals.map fun r => refusedEv r.1 r.2) s1
  setPwc (fun p => { p with startEvents := [], startRefusals := [] }) s2

/-! ### Steps 5 to 8 -/

/-- The image of a bank, if a bank is named. -/
def imageOf (s : State) (i : Option Nat) : Option Image := i.map fun k => bankImage (vget s.img.banks k Bank.empty)

/-- The image that a completed activation replaces: that of the other bank, which step 4 left ARMED (R49, Table 1-11). Where the
bank that was ACTIVE at the start failed and became EMPTY, none: every area with an owner is then zeroed (DESIGN CHOICE, log 88). -/
def replacedBy (s : State) (i : Nat) : Option Image := if bankState s (1 - i) = .armed then imageOf s (some (1 - i)) else none

/-- Entry into the safe state by START (R356, R360): counted and reported, without a commit of its own. -/
def startEntry (s : State) : State :=
  let s1 := setSaf (fun f => { f with
    safe := true, cause := 2 ^ 24 + (if anyFn s then 0 else 2 ^ 27), enteredAt := s.aon, entries := satInc f.entries }) s
  emit (safeEnterEv s1) s1

/-- Steps 8 and 9: structure, restored values and presets; DEVICE_START, the recovery events, the refusals, and step 6 of a
completed activation; then the units, and HFX on mains (R50, R58, R59, R360, R386, R393, R423). -/
def startApply (i : Nat) (s : State) : State :=
  let b := vget s.img.banks i Bank.empty
  let im := bankImage b
  let old := if b.apply then replacedBy s i else some im
  let s1 := applyData false old im s
  let s2 := { s1 with cfgR := s1.cfg, sto := { s1.sto with
    areas := if b.apply then clearAreas old im s1.sto.areas else s1.sto.areas, periodAt := s.aon } }
  let s3 := restoreAll s2
  let s4 := if b.apply then (if im.accClear then accClear (volSwap old im s3) else volSwap old im s3) else s3
  let s5 := setPwc (fun p => { p with
    start := .served, shipping := false, startT8 := min 65535 (((s.aon - p.startAt) * 10000 + 16384) / 32768), toData := p.vmainOk })
    (switchTiles old im (gatesStart false s4))
  let p := s5.pwc
  let ev : Ev := { code := 0x0E01, sev := 1, who := 31, w4 := w32 (p.resetCause + 256 * b2n p.afterPf), w5 := w32 p.downMs,
                   w6 := w32 p.startT8, w7 := w32 im.seq }
  let s6 := reportUnclosed (emitAll (ev :: p.startEvents) s5)
  let s7 := emitAll (p.startRefusals.map fun r => refusedEv r.1 r.2) s6
  let s8 := if b.apply then finishSwitch s7 else s7
  let s9 := applyUnits false none im s (startEntry (setPwc (fun p => { p with startEvents := [], startRefusals := [] }) s8))
  let s10 := setPwc (fun p => { p with mode := if p.vmainOk then .meter else .idle, clk := { p.clk with saf := p.vmainOk } }) s9
  if s10.pwc.vmainOk then hfxStart s10 else wake s10

/-- The candidates not yet tried: ACTIVE, or ARMED without the HELD mark, the higher IMAGE_SEQ first and bank A on equal
ones (R50). -/
def nextCandidate (s : State) : Option Nat :=
  let ok := fun i => !s.pwc.tried.contains i && decide (bankState s i = .active ∨ bankState s i = .armed)
  let seq := fun i => (memWord (vget s.img.banks i Bank.empty).mem 0x14).toNat
  if ok 0 && ok 1 then (if seq 0 < seq 1 then some 1 else some 0)
  else if ok 0 then some 0 else if ok 1 then some 1 else none

/-- With no candidate left the shipping lattice runs (R50). -/
def startGoesOn (s : State) : State := if (nextCandidate s).isNone then startShipping s else s

/-- A candidate fails: its bank is EMPTY, and the next one follows (R50). -/
def candidateFails (i : Nat) (r : RefuseReg) (seq : Nat) (s : State) : State :=
  startGoesOn (startRefuse r seq (emptyBank i s))

/-- START_SEQUENCE: steps 0 to 4. The factory data must verify; an ARMED image that its host held back is dropped (R38, R50). -/
def startSequence (i : StartIn) (s : State) : State :=
  if s.pwc.start ≠ .released ∨ s.pwc.pf ≠ .none then s
  else
    let s1 := startRecover i s
    let s2 := setPwc (fun p => { p with
      start := .candidates, tried := []
      wasActive := (List.range 2).find? fun k => decide (bankState s k = .active) }) s1
    if !(i.factoryOk && s.sto.factoryOk && (slotKey s 0).isSome) then startShipping (startRefuse (plainRefusal 0x1E true) 0 s2)
    else
      let held := (List.range 2).filter fun k => decide (bankState s k = .armed) && (vget s.img.banks k Bank.empty).held
      startGoesOn (held.foldl (fun a k => startRefuse (plainRefusal 0x1D true) 0 (emptyBank k a)) s2)

/-- The chosen candidate has passed steps 2 to 4; the structure is applied. -/
def startChosen (i : Nat) (s : State) : State :=
  if bankState s i = .armed then
    startApply i (activateBank i (imageOf s s.pwc.wasActive) (bankImage (vget s.img.banks i Bank.empty)) s)
  else
    startApply i (setImg (fun m => { m with
      banks := vmap m.banks fun j b => if j ≠ i ∧ b.state = .active then { b with state := .armed } else b }) s)

/-- START_CANDIDATE_VERIFIED: the stages have run on the next candidate. A passing ARMED candidate programs its key slots
first, where R37 enrols any (R35, R50). -/
def candidateVerified (s : State) : State :=
  if s.pwc.start ≠ .candidates ∨ s.pwc.pf ≠ .none ∨ s.img.step ≠ .none then s
  else
    match nextCandidate s with
    | none => s
    | some i =>
      let b := vget s.img.banks i Bank.empty
      let ctx : VerCtx := { start := true, received := none, running := imageOf s s.pwc.wasActive,
                            met35 := decide (s.pwc.wasActive = some i), noActive := s.pwc.wasActive.isNone }
      let s1 := setPwc (fun p => { p with tried := p.tried ++ [i] }) s
      match verify s ctx b with
      | some r => candidateFails i r (seqKnown b (some r)) s1
      | none =>
        if decide (b.state = .armed) && !(slotsToProgram s (bankImage b)).isEmpty then setImg (fun m => { m with step := .slots }) s1
        else startChosen i s1

/-- Step 2 at a start: the slots named in `failed` do not read back (R39, R50). -/
def startSlots (failed : List Nat) (s : State) : State :=
  match s.pwc.tried.getLast? with
  | none => s
  | some i =>
    let im := bankImage (vget s.img.banks i Bank.empty)
    let r := programSlots failed (slotsToProgram s im) (setImg (fun m => { m with step := .none }) s)
    if r.2 then startChosen i r.1 else candidateFails i (plainRefusal 0x1C true) im.seq r.1

/-- KEY_SLOTS_PROGRAMMED, at run time and at a start (R39, R50). -/
def keySlots (failed : List Nat) (s : State) : State :=
  if s.img.step ≠ .slots then s
  else if s.pwc.start = .candidates then startSlots failed s
  else resetCommit (slotsProgrammed failed s)

end Sys2Proof.Machine
end

