-- ==== Sys2Proof/Machine/Facets.lean ====
section
/-! DEFINITION. Facets at run time: which word a facet reaches, its FCT, NVU and EVT registers, its requests to shared
actuators, facet resets and port watchdogs (R68 to R95, R399, R402, R449, R450, R454 to R457). -/

namespace Sys2Proof.Machine

open Sys2Proof

/-! ### Blocks, registers and holdings (R74, R454, R455) -/

/-- The byte ranges of blocks 0 to 18 (Table 16-1). -/
def blockRanges : List (Nat × Nat) :=
  [(0x0000, 0x03FF), (0x0400, 0x07FF), (0x0800, 0x0FFF), (0x1000, 0x17FF), (0x1800, 0x1FFF), (0x2000, 0x27FF), (0x2800, 0x2FFF),
   (0x3000, 0x37FF), (0x3800, 0x3BFF), (0x3C00, 0x3FFF), (0x4000, 0x47FF), (0x4800, 0x4FFF), (0x5000, 0x5FFF), (0x6000, 0x67FF),
   (0x6800, 0x6FFF), (0x7000, 0x77FF), (0x7800, 0x7FFF), (0x8000, 0x9FFF), (0xF000, 0xFFFF)]

/-- The block of an offset; none between 0xA000 and 0xEFFF and beyond the window (R454, R432). -/
def blockOf (off : Nat) : Option Nat := blockRanges.findIdx? fun r => decide (r.1 ≤ off) && decide (off ≤ r.2)

/-- The offsets that carry a register, as ranges, but for the tables of regAt (Tables 16-2 to 16-19). -/
def regRanges : List (Nat × Nat) :=
  [(0x0000, 0x0024), (0x0040, 0x005C), (0x0400, 0x0438), (0x0440, 0x0444), (0x0460, 0x047C), (0x0800, 0x0840), (0x1000, 0x10D4),
   (0x1100, 0x11C8), (0x11D0, 0x11D8), (0x11E0, 0x11E8), (0x11F0, 0x11F8), (0x1200, 0x1200), (0x1210, 0x1218), (0x1220, 0x1228),
   (0x1230, 0x1238), (0x1240, 0x1240), (0x1800, 0x1808), (0x1810, 0x1818), (0x1820, 0x1828), (0x1874, 0x1890), (0x18A0, 0x18A8),
   (0x18B0, 0x18B8), (0x18F4, 0x193C), (0x1974, 0x19C8), (0x19F4, 0x19FC), (0x2400, 0x24FC), (0x2800, 0x2808), (0x2810, 0x2820),
   (0x2830, 0x2850), (0x2860, 0x2868), (0x2870, 0x2878), (0x2880, 0x2888), (0x2890, 0x2898), (0x28A0, 0x28A8), (0x28B0, 0x28B4),
   (0x28C0, 0x28C0), (0x3000, 0x3018), (0x3100, 0x3130), (0x3140, 0x318C), (0x3200, 0x3230), (0x3240, 0x328C), (0x3300, 0x333C),
   (0x3340, 0x3374), (0x3800, 0x3814), (0x3820, 0x3854), (0x3C00, 0x3C08), (0x3C10, 0x3C30), (0x4000, 0x401C), (0x4040, 0x4168),
   (0x4200, 0x422C), (0x4230, 0x4244), (0x4800, 0x48A4), (0x6000, 0x6044), (0x6080, 0x609C), (0x60A4, 0x60AC), (0x6800, 0x680C),
   (0x7100, 0x710C), (0x7120, 0x713C), (0x7800, 0x7828), (0x7830, 0x7830), (0x7840, 0x786C), (0xF000, 0xF018), (0xF100, 0xF134),
   (0xF200, 0xF220), (0xF300, 0xF314)]

/-- An offset carries a register: a range above, an energy set's accumulator or information word (Table 16-7), a harmonic
register (Table 16-8) or a register of an SDI-12 slot (Table 16-12). -/
def hasReg (off : Nat) : Bool :=
  (regRanges.any fun r => within off r.1 r.2)
    || (within off 0x2000 0x23FC && (decide (off % 16 ≠ 12) || decide (off % 128 < 0x40)))
    || (within off 0x2980 0x2FFC && decide ((off - 0x2980) % 0xD0 ≤ 0xCC))
    || (within off 0x3C40 0x3F3C && decide ((off - 0x3C40) % 0x60 ≤ 0x50))

/-- How a facet holds a resource (R75). -/
inductive Hold where
  | none | read | owner
  deriving DecidableEq, Repr

/-- Facet f's holding of a resource by grants. -/
def resHold (s : State) (f cls idx : Nat) : Hold :=
  if ownsRes s f cls idx then .owner else if holdsRes s f cls idx then .read else .none

/-- The best of several holdings. -/
def bestHold (hs : List Hold) : Hold := if hs.contains .owner then .owner else if hs.contains .read then .read else .none

/-- Facet f holds some user area (R455). -/
def anyArea (s : State) (f : Nat) : Bool := (List.range 4).any fun a => holdsRes s f 6 (a + 1)

/-- Facet f is the acknowledging facet (R377). -/
def acksSafe (s : State) (f : Nat) : Bool := decide (ackFacet s = some f)

/-- Facet f's holding of the resource or block an offset of block b belongs to; none where the offset lies in no resource's
range (R455, Table 16-18). F0 writes the SAF block (R61, R372); each holder of a user area acts on its own selection. -/
def wordHold (s : State) (f b off : Nat) : Option Hold :=
  if b = 4 then (if off < 0x1A00 then some (resHold s f 2 ((off - 0x1800) / 0x80)) else none)
  else if b = 5 then
    (if off < 0x2400 then some (resHold s f 3 ((off - 0x2000) / 0x80))
     else if off < 0x2500 then some (resHold s f 4 ((off - 0x2400) / 0x40)) else none)
  else if b = 16 then
    (if off ≤ 0x7814 then some (resHold s f 7 ((off - 0x7800) / 4))
     else if off = 0x7818 ∨ off = 0x7824 then some (resHold s f 8 0)
     else if off = 0x781C ∨ off = 0x7828 then some (resHold s f 9 0)
     else if off = 0x7820 then some (bestHold ((List.range 6).map fun n => resHold s f 7 n))
     else if off = 0x7830 then some (if acksSafe s f then .owner else .none)
     else if 0x7840 ≤ off ∧ off ≤ 0x786C then some (resHold s f 7 (6 + (off - 0x7840) / 16))
     else none)
  else if b = 14 ∨ b = 17 then some (if anyArea s f then .owner else .none)
  else if b = 13 ∧ f = 0 then some .owner
  else some (if ownsBlock s f b then .owner else if readsBlock s f b then .read else .none)

/-- Facet f holds some resource of a block held through resources (R455). -/
def holdsAny (s : State) (f b : Nat) : Bool :=
  let some_ := fun cls n => (List.range n).any fun i => holdsRes s f cls i
  if b = 4 then some_ 2 4
  else if b = 5 then some_ 3 8 || some_ 4 4
  else if b = 16 then some_ 7 9 || some_ 8 1 || some_ 9 1 || acksSafe s f
  else false

/-! ### Outcomes of a word (R76) -/

/-- The outcome of one word (Table 2-3). -/
inductive WordOut where
  | ok | denied | unmapped
  deriving DecidableEq, Repr

/-- The outcome of a word at an offset for facet f, `wr` for a write (R60, R75, R76, R82, R455). -/
def outcomeOf (s : State) (f off : Nat) (wr : Bool) : WordOut :=
  match blockOf off with
  | none => .unmapped
  | some b =>
    if s.str.isNone ∧ b ≠ 0 ∧ b ≠ 1 ∧ b ≠ 18 then .unmapped
    else if b = 12 then
      (if (List.range 2).any fun g => if wr then groupWrites s f (off - 0x5000) g else groupReads s f (off - 0x5000) g
       then .ok else .denied)
    else match wordHold s f b off with
      | none => if holdsAny s f b then .unmapped else .denied
      | some h =>
        if h = .none then .denied
        else if b = 17 then
          (let a := (facet s f).nvuSel
           if (if wr then ownsRes s f 6 a else holdsRes s f 6 a) then .ok else .denied)
        else if !hasReg off then .unmapped
        else if wr && decide (h = .read) then .denied
        else .ok

/-- One Denied word is counted, and reported to the facet at most once per second (R79, R80). -/
def countDenied (f p off : Nat) (wr : Bool) (s : State) : State :=
  let x := facet s f
  let due := match x.lastDeniedAt with
    | none => true
    | some t => decide (t + 32768 ≤ s.aon)
  let rd := if wr then x.deniedRd else satInc x.deniedRd
  let w := if wr then satInc x.deniedWr else x.deniedWr
  let last := pack [(0, off % 65536), (16, p), (18, b2n wr)]
  emitAll (evIf due { code := 0x0202, sev := 0, who := 2 ^ f, w4 := w32 rd, w5 := w32 w, w6 := last })
    (setFacet f (fun y => { y with
      deniedRd := rd, deniedWr := w, lastDenied := last, lastDeniedAt := if due then some s.aon else y.lastDeniedAt }) s)

/-- n Unmapped words are counted (R79). -/
def countUnmapped (f n : Nat) (s : State) : State := setFacet f (fun x => { x with unmapped := satAdd x.unmapped n }) s

/-- Counts a word by its outcome. -/
def countWord (f p off : Nat) (wr : Bool) (o : WordOut) (s : State) : State :=
  match o with
  | .ok => s
  | .denied => countDenied f p off wr s
  | .unmapped => countUnmapped f 1 s

/-! ### The FCT block (R83) -/

/-- A port's state. -/
def port (s : State) (p : Nat) : PortSt := vget s.port p PortSt.zero

/-- Changes a port's state. -/
def setPort (p : Nat) (g : PortSt → PortSt) (s : State) : State := { s with port := vmod s.port p g }

/-- Port p is bound to facet f (R69). -/
def boundPort (s : State) (f p : Nat) : Bool := decide ((port s p).facet.map Fin.val = some f)

/-- FCT_STATUS (Table 2-6). -/
def fctStatus (s : State) (f : Nat) : Word :=
  let x := facet s f
  pack [(0, x.queue.length), (8, b2n x.evtLost), (9, b2n x.grantsChanged), (10, b2n x.resetSeen), (11, x.resetCause), (13, b2n s.saf.safe)]

/-- The blocks in which facet f owns something: FCT_OWN_MAP (Table 2-4). F0's holdings by Table 2-2 are taken to include IMG, which
it alone writes, and the shipping lattice shows its bits for PWC and EVT like any other (DESIGN CHOICE, log 90). -/
def ownMap (s : State) (f : Nat) : Nat :=
  let some_ := fun cls n => (List.range n).any fun i => ownsRes s f cls i
  maskOf 19 fun b =>
    if b = 5 then some_ 3 8 || some_ 4 4
    else if b = 12 then some_ 5 8
    else if b = 14 ∨ b = 17 then some_ 6 5
    else if b = 16 then some_ 7 9 || some_ 8 1 || some_ 9 1
    else ownsBlock s f b

/-- The blocks in which facet f reads something: FCT_READ_MAP (Table 2-4); tile 0 is read by every facet (R82). -/
def readMap (s : State) (f : Nat) : Nat :=
  let some_ := fun cls n => (List.range n).any fun i => holdsRes s f cls i
  maskOf 19 fun b =>
    if s.str.isNone ∧ b ≠ 0 ∧ b ≠ 1 ∧ b ≠ 18 then false
    else if b = 4 then some_ 2 4
    else if b = 5 then some_ 3 8 || some_ 4 4
    else if b = 12 then some_ 5 8 || tileDef s 0
    else if b = 14 ∨ b = 17 then anyArea s f
    else if b = 16 then some_ 7 9 || some_ 8 1 || some_ 9 1
    else readsBlock s f b

/-- The CONSENT value of facet f, zero for F0 (Table 2-4, R34). -/
def consentBytes (s : State) (f : Nat) : List Byte :=
  match s.str with
  | none => []
  | some im => if f = 0 then [] else ((im.facets.find? fun x => decide (x.facet = f)).map FacetSec.consent).getD []

/-- A register of facet f's FCT block, read through port p (Tables 2-4 to 2-6). -/
def fctRead (s : State) (f p off : Nat) : Word :=
  let x := facet s f
  if off = 0x00 then pack [(0, f), (4, maskOf 3 (boundPort s f)), (8, p), (16, facetMask s)]
  else if off = 0x04 then fctStatus s f
  else if off = 0x08 then w32 x.deniedRd
  else if off = 0x0C then w32 x.deniedWr
  else if off = 0x10 then w32 x.unmapped
  else if off = 0x14 then x.lastDenied
  else if off = 0x1C then pack [(0, x.timeoutMs), (16, maskOf 3 fun q => boundPort s f q && (port s q).wdtAt.isSome)]
  else if off = 0x20 then w32 (ownMap s f)
  else if off = 0x24 then w32 (readMap s f)
  else if 0x40 ≤ off then w32 (leAt (consentBytes s f) (off - 0x40) 4)
  else 0

/-- A write of FCT_STATUS clears the bits written 1 (Table 2-6). -/
def fctStatusWrite (f : Nat) (v : Word) (s : State) : State :=
  setFacet f (fun x => { x with
    evtLost := x.evtLost && !bit v 8, grantsChanged := x.grantsChanged && !bit v 9, resetSeen := x.resetSeen && !bit v 10 }) s

/-- The value a write of TIMEOUT_MS stores (R83). -/
def wdtStored (v : Nat) : Nat := if v = 0 then 0 else max 10 (min 60000 v)

/-- A write of FCT_WDT: TIMEOUT_MS is stored, and every armed watchdog of the facet restarts (R83, R85). -/
def fctWdtWrite (f : Nat) (v : Word) (s : State) : State :=
  let s1 := setFacet f (fun x => { x with timeoutMs := wdtStored (bits v 15 0) }) s
  { s1 with port := vmap s1.port fun q x => if boundPort s f q && x.wdtAt.isSome then { x with wdtAt := some s.aon } else x }

/-- CLR_COUNTERS (R83). -/
def fctClear (f : Nat) (s : State) : State :=
  setFacet f (fun x => { x with deniedRd := 0, deniedWr := 0, unmapped := 0, lastDenied := 0 }) s

/-! ### Facet reset (R84 to R86) -/

/-- The requests that differ between two states of a facet: [5:0] GP, [6] brightness, [7] pump-run (Table 2-12). -/
def requestsChanged (a b : FacetSt) : Nat :=
  maskOf 8 fun n =>
    if n < 6 then decide (vget a.gpReq n 0 ≠ vget b.gpReq n 0)
    else if n = 6 then decide (a.brightLevel ≠ b.brightLevel) || decide (a.brightValid ≠ b.brightValid)
    else decide (a.pumpReq ≠ b.pumpReq)

/-- Facet f's own registers after a facet reset of a cause (Table 2-7). The interval of ACCESS_DENIED is restarted: one second
without a report begins at the reset, also where none was raised before (DESIGN CHOICE, log 38). -/
def facetAfterReset (s : State) (f cause : Nat) (x : FacetSt) : FacetSt :=
  presetRequests s.str f { x with
    deniedRd := 0, deniedWr := 0, unmapped := 0, lastDenied := 0, evtLost := false, grantsChanged := false, resetSeen := true
    resetCause := cause, timeoutMs := wdtReset s.str f, lastDeniedAt := some s.aon }

/-- A port after a facet reset: its frame state, held reply, snapshot and watchdog are reinitialised, its counters of Table
15-12 continue (Table 2-7, R442). -/
def portAfterReset (x : PortSt) : PortSt :=
  { PortSt.zero with
    facet := x.facet, frames := x.frames, crcErr := x.crcErr, fmtErr := x.fmtErr, busy := x.busy, untaken := x.untaken
    spiMode3 := x.spiMode3 }

/-- A facet reset of facet f with a cause, 1 command or 2 watchdog, through port p (R84, R86, R56). -/
def facetReset (f cause p : Nat) (s : State) : State :=
  let x := facet s f
  let y := facetAfterReset s f cause x
  let s1 := setFacet f (fun _ => y) { s with
    port := vmap s.port fun q z => if boundPort s f q then portAfterReset z else z
    sto := { s.sto with areaWrites := s.sto.areaWrites.filter fun w => !boundPort s f w.port.val } }
  let s2 := if f = 0 then sessionLost s1 else s1
  prunFollow (emit { code := 0x0201, sev := 1, who := 2 ^ f, w4 := w32 cause, w5 := w32 p, w6 := w32 (requestsChanged x y) } s2)

/-- A watchdog elapses: port p's facet is reset (R85). -/
def watchdogExpiry (p : Nat) (s : State) : State :=
  match (port s p).facet, (port s p).wdtAt with
  | some f, some t =>
    let ms := (facet s f.val).timeoutMs
    if ms ≠ 0 ∧ t + aonOfMs ms ≤ s.aon then facetReset f.val 2 p s else s
  | _, _ => s

/-- A frame with a matching CRC arms or restarts its port's watchdog (R85). -/
def watchdogKick (p : Nat) (s : State) : State :=
  if (port s p).facet.isSome then setPort p (fun x => { x with wdtAt := some s.aon }) s else s

/-! ### Requests to shared actuators (R87 to R94) -/

/-- A write of RUN, or of ON to a trip-linked output, in the safe state is Locked (R94). -/
def requestLocked (s : State) (off : Nat) (v : Word) : Bool :=
  s.saf.safe && decide (bits v 1 0 = 2)
    && ((decide (0x7800 ≤ off) && decide (off ≤ 0x7814) && tripLinked s ((off - 0x7800) / 4)) || decide (off = 0x781C))

/-- What a request field stores: 3 becomes 1 (Table 2-9). -/
def reqStored (v : Word) : Nat := if bits v 1 0 = 3 then 1 else bits v 1 0

/-- A write of facet f's request register, or of the CLEARED bits of an effect register (Tables 2-9 to 2-11). -/
def iopWrite (f off : Nat) (v : Word) (s : State) : State :=
  if off ≤ 0x7814 then setFacet f (fun x => { x with gpReq := vmod x.gpReq ((off - 0x7800) / 4) fun _ => reqStored v }) s
  else if off = 0x7818 then setFacet f (fun x => { x with brightLevel := bits v 7 0, brightValid := bit v 8 }) s
  else if off = 0x781C then setFacet f (fun x => { x with pumpReq := reqStored v }) s
  else if off = 0x7820 then
    setFacet f (fun x => { x with gpCleared := vmap x.gpCleared fun n c => c && !(bit v (24 + n) && ownsRes s f 7 n) }) s
  else if off = 0x7828 then setFacet f (fun x => { x with pumpCleared := x.pumpCleared && !(bit v 3 && ownsRes s f 9 0) }) s
  else s

/-- A request or effect register as facet f reads it; the request registers of a read holder read 0 (R92). -/
def iopRead (s : State) (f off : Nat) : Word :=
  let x := facet s f
  if off ≤ 0x7814 then (if ownsRes s f 7 ((off - 0x7800) / 4) then w32 (vget x.gpReq ((off - 0x7800) / 4) 0) else 0)
  else if off = 0x7818 then (if ownsRes s f 8 0 then pack [(0, x.brightLevel), (8, b2n x.brightValid)] else 0)
  else if off = 0x781C then (if ownsRes s f 9 0 then w32 x.pumpReq else 0)
  else if off = 0x7820 then gpEffWord s f
  else if off = 0x7824 then brightEffWord s f
  else if off = 0x7828 then pumpEffWord s f
  else 0

/-! ### User areas (R399, R400) -/

/-- NVU_SEL may name an area that the facet holds (Table 13-5). -/
def nvuSelOk (s : State) (f : Nat) (v : Word) : Bool :=
  decide (1 ≤ bits v 2 0) && decide (bits v 2 0 ≤ 4) && holdsRes s f 6 (bits v 2 0)

/-- NVU_CTRL CLEAR with its key, by the owner of the selected area (Table 13-5). -/
def nvuClears (s : State) (f : Nat) (v : Word) : Bool :=
  decide (bits v 7 0 = 1) && decide (bits v 15 8 = 0x5A) && ownsRes s f 6 (facet s f).nvuSel

/-- A register of the NVU block as facet f reads it (Table 13-5). -/
def nvuRead (s : State) (f off : Nat) : Word :=
  let a := (facet s f).nvuSel
  if off = 0x6800 then w32 a
  else if off = 0x6804 then
    pack [(0, a), (3, b2n (ownsRes s f 6 a)), (4, maskOf 4 fun n => holdsRes s f 6 (n + 1)), (8, b2n (decide (s.sto.clearing = some a)))]
  else if off = 0x680C then w32 (vget (facet s f).nvuWrites (a - 1) 0)
  else 0

/-- A word of the user area that facet f selects; every earlier write has landed (R399, R400). -/
def areaRead (s : State) (f off : Nat) : Word :=
  let m := s.sto.areaWrites.foldl (fun m w => w.words.foldl (fun m x => memPutWord m (areaBase w.area + x.1) x.2) m) s.sto.areas
  memWord m (areaBase (facet s f).nvuSel + (off - 0x8000))

/-! ### Event records and logs (R16, R401, R402) -/

/-- The eight words of an event record (Table 0-9). -/
def recWords (r : EvRec) : List Word :=
  [w32 r.seq, w32 r.rtc, w32 (r.rtc / 2 ^ 32 % 65536), pack [(0, r.ev.code), (16, r.ev.unit), (24, r.ev.sev)],
   r.ev.w4, r.ev.w5, r.ev.w6, r.ev.w7]

/-- The ring that facet f has selected, 0 metrological. -/
def logRing (s : State) (f : Nat) : List LogEntry := if (facet s f).logRing = 0 then s.sto.ringM else s.sto.ringG

/-- The log entry that facet f has selected, newest first. -/
def logEntry (s : State) (f : Nat) : Option LogEntry := (logRing s f).reverse[(facet s f).logIndex]?

/-- A log register as facet f reads it (R402, Table 13-6). -/
def logRead (s : State) (f off : Nat) : Word :=
  if off = 0x7104 then
    pack [(0, s.sto.ringM.length), (8, s.sto.ringG.length), (24, b2n ((logEntry s f).any fun e => !nbit e.mask f))]
  else if off = 0x7108 then w32 s.sto.ovwM
  else if off = 0x710C then w32 s.sto.ovwG
  else if 0x7120 ≤ off then
    match logEntry s f with
    | none => 0
    | some e =>
      if nbit e.mask f then (recWords { e.ent with ev := viewEv s f e.ent.ev }).getD ((off - 0x7120) / 4) 0 else 0
  else 0

/-- A write of EVT_LOG_CTRL selects an entry (Table 13-6). -/
def logSelect (f : Nat) (v : Word) (s : State) : State :=
  setFacet f (fun x => { x with logRing := bits v 0 0, logIndex := bits v 15 8 }) s

/-! ### IRQ balls (R449, R450) -/

/-- The interrupt configuration of facet f: EN 1 and all else 0 for F0, else the FACET section's (Table 15-10). -/
def irqCfg (s : State) (f : Nat) : Nat :=
  match s.str with
  | none => 0
  | some im => if f = 0 then 1 else ((im.facets.find? fun x => decide (x.facet = f)).map FacetSec.irq).getD 0

/-- The condition that every IRQ ball of facet f shows (R450). -/
def irqAsserted (s : State) (f : Nat) : Bool :=
  let c := irqCfg s f
  let x := facet s f
  nbit c 0 && ((x.queue.any fun r => decide (c / 4 % 4 ≤ r.ev.sev))
    || (decide (c / 256 % 128 ≠ 0) && decide (c / 256 % 128 ≤ x.queue.length)) || x.evtLost)

end Sys2Proof.Machine
end

