-- ==== Sys2Proof/Machine/Registers.lean ====
section
/-! DEFINITION. The register window: what every register reads, and what a host write of a word does (R13, R14, R20, R81, R89,
R151, R163, R176, R201, R235, R262, R279, R303, R417, R452, R456 to R462; Tables 16-2 to 16-21). -/

namespace Sys2Proof.Machine

open Sys2Proof

/-! ### Reads -/

/-- MTR_CFG_x from the routing record (Table 4-9). -/
def mtrCfg (s : State) (k : Nat) : Word :=
  match routeOf s k with
  | none => 0
  | some r => pack [(0, r.input % 8), (4, r.pga % 8), (8, r.sensor % 16), (16, r.opt % 16), (31, 1)]

/-- A register of Table 4-8; those of a channel that is not routed read 0 (R151). -/
def mtrRead (s : State) (off : Nat) : Word :=
  let k := (off - 0x1000) / 4 % 8
  let c := chan s k
  if off ≤ 0x10BC ∧ routed s k = false then 0
  else if off ≤ 0x101C then mtrCfg s k
  else if off ≤ 0x103C then mtrStat s k
  else if off ≤ 0x105C then i32 c.corrG
  else if off ≤ 0x107C then s32 (rnd 10 (c.avgD * 1000000000000))
  else if off ≤ 0x109C then s32 (rnd 9 (c.avgG * (2 ^ 30 : Nat)))
  else if off ≤ 0x10BC then w32 c.ovl
  else if off = 0x10C0 then s32 s.met.dieTemp
  else if off = 0x10C4 then s32 s.met.refCorr
  else if off = 0x10C8 then s32 s.met.refDelta
  else if off = 0x10CC then s32 s.met.auxX
  else if off = 0x10D0 then pack [(0, (auxTagNow s).code), (8, b2n s.met.loopFault), (16, auxSeconds s)]
  else 0

/-- MTR_ACCDEF (Table 5-2). -/
def accDefWord (s : State) : Word := pack [(0, maskOf 8 (setDefined s)), (8, maskOf 8 fun k => setDefined s k && setReverse s k)]

/-- An MQT register: a quantity, or its group's TAG0, TAG1 or STAMP (R163). -/
def mqtRead (s : State) (off : Nat) : Word :=
  let g := (off - 0x1800) / 0x80
  let o := off % 0x80
  if o = 0x74 then mqtTagWord s g 0
  else if o = 0x78 then mqtTagWord s g 16
  else if o = 0x7C then w32 s.nrg.stamp
  else (mqtAt s off).val

/-- A register of energy set k but for its stamp (Tables 5-5 and 5-6). -/
def setWord (s : State) (k o : Nat) : Word :=
  let e := enSet s k
  if o % 16 < 12 then w32 (vget e.acc (o / 16) 0 / 2 ^ (32 + 32 * (o % 16 / 4)))
  else if o = 0x1C then w32 e.disc
  else if o = 0x2C then w32 e.setl
  else if o = 0x3C then
    pack [(0, b2n (setDefined s k)), (1, b2n (setReverse s k)), (2, b2n e.gateA), (3, b2n e.gateR), (4, e.tag.code), (6, b2n e.discarding)]
  else 0

/-- A live word of the ACC block but for the stamps, which belong to a port (Tables 5-5, 5-6 and 7-4). -/
def accRead (s : State) (off : Nat) : Word :=
  if off < 0x2400 then setWord s ((off - 0x2000) / 0x80) (off % 0x80) else volWord s ((off - 0x2400) / 0x40) (off % 0x40)

/-- A harmonic register; it reads 0 for a channel outside the KQ-HARM set (R201, Table 6-8). -/
def harmRead (s : State) (off : Nat) : Word :=
  let k := (off - 0x2980) / 0xD0
  let o := (off - 0x2980) % 0xD0
  if !(routed s k && inSet s 0x0202 k) then 0
  else if o = 0 then w32 (vget s.pq.thd k 0)
  else if o = 0xCC then pack [(0, (vget s.pq.hinfoTag k .invalid).code), (16, vget s.pq.hinfoStamp k 0 % 65536)]
  else w32 ((vget s.pq.harm k []).getD (o / 4 - 1) 0)

/-- KQ-HALF's channel set holds a channel, and it is routed (R201). -/
def halfHas (s : State) (k : Nat) : Bool := routed s k && inSet s 0x0201 k

/-- A register of the PQ block (Table 6-4); one of a channel that is not routed or not in the KQ-HALF set reads 0 (R201). -/
def pqRead (s : State) (off : Nat) : Word :=
  let q := s.pq
  let cnt := fun t => if evaluated s (off % 16 / 4) then w32 (vget q.counts (4 * t + off % 16 / 4) 0) else 0
  let three := fun k => halfHas s k && halfHas s (k + 1) && halfHas s (k + 2)
  if off ≤ 0x2808 then cfgV s off
  else if off = 0x2810 then pqStatus s
  else if off = 0x2814 then w32 q.freqMeas
  else if off = 0x2818 then w32 q.freq10
  else if off = 0x281C then w32 q.fbCount
  else if off = 0x2820 then w32 (min max32 (msOf (fbTime s * 1000)))
  else if off ≤ 0x2838 then (let j := (off - 0x2830) / 4; if evaluated s j then w32 (vget q.hrms j 0) else 0)
  else if off = 0x283C then pack ((List.range 3).map fun j => (2 * j, (vget q.hrmsTag j .invalid).code))
  else if off ≤ 0x284C then
    (if three (if off ≤ 0x2844 then 0 else 3) then w32 (vget q.imb ((off - 0x2840) / 4) 0) else 0)
  else if off = 0x2850 then pack ((List.range 4).map fun j => (2 * j, (vget q.imbTag j .invalid).code))
  else if off ≤ 0x2868 then cnt 0
  else if off ≤ 0x2878 then cnt 1
  else if off ≤ 0x2888 then cnt 2
  else if off ≤ 0x2898 then w32 (vget q.counts (4 * ((off - 0x2890) / 4) + 3) 0)
  else if off ≤ 0x28A8 then w32 (vget q.durs ((off - 0x28A0) / 4) 0)
  else if off = 0x28B4 then w32 q.evtIndex
  else if off = 0x28C0 then w32 q.wstamp
  else if 0x2980 ≤ off then harmRead s off
  else 0

/-- A register of the FLW block; those of a path that does not exist read 0 (R235, R262). -/
def flwRead (s : State) (off : Nat) : Word :=
  if off ≤ 0x3008 then cfgV s off
  else if off = 0x3010 then calStat s
  else if off = 0x3014 then pack [(4, s.flw.qcTag.code), (8, b2n s.flw.qcSingle)]
  else if off = 0x3018 then s32 (rnd 73 ((s.flw.qc : Rat) / 1000))
  else if off < 0x3100 then 0
  else
    let p := (off - 0x3100) / 0x100
    if !pathExists s p then 0
    else if off % 0x100 < 0x40 then cfgV s off
    else if p < 2 then pathRead s p (off % 0x100)
    else bankRead s off

/-- A register of the SDI block (Tables 9-3 and 9-4). -/
def sdiRead (s : State) (off : Nat) : Word :=
  if off = 0x3C00 then cfgV s off
  else if off = 0x3C08 then sdiStat s
  else if off < 0x3C10 then 0
  else if off ≤ 0x3C30 then identWord s ((off - 0x3C10) / 4)
  else
    let k := (off - 0x3C40) / 0x60
    let o := (off - 0x3C40) % 0x60
    if o ≤ 4 then cfgV s off else slotRead s k o

/-- A register of the BAT block (R291, R303). -/
def batBlockRead (s : State) (off : Nat) : Word :=
  if 0x4040 ≤ off ∧ off ≤ 0x4168 then batTab s off
  else if off ≤ 0x4018 then (if s.bat.state = .off then 0 else cfgV s off)
  else batRead s off

/-- A CF register (Table 5-8). -/
def cfRead (s : State) (off : Nat) : Word :=
  let n := (off - 0x7840) / 16
  let c := cfGen s n
  let o := off % 16
  if o < 8 then cfgV s off
  else if o = 8 then w32 c.count
  else pack [(0, min c.backlog 65535), (16, b2n c.overrun), (17, b2n (decide (0 < c.backlog)))]

/-- The identity registers (R461, R462). -/
def identityRead (s : State) (off : Nat) : Word :=
  let ok := s.sto.factoryOk
  if off = 0xF000 then w32 diagId
  else if off = 0xF004 then w32 catalogue
  else if off = 0xF008 then 0x00010001
  else if off = 0xF00C then (if ok then Config.order else 0)
  else if off = 0xF010 then (if ok then Config.serial0 else 0)
  else if off = 0xF014 then (if ok then Config.serial1 else 0)
  else if off = 0xF018 then
    pack [(0, b2n ok), (1, b2n (slotKey s 0).isSome), (16, if ok then Config.probeDate.toNat else 0)]
  else 0

/-- The wheel's and the store's registers in DIAG (Tables 3-10 and 13-7). -/
def diagRead (s : State) (off : Nat) : Word :=
  let w := s.whl
  let t := s.sto
  match off with
  | 0xF100 => wheelStatus s
  | 0xF104 => roundWord s
  | 0xF108 => w32 w.consist
  | 0xF10C => w32 w.shadow
  | 0xF110 => w32 w.eccCorr
  | 0xF114 => w32 w.eccUncorr
  | 0xF118 => w32 w.sampleLost
  | 0xF11C => w32 w.shotDefer
  | 0xF120 => w32 w.commitMerged
  | 0xF124 => w32 w.linkQloss
  | 0xF128 => w32 w.sdiQloss
  | 0xF12C => w32 w.hostTxloss
  | 0xF130 => w32 w.guards
  | 0xF134 => scrubWord s
  | 0xF200 => cfgV s off
  | 0xF204 => commitStat s
  | 0xF208 => w32 t.commitCount
  | 0xF20C => w32 t.commitFail
  | 0xF210 => w32 t.pfFinal
  | 0xF214 => w32 t.unclosed
  | 0xF218 => w32 t.unclMs
  | 0xF21C => pack [(0, min t.eccCorr 65535), (16, min t.eccUncorr 65535)]
  | 0xF220 => w32 t.evtSeq
  | _ => 0

/-- The mode of port p: 0 SPI, 1 UART, 2 I2C (R428). -/
def portMode (s : State) (p : Nat) : Nat := if p < 2 then 0 else (s.str.map Image.portcMode).getD 0

/-- The registers of the port that carries the read (R452, Table 15-12). -/
def portRead (s : State) (p off : Nat) : Word :=
  let x := port s p
  match off with
  | 0xF300 => pack [(0, p), (2, portMode s p), (4, (x.facet.map Fin.val).getD 0), (8, b2n x.spiMode3)]
  | 0xF304 => w32 x.frames
  | 0xF308 => w32 x.crcErr
  | 0xF30C => w32 x.fmtErr
  | 0xF310 => w32 x.busy
  | 0xF314 => w32 x.untaken
  | _ => 0

/-- A register of a kernel's outputs, or of the units and quantities beside them (chapters 04, 05, 07, 08 and 10). -/
def kernelRead (s : State) (off : Nat) : Word :=
  if off < 0x1100 then mtrRead s off
  else if off < 0x2800 then accRead s off
  else if off < 0x3800 then flwRead s off
  else if off < 0x3C00 then (if !pathExists s 2 then 0 else if off ≤ 0x3810 then cfgV s off else chdRead s off)
  else batBlockRead s off

/-- The value of a register for facet f through port p, without the rules of a snapshot: kernel outputs are read from the published
bank (R103). A WO register reads 0. -/
def liveRead (s : State) (f p off : Nat) : Word :=
  if off < 0x0400 then fctRead s f p off
  else if off < 0x0800 then imgRead s off
  else if off < 0x1000 then (if within off 0x0820 0x0828 then cfgV s off else pwcRead s off)
  else if off < 0x1100 then kernelRead (seen s) off
  else if off < 0x1240 then cfgV s off
  else if off < 0x1800 then accDefWord s
  else if off < 0x2000 then mqtRead s off
  else if off < 0x2800 then kernelRead (seen s) off
  else if off < 0x3000 then pqRead s off
  else if off < 0x3C00 then kernelRead (seen s) off
  else if off < 0x4000 then sdiRead s off
  else if off < 0x4800 then kernelRead (seen s) off
  else if off < 0x5000 then (if off ≤ 0x4808 ∨ within off 0x4810 0x483C then cfgV s off else dspRead s off)
  else if off < 0x6800 then (if off ≤ 0x6044 then cfgV s off else safRead s off)
  else if off < 0x7000 then nvuRead s f off
  else if off < 0x7800 then logRead s f off
  else if off < 0x7840 then iopRead s f off
  else if off < 0x8000 then cfRead s off
  else if off < 0xF100 then identityRead s off
  else if off < 0xF300 then diagRead s off
  else portRead s p off

/-! ### Snapshots (R20, R81, R457, R458) -/

/-- The word 0 of the accumulator or pair that a word belongs to, and the word's place in it. -/
def snapKey (off : Nat) : Option (Nat × Nat) :=
  if 0x2000 ≤ off ∧ off < 0x2500 then (if off % 16 < 12 then some (off / 16 * 16, off % 16 / 4) else none)
  else if [0x0810, 0x0818, 0x3824, 0x4210, 0x4218].contains off then some (off, 0)
  else if [0x0814, 0x081C, 0x3828, 0x4214, 0x421C].contains off then some (off - 4, 1)
  else none

/-- A stamp register of a set and the range of the set's words (Tables 5-6 and 7-4). -/
def stampSet (off : Nat) : Option (Nat × Nat) :=
  if 0x2000 ≤ off ∧ off < 0x2400 ∧ off % 0x80 = 0x0C then some (off - 0x0C, off + 0x73)
  else if 0x2400 ≤ off ∧ off < 0x2500 ∧ off % 0x40 = 0x0C then some (off - 0x0C, off + 0x33)
  else none

/-- The snapshot that a READ of word 0 takes. -/
def takeSnap (s : State) (f p base : Nat) : Snapshot :=
  { base := base, round := s.whl.rounds
    words := (List.range (if 0x2000 ≤ base ∧ base < 0x2500 then 3 else 2)).map fun i => liveRead s f p (base + 4 * i) }

/-- What an OK register word returns: `coh` marks READ-COHERENT, which ignores the snapshot (R439). -/
def regValue (s : State) (f p off : Nat) (coh : Bool) : Word :=
  let snap := if coh then none else (port s p).snap
  match stampSet off with
  | some r => match snap with
    | some n => if r.1 ≤ n.base ∧ n.base ≤ r.2 then w32 n.round else roundWord s
    | none => roundWord s
  | none => match snapKey off, snap with
    | some (base, i), some n => if i ≠ 0 ∧ n.base = base then n.words.getD i 0 else liveRead s f p off
    | _, _ => liveRead s f p off

/-- What reading a register changes: a READ of word 0 takes the port's snapshot, and an owner's read of CHD_STAT clears
SECOND_LEADER (R75, R81, R458). -/
def regTouch (f p off : Nat) (coh : Bool) (s : State) : State :=
  let s1 := match snapKey off with
    | some (base, 0) => if coh then s else setPort p (fun x => { x with snap := some (takeSnap s f p base) }) s
    | _ => s
  if off = 0x3820 ∧ ownsRes s f 1 8 = true then setChd (fun c => { c with second := false }) s1 else s1

/-- The value of an OK word of any kind. -/
def wordValue (s : State) (f p off : Nat) (coh : Bool) : Word :=
  if 0x5000 ≤ off ∧ off < 0x6000 then fmRead s f (off - 0x5000)
  else if 0x8000 ≤ off ∧ off < 0xA000 then areaRead s f off
  else regValue s f p off coh

/-! ### Writes: outcomes that depend on the value -/

/-- A CF source set is not defined, or not granted to the facet that owns the output (R176). -/
def cfSetBad (s : State) (f : Nat) (cfg : Word) : Bool :=
  bit cfg 17 && !(setDefined s (bits cfg 2 0) && holdsRes s f 3 (bits cfg 2 0))

/-- A word that is Denied for its value: NVU_SEL naming an area not held, and a CF register that would leave a generator
enabled on a bad source set (R176, R399). -/
def valueDenied (s : State) (f off : Nat) (v : Word) : Bool :=
  if off = 0x6800 then !nvuSelOk s f v
  else if 0x7840 ≤ off ∧ off ≤ 0x786C ∧ s.sec.lifecycle ≠ .sealed then
    (if off % 16 = 0 then cfSetBad s f v else if off % 16 = 4 then cfSetBad s f (cfgV s (off - 4)) else false)
  else false

/-- A word whose field R14 locks: a RWL register in SEALED, a gauge table register with TABLES 0, a request under R94, and a
calibration command in SEALED (R62, R233, R291). -/
def wordLocked (s : State) (off : Nat) (v : Word) : Bool :=
  let sealed_ := decide (s.sec.lifecycle = .sealed)
  requestLocked s off v
    || (sealed_ && (specOf off).any RegSpec.locked)
    || (within off 0x4040 0x4168 && !bit (cfgV s 0x4000) 4)
    || (decide (off = 0x300C) && sealed_ && decide (bits v 15 8 = 0x5A) && decide (bits v 25 24 ≠ 0)
        && decide (bits v 7 0 = 1 ∨ bits v 7 0 = 2))

/-- The word carries the key 0x5A that a command register asks for. -/
def keyed (v : Word) : Bool := decide (bits v 15 8 = 0x5A)

/-- A command register that its chapter answers Busy (Table 15-6; R51, R233, R257, R358, R406; Table 9-3). -/
def wordBusy (s : State) (f : Nat) (p : Port) (off : Nat) (v : Word) : Bool :=
  let cmd := bits v 7 0
  if off = 0x0404 then decide ((imgCtrl p v s).2 = stBusy)
  else if off = 0x080C then keyed v && decide (cmd = 2) && (s.pwc.vmainOk || decide (s.img.loader ≠ .idle))
  else if off = 0x300C then keyed v && decide (bits v 25 24 ≠ 0) && decide (cmd = 1 ∨ cmd = 2) && decide (s.flw.cal.status = 1)
  else if off = 0x3814 then keyed v && decide (cmd = 1) && (decide (s.chd.state ≠ .run) || swapPending s)
  else if off = 0x3C04 then keyed v && decide (1 ≤ cmd ∧ cmd ≤ 3) && s.sdi.shot.isSome
  else if off = 0x6808 then nvuClears s f v && s.sto.clearing.isSome
  else if off = 0x7830 then keyed v && decide (cmd = 1) && s.saf.safe && !ackReady s
  else false

/-! ### Writes: effects -/

/-- PWC_CTRL (R406, R420, Table 14-11). -/
def pwcCtrl (v : Word) (s : State) : State :=
  if !keyed v then s
  else if bits v 7 0 = 1 then requestReset (fun r => { r with cmd := true }) s
  else if bits v 7 0 = 2 then requestReset (fun r => { r with shelf := true }) s
  else s

/-- FLW_CTRL (R213, R233, R261, Table 7-7). -/
def flwCtrl (v : Word) (s : State) : State :=
  let path := bits v 25 24
  let cmd := bits v 7 0
  if !keyed v || decide (path = 0) then s
  else if cmd = 1 ∨ cmd = 2 then calStart cmd path (bits v 23 16) s.chd.leader s
  else if cmd = 3 then flowRestart path s
  else if cmd = 4 then (if s.flw.cal.status = 1 then calEnd 3 0 s else s)
  else s

/-- CHD_CTRL (R243, R257, Table 8-6). -/
def chdCtrl (v : Word) (s : State) : State :=
  if !keyed v then s
  else if bits v 7 0 = 1 then setChd (fun c => { c with ownReq := true }) s
  else if bits v 7 0 = 2 then linkRestart s
  else s

/-- SDI_CTRL (Table 9-3). -/
def sdiCtrl (v : Word) (s : State) : State :=
  if keyed v && decide (1 ≤ bits v 7 0 ∧ bits v 7 0 ≤ 3) then sdiShot (bits v 7 0) (bits v 23 16) s else s

/-- BAT_CTRL (R302); NEW_CELL changes the gauge's committed values, so a STATE commit follows (R382). -/
def batCtrl (v : Word) (s : State) : State :=
  if !keyed v then s
  else if bits v 7 0 = 1 then commitDue .state (newCell s)
  else if bits v 7 0 = 2 then batRestart s
  else s

/-- DSP_CTRL (R319, R336, R339). -/
def dspCtrl (v : Word) (s : State) : State :=
  if !keyed v then s
  else if bits v 7 0 = 1 then glanceStart 3 s
  else if bits v 7 0 = 2 then dspRestart s
  else if bits v 7 0 = 3 then dspClear s
  else s

/-- IOP_SAFE_ACK by the acknowledging facet with ACK_READY set (R358). -/
def safeAck (f : Nat) (v : Word) (s : State) : State :=
  if keyed v && decide (bits v 7 0 = 1) && ackReady s then safeExit (some f) s else s

/-- The value a write of MTR_FS_x stores: 0 becomes 1 for a routed channel whose full scale is used (R154). -/
def fsStored (s : State) (off : Nat) (v : Word) : Word :=
  let k := (off - 0x1100) / 4
  if v = 0 ∧ routed s k = true ∧ sensorOf s k ≠ 5 ∧ sensorOf s k ≠ 6 then 1 else v

/-- A write of a CF configuration register (R176, R180). -/
def cfWrite (off : Nat) (v : Word) (s : State) : State :=
  let base := off / 16 * 16
  let v1 := if off % 16 = 4 ∧ v = 0 ∧ bit (cfgV s base) 17 = true then 1 else v
  let c := cfgSet s.cfg off v1
  let c1 := if off % 16 = 0 ∧ bit v1 17 = true ∧ cfgV s (off + 4) = 0 then cfgSet c (off + 4) 1 else c
  cfSwitch s { s with cfg := c1 }

/-- A write of a configuration register that is not locked: each field as R496 stores it, then the chapter's own rule. -/
def cfgWrite (off : Nat) (r : RegSpec) (w : Word) (s : State) : State :=
  let v := storeFields r.flds w
  let put := { s with cfg := cfgSet s.cfg off v }
  if off = 0x0818 then rtcStage v s
  else if off = 0x081C then rtcSet v s
  else if off = 0x0820 then epochWrite v s
  else if within off 0x1100 0x111C then { s with cfg := cfgSet s.cfg off (fsStored s off v) }
  else if off = 0x2808 then (if pqThrOk v then put else setPq s { s.pq with thrReject := true })
  else if 0x3000 ≤ off ∧ off < 0x3800 then flowWrite off v s
  else if 0x3800 ≤ off ∧ off < 0x3C00 then chdWrite off v s
  else if off = 0x3C00 then sdiCfgWrite v s
  else if 0x3C40 ≤ off ∧ off < 0x4000 then slotWrite ((off - 0x3C40) / 0x60) off v s
  else if 0x4000 ≤ off ∧ off < 0x4800 then batWrite off v s
  else if 0x4800 ≤ off ∧ off < 0x5000 then dspWrite off v s
  else if 0x6000 ≤ off ∧ off < 0x6800 then safWrite off v s
  else if 0x7840 ≤ off ∧ off < 0x7870 then cfWrite off v s
  else put

/-- Bits written 1 that a status register of a chapter clears (R14, W1C). -/
def statusClear (off : Nat) (v : Word) (s : State) : State :=
  if off = 0x2810 then setPq s { s.pq with thrReject := s.pq.thrReject && !bit v 5 }
  else if off = 0x3140 ∨ off = 0x3240 ∨ off = 0x3340 then
    setPath ((off - 0x3140) / 0x100) (fun x => { x with cfgReject := x.cfgReject && !bit v 15 }) s
  else if 0x3C40 ≤ off ∧ off < 0x4000 then
    setSlot ((off - 0x3C40) / 0x60) (fun x => { x with
      overlong := x.overlong && !bit v 12, range := x.range && !bit v 13, skipped := x.skipped && !bit v 14
      cfgReject := x.cfgReject && !bit v 15 }) s
  else if off = 0x4200 then setBat (fun b => { b with cfgReject := b.cfgReject && !bit v 15 }) s
  else if off = 0x4880 then setDsp (fun d => { d with cfgReject := d.cfgReject && !bit v 11 }) s
  else if off = 0x784C ∨ off = 0x785C ∨ off = 0x786C then
    { s with nrg := { s.nrg with cf := vmod s.nrg.cf ((off - 0x784C) / 16) fun c => { c with overrun := c.overrun && !bit v 16 } } }
  else s

/-- An offset of a SDI-12 slot's status register. -/
def isSlotStat (off : Nat) : Bool := within off 0x3C40 0x3F3C && decide ((off - 0x3C40) % 0x60 = 8)

/-- What an OK word of a WRITE does to a register (R14 and each register's rule). -/
def regWrite (f : Nat) (p : Port) (off : Nat) (v : Word) (s : State) : State :=
  if off = 0x0004 then fctStatusWrite f v s
  else if off = 0x0018 then
    (if !keyed v then s else if bit v 0 then facetReset f 1 p.val s else if bit v 1 then fctClear f s else s)
  else if off = 0x001C then fctWdtWrite f v s
  else if off = 0x0404 then (imgCtrl p v s).1
  else if off = 0x080C then pwcCtrl v s
  else if off = 0x10D4 then (if keyed v then afeRestart (bits v 7 0) s else s)
  else if off = 0x28B0 then (if keyed v && bit v 0 then pqClear s else s)
  else if off = 0x300C then flwCtrl v s
  else if off = 0x3814 then chdCtrl v s
  else if off = 0x3C04 then sdiCtrl v s
  else if off = 0x401C then batCtrl v s
  else if off = 0x480C then dspCtrl v s
  else if off = 0x6800 then setFacet f (fun x => { x with nvuSel := bits v 2 0 }) s
  else if off = 0x6808 then (if nvuClears s f v then setSto (fun t => { t with clearing := some (facet s f).nvuSel }) s else s)
  else if off = 0x7100 then logSelect f v s
  else if 0x7800 ≤ off ∧ off ≤ 0x7828 then iopWrite f off v s
  else if off = 0x7830 then safeAck f v s
  else match specOf off with
    | some r => cfgWrite off r v s
    | none =>
      if [0x2810, 0x3140, 0x3240, 0x3340, 0x4200, 0x4880, 0x784C, 0x785C, 0x786C].contains off || isSlotStat off
      then statusClear off v s else s

end Sys2Proof.Machine
end

