-- ==== Sys2Proof/Machine/HostPorts.lean ====
section
/-! DEFINITION. The host ports: how a request frame is checked, executed and answered, and what happens on a port between
requests (R53, R76 to R82, R89 to R91, R315, R400, R428 to R448, R453). -/

namespace Sys2Proof.Machine

open Sys2Proof

/-! ### Frames (R430 to R432) -/

/-- The command codes of Table 15-4. -/
def cmdWrite : Nat := 0x01
def cmdRead : Nat := 0x02
def cmdCoherent : Nat := 0x03
def cmdStatus : Nat := 0x04
def cmdChunk : Nat := 0x05
def cmdPop : Nat := 0x06

/-- The status of a CRC error (Table 15-5). -/
def stCrc : Nat := 0x10

/-- Bytes 0 to the end of DATA of a request (Table 15-2). -/
def requestBytes (cmd : Nat) (f : Frame) : List Byte :=
  [BitVec.ofNat 8 cmd, f.addr.extractLsb' 8 8, f.addr.extractLsb' 0 8, f.count] ++ f.data.flatMap wordBytes

/-- Whether a command's request carries data words. -/
def carriesData (cmd : Nat) : Bool := decide (cmd = cmdWrite) || decide (cmd = cmdChunk)

/-- The CRC matches (R431). The decoder finds the CRC behind the COUNT words of a WRITE or IMAGE-CHUNK, and behind byte 3 of
any other request; a frame of another length has no matching CRC. -/
def crcOk (cmd : Nat) (f : Frame) : Bool :=
  decide (crc16 (requestBytes cmd f) = f.crc) && decide (f.data.length = if carriesData cmd then f.count.toNat else 0)

/-- The request is in the format of Table 15-4 (R433). -/
def formatOk (cmd : Nat) (f : Frame) : Bool :=
  let n := f.count.toNat
  decide (1 ≤ n) && decide (n ≤ 64)
    && (if cmd = cmdWrite ∨ cmd = cmdRead ∨ cmd = cmdCoherent then decide (f.addr.toNat % 4 = 0)
        else if cmd = cmdPop then decide (n % 8 = 0) else true)

/-- A one-word WRITE frame with its CRC, as a row that names a register stands for. -/
def wordFrame (off : Nat) (v : Word) (w : RegWr) (mode3 : Bool) : Frame :=
  let f : Frame := { port := w.port, same := w.same, mode3 := mode3, addr := BitVec.ofNat 16 off, count := 1, data := [v], crc := 0 }
  { f with crc := crc16 (requestBytes cmdWrite f) }

/-! ### Executing WRITE, READ and READ-COHERENT (R76 to R82, R439) -/

/-- The offsets of a frame's words (R432). -/
def frameOffs (addr n : Nat) : List Nat := (List.range n).map fun k => addr + 4 * k

/-- What a command did: the state, and its reply unless execution goes on or none is sent. -/
inductive Done where
  | reply (s : State) (r : Reply)
  | later (s : State)
  | silent (s : State)

/-- The reply of R77 from the outcomes of the words, before Locked and Busy. -/
def wordsStatus (os : List WordOut) : Option Nat :=
  if os.contains .denied then some stDenied else if os.contains .unmapped then some stUnmapped else none

/-- A reply with words. -/
def mkReply (st cmd : Nat) (ws : List Word) : Reply := { status := st, cmd := cmd, words := ws, pop := [] }

/-- The outcome of one written word, its value included (R76, R176, R399). -/
def writeOut (s : State) (f : Nat) (x : Nat × Word) : WordOut :=
  match outcomeOf s f x.1 true with
  | .ok => if valueDenied s f x.1 x.2 then .denied else .ok
  | o => o

/-- The offset lies in frame memory. -/
def inFrameMem (off : Nat) : Bool := decide (0x5000 ≤ off) && decide (off < 0x6000)

/-- The offset lies in the user area data. -/
def inAreaData (off : Nat) : Bool := decide (0x8000 ≤ off) && decide (off < 0xA000)

/-- The words of a WRITE, each an offset and a value, applied in ascending order within one FAB cycle; a locked word and a
busy command register do nothing (R14, R78, R315, R400; log 33). -/
def applyWords (f : Facet) (p : Port) (xs : List (Nat × Word)) (s : State) : State :=
  let ar := xs.filter fun x => inAreaData x.1
  let s1 := xs.foldl (fun a x =>
    if inFrameMem x.1 then setDsp (fun d => { d with queue := d.queue ++ [(f, x.1 - 0x5000, x.2)] }) a
    else if inAreaData x.1 || wordLocked a x.1 x.2 || wordBusy a f.val p x.1 x.2 then a
    else regWrite f.val p x.1 x.2 a) s
  if ar.isEmpty then s1
  else setSto (fun t => { t with areaWrites := t.areaWrites ++
    [{ port := p, facet := f, area := (facet s f.val).nvuSel, words := ar.map fun x => (x.1 - 0x8000, x.2) }] }) s1

/-- A WRITE by facet f through port p (R77 to R79, R89 to R91, R94, R315, R400, R433, R438). -/
def execWriteFrame (f : Facet) (p : Port) (fr : Frame) (s : State) : Done :=
  let xs := (frameOffs fr.addr.toNat fr.count.toNat).zip fr.data
  let os := xs.map (writeOut s f.val)
  match wordsStatus os with
  | some st => .reply ((xs.zip os).foldl (fun a x => countWord f.val p.val x.1.1 true x.2 a) s) (mkReply st cmdWrite [])
  | none =>
    let clash := xs.any fun x => s.cyc.writes.contains (f, x.1)
    let fm := (xs.filter fun x => inFrameMem x.1).length
    let full := decide (0 < fm) && decide (64 < s.dsp.queue.length + fm)
    let locked := xs.any fun x => wordLocked s x.1 x.2
    let busy := xs.any fun x => wordBusy s f.val p x.1 x.2
    if s.cyc.applied || clash || full || (busy && !locked) then .reply s (mkReply stBusy cmdWrite [])
    else
      let s1 := applyWords f p xs { s with cyc := { s.cyc with writes := s.cyc.writes ++ xs.map fun x => (f, x.1) } }
      let s2 := prunFollow s1
      if xs.any fun x => decide (x.1 = 0x0018) && keyed x.2 && bit x.2 0 then .silent s2
      else if !locked && xs.any (fun x => inAreaData x.1) then .later s2
      else .reply s2 (mkReply (if locked then stLocked else stOk) cmdWrite [])

/-- READ: each word in its own FAB cycle (R439). -/
def readWords (f p : Nat) : List Nat → State → State × List (WordOut × Word)
  | [], s => (s, [])
  | off :: offs, s =>
    let o := outcomeOf s f off false
    let v := if o = .ok then wordValue s f p off false else 0
    let s1 := if o = .ok then regTouch f p off false s else countWord f p off false o s
    let r := readWords f p offs s1
    (r.1, (o, v) :: r.2)

/-- READ-COHERENT: every value from one FAB cycle, then what the reads change (R439). -/
def coherentWords (f p : Nat) (offs : List Nat) (s : State) : State × List (WordOut × Word) :=
  let one := fun off => let o := outcomeOf s f off false; (o, if o = .ok then wordValue s f p off true else 0)
  let step_ := fun (a : State) (off : Nat) =>
    let o := outcomeOf s f off false
    if o = .ok then regTouch f p off true a else countWord f p off false o a
  (offs.foldl step_ s, offs.map one)

/-- A READ or READ-COHERENT (R77, R315, R439); frame memory is read after every queued word has landed. -/
def execReadFrame (coh : Bool) (f : Facet) (p : Port) (fr : Frame) (s : State) : Done :=
  let cmd := if coh then cmdCoherent else cmdRead
  let offs := frameOffs fr.addr.toNat fr.count.toNat
  let s0 := if offs.any inFrameMem then fmLandAll s else s
  let r := if coh then coherentWords f.val p.val offs s0 else readWords f.val p.val offs s0
  if s.cyc.applied && (wordsStatus (offs.map fun o => outcomeOf s f.val o false)).isNone then .reply s (mkReply stBusy cmd [])
  else .reply r.1 (mkReply ((wordsStatus (r.2.map Prod.fst)).getD stOk) cmd (r.2.map Prod.snd))

/-! ### STATUS, IMAGE-CHUNK, EVENT-POP (R51, R53, R440 to R442) -/

/-- The port word of STATUS (R440). -/
def portWord (s : State) (p : Nat) : Word :=
  let x := port s p
  pack [(0, x.prevStatus), (8, x.prevCmd), (16, b2n x.taken), (17, p), (19, b2n x.waiting.isSome)]

/-- IMAGE-CHUNK: Denied word by word for a facet other than F0 (R51, R79, R441). -/
def execChunk (f : Facet) (p : Port) (fr : Frame) (s : State) : Done :=
  if f ≠ 0 then
    .reply ((List.range fr.count.toNat).foldl (fun a k => countDenied f.val p.val (fr.addr.toNat + k) true a) s)
      (mkReply stDenied cmdChunk [])
  else if s.cyc.applied then .reply s (mkReply stBusy cmdChunk [])
  else
    let r := imageChunk p fr.addr.toNat fr.data s
    .reply r.1 (mkReply r.2 cmdChunk [])

/-- EVENT-POP: the acknowledged records leave the head of the queue, and the records then at the head are returned (R442). -/
def execPop (f : Facet) (p : Port) (fr : Frame) (s : State) : Done :=
  if s.cyc.applied then .reply s (mkReply stBusy cmdPop [])
  else
    let q := (facet s f.val).queue
    let ack := fun (r : EvRec) => decide (r.seq % 65536 = fr.addr.toNat) && (port s p.val).popList.contains r.seq
    let rest := match q.findIdx? ack with
      | some i => q.drop (i + 1)
      | none => q
    let out := rest.take (fr.count.toNat / 8)
    .reply (setFacet f.val (fun x => { x with queue := rest }) s)
      { status := stOk, cmd := cmdPop, words := out.flatMap recWords, pop := out.map EvRec.seq }

/-! ### Starting, answering and waiting (R433 to R436) -/

/-- The held reply that was not taken is discarded and counted (R434, R124). -/
def discardHeld (p : Nat) (s : State) : State :=
  let x := port s p
  let lost := x.held.isSome && !x.taken
  setPort p (fun y => { y with held := none, untaken := if lost then satInc y.untaken else y.untaken })
    (if lost then setWhl (fun w => { w with hostTxloss := satInc w.hostTxloss }) s else s)

/-- A frame's reply is held until it is taken (R436). -/
def answer (p : Nat) (r : Reply) (s : State) : State :=
  setPort p (fun x => { x with
    held := some r, taken := false, executing := none, prevStatus := r.status, prevCmd := r.cmd
    busy := if r.status = stBusy then satInc x.busy else x.busy }) s

/-- A frame whose CRC and format hold is executed (R433, step 4). `w` is the port word before the frame started. -/
def execFrame (cmd : Nat) (f : Facet) (p : Port) (fr : Frame) (w : Word) (s : State) : Done :=
  if cmd = cmdWrite then execWriteFrame f p fr s
  else if cmd = cmdRead then execReadFrame false f p fr s
  else if cmd = cmdCoherent then execReadFrame true f p fr s
  else if cmd = cmdStatus then
    (if s.cyc.applied then .reply s (mkReply stBusy cmdStatus []) else .reply s (mkReply stOk cmdStatus [fctStatus s f.val, w]))
  else if cmd = cmdChunk then execChunk f p fr s
  else execPop f p fr s

/-- A frame starts executing: steps 2 to 4 of R433. -/
def runFrame (cmd : Nat) (f : Facet) (p : Port) (fr : Frame) (s : State) : State :=
  let w := portWord s p.val
  let s1 := discardHeld p.val s
  if !crcOk cmd fr then answer p.val (mkReply stCrc cmd []) (setPort p.val (fun x => { x with crcErr := satInc x.crcErr }) s1)
  else if !formatOk cmd fr then
    answer p.val (mkReply stUnmapped cmd []) (setPort p.val (fun x => { x with fmtErr := satInc x.fmtErr }) s1)
  else match execFrame cmd f p fr w s1 with
    | .reply s2 r => answer p.val r s2
    | .later s2 => setPort p.val (fun x => { x with executing := some ⟨cmd, fr⟩ }) s2
    | .silent s2 => s2

/-- The port hears its host: the device is neither in SHELF nor held in reset, and VIO is present (R406, R471). -/
def portListens (s : State) : Bool :=
  decide (s.pwc.mode ≠ .shelf) && decide (s.pwc.start ≠ .heldInReset) && s.pwc.vioOk

/-- A request that the port level answers Busy (Table 15-6): before step 8, during the power-fail sequence, or behind a frame
that waits. -/
def portBusy (s : State) (p : Nat) : Bool :=
  decide (s.pwc.start ≠ .served) || decide (s.pwc.pf ≠ .none) || (port s p).waiting.isSome

/-- A request that is heard counts and restarts its watchdog when its CRC matches (R85, R433, R452; R406 on port A). -/
def noteFrame (cmd : Nat) (fr : Frame) (s : State) : State :=
  if crcOk cmd fr then
    watchdogKick fr.port.val (setPwc (fun w => { w with portAFrameSeen := w.portAFrameSeen || decide (fr.port = 0) })
      (setPort fr.port.val (fun x => { x with frames := satInc x.frames }) s))
  else s

/-- The FAB cycle of a frame: that of the frame before it where the sender says so and its port comes later in the order A, B, C, in
which the frames of one cycle are taken (R90; log 3); else a new one. -/
def fabCycle (fr : Frame) (s : State) : Cycle :=
  let p := fr.port.val
  { (if fr.same && decide (s.cyc.from_ ≤ p) then s.cyc else Cycle.fresh) with from_ := p + 1 }

/-- A request arrives on its port (R428, R433 to R435, R443). The FAB cycle in progress ends unless `same` is set; demands on
battery start HFX where the effect needs it (R408). -/
def hostFrame (cmd : Nat) (fr : Frame) (s : State) : State :=
  let p := fr.port
  if !portListens s || (decide (p ≠ 0) && decide (s.pwc.start ≠ .served)) || ((port s p.val).facet.isNone && decide (s.pwc.start = .served))
      || (portMode s p.val = 1 && (port s p.val).uartIgnore) then s
  else
    let s0 := { s with cyc := fabCycle fr s }
    let s1 := noteFrame cmd fr (if p.val < 2 then setPort p.val (fun x => { x with spiMode3 := fr.mode3 }) s0 else s0)
    if portBusy s1 p.val then
      setPort p.val (fun x => { x with transient := some (mkReply stBusy cmd []), busy := satInc x.busy }) s1
    else if (port s1 p.val).executing.isSome then setPort p.val (fun x => { x with waiting := some ⟨cmd, fr⟩ }) s1
    else match (port s1 p.val).facet with
      | none => s1
      | some f => wake (runFrame cmd f p fr s1)

/-- A host write of one word to a register. -/
def hostWord (off : Nat) (v : Word) (w : RegWr) (s : State) : State :=
  hostFrame cmdWrite (wordFrame off v w (port s w.port.val).spiMode3) s

/-- A word whose command field [7:0] is forced to a code. -/
def withCmd (v : Word) (c : Nat) : Word := w32 (v.toNat / 256 * 256 + c)

/-- The waiting request starts executing (R434). -/
def frameWaitStart (p : Port) (s : State) : State :=
  let x := port s p.val
  if x.executing.isSome || decide (s.pwc.pf ≠ .none) then s
  else match x.waiting, x.facet with
    | some r, some f => wake (runFrame r.cmd f p r.frame (setPort p.val (fun y => { y with waiting := none }) { s with cyc := Cycle.fresh }))
    | _, _ => s

/-- The last CRC byte of a reply leaves the device: a reply of the port level first, else the held reply, whose records
EVENT-POP then remembers (R436, R442). -/
def replyTaken (p : Port) (s : State) : State :=
  let x := port s p.val
  if x.transient.isSome then setPort p.val (fun y => { y with transient := none }) s
  else match x.held with
    | none => s
    | some r => setPort p.val (fun y => { y with held := none, taken := true, popList := if r.cmd = cmdPop then r.pop else y.popList }) s

/-- FETCH on an SPI port: with no reply held, a reply of status Unmapped is sent (R443). -/
def fetch (p : Port) (mode3 : Bool) (s : State) : State :=
  let x := port s p.val
  if 2 ≤ p.val ∨ portListens s = false ∨ (p ≠ 0 ∧ s.pwc.start ≠ .served) ∨ (x.facet = none ∧ s.pwc.start = .served) then s
  else setPort p.val (fun y => { y with
    spiMode3 := mode3, transient := if y.held.isNone && y.executing.isNone then some (mkReply stUnmapped 0 []) else none }) s

/-- An abandoned request is counted (R444, R446, R448). -/
def abandon (p : Nat) (s : State) : State := setPort p (fun x => { x with fmtErr := satInc x.fmtErr }) s

/-- CS rises: a request is abandoned; a reply stays held (R444). -/
def csRise (p : Port) (inRequest : Bool) (s : State) : State :=
  if 2 ≤ p.val ∨ portListens s = false ∨ (port s p.val).facet = none then s
  else if inRequest then abandon p.val s
  else setPort p.val (fun x => { x with transient := none }) s

/-- Port C is active in a mode. -/
def portCIs (s : State) (mode : Nat) : Bool := portListens s && decide (portMode s 2 = mode) && (port s 2).facet.isSome

/-- A break on PC_RX (R446): `busy` 1 aborts a request, 2 a reply, which stays untaken. -/
def uartBreak (busy : Nat) (s : State) : State :=
  if !portCIs s 1 then s
  else
    let s1 := setPort 2 (fun x => { x with uartIgnore := false, transient := if busy = 2 then none else x.transient }) s
    if busy = 0 then s1 else abandon 2 s1

/-- A gap or a wrong sync byte abandons the UART request; PC_RX is ignored until the next break (R446). -/
def uartGap (s : State) : State := if portCIs s 1 then setPort 2 (fun x => { x with uartIgnore := true }) (abandon 2 s) else s

/-- STOP or repeated START abandons an I2C request (R448). -/
def i2cStop (s : State) : State := if portCIs s 2 then abandon 2 s else s

/-- The last word of the oldest user-area WRITE reaches the store, and its reply is sent (R400). -/
def areaWriteDone (s : State) : State :=
  match s.sto.areaWrites with
  | [] => s
  | w :: _ =>
    let s1 := areaLand s
    if (port s1 w.port.val).executing.isSome then answer w.port.val (mkReply stOk cmdWrite []) s1 else s1

end Sys2Proof.Machine
end

