-- ==== Sys2Proof/Machine/React.lean ====
section
/-! DEFINITION. What stands around the meaning of a command: when the device runs, which clocks an event of the hardware needs,
and what an event leaves behind for the power manager and the store (R382, R384, R389, R408, R421, R423, R424). -/

namespace Sys2Proof.Machine

open Sys2Proof

/-- The outcome of a command. -/
abbrev Result := Host.Outcome State Fault Refusal

/-- The device runs: its start has reached step 8 and no power-fail sequence runs (R389, R423). In SHELF it does not. -/
def live (s : State) : Bool := decide (s.pwc.start = .served) && decide (s.pwc.pf = .none)

/-- ENG runs (Table 14-7). -/
def engOn (s : State) : Bool := live s && s.pwc.clk.eng

/-- SAF runs (Table 14-7). -/
def safOn (s : State) : Bool := live s && s.pwc.clk.saf

/-- MOD and SAF run, so fast samples reach the watcher (R343, Table 14-7). -/
def fastOn (s : State) : Bool := safOn s && s.pwc.clk.mod

/-- A role change that has taken effect makes a STATE commit fall due; `b` is the state before it (R258 to R260, R382). -/
def roleCommit (b s : State) : State := if b.chd.leader ≠ s.chd.leader then commitDue .state s else s

/-- A demand that an event leaves open starts HFX on battery; after a failure of HFX only a new demand does (R408, R414). -/
def demandWake (s : State) : State := if s.pwc.hfxFail then s else wake s

/-- What follows an event of the hardware: `b` is the state before it. -/
def react (b s : State) : State := demandWake (roleCommit b s)

/-- An event of the hardware takes place where its condition holds, and changes nothing elsewhere. -/
def event (cond : Bool) (f : State → State) (s : State) : State := if cond then react s (f s) else s

/-- The first data of step 10 are measured, in 0.1 ms from reset release (Tables 14-10 and 14-11): a routed channel's words
have left INVALID at a round close. -/
def firstData (s : State) : State :=
  if s.pwc.toData && (List.range 8).any fun k => routed s k && decide ((chan s k).tag ≠ .invalid) then
    setPwc (fun p => { p with startT10 := min 65535 (((s.aon - p.startAt) * 10000 + 16384) / 32768), toData := false }) s
  else s

/-- A commit has been written: a SWITCH commit that closed lets its switch go on, one that did not is queued again (log 34);
a reset that waits for its own commit queues it; the domains that served the commit stop (R384, R392, R408, Table 1-11). -/
def commitEnds (rb : Nat) (s : State) : State :=
  let switch_ := s.sto.cqueue.head?.any fun q => decide (q.kind = .switch)
  let s1 := commitClose rb s
  let s2 := if switch_ then (if rb < 2 then switchCommitClosed s1 else queueCommit .switch s1) else s1
  powerSettle (resetCommit s2)

/-- BAT_MAX_S has passed on battery: a PAIR commit falls due and wakes the device (Table 13-2, Table 14-3). -/
def batMaxTimer (s : State) : State := if batMaxDue s && s.str.isSome then wake (commitDue .pair s) else s

/-- A press of KEY ends SHELF, else starts or extends a glance (R319, R409, Table 14-4). -/
def keyPressed (s : State) : State :=
  if s.pwc.mode = .shelf then exitShelf 32 s else event (live s) (glanceStart 2) s

end Sys2Proof.Machine
end

