-- ==== Sys2Proof/Machine/ExecHost.lean ====
section
/-! DEFINITION. The meanings of the host rows: request frames, what happens on a port between requests, and writes to the image
loader, the facets and the shared actuators (chapters 01, 02 and 15). A row that writes one register is a one-word WRITE
on the host write path. -/

namespace Sys2Proof.Machine

open Sys2Proof

/-- WRITE (R438). -/
def execWrite (f : Frame) (s : State) : Result := .next (hostFrame cmdWrite f s)

/-- READ (R439). -/
def execRead (f : Frame) (s : State) : Result := .next (hostFrame cmdRead f s)

/-- READ-COHERENT (R439). -/
def execReadCoherent (f : Frame) (s : State) : Result := .next (hostFrame cmdCoherent f s)

/-- STATUS (R440). -/
def execStatus (f : Frame) (s : State) : Result := .next (hostFrame cmdStatus f s)

/-- IMAGE-CHUNK (R53, R441). -/
def execImageChunk (f : Frame) (s : State) : Result := .next (hostFrame cmdChunk f s)

/-- EVENT-POP (R442). -/
def execEventPop (f : Frame) (s : State) : Result := .next (hostFrame cmdPop f s)

/-- FETCH on an SPI port (R443). -/
def execFetch (p : Port) (mode3 : Bool) (s : State) : Result := .next (fetch p mode3 s)

/-- A waiting frame starts executing (R434). -/
def execFrameWaitStart (p : Port) (s : State) : Result := .next (frameWaitStart p s)

/-- The last byte of a reply has left (R436). -/
def execReplyTaken (p : Port) (s : State) : Result := .next (replyTaken p s)

/-- CS of an SPI port rises (R444). -/
def execSpiCsRise (p : Port) (inRequest : Bool) (s : State) : Result := .next (csRise p inRequest s)

/-- A break on PC_RX (R446). -/
def execUartBreak (busy : Fin 3) (s : State) : Result := .next (uartBreak busy.val s)

/-- A gap within a UART request (R446). -/
def execUartGapAbandon (s : State) : Result := .next (uartGap s)

/-- STOP or repeated START within an I2C request (R448). -/
def execI2cStopAbandon (s : State) : Result := .next (i2cStop s)

/-- A write to any register (R14, R496). -/
def execRegisterWrite (off : BitVec 16) (w : RegWr) (s : State) : Result := .next (hostWord off.toNat w.val w s)

/-! ### The image loader (R51 to R59) -/

/-- IMG_CTRL BEGIN (R52, Table 1-17). -/
def execBegin (w : RegWr) (s : State) : Result := .next (hostWord 0x0404 (withCmd w.val 1) w s)

/-- IMG_CTRL VERIFY (R54, Table 1-17). -/
def execVerify (w : RegWr) (s : State) : Result := .next (hostWord 0x0404 (withCmd w.val 2) w s)

/-- IMG_CTRL ABORT (R54, Table 1-17). -/
def execImgAbort (w : RegWr) (s : State) : Result := .next (hostWord 0x0404 (withCmd w.val 3) w s)

/-- IMG_CTRL ACTIVATE (R54, Table 1-17). -/
def execActivate (w : RegWr) (s : State) : Result := .next (hostWord 0x0404 (withCmd w.val 4) w s)

/-- The stages of Table 1-9 have run on the loaded image (R54). -/
def execVerificationComplete (s : State) : Result := .next (event (live s) verificationComplete s)

/-- The key slots are programmed, at run time or at a start (R39, R50, Table 1-11). -/
def execKeySlotsProgrammed (failed : List (Fin 6)) (s : State) : Result :=
  .next (event (decide (s.pwc.pf = .none)) (keySlots (failed.map Fin.val)) s)

/-- Steps 5 and 6 of Table 1-11 (R57 to R59); a reset that waited for step 6 has its commit queued (R421). -/
def execStructureApply (s : State) : Result := .next (event (live s) (fun a => resetCommit (structureApply a)) s)

/-! ### Facets and shared actuators (R83 to R94, R358) -/

/-- The word of FCT_CTRL with its key as written and one command bit. -/
def fctWord (v : Word) (b : Nat) : Word := withCmd v (2 ^ b)

/-- FCT_CTRL FACET_RESET (R84). -/
def execFacetReset (w : RegWr) (s : State) : Result := .next (hostWord 0x0018 (fctWord w.val 0) w s)

/-- FCT_CTRL CLR_COUNTERS (R83). -/
def execClrCounters (w : RegWr) (s : State) : Result := .next (hostWord 0x0018 (fctWord w.val 1) w s)

/-- FCT_WDT (R85). -/
def execFctWdtWrite (w : RegWr) (s : State) : Result := .next (hostWord 0x001C w.val w s)

/-- A port watchdog expires (R85, R86). -/
def execPortWatchdogExpiry (p : Port) (s : State) : Result := .next (event (live s) (watchdogExpiry p.val) s)

/-- IOP_GP_REQ_n (R89, R90, Table 2-9). -/
def execIopGpReqWrite (n : Fin 6) (w : RegWr) (s : State) : Result := .next (hostWord (0x7800 + 4 * n.val) w.val w s)

/-- IOP_BRIGHT_REQ (R89, R90, Table 2-9). -/
def execIopBrightReqWrite (w : RegWr) (s : State) : Result := .next (hostWord 0x7818 w.val w s)

/-- IOP_PUMP_REQ (R89, R90, Table 2-9). -/
def execIopPumpReqWrite (w : RegWr) (s : State) : Result := .next (hostWord 0x781C w.val w s)

/-- IOP_SAFE_ACK (R358). -/
def execIopSafeAck (w : RegWr) (s : State) : Result := .next (hostWord 0x7830 (withCmd w.val 1) w s)

end Sys2Proof.Machine
end

