-- ==== Sys2Proof/Machine/ExecMeasure.lean ====
section
/-! DEFINITION. The meanings of the rows of the wheel, the metering inputs, energy, power quality, the flow paths, the chord link and
the SDI-12 port (chapters 03 to 09). Each takes place where its condition holds and changes nothing elsewhere (log 2). -/

namespace Sys2Proof.Machine

open Sys2Proof

/-! ### The wheel (chapter 03) -/

/-- A sector begins (R104 to R106, R122). -/
def execSectorStart (i : SectorIn) (s : State) : Result := .next (event (engOn s) (sectorStart i) s)

/-- A sector guard stops an instance (R108). -/
def execSectorOverrun (inst : Nat) (s : State) : Result := .next (event (engOn s) (sectorOverrun inst) s)

/-- A round closes (R121); then the power manager may stop domains (R408) and the first data may be there (R423). -/
def execRoundClose (r : RoundIn) (s : State) : Result :=
  .next (event (engOn s) (fun a => powerSettle (firstData (roundClose r a))) s)

/-- A forced unit returns after 1 s (R119). -/
def execUnitFaultReturn (u : BitVec 8) (s : State) : Result := .next (event (live s) (unitReturn u.toNat) s)

/-! ### Metering inputs, energy, power quality (chapters 04 to 06) -/

/-- A pilot second ends (R134, R140, R143 to R146). -/
def execPilotUpdate (die : Int) (s : State) : Result := .next (event (engOn s) (pilotSecond die) s)

/-- VREF is compared with SREF (R141, R366). -/
def execRefCompare (ppm : Int) (s : State) : Result := .next (event (safOn s) (refCompare ppm) s)

/-- A 10 s interval of the RTC ends (R188). -/
def execFreq10sInterval (s : State) : Result := .next (event (live s) tenSeconds s)

/-- E_p of output n reaches its constant (R177, R179). -/
def execCfPulseEvent (n : Fin 3) (cyc : Nat) (s : State) : Result := .next (event (engOn s) (cfEvent n.val cyc) s)

/-- A waiting pulse starts (R177). -/
def execCfPulseBacklogStart (n : Fin 3) (cyc : Nat) (s : State) : Result := .next (event (engOn s) (cfBacklog n.val cyc) s)

/-- A pulse ends (R178). -/
def execCfPulseEnd (n : Fin 3) (cyc : Nat) (s : State) : Result := .next (event (engOn s) (cfEnd n.val cyc) s)

/-! ### Pipe flow (chapter 07) -/

/-- A pair that has started is a demand on battery, after a failure of HFX too (R414, Table 14-3). -/
def pairWake (p : Nat) (b s : State) : State := if (flowPath b p).pair.isNone && (flowPath s p).pair.isSome then wake s else s

/-- A pair timer of AON fires (R214, R215). -/
def execPairAttempt (p : Fin 2) (s : State) : Result := .next (event (live s) (fun a => pairWake p.val a (pairAttempt p.val a)) s)

/-- GAP after a DN shot its UP shot falls due (R214). -/
def execUpShotDue (p : Fin 2) (s : State) : Result := .next (event (live s) (upShotDue p.val) s)

/-- The shot at the head of the queue fires (R206 to R208, R216). -/
def execShotFire (i : FireIn) (s : State) : Result := .next (event (engOn s) (shotStart i) s)

/-- A capture window closes (R210). -/
def execCaptureClose (s : State) : Result := .next (event (engOn s) captureClose s)

/-- KU-XCOR finishes a shot (R212, R218). -/
def execShotEvaluated (p : Fin 3) (up : Bool) (c : Capture) (s : State) : Result :=
  .next (event (engOn s && (flowPath s p.val).pair.isSome) (inRound (shotEvaluated p.val up c)) s)

/-- KU-PAIR forms an outcome, from shot results of the published bank (R103, R219 to R231). -/
def execPairOutcome (p : Fin 2) (s : State) : Result :=
  .next (event (live s && (flowPath s p.val).pair.isSome && pairPublished s p.val) (inRound (pairOutcome p.val)) s)

/-- A calibration runs into its time-out (R233). -/
def execCalibrationTimeout (s : State) : Result := .next (event (live s && calDue s) (calEnd 3 0) s)

/-! ### Chord link and channel flow (chapter 08) -/

/-- The leader's cycle timer, or a swap's effective boundary (R244, R258). -/
def execLinkCycleStart (t1 : Nat) (s : State) : Result := .next (event (live s) (linkCycle t1) s)

/-- A link frame arrives (R242, R246, R260). -/
def execLinkFrameReceived (i : LinkIn) (s : State) : Result := .next (event (live s && linkLive s) (inRound (linkReceive i)) s)

/-- An expected link frame is missing (R243). -/
def execLinkFrameMissing (typ : Nat) (s : State) : Result := .next (event (live s) (fun a => if linkLive a then inRound (linkMiss typ) a else linkMiss typ a) s)

/-- The follower sends REPLY (R244). -/
def execLinkReplySend (t3 : Nat) (s : State) : Result := .next (event (live s) (linkReply t3) s)

/-- A bank shot at its instant (R248, R249). -/
def execBankShot (i : BankIn) (s : State) : Result := .next (event (engOn s) (bankShot i) s)

/-- The follower sends ARRIVE (R244, R252). -/
def execLinkArriveSend (s : State) : Result := .next (event (live s) linkArrive s)

/-- The leader publishes a bank pair's outcome (R250 to R256). -/
def execBankPairOutcome (s : State) : Result := 
  .next (event (live s && (flowPath s 2).pair.isSome && pairPublished s 2) (inRound bankOutcome) s)

/-- The old leader resumes (R259). -/
def execRoleSwapRevert (s : State) : Result := .next (event (live s) roleRevert s)

/-- The link's hold expires (R243). -/
def execChdHoldExpiry (s : State) : Result := .next (event (live s) linkHoldExpiry s)

/-- AON wakes the device for the next cycle (R244, R254). -/
def execLinkCycleWake (s : State) : Result := .next (event (live s) cycleWake s)

/-! ### SDI-12 (chapter 09) -/

/-- A slot falls due (R272). -/
def execSlotDue (k : Fin 8) (s : State) : Result := .next (event (live s) (slotDue k.val) s)

/-- The next transaction opens (R266, R272). -/
def execSdiTransactionStart (s : State) : Result := .next (event (live s) sdiStart s)

/-- The sensor supply has settled (R266). -/
def execSdpPowerSettled (s : State) : Result := .next (event (live s) sdpSettled s)

/-- A response line (R267 to R273). -/
def execSdiResponse (l : SdiLine) (s : State) : Result := .next (event (live s) (sdiResponse l) s)

/-- No response, or a gap in it (R269). -/
def execSdiResponseTimeout (some_ : Bool) (s : State) : Result := .next (event (live s) (sdiTimeout some_) s)

/-- A service request (R270). -/
def execSdiServiceRequest (addr : Byte) (s : State) : Result := .next (event (live s) (sdiService addr) s)

/-- The data phase of a concurrent measurement falls due (R271). -/
def execSdiDataPhaseDue (k : Fin 8) (s : State) : Result := .next (event (live s) (sdiDataDue k.val) s)

/-- A value grows stale (R276). -/
def execSdiValueStale (k : Fin 8) (j : Fin 9) (s : State) : Result := .next (event (live s) (sdiStale k.val j.val) s)

end Sys2Proof.Machine
end

