-- ==== Sys2Proof/Machine/ExecRegisters.lean ====
section
/-! DEFINITION. The meanings of the rows that write configuration and command registers of the units (chapters 04 to 14). Each is a
one-word WRITE on the host write path; a row that is a command code puts that code into the field CMD. -/

namespace Sys2Proof.Machine

open Sys2Proof

/-! ### Metering, power quality, CF (R152, R156, R176, R180, R199 to R202) -/

/-- MTR_AFE_CTRL (R152). -/
def execMtrRestart (w : RegWr) (s : State) : Result := .next (hostWord 0x10D4 w.val w s)

/-- A calibration, full-scale, AFE, creep or other METROLOGY register of MTR (R154, R156, R157). -/
def execMtrCalWrite (off : BitVec 16) (w : RegWr) (s : State) : Result := .next (hostWord off.toNat w.val w s)

/-- PQ_CTRL CLR_COUNTERS (R201). -/
def execPqClrCounters (w : RegWr) (s : State) : Result := .next (hostWord 0x28B0 (w.val ||| 1) w s)

/-- PQ_THR (R202). -/
def execPqThrWrite (w : RegWr) (s : State) : Result := .next (hostWord 0x2808 w.val w s)

/-- PQ_CFG or PQ_UDIN (R184, R199). -/
def execPqCfgWrite (udin : Bool) (w : RegWr) (s : State) : Result := .next (hostWord (if udin then 0x2804 else 0x2800) w.val w s)

/-- IOP_CFn_CFG or IOP_CFn_CONST (R175, R176, R180). -/
def execCfCfgWrite (n : Fin 3) (const : Bool) (w : RegWr) (s : State) : Result :=
  .next (hostWord (0x7840 + 16 * n.val + if const then 4 else 0) w.val w s)

/-! ### Flow and chord link (R213, R233, R243, R244, R257) -/

/-- FLW_CTRL ZERO (R233). -/
def execZero (w : RegWr) (s : State) : Result := .next (hostWord 0x300C (withCmd w.val 1) w s)

/-- FLW_CTRL LEARN (R213, R233). -/
def execLearn (w : RegWr) (s : State) : Result := .next (hostWord 0x300C (withCmd w.val 2) w s)

/-- FLW_CTRL RESTART (R119, R236). -/
def execFlwRestart (w : RegWr) (s : State) : Result := .next (hostWord 0x300C (withCmd w.val 3) w s)

/-- FLW_CTRL ABORT (R233). -/
def execFlwAbort (w : RegWr) (s : State) : Result := .next (hostWord 0x300C (withCmd w.val 4) w s)

/-- A configuration register of the FLW block (chapters 07 and 08). -/
def execFlwConfigWrite (off : BitVec 16) (w : RegWr) (s : State) : Result := .next (hostWord off.toNat w.val w s)

/-- FLW_P1_REFCRC, FLW_P2_REFCRC or CHD_REFCRC (R213). -/
def execFlwRefcrcWrite (path : Fin 3) (w : RegWr) (s : State) : Result :=
  .next (hostWord ([0x3130, 0x3230, 0x3328].getD path.val 0x3130) w.val w s)

/-- CHD_CTRL SWAP (R257). -/
def execSwap (w : RegWr) (s : State) : Result := .next (hostWord 0x3814 (withCmd w.val 1) w s)

/-- CHD_CTRL RESTART (R119, R243). -/
def execChdRestart (w : RegWr) (s : State) : Result := .next (hostWord 0x3814 (withCmd w.val 2) w s)

/-- CHD_CYCLE (R244). -/
def execChdCycleWrite (w : RegWr) (s : State) : Result := .next (hostWord 0x3804 w.val w s)

/-! ### SDI-12 (R264, R266, R279) -/

/-- SDI_CTRL QUERY (R264). -/
def execQuery (w : RegWr) (s : State) : Result := .next (hostWord 0x3C04 (withCmd w.val 1) w s)

/-- SDI_CTRL ACK (R264). -/
def execAck (w : RegWr) (s : State) : Result := .next (hostWord 0x3C04 (withCmd w.val 2) w s)

/-- SDI_CTRL IDENT (R264). -/
def execIdent (w : RegWr) (s : State) : Result := .next (hostWord 0x3C04 (withCmd w.val 3) w s)

/-- SDI_Sk_CFG or SDI_Sk_PER (R272, R279). -/
def execSdiSlotConfigWrite (k : Fin 8) (per : Bool) (w : RegWr) (s : State) : Result :=
  .next (hostWord (slotBase k.val + if per then 4 else 0) w.val w s)

/-! ### Battery and display (R302, R319, R336, R339) -/

/-- BAT_CTRL NEW_CELL (R302). -/
def execNewCell (w : RegWr) (s : State) : Result := .next (hostWord 0x401C (withCmd w.val 1) w s)

/-- BAT_CTRL RESTART (R119, R302). -/
def execBatRestart (w : RegWr) (s : State) : Result := .next (hostWord 0x401C (withCmd w.val 2) w s)

/-- A configuration register of the BAT block (chapter 10). -/
def execBatConfigWrite (off : BitVec 16) (w : RegWr) (s : State) : Result := .next (hostWord off.toNat w.val w s)

/-- DSP_CTRL GLANCE (R319). -/
def execGlance (w : RegWr) (s : State) : Result := .next (hostWord 0x480C (withCmd w.val 1) w s)

/-- DSP_CTRL RESTART (R119, R339). -/
def execDspRestart (w : RegWr) (s : State) : Result := .next (hostWord 0x480C (withCmd w.val 2) w s)

/-- DSP_CTRL CLR_COUNTERS (Table 11-11). -/
def execDspClrCounters (w : RegWr) (s : State) : Result := .next (hostWord 0x480C (withCmd w.val 3) w s)

/-- DSP_RAIL (R307). -/
def execDspRailWrite (w : RegWr) (s : State) : Result := .next (hostWord 0x4804 w.val w s)

/-- DSP_GREY_j (R312). -/
def execDspGreyWrite (j : Fin 4) (w : RegWr) (s : State) : Result := .next (hostWord (0x4810 + 4 * j.val) w.val w s)

/-- DSP_TILE_n (R325, R326). -/
def execDspTileWrite (n : Fin 8) (w : RegWr) (s : State) : Result := .next (hostWord (0x4820 + 4 * n.val) w.val w s)

/-- DSP_CFG (R318 to R320). -/
def execDspCfgWrite (w : RegWr) (s : State) : Result := .next (hostWord 0x4800 w.val w s)

/-- A WRITE into frame memory (R78, R315, R327). -/
def execFrameMemoryWrite (f : Frame) (s : State) : Result := .next (hostFrame cmdWrite f s)

/-- The word at the head of the display write queue lands (R315, R333). -/
def execFrameMemoryWordLand (passed : Bool) (s : State) : Result := .next (event (live s) (fmLand passed) s)

/-! ### Safety, user areas, event log, power and time (R372, R399 to R402, R406, R417 to R420) -/

/-- A SAF register (R371, R372). -/
def execSafWrite (off : BitVec 16) (w : RegWr) (s : State) : Result := .next (hostWord off.toNat w.val w s)

/-- NVU_CTRL CLEAR (R400). -/
def execClear (w : RegWr) (s : State) : Result := .next (hostWord 0x6808 (withCmd w.val 1) w s)

/-- The clearing of a user area has reached its end (R400). -/
def execUserAreaClearDone (s : State) : Result := .next (event (live s) areaClearDone s)

/-- NVU_SEL (R399). -/
def execNvuSelWrite (w : RegWr) (s : State) : Result := .next (hostWord 0x6800 w.val w s)

/-- A user-area WRITE has reached the store (R400). -/
def execUserAreaWriteDone (s : State) : Result := .next (event (live s) areaWriteDone s)

/-- EVT_LOG_CTRL (R402). -/
def execEvtLogSelect (w : RegWr) (s : State) : Result := .next (hostWord 0x7100 w.val w s)

/-- PWC_CTRL RESET (R420). -/
def execReset (w : RegWr) (s : State) : Result := .next (hostWord 0x080C (withCmd w.val 1) w s)

/-- PWC_CTRL SHELF (R406). -/
def execShelf (w : RegWr) (s : State) : Result := .next (hostWord 0x080C (withCmd w.val 2) w s)

/-- PWC_RTC_W0 (R417). -/
def execRtcStage (w : RegWr) (s : State) : Result := .next (hostWord 0x0818 w.val w s)

/-- PWC_RTC_W1 (R417). -/
def execRtcSet (w : RegWr) (s : State) : Result := .next (hostWord 0x081C w.val w s)

/-- PWC_EPOCH (R417). -/
def execEpochWrite (w : RegWr) (s : State) : Result := .next (hostWord 0x0820 w.val w s)

/-- The RTC reaches the alarm (R418). -/
def execRtcAlarm (s : State) : Result := .next (event (live s) rtcAlarm s)

end Sys2Proof.Machine
end

