-- ==== Sys2Proof/Machine/ExecSystem.lean ====
section
/-! DEFINITION. The meanings of the rows of the gauge, the display, functional safety, the store, and power, resets and clocks
(chapters 10 to 14 and 17). -/

namespace Sys2Proof.Machine

open Sys2Proof

/-! ### Supplies and the gauge (chapters 10 and 14) -/

/-- VMAIN_OK falls (R281, R410). -/
def execVmainLost (s : State) : Result := .next (setPwc (fun p => { p with toData := p.toData && p.vmainOk }) (vmainLost s))

/-- VMAIN_OK rises (R281, R411; R406 from SHELF). -/
def execVmainQualified (s : State) : Result := .next (vmainQualified s)

/-- On battery a sample of the gauge is a demand, and a glance may end at it (R287, R320, Table 14-3). -/
def gaugeEvent (f : State → State) (s : State) : State :=
  event (live s) (fun a => let b := glanceBattery (f a); if batLive a then gaugeDemand b else b) s

/-- KB-GAUGE takes a conversion: its outputs and events wait for the round close while the wheel turns (R121). -/
def gaugeStep (f : State → State) (s : State) : State := if batLive s then inRound f s else s

/-- An active gauge frame ends (R287, R288). -/
def execGaugeFrame (i : GaugeIn) (s : State) : Result := .next (gaugeEvent (gaugeStep (gaugeFrame i)) s)

/-- A quiet or rest interval ends with a sample (R287). -/
def execGaugeIntervalSample (i : GaugeIn) (s : State) : Result := .next (gaugeEvent (gaugeStep (gaugeSample i)) s)

/-- The quiet comparator trips (R289). -/
def execQuietComparatorTrip (s : State) : Result := .next (event (live s) gaugeTrip s)

/-- A gauge conversion times out (R299). -/
def execGaugeConversionTimeout (s : State) : Result := .next (event (live s) (fun a => glanceBattery (gaugeTimeout a)) s)

/-! ### The display (chapter 11) -/

/-- A press of KEY (R319, R409). -/
def execKeyPress (s : State) : Result := .next (keyPressed s)

/-- GLANCE_S has passed (R319). -/
def execGlanceExpiry (s : State) : Result := .next (event (live s) glanceExpiry s)

/-- A rail is good (R322). -/
def execRailGood (rail : Fin 4) (s : State) : Result := .next (event (live s) (railGood rail.val) s)

/-- A rail fails (R309, R324). -/
def execRailFault (rails : BitVec 4) (cause : BitVec 8) (s : State) : Result :=
  .next (event (live s) (railFaulted rails.toNat cause.toNat) s)

/-- The rails have discharged after an emergency stop (R324). -/
def execDisplayDischarged (s : State) : Result := .next (event (live s) dspDischarged s)

/-- A frame starts (R314, R322, R323, R326). -/
def execFrameStart (s : State) : Result := .next (event (live s) frameStart s)

/-- An EMS period starts with the effective level of brightness (R89, R313). -/
def execEmsPeriodStart (s : State) : Result := .next (event (live s) (fun a => emsPeriod (brightLevel a) a) s)

/-- The next rail stops (R323). -/
def execRailStopStep (s : State) : Result := .next (event (live s) railStop s)

/-- The tiles' scan CRCs are compared (R332 to R337). -/
def execTileCrcCheck (bad : List ScanCrc) (s : State) : Result := .next (event (live s) (tileCrcCheck bad) s)

/-- The dwell of a legal item ends (R329). -/
def execLegalItemDwellEnd (s : State) : Result := .next (event (live s) dwellEnds s)

/-- KD-REND renders the legal tile (R329, R330). -/
def execLegalTileRender (s : State) : Result := .next (event (engOn s) legalSecond s)

/-! ### Functional safety (chapter 12) -/

/-- A fast sample of each FAST channel (R343, R346, R365). -/
def execFastSample (xs : Vector FastIn 8) (s : State) : Result := .next (event (fastOn s) (fastSample xs) s)

/-- Fast samples stall (R365). -/
def execFastSequenceStall (k : Fin 8) (s : State) : Result := .next (event (fastOn s) (fastStall k.val) s)

/-- The comparator test (R365). -/
def execWatcherComparatorTest (bad : Option (Fin 8)) (s : State) : Result :=
  .next (event (safOn s) (comparatorTest (bad.map Fin.val)) s)

/-- A fast pilot window ends (R365). -/
def execWatcherPilotWindow (s : State) : Result := .next (event (safOn s) pilotWindow s)

/-- A cross-check window ends (R364). -/
def execWatcherCrosscheckWindow (s : State) : Result := .next (event (safOn s) crossCheck s)

/-- The expected health token is missing (R351). -/
def execWdtTokenTimeout (s : State) : Result := .next (event (safOn s) tokenTimeout s)

/-- The clock monitors count (R367, R414). -/
def execClockMonitorCheck (i : ClockIn) (s : State) : Result := .next (if live s then clockMonitor i s else s)

/-- A pass of the image scan (R368). -/
def execImageScanPass (flips : List (Nat × Nat)) (s : State) : Result := .next (event (safOn s) (imageScan flips) s)

/-- The trip pads are read back (R369). -/
def execTripReadback (pads : List PadSample) (s : State) : Result := .next (event (safOn s) (tripReadback pads) s)

/-- Causes whose condition to clear holds are cleared (R355, R359, Table 12-4). -/
def execSafeCauseTimer (s : State) : Result := .next (event (safOn s) clearCauses s)

/-- The level at TRIPFB changes (R354). -/
def execTripfbChange (level : Bool) (s : State) : Result := .next (setSaf (fun f => { f with fb := level }) s)

/-- FB_MS after a change of PRUN the contactor is judged (R354). -/
def execContactor (s : State) : Result := .next (event (live s) contactorDue s)

/-- A half period of the trip outputs begins (R350, R351). -/
def execTripOutputEdge (s : State) : Result := .next (event (live s) tripEdge s)

/-! ### The store (chapter 13) -/

/-- A commit has been written and read back (R383, R384). -/
def execCommitClosed (rb : Fin 3) (s : State) : Result := .next (event (live s) (commitEnds rb.val) s)

/-- BAT_MAX_S has passed (Table 13-2). -/
def execCommitBatMaxTimer (s : State) : Result := .next (event (live s) batMaxTimer s)

/-- The node falls below 2.40 V (R389). -/
def execPowerFail (i : PowerCut) (s : State) : Result := .next (powerFail i.landed i.cut s)

/-- The FINAL record is closed, or the node falls below 2.00 V (Table 13-4). -/
def execFinalCommitClosed (e : Fin 3) (s : State) : Result := .next (finalClosed e.val s)

/-! ### Resets and the start (chapter 14) -/

/-- A power-on reset (Table 14-8). -/
def execPor (s : State) : Result := .next (powerOn s)

/-- The restart after a power-fail sequence (Table 14-8). -/
def execPfRestart (s : State) : Result := .next (pfRestart s)

/-- NRST (R420, R421). -/
def execNrst (s : State) : Result := .next (demandWake (nrst s))

/-- The SAF watchdog (Table 14-8). -/
def execSafWdt (s : State) : Result := .next (event (live s) safWatchdog s)

/-- A requested reset takes effect (R392, R420, R421). -/
def execDeviceReset (s : State) : Result := .next (deviceReset s)

/-- Steps 0 to 4 of the start sequence (R423). -/
def execStartSequence (i : StartIn) (s : State) : Result := .next (startSequence i s)

/-- Steps 5 to 8 on the next candidate (R50, R423). -/
def execStartCandidateVerified (s : State) : Result := .next (candidateVerified s)

/-- The shipping lattice enters SHELF by itself (R406). -/
def execShelfAutoEntry (s : State) : Result := .next (shelfAuto s)

/-! ### Clocks and VIO (R412 to R415, R471) -/

/-- HFX is qualified (R413, R414). -/
def execHfxQualified (s : State) : Result := .next (event (live s) hfxQualified s)

/-- The PLL locks (R101, R410, R411). -/
def execPllLock (s : State) : Result := .next (event (live s) pllLocks s)

/-- HFX fails (R413, R414). -/
def execHfxFail (cause : Fin 3) (s : State) : Result := .next (if live s then hfxFails cause.val s else s)

/-- HFX is tried again (R414). -/
def execHfxRetry (s : State) : Result := .next (event (live s) hfxRetry s)

/-- A demand ends (R408, Table 14-3). -/
def execDemandEnd (d : Fin 10) (s : State) : Result := .next (event (live s) (demandEnd d.val) s)

/-- Changes of the AON clock go on in SHELF and in reset, where nothing is queued or logged (R406, R415). -/
def aonEvent (f : State → State) (s : State) : State :=
  if s.pwc.start = .heldInReset then { f s with fac := s.fac, sto := s.sto } else f s

/-- AON moves to the crystal (R415). -/
def execXtal32Takeover (s : State) : Result := .next (aonEvent xtalTakeover s)

/-- The crystal does not start (R415). -/
def execXtal32Timeout (s : State) : Result := .next (aonEvent xtalTimeout s)

/-- The crystal stops (R415). -/
def execXtal32Stop (s : State) : Result := .next (aonEvent xtalStop s)

/-- The crystal is started again (R415). -/
def execXtal32Restart (s : State) : Result := .next (aonEvent xtalRestart s)

/-- The RC of AON is trimmed against HFX (R415, Table 14-3). -/
def execRcTrim (ppm : Int) (s : State) : Result := .next (event (live s) (rcTrim ppm) s)

/-- VIO is lost (R471). -/
def execVioLost (s : State) : Result := .next (vioLost s)

/-- VIO is back (R471). -/
def execVioRestored (s : State) : Result := .next (vioRestored s)

end Sys2Proof.Machine
end

