-- ==== Sys2Proof/Machine/Dispatch.lean ====
section
/-! DEFINITION. exec: one arm per command of spec/opcode_table.json, each a call of its own meaning. -/

namespace Sys2Proof.Machine

open Sys2Proof

/-- The effect of a command on everything but the queue. -/
def exec (i : Instr) (s : State) : Host.Outcome State Fault Refusal :=
  match i with
  | .write f => Sys2Proof.Machine.execWrite f s
  | .read f => Sys2Proof.Machine.execRead f s
  | .readCoherent f => Sys2Proof.Machine.execReadCoherent f s
  | .status f => Sys2Proof.Machine.execStatus f s
  | .imageChunk f => Sys2Proof.Machine.execImageChunk f s
  | .eventPop f => Sys2Proof.Machine.execEventPop f s
  | .fetch p mode3 => Sys2Proof.Machine.execFetch p mode3 s
  | .frameWaitStart p => Sys2Proof.Machine.execFrameWaitStart p s
  | .replyTaken p => Sys2Proof.Machine.execReplyTaken p s
  | .spiCsRise p inRequest => Sys2Proof.Machine.execSpiCsRise p inRequest s
  | .uartBreak busy => Sys2Proof.Machine.execUartBreak busy s
  | .uartGapAbandon => Sys2Proof.Machine.execUartGapAbandon s
  | .i2cStopAbandon => Sys2Proof.Machine.execI2cStopAbandon s
  | .registerWrite off w => Sys2Proof.Machine.execRegisterWrite off w s
  | .imgBegin w => Sys2Proof.Machine.execBegin w s
  | .verify w => Sys2Proof.Machine.execVerify w s
  | .imgAbort w => Sys2Proof.Machine.execImgAbort w s
  | .activate w => Sys2Proof.Machine.execActivate w s
  | .verificationComplete => Sys2Proof.Machine.execVerificationComplete s
  | .keySlotsProgrammed failed => Sys2Proof.Machine.execKeySlotsProgrammed failed s
  | .structureApply => Sys2Proof.Machine.execStructureApply s
  | .facetReset w => Sys2Proof.Machine.execFacetReset w s
  | .clrCounters w => Sys2Proof.Machine.execClrCounters w s
  | .fctWdtWrite w => Sys2Proof.Machine.execFctWdtWrite w s
  | .portWatchdogExpiry p => Sys2Proof.Machine.execPortWatchdogExpiry p s
  | .iopGpReqWrite n w => Sys2Proof.Machine.execIopGpReqWrite n w s
  | .iopBrightReqWrite w => Sys2Proof.Machine.execIopBrightReqWrite w s
  | .iopPumpReqWrite w => Sys2Proof.Machine.execIopPumpReqWrite w s
  | .iopSafeAck w => Sys2Proof.Machine.execIopSafeAck w s
  | .mtrRestart w => Sys2Proof.Machine.execMtrRestart w s
  | .mtrCalWrite off w => Sys2Proof.Machine.execMtrCalWrite off w s
  | .pqClrCounters w => Sys2Proof.Machine.execPqClrCounters w s
  | .pqThrWrite w => Sys2Proof.Machine.execPqThrWrite w s
  | .pqCfgWrite udin w => Sys2Proof.Machine.execPqCfgWrite udin w s
  | .cfCfgWrite n const w => Sys2Proof.Machine.execCfCfgWrite n const w s
  | .zero w => Sys2Proof.Machine.execZero w s
  | .learn w => Sys2Proof.Machine.execLearn w s
  | .flwRestart w => Sys2Proof.Machine.execFlwRestart w s
  | .flwAbort w => Sys2Proof.Machine.execFlwAbort w s
  | .calibrationTimeout => Sys2Proof.Machine.execCalibrationTimeout s
  | .flwConfigWrite off w => Sys2Proof.Machine.execFlwConfigWrite off w s
  | .flwRefcrcWrite path w => Sys2Proof.Machine.execFlwRefcrcWrite path w s
  | .swap w => Sys2Proof.Machine.execSwap w s
  | .chdRestart w => Sys2Proof.Machine.execChdRestart w s
  | .chdCycleWrite w => Sys2Proof.Machine.execChdCycleWrite w s
  | .query w => Sys2Proof.Machine.execQuery w s
  | .ack w => Sys2Proof.Machine.execAck w s
  | .ident w => Sys2Proof.Machine.execIdent w s
  | .sdiSlotConfigWrite k per w => Sys2Proof.Machine.execSdiSlotConfigWrite k per w s
  | .newCell w => Sys2Proof.Machine.execNewCell w s
  | .batRestart w => Sys2Proof.Machine.execBatRestart w s
  | .batConfigWrite off w => Sys2Proof.Machine.execBatConfigWrite off w s
  | .glance w => Sys2Proof.Machine.execGlance w s
  | .dspRestart w => Sys2Proof.Machine.execDspRestart w s
  | .dspClrCounters w => Sys2Proof.Machine.execDspClrCounters w s
  | .dspRailWrite w => Sys2Proof.Machine.execDspRailWrite w s
  | .dspGreyWrite j w => Sys2Proof.Machine.execDspGreyWrite j w s
  | .dspTileWrite n w => Sys2Proof.Machine.execDspTileWrite n w s
  | .frameMemoryWrite f => Sys2Proof.Machine.execFrameMemoryWrite f s
  | .frameMemoryWordLand passed => Sys2Proof.Machine.execFrameMemoryWordLand passed s
  | .safWrite off w => Sys2Proof.Machine.execSafWrite off w s
  | .clear w => Sys2Proof.Machine.execClear w s
  | .userAreaClearDone => Sys2Proof.Machine.execUserAreaClearDone s
  | .nvuSelWrite w => Sys2Proof.Machine.execNvuSelWrite w s
  | .userAreaWriteDone => Sys2Proof.Machine.execUserAreaWriteDone s
  | .evtLogSelect w => Sys2Proof.Machine.execEvtLogSelect w s
  | .reset w => Sys2Proof.Machine.execReset w s
  | .shelf w => Sys2Proof.Machine.execShelf w s
  | .rtcStage w => Sys2Proof.Machine.execRtcStage w s
  | .rtcSet w => Sys2Proof.Machine.execRtcSet w s
  | .epochWrite w => Sys2Proof.Machine.execEpochWrite w s
  | .rtcAlarm => Sys2Proof.Machine.execRtcAlarm s
  | .sectorStart inp => Sys2Proof.Machine.execSectorStart inp s
  | .sectorOverrun inst => Sys2Proof.Machine.execSectorOverrun inst s
  | .roundClose r => Sys2Proof.Machine.execRoundClose r s
  | .unitFaultReturn u => Sys2Proof.Machine.execUnitFaultReturn u s
  | .pilotUpdate die => Sys2Proof.Machine.execPilotUpdate die s
  | .refCompare ppm => Sys2Proof.Machine.execRefCompare ppm s
  | .freq10sInterval => Sys2Proof.Machine.execFreq10sInterval s
  | .cfPulseEvent n cyc => Sys2Proof.Machine.execCfPulseEvent n cyc s
  | .cfPulseBacklogStart n cyc => Sys2Proof.Machine.execCfPulseBacklogStart n cyc s
  | .cfPulseEnd n cyc => Sys2Proof.Machine.execCfPulseEnd n cyc s
  | .pairAttempt p => Sys2Proof.Machine.execPairAttempt p s
  | .upShotDue p => Sys2Proof.Machine.execUpShotDue p s
  | .shotFire inp => Sys2Proof.Machine.execShotFire inp s
  | .captureClose => Sys2Proof.Machine.execCaptureClose s
  | .shotEvaluated p up c => Sys2Proof.Machine.execShotEvaluated p up c s
  | .pairOutcome p => Sys2Proof.Machine.execPairOutcome p s
  | .linkCycleStart t1 => Sys2Proof.Machine.execLinkCycleStart t1 s
  | .linkFrameReceived inp => Sys2Proof.Machine.execLinkFrameReceived inp s
  | .linkFrameMissing typ => Sys2Proof.Machine.execLinkFrameMissing typ s
  | .linkReplySend t3 => Sys2Proof.Machine.execLinkReplySend t3 s
  | .bankShot inp => Sys2Proof.Machine.execBankShot inp s
  | .linkArriveSend => Sys2Proof.Machine.execLinkArriveSend s
  | .bankPairOutcome => Sys2Proof.Machine.execBankPairOutcome s
  | .roleSwapRevert => Sys2Proof.Machine.execRoleSwapRevert s
  | .slotDue k => Sys2Proof.Machine.execSlotDue k s
  | .sdiTransactionStart => Sys2Proof.Machine.execSdiTransactionStart s
  | .sdpPowerSettled => Sys2Proof.Machine.execSdpPowerSettled s
  | .sdiResponse l => Sys2Proof.Machine.execSdiResponse l s
  | .sdiResponseTimeout some_ => Sys2Proof.Machine.execSdiResponseTimeout some_ s
  | .sdiServiceRequest addr => Sys2Proof.Machine.execSdiServiceRequest addr s
  | .sdiDataPhaseDue k => Sys2Proof.Machine.execSdiDataPhaseDue k s
  | .vmainLost => Sys2Proof.Machine.execVmainLost s
  | .vmainQualified => Sys2Proof.Machine.execVmainQualified s
  | .gaugeFrame inp => Sys2Proof.Machine.execGaugeFrame inp s
  | .gaugeIntervalSample inp => Sys2Proof.Machine.execGaugeIntervalSample inp s
  | .quietComparatorTrip => Sys2Proof.Machine.execQuietComparatorTrip s
  | .gaugeConversionTimeout => Sys2Proof.Machine.execGaugeConversionTimeout s
  | .keyPress => Sys2Proof.Machine.execKeyPress s
  | .glanceExpiry => Sys2Proof.Machine.execGlanceExpiry s
  | .railGood rail => Sys2Proof.Machine.execRailGood rail s
  | .railFault rails cause => Sys2Proof.Machine.execRailFault rails cause s
  | .displayDischarged => Sys2Proof.Machine.execDisplayDischarged s
  | .frameStart => Sys2Proof.Machine.execFrameStart s
  | .emsPeriodStart => Sys2Proof.Machine.execEmsPeriodStart s
  | .railStopStep => Sys2Proof.Machine.execRailStopStep s
  | .tileCrcCheck bad => Sys2Proof.Machine.execTileCrcCheck bad s
  | .legalItemDwellEnd => Sys2Proof.Machine.execLegalItemDwellEnd s
  | .legalTileRender => Sys2Proof.Machine.execLegalTileRender s
  | .fastSample xs => Sys2Proof.Machine.execFastSample xs s
  | .fastSequenceStall k => Sys2Proof.Machine.execFastSequenceStall k s
  | .watcherComparatorTest bad => Sys2Proof.Machine.execWatcherComparatorTest bad s
  | .watcherPilotWindow => Sys2Proof.Machine.execWatcherPilotWindow s
  | .watcherCrosscheckWindow => Sys2Proof.Machine.execWatcherCrosscheckWindow s
  | .wdtTokenTimeout => Sys2Proof.Machine.execWdtTokenTimeout s
  | .clockMonitorCheck inp => Sys2Proof.Machine.execClockMonitorCheck inp s
  | .imageScanPass flips => Sys2Proof.Machine.execImageScanPass flips s
  | .tripReadback pads => Sys2Proof.Machine.execTripReadback pads s
  | .safeCauseTimer => Sys2Proof.Machine.execSafeCauseTimer s
  | .tripfbChange level => Sys2Proof.Machine.execTripfbChange level s
  | .contactor => Sys2Proof.Machine.execContactor s
  | .commitClosed rb => Sys2Proof.Machine.execCommitClosed rb s
  | .commitBatMaxTimer => Sys2Proof.Machine.execCommitBatMaxTimer s
  | .powerFail cut => Sys2Proof.Machine.execPowerFail cut s
  | .finalCommitClosed e => Sys2Proof.Machine.execFinalCommitClosed e s
  | .por => Sys2Proof.Machine.execPor s
  | .pfRestart => Sys2Proof.Machine.execPfRestart s
  | .nrst => Sys2Proof.Machine.execNrst s
  | .safWdt => Sys2Proof.Machine.execSafWdt s
  | .deviceReset => Sys2Proof.Machine.execDeviceReset s
  | .startSequence inp => Sys2Proof.Machine.execStartSequence inp s
  | .startCandidateVerified => Sys2Proof.Machine.execStartCandidateVerified s
  | .hfxQualified => Sys2Proof.Machine.execHfxQualified s
  | .pllLock => Sys2Proof.Machine.execPllLock s
  | .hfxFail cause => Sys2Proof.Machine.execHfxFail cause s
  | .hfxRetry => Sys2Proof.Machine.execHfxRetry s
  | .demandEnd d => Sys2Proof.Machine.execDemandEnd d s
  | .xtal32Takeover => Sys2Proof.Machine.execXtal32Takeover s
  | .xtal32Timeout => Sys2Proof.Machine.execXtal32Timeout s
  | .xtal32Stop => Sys2Proof.Machine.execXtal32Stop s
  | .xtal32Restart => Sys2Proof.Machine.execXtal32Restart s
  | .rcTrim ppm => Sys2Proof.Machine.execRcTrim ppm s
  | .shelfAutoEntry => Sys2Proof.Machine.execShelfAutoEntry s
  | .dspCfgWrite w => Sys2Proof.Machine.execDspCfgWrite w s
  | .tripOutputEdge => Sys2Proof.Machine.execTripOutputEdge s
  | .chdHoldExpiry => Sys2Proof.Machine.execChdHoldExpiry s
  | .sdiValueStale k j => Sys2Proof.Machine.execSdiValueStale k j s
  | .linkCycleWake => Sys2Proof.Machine.execLinkCycleWake s
  | .vioLost => Sys2Proof.Machine.execVioLost s
  | .vioRestored => Sys2Proof.Machine.execVioRestored s

end Sys2Proof.Machine
end

