-- ==== Sys2Proof/Machine/Step.lean ====
section
/-! DEFINITION. One step of the block: the command at the front of its queue, or a tick of AON where none waits (log 1). -/

namespace Sys2Proof.Machine

open Sys2Proof

/-- With no command waiting one AON period passes (log 1); a value set for the RTC is applied at its edge (R417). The FAB
cycle in progress has ended by then. -/
def idle (s : State) : State :=
  { s with aon := s.aon + 1, cyc := Cycle.fresh, pwc := { s.pwc with rtc := s.pwc.rtcNext.getD (s.pwc.rtc + 1), rtcNext := none } }

/-- The command at the front of the queue runs on the state with the queue's rest; an empty queue is one AON tick. -/
def step (s : State) : Host.Outcome State Fault Refusal :=
  match s.pending with
  | [] => .next (idle s)
  | c :: rest => exec c { s with pending := rest }

/-- The state with a command put at the front of its queue. -/
def State.withCommand (s : State) (c : Instr) : State := { s with pending := c :: s.pending }

/-- The state with the command that a word spells at the front of its queue. -/
def State.withFetchWord (s : State) (nbits w : Nat) : State :=
  match Sys2Proof.decodeTableWord nbits w with
  | some c => s.withCommand c
  | none => s

end Sys2Proof.Machine
end

