-- ==== Sys2Proof/Safety.lean ====
section
/-! DEFINITION. What a safe run of the block is, in the terms the statements use: the forms its state keeps, and what the safe
state does to the outputs (R49, R63, R94, R124, R350, R356). -/

namespace Sys2Proof.Safety

open Sys2Proof Sys2Proof.Machine

/-- At most one image bank is ACTIVE (R49). -/
abbrev oneActive (s : State) : Prop := bankState s 0 = .active → bankState s 1 ≠ .active

/-- What no command may undo in the security store: SEALED (R63), a programmed key slot (R36), and the height of an
anti-rollback counter (R47). -/
def secKept (a b : Sec) : Prop :=
  (a.lifecycle = .sealed → b.lifecycle = .sealed) ∧
    (∀ k key, vget a.keys k none = some key → vget b.keys k none = some key) ∧
    ∀ i, arb a i ≤ arb b i

/-- The persistent user areas and the image banks keep their canonical form, frame memory and the references too. -/
def memoriesWf (s : State) : Prop :=
  memWf s.dsp.mem = true ∧ memWf s.sto.areas = true ∧ memWf s.flw.refs = true ∧
    ∀ i, i < 2 → memWf (vget s.img.banks i Bank.empty).mem = true

/-- No facet's event queue holds more than 64 records (R124). -/
def queuesBounded (s : State) : Prop := ∀ f, f < 5 → (facet s f).queue.length ≤ 64

/-- In the safe state the trip outputs are static low (R350, R351, R356). -/
def tripsOff (s : State) : Prop := s.saf.safe = true → s.saf.lvl = (false, false)

/-- A step ends in a next state. -/
def completes (o : Host.Outcome State Fault Refusal) : Prop := ∃ t, o = .next t

/-! ### Host writes -/

/-- The device, port and facet can execute a request at once: the device runs, the port hears its host and is bound to the
facet, no frame executes or waits on it, and its UART decoder does not wait for a break (R433 to R435, R446). -/
def portFree (s : State) (f : Facet) (p : Port) : Bool :=
  portListens s && live s && decide ((port s p.val).facet = some f) && (port s p.val).executing.isNone
    && (port s p.val).waiting.isNone && !(decide (portMode s p.val = 1) && (port s p.val).uartIgnore)

/-- A one-word WRITE of facet f is accepted: its port is free, the word is aligned, reachable, neither Locked nor Busy
(R76 to R79), there is room for a frame memory word (R315), and no write of its FAB cycle stands against it (R90, R91). -/
def accepted (s : State) (f : Facet) (off : Nat) (w : RegWr) : Bool :=
  portFree s f w.port && decide (off < 65536) && decide (off % 4 = 0)
    && decide (writeOut s f.val (off, w.val) = .ok) && !wordLocked s off w.val && !wordBusy s f.val w.port off w.val
    && (!inFrameMem off || decide (s.dsp.queue.length < 64))
    && (!w.same || (!s.cyc.applied && !s.cyc.writes.contains (f, off)))

/-- What every request on a free port does first: the port counts the frame and restarts its watchdog (R85, R452), a reply that
was not taken is discarded and counted (R434, R124), and a FAB cycle begins unless the request belongs to the one before (R90). -/
def heard (fr : Frame) (s : State) : State :=
  let p := fr.port.val
  let lost := (port s p).held.isSome && !(port s p).taken
  { s with
    cyc := fabCycle fr s
    port := vmod s.port p fun y => { y with
      frames := satInc y.frames, wdtAt := some s.aon, held := none, untaken := if lost then satInc y.untaken else y.untaken
      spiMode3 := if p < 2 then fr.mode3 else y.spiMode3 }
    pwc := { s.pwc with portAFrameSeen := s.pwc.portAFrameSeen || decide (p = 0) }
    whl := { s.whl with hostTxloss := if lost then satInc s.whl.hostTxloss else s.whl.hostTxloss } }

/-- The frame of a row that names a register, as it is sent. -/
def rowFrame (s : State) (off : Nat) (v : Word) (w : RegWr) : Frame := wordFrame off v w (port s w.port.val).spiMode3

/-- The state in which an accepted one-word write is applied: the frame is heard, and the FAB cycle notes the word (R90). -/
def heardWord (f : Facet) (off : Nat) (w : RegWr) (s : State) : State :=
  let h := heard (rowFrame s off w.val w) s
  { h with cyc := { h.cyc with writes := h.cyc.writes ++ [(f, off)] } }

/-- What every accepted write does last: PRUN follows the requests (R353), the reply is held until it is taken (R436), and a
demand on battery starts HFX (R408). -/
def replied (p : Port) (r : Reply) (s : State) : State := wake (answer p.val r (prunFollow s))

/-- The reply OK to a WRITE (R438). -/
def okWrite : Reply := mkReply stOk cmdWrite []

/-- The port after a request on it has been answered, and the other ports: the request is counted and its watchdog restarted, the
reply is held and not yet taken, and an untaken reply before it is counted (R85, R434, R436, R452). -/
def answered (s t : State) (p : Port) (mode3 : Bool) (r : Reply) : Prop :=
  port t p.val = { port s p.val with
    frames := satInc (port s p.val).frames, wdtAt := some s.aon, held := some r, taken := false, executing := none
    prevStatus := r.status, prevCmd := r.cmd, busy := if r.status = stBusy then satInc (port s p.val).busy else (port s p.val).busy
    untaken := if (port s p.val).held.isSome && !(port s p.val).taken then satInc (port s p.val).untaken else (port s p.val).untaken
    spiMode3 := if p.val < 2 then mode3 else (port s p.val).spiMode3 } ∧
  ∀ q, q ≠ p.val → port t q = port s q

/-- What a demand on battery may start, set back to the state `s`: HFX and the mode that follows it (R408, Tables 14-2 and 14-7). -/
def hfxAside (s t : State) : State :=
  { t with pwc := { t.pwc with
      mode := s.pwc.mode, wakes := s.pwc.wakes, clk := s.pwc.clk, hfxStarting := s.pwc.hfxStarting, hfxOk := s.pwc.hfxOk
      hfxStarts := s.pwc.hfxStarts, hfxStartAt := s.pwc.hfxStartAt } }

/-- The parts of a state that every accepted host request may change, set back to those of `s`: the ports and the FAB cycle, the
count of lost replies, the note of a frame on port A, HFX's start on battery, and the pump-run request that PRUN follows. -/
def aside (s t : State) : State :=
  { hfxAside s t with
    cyc := s.cyc, port := s.port
    whl := { t.whl with hostTxloss := s.whl.hostTxloss }
    pwc := { (hfxAside s t).pwc with portAFrameSeen := s.pwc.portAFrameSeen }
    saf := { t.saf with
      prun := s.saf.prun, prunAt := s.saf.prunAt, fbDone := s.saf.fbDone, prunRun := s.saf.prunRun, dryRun := s.saf.dryRun } }

/-- A row that writes one register has been accepted: its port holds the reply OK, and apart from what every accepted request
may change the state is `u`. -/
def rowDone (s t : State) (w : RegWr) (u : State) : Prop :=
  answered s t w.port (port s w.port.val).spiMode3 okWrite ∧ aside s t = u

/-- Whenever a row that writes the word `val w` to the register at `off` is accepted and `cond` holds, it completes, its port holds
the reply OK, and apart from what every accepted request may change the state is `u`. -/
def rowDoes (row : RegWr → Instr) (off : Nat) (val : Word → Word) (cond : Facet → Word → State → Prop)
    (u : Facet → Word → State → State) : Prop :=
  ∀ (f : Facet) (w : RegWr) (s : State), accepted s f off { w with val := val w.val } = true → cond f w.val s →
    ∃ t, exec (row w) s = .next t ∧ rowDone s t w (u f w.val s)

/-- No condition beyond acceptance. -/
def always (_ : Facet) (_ : Word) (_ : State) : Prop := True

/-- The word carries the key 0x5A of a command register (R14, R51). -/
def withKey (_ : Facet) (v : Word) (_ : State) : Prop := bits v 15 8 = 0x5A

/-- The word does not carry the key. -/
def withoutKey (_ : Facet) (v : Word) (_ : State) : Prop := bits v 15 8 ≠ 0x5A

/-- A row does nothing but what every accepted request does. -/
def nothing (_ : Facet) (_ : Word) (s : State) : State := s

/-- A request frame can execute at once: its port is free for facet f, its CRC and its format hold (R433), and no structure was
applied in its FAB cycle (R91). -/
abbrev ready (cmd : Nat) (f : Facet) (fr : Frame) (s : State) : Prop :=
  portFree s f fr.port = true ∧ crcOk cmd fr = true ∧ formatOk cmd fr = true ∧ (fr.same = true → s.cyc.applied = false)

/-- The offsets that a frame addresses (R432). -/
def offsets (fr : Frame) : List Nat := frameOffs fr.addr.toNat fr.count.toNat

/-- The words that a WRITE writes, each an offset and a value (R432). -/
def written (fr : Frame) : List (Nat × Word) := (offsets fr).zip fr.data

/-- A frame has been executed: its port holds the reply, and apart from what every accepted request may change the state is `u`. -/
def frameDone (s t : State) (fr : Frame) (r : Reply) (u : State) : Prop :=
  answered s t fr.port fr.mode3 r ∧ aside s t = u

/-! ### Events -/

/-- What raising events may change, set back to the state `s`: the facets, whose queues take the records, the store's numbers and log
rings, and the events that wait for a round close (R16, R95, R121, R124, R401). -/
def eventsAside (s t : State) : State :=
  { t with
    fac := s.fac
    sto := { t.sto with
      evtSeq := s.sto.evtSeq, evtMark := s.sto.evtMark, ringM := s.sto.ringM, ringG := s.sto.ringG, ovwM := s.sto.ovwM
      ovwG := s.sto.ovwG, evq := s.sto.evq } }

/-- A facet's own registers but its queue and EVT_LOST. -/
def quietFacet (x : FacetSt) : FacetSt := { x with queue := [], evtLost := false }

end Sys2Proof.Safety
end

