-- ==== Sys2Proof/Certificates/Slice0/Obligations.lean ====
section
/-! DEFINITION. The statements about the block, rule by rule (OBLIGATIONS.json lists them with the rules they rest on). -/

open Sys2Proof Sys2Proof.Machine Sys2Proof.Safety

/-- For every command c and state s whose queue begins with c, step s is exec c on s with the rest of the queue. For every state
with an empty queue, step answers the state with the AON count and the RTC count one higher, the RTC at the value set for it
where one waits, a new FAB cycle, and nothing else changed; that the empty queue is a tick is the model's choice, log 1. (95_what_each_step_holds.md) -/
def Obligations.StepRunsFrontCommand : Prop :=
  (∀ (c : Instr) (rest : List Instr) (s : State), s.pending = c :: rest → step s = exec c { s with pending := rest }) ∧
    ∀ s : State, s.pending = [] → step s = .next { s with aon := s.aon + 1, cyc := Cycle.fresh, pwc := { s.pwc with
      rtc := match s.pwc.rtcNext with
        | none => s.pwc.rtc + 1
        | some v => v
      rtcNext := none } }

/-- The CRC of no bytes is 0xFFFF. A byte appended to a message is XORed into the high byte of its CRC, and eight steps follow,
each a shift left by one that XORs 0x1021 where the bit shifted out is 1. Over the nine ASCII bytes "123456789" the CRC is
0x29B1. (R431) -/
def Obligations.CrcOfCheckString : Prop :=
  crc16 [] = 0xFFFF#16 ∧
    (∀ (bs : List Byte) (b : Byte), crc16 (bs ++ [b]) = Nat.repeat
      (fun c : BitVec 16 => if c.getLsbD 15 then (c <<< 1) ^^^ 0x1021#16 else c <<< 1) 8 (crc16 bs ^^^ (b ++ 0#8))) ∧
    crc16 [0x31, 0x32, 0x33, 0x34, 0x35, 0x36, 0x37, 0x38, 0x39] = 0x29B1#16

/-- In State.reset no image is applied, every register of the window reads its reset value, the banks are EMPTY and the loader
IDLE, the lifecycle is SHIPPED, every key slot but slot 0 and every anti-rollback counter is empty or 0, no port is bound or
holds a reply, every facet's queue is empty, the wheel is STOPPED, every channel, path, link, gauge and display is OFF with
tag INVALID, the safe state is on with SAF_ENTRY_CAUSE 0x0100_0000 and both trip outputs static low, and the queue of
commands is empty. Values for which the spec gives no reset value are the model's choice, log 4, and are not stated. (14_power_clocks_startup.md, 12_safety.md, 01_lattice_image.md) -/
def Obligations.ResetState : Prop :=
  let s := State.reset
  s.str = none ∧ (∀ off, cfgV s off = regReset off) ∧ (∀ i, i < 2 → bankState s i = .empty) ∧ s.img.loader = .idle ∧
    s.sec.lifecycle = .shipped ∧ (∀ k, 1 ≤ k → vget s.sec.keys k none = none) ∧ (∀ i, arb s.sec i = 0) ∧
    (∀ p, (port s p).facet = none ∧ (port s p).held = none) ∧ (∀ f, (facet s f).queue = []) ∧ s.whl.state = .stopped ∧
    (∀ k, (chan s k).state = .off ∧ (chan s k).tag = .invalid) ∧ (∀ p, (flowPath s p).state = .off ∧ (flowPath s p).tag = .invalid) ∧
    s.chd.state = .off ∧ s.bat.state = .off ∧ s.dsp.state = .off ∧ s.saf.safe = true ∧ s.saf.entry = 0x01000000 ∧
    s.saf.lvl = (false, false) ∧ s.pending = []

/-- State.reset has at most one ACTIVE bank, memories in canonical form, event queues of at most 64 records, and low trip
outputs in the safe state. (01_lattice_image.md, 03_wheel.md, 13_persistence.md) -/
def Obligations.InvariantsHoldAtReset : Prop :=
  oneActive State.reset ∧ memoriesWf State.reset ∧ queuesBounded State.reset ∧ tripsOff State.reset

/-- For every command and every state, exec answers a next state, whose queue of waiting commands is the one before. (95_what_each_step_holds.md) -/
def Obligations.EveryCommandCompletes : Prop :=
  ∀ (c : Instr) (s : State), ∃ t, exec c s = .next t ∧ t.pending = s.pending

/-- For every command and every state whose lifecycle is SEALED, exec answers a next state whose lifecycle is SEALED. The
commands include every host frame, every image step and every reset. (R63) -/
def Obligations.SealedIsFinal : Prop :=
  ∀ (c : Instr) (s : State), s.sec.lifecycle = .sealed → ∃ t, exec c s = .next t ∧ t.sec.lifecycle = .sealed

/-- For every command and every state in which key slot k holds a key, exec answers a next state in which slot k holds the same
key. (R36) -/
def Obligations.ProgrammedKeysNeverChange : Prop :=
  ∀ (c : Instr) (s : State) (k : Nat) (key : List Byte), vget s.sec.keys k none = some key →
    ∃ t, exec c s = .next t ∧ vget t.sec.keys k none = some key

/-- For every command, every state and each of the seven anti-rollback counters, exec answers a next state in which the counter
is at least what it was. (R47, 01_lattice_image.md) -/
def Obligations.CountersNeverDecrease : Prop :=
  ∀ (c : Instr) (s : State) (i : Nat), ∃ t, exec c s = .next t ∧ arb s.sec i ≤ arb t.sec i

/-- From every state in which at most one of the two image banks is ACTIVE, a step answers a state in which at most one is. (R49, 01_lattice_image.md) -/
def Obligations.AtMostOneBankActive : Prop :=
  ∀ s t : State, oneActive s → step s = .next t → oneActive t

/-- A READ or READ-COHERENT of facet f that can execute, whose words are all OK and lie outside frame memory, leave out CHD_STAT
and, for READ, every word 0 of a snapshot, is answered OK with the value of each word in ascending order, and apart from its
port nothing changes. A frame of the one word CHD_STAT returns it and clears SECOND_LEADER for the owner of block CHD alone
(R75). (R439, R76, R77, 15_host_ports.md) -/
def Obligations.ReadReturnsWordValues : Prop :=
  (∀ (coh : Bool) (f : Facet) (fr : Frame) (s : State),
    ready (if coh then cmdCoherent else cmdRead) f fr s →
    (∀ off ∈ offsets fr, outcomeOf s f.val off false = .ok ∧ inFrameMem off = false ∧ off ≠ 0x3820 ∧
      (coh = true ∨ ∀ base, snapKey off ≠ some (base, 0))) →
    ∃ t, exec (if coh then .readCoherent fr else .read fr) s = .next t ∧
      frameDone s t fr (mkReply stOk (if coh then cmdCoherent else cmdRead)
        ((offsets fr).map fun off => wordValue (heard fr s) f.val fr.port.val off coh)) s) ∧
  ∀ (coh : Bool) (f : Facet) (fr : Frame) (s : State),
    ready (if coh then cmdCoherent else cmdRead) f fr s → fr.addr = 0x3820 → fr.count = 1 → outcomeOf s f.val 0x3820 false = .ok →
    ∃ t, exec (if coh then .readCoherent fr else .read fr) s = .next t ∧
      frameDone s t fr (mkReply stOk (if coh then cmdCoherent else cmdRead) [wordValue (heard fr s) f.val fr.port.val 0x3820 coh])
        { s with chd := { s.chd with second := if ownsRes s f.val 1 8 then false else s.chd.second } }

/-- A READ of one word, word 0 of an accumulator, is answered with the live word, and its port's snapshot then holds the
accumulator's base, its live words and the round. A READ of word i > 0 of an accumulator returns the snapshot's word i if
the port's snapshot holds that accumulator and the live word otherwise, and leaves the snapshot. A one-word READ-COHERENT
returns the live word and leaves the snapshot. In all three, apart from its port nothing changes, so no snapshot of another
port. (R81, R439, R437) -/
def Obligations.SnapshotsBelongToTheirPort : Prop :=
  ∀ (f : Facet) (fr : Frame) (s : State) (base i : Nat), fr.count = 1 → fr.addr.toNat ≠ 0x3820 →
    outcomeOf s f.val fr.addr.toNat false = .ok → snapKey fr.addr.toNat = some (base, i) →
    (ready cmdRead f fr s → ∃ t, exec (.read fr) s = .next t ∧ aside s t = s ∧ (∀ q, q ≠ fr.port.val → port t q = port s q) ∧
      (i = 0 → (port t fr.port.val).snap = some (takeSnap (heard fr s) f.val fr.port.val base) ∧
        (port t fr.port.val).held = some (mkReply stOk cmdRead [liveRead (heard fr s) f.val fr.port.val fr.addr.toNat])) ∧
      (0 < i → (port t fr.port.val).snap = (port s fr.port.val).snap ∧
        (port t fr.port.val).held = some (mkReply stOk cmdRead [((port s fr.port.val).snap.bind fun n =>
          if n.base = base then some (n.words.getD i 0) else none).getD
            (liveRead (heard fr s) f.val fr.port.val fr.addr.toNat)]))) ∧
    (ready cmdCoherent f fr s → ∃ t, exec (.readCoherent fr) s = .next t ∧
      frameDone s t fr (mkReply stOk cmdCoherent [liveRead (heard fr s) f.val fr.port.val fr.addr.toNat]) s)

/-- A WRITE frame of facet f that can execute and holds a Denied or Unmapped word is answered Denied if any word is Denied and
Unmapped otherwise. FCT_DENIED_WR of the facet counts each Denied word and FCT_UNMAPPED each Unmapped word, both saturating,
and FCT_LAST_DENIED records address, port and direction of the last Denied word. Of the facet nothing else changes but its
queue, EVT_LOST and the time of its latest ACCESS_DENIED; other facets keep everything; apart from the port and the event
log nothing else changes. (R77, R78, R79, 02_facets.md) -/
def Obligations.DeniedFramesWriteNothing : Prop :=
  ∀ (f : Facet) (fr : Frame) (s : State), ready cmdWrite f fr s → wordsStatus ((written fr).map (writeOut s f.val)) ≠ none →
    ∃ t, exec (.write fr) s = .next t ∧ answered s t fr.port fr.mode3 (mkReply
        (if ((written fr).map (writeOut s f.val)).contains .denied then stDenied else stUnmapped) cmdWrite []) ∧
      quietFacet (facet t f.val) = { quietFacet (facet s f.val) with
        deniedWr := ((written fr).map (writeOut s f.val)).foldl (fun n o => if o = .denied then satInc n else n) (facet s f.val).deniedWr
        unmapped := ((written fr).map (writeOut s f.val)).foldl (fun n o => if o = .unmapped then satInc n else n) (facet s f.val).unmapped
        lastDenied := (((written fr).filter fun x => decide (writeOut s f.val x = .denied)).getLast?.map fun x =>
          w32 (x.1 % 65536 + fr.port.val * 2 ^ 16 + 2 ^ 18)).getD (facet s f.val).lastDenied
        lastDeniedAt := (facet t f.val).lastDeniedAt } ∧
      (∀ g, g ≠ f.val → facet t g = facet s g) ∧ eventsAside s (aside s t) = s

/-- A WRITE of facet f that can execute, whose words are all OK and lie outside the user areas, that neither resets the facet
nor repeats a word of its FAB cycle, finds room in the display write queue, and is not Busy, is answered Locked if some word
is locked and OK otherwise. Apart from what every accepted request may change, its words have been applied in ascending
order, each locked or busy word of that moment left out; a frame memory word has joined the display write queue. The order
is the model's reading, log 33. (R78, R437, R438, 02_facets.md) -/
def Obligations.WriteAppliesItsWords : Prop :=
  ∀ (f : Facet) (fr : Frame) (s : State), ready cmdWrite f fr s → wordsStatus ((written fr).map (writeOut s f.val)) = none →
    (∀ x ∈ written fr, inAreaData x.1 = false ∧ ¬(x.1 = 0x0018 ∧ keyed x.2 = true ∧ bit x.2 0 = true) ∧
      (fr.same = true → s.cyc.writes.contains (f, x.1) = false)) →
    (∀ x ∈ written fr, inFrameMem x.1 = true → s.dsp.queue.length + ((written fr).filter fun y => inFrameMem y.1).length ≤ 64) →
    ((∀ x ∈ written fr, wordBusy s f.val fr.port x.1 x.2 = false) ∨ ∃ x ∈ written fr, wordLocked s x.1 x.2 = true) →
    ∃ t, exec (.write fr) s = .next t ∧
      (port t fr.port.val).held = some (mkReply (if (written fr).any fun x => wordLocked s x.1 x.2 then stLocked else stOk) cmdWrite []) ∧
      aside s t = aside s ((written fr).foldl (fun a x =>
        if inFrameMem x.1 then { a with dsp := { a.dsp with queue := a.dsp.queue ++ [(f, x.1 - 0x5000, x.2)] } }
        else if wordLocked a x.1 x.2 || wordBusy a f.val fr.port x.1 x.2 then a
        else regWrite f.val fr.port x.1 x.2 a)
        { heard fr s with cyc := { (heard fr s).cyc with writes := (heard fr s).cyc.writes ++ (written fr).map fun x => (f, x.1) } })

/-- A STATUS frame that can execute is answered OK with two words, FCT_STATUS of the facet and the port word: [7:0] the reply
status of the port's previous frame, [15:8] its CMD, [16] its reply was taken, [18:17] the port, [19] a frame waits. Apart
from its port nothing changes. (R440, 15_host_ports.md) -/
def Obligations.StatusReportsFacetAndPort : Prop :=
  ∀ (f : Facet) (fr : Frame) (s : State), ready cmdStatus f fr s →
    ∃ t, exec (.status fr) s = .next t ∧ frameDone s t fr (mkReply stOk cmdStatus [fctStatus s f.val,
      w32 ((port s fr.port.val).prevStatus + (port s fr.port.val).prevCmd * 2 ^ 8 + b2n (port s fr.port.val).taken * 2 ^ 16
        + fr.port.val * 2 ^ 17)]) s

/-- An IMAGE-CHUNK of F0 that can execute, on the session's port while the loader is RECEIVING and within 6144 words, is
answered OK; each of its words stands in the loading bank at its place, every other byte of that bank, the other bank and
all else keep their values, and exactly its words have been marked received besides those marked before. Outside RECEIVING,
or out of range, it is answered Unmapped; from another port of an open session, or during VERIFYING or SWITCH_PENDING, Busy;
in these cases nothing changes but the port. From another facet it is answered Denied and each word counts in FCT_DENIED_WR;
apart from the port, that facet and the event log nothing changes. (R51, R53, R441, 01_lattice_image.md) -/
def Obligations.ImageChunksFillTheBank : Prop :=
  (∀ (fr : Frame) (s : State), ready cmdChunk 0 fr s → s.img.loader = .receiving → fr.port = s.img.sessionPort →
    fr.addr.toNat + fr.data.length ≤ 6144 → memWf (loadingBank s).mem = true →
    ∃ t, exec (.imageChunk fr) s = .next t ∧
      (∀ k, k < fr.data.length → memWord (loadingBank t).mem (4 * (fr.addr.toNat + k)) = fr.data.getD k 0) ∧
      (∀ a, a < 4 * fr.addr.toNat ∨ 4 * (fr.addr.toNat + fr.data.length) ≤ a → memGet (loadingBank t).mem a = memGet (loadingBank s).mem a) ∧
      (∀ k, k < 6144 → t.img.received.getLsbD k =
        (s.img.received.getLsbD k || decide (fr.addr.toNat ≤ k ∧ k < fr.addr.toNat + fr.data.length))) ∧
      frameDone s t fr (mkReply stOk cmdChunk []) { s with img := { s.img with
        received := t.img.received
        banks := vmod s.img.banks (sessionBank s) fun b => { b with mem := (loadingBank t).mem } } }) ∧
  (∀ (fr : Frame) (s : State), ready cmdChunk 0 fr s → (s.img.loader = .idle ∨ fr.port = s.img.sessionPort) →
    s.img.loader ≠ .verifying → s.img.loader ≠ .switchPending →
    (s.img.loader ≠ .receiving ∨ 6144 < fr.addr.toNat + fr.data.length) →
    ∃ t, exec (.imageChunk fr) s = .next t ∧ frameDone s t fr (mkReply stUnmapped cmdChunk []) s) ∧
  (∀ (fr : Frame) (s : State), ready cmdChunk 0 fr s →
    ((s.img.loader ≠ .idle ∧ fr.port ≠ s.img.sessionPort) ∨ s.img.loader = .verifying ∨ s.img.loader = .switchPending) →
    ∃ t, exec (.imageChunk fr) s = .next t ∧ frameDone s t fr (mkReply stBusy cmdChunk []) s) ∧
  ∀ (f : Facet) (fr : Frame) (s : State), f ≠ 0 → ready cmdChunk f fr s →
    ∃ t, exec (.imageChunk fr) s = .next t ∧ answered s t fr.port fr.mode3 (mkReply stDenied cmdChunk []) ∧
      (facet t f.val).deniedWr = Nat.repeat satInc fr.count.toNat (facet s f.val).deniedWr ∧
      (∀ g, g ≠ f.val → facet t g = facet s g) ∧ eventsAside s (aside s t) = s

/-- An EVENT-POP that can execute is answered OK with the records at the head of the facet's queue after the removal, up to
COUNT / 8 of them. If the queue is pre, r, post, where ACK equals bits [15:0] of the number of r and r was in the port's
latest taken reply, and no record of pre was acknowledged so, then the queue is post; if no record was acknowledged the
queue is unchanged. Apart from its port and that queue nothing changes. (R442, 15_host_ports.md) -/
def Obligations.EventPopRemovesAcknowledged : Prop :=
  ∀ (f : Facet) (fr : Frame) (s : State) (rest : List EvRec), ready cmdPop f fr s →
    (let acked := fun r : EvRec => r.seq % 65536 = fr.addr.toNat ∧ r.seq ∈ (port s fr.port.val).popList
     ((∀ r ∈ (facet s f.val).queue, ¬ acked r) ∧ rest = (facet s f.val).queue) ∨
       ∃ pre r, (facet s f.val).queue = pre ++ r :: rest ∧ acked r ∧ ∀ x ∈ pre, ¬ acked x) →
    ∃ t, exec (.eventPop fr) s = .next t ∧ (facet t f.val).queue = rest ∧
      frameDone s t fr ⟨stOk, cmdPop, (rest.take (fr.count.toNat / 8)).flatMap recWords, (rest.take (fr.count.toNat / 8)).map EvRec.seq⟩
        { s with fac := vmod s.fac f.val fun x => { x with queue := rest } }

/-- On a port bound to a facet with no frame executing or waiting, a READ or WRITE whose CRC does not match is answered CRC
error and counted in DIAG_HOST_CRC, one whose CRC matches but whose format is wrong is answered Unmapped and counted in
DIAG_HOST_FMT; neither changes anything but the ports, the count of lost replies and the FAB cycle. While the port's
previous frame executes and none waits, a further request waits and does nothing else; while one waits, a further request is
answered Busy and does nothing else. Before step 8 of the start sequence a request on port A is answered Busy and does
nothing else. (R433, R434, R452, 15_host_ports.md) -/
def Obligations.BadFramesChangeOnlyTheirPort : Prop :=
  (∀ (w : Bool) (f : Facet) (fr : Frame) (s : State), portFree s f fr.port = true →
    (crcOk (if w then cmdWrite else cmdRead) fr = false ∨ formatOk (if w then cmdWrite else cmdRead) fr = false) →
    ∃ t, exec (if w then .write fr else .read fr) s = .next t ∧ aside s t = s ∧ (∀ q, q ≠ fr.port.val → port t q = port s q) ∧
      (crcOk (if w then cmdWrite else cmdRead) fr = false →
        (port t fr.port.val).held = some (mkReply stCrc (if w then cmdWrite else cmdRead) []) ∧
        (port t fr.port.val).crcErr = satInc (port s fr.port.val).crcErr ∧
        (port t fr.port.val).frames = (port s fr.port.val).frames ∧ (port t fr.port.val).wdtAt = (port s fr.port.val).wdtAt) ∧
      (crcOk (if w then cmdWrite else cmdRead) fr = true →
        (port t fr.port.val).held = some (mkReply stUnmapped (if w then cmdWrite else cmdRead) []) ∧
        (port t fr.port.val).fmtErr = satInc (port s fr.port.val).fmtErr ∧
        (port t fr.port.val).frames = satInc (port s fr.port.val).frames ∧ (port t fr.port.val).wdtAt = some s.aon)) ∧
  (∀ (f : Facet) (fr : Frame) (r : Request) (s : State), portListens s = true → live s = true → fr.port.val < 2 →
    (port s fr.port.val).facet = some f → (port s fr.port.val).executing = some r → crcOk cmdWrite fr = true →
    ∃ t, exec (.write fr) s = .next t ∧ aside s t = s ∧ (∀ q, q ≠ fr.port.val → port t q = port s q) ∧
      port t fr.port.val = { port s fr.port.val with
        frames := satInc (port s fr.port.val).frames, wdtAt := some s.aon, spiMode3 := fr.mode3
        waiting := if (port s fr.port.val).waiting.isNone then some ⟨cmdWrite, fr⟩ else (port s fr.port.val).waiting
        transient := if (port s fr.port.val).waiting.isNone then (port s fr.port.val).transient else some (mkReply stBusy cmdWrite [])
        busy := if (port s fr.port.val).waiting.isNone then (port s fr.port.val).busy else satInc (port s fr.port.val).busy }) ∧
  ∀ (fr : Frame) (s : State), portListens s = true → s.pwc.start ≠ .served → fr.port = 0 →
    ∃ t, exec (.write fr) s = .next t ∧ aside s t = s ∧ (∀ q, q ≠ 0 → port t q = port s q) ∧
      (port t 0).transient = some (mkReply stBusy cmdWrite []) ∧ (port t 0).held = (port s 0).held ∧
      (port t 0).busy = satInc (port s 0).busy

/-- On a port that is heard and bound: FETCH with no reply held and no frame executing readies a reply of status Unmapped and
CMD 0, else none. A reply that leaves while no port-level reply is under way is then taken and no longer held, and EVENT-POP
remembers its records; a port-level reply that leaves is gone. CS rising in a request, a break, gap or wrong byte within a
UART request, and a STOP within an I2C request count in DIAG_HOST_FMT; after a gap the UART ignores its line until a break
ends that. Nothing but the port changes. A frame that waits on a port whose execution has ended is executed in a FAB cycle
of its own by the steps 2 to 4 of R433; a STATUS that waited is answered so. (R434, R436, R443, R444, R446, R448) -/
def Obligations.PortsBetweenRequests : Prop :=
  (∀ (p : Port) (m : Bool) (s : State), p.val < 2 → portListens s = true → live s = true → (port s p.val).facet.isSome = true →
    exec (.fetch p m) s = .next { s with port := vmod s.port p.val fun y => { y with
      spiMode3 := m
      transient := if y.held.isNone && y.executing.isNone then some ⟨stUnmapped, 0, [], []⟩ else none } }) ∧
  (∀ (p : Port) (r : Reply) (s : State), (port s p.val).transient = none → (port s p.val).held = some r →
    exec (.replyTaken p) s = .next { s with port := vmod s.port p.val fun y => { y with
      held := none, taken := true, popList := if r.cmd = cmdPop then r.pop else y.popList } }) ∧
  (∀ (p : Port) (r : Reply) (s : State), (port s p.val).transient = some r →
    exec (.replyTaken p) s = .next { s with port := vmod s.port p.val fun y => { y with transient := none } }) ∧
  (∀ (p : Port) (inRequest : Bool) (s : State), p.val < 2 → portListens s = true → (port s p.val).facet.isSome = true →
    exec (.spiCsRise p inRequest) s = .next { s with port := vmod s.port p.val fun y =>
      if inRequest then { y with fmtErr := satInc y.fmtErr } else { y with transient := none } }) ∧
  (∀ (busy : Fin 3) (s : State), portListens s = true → portMode s 2 = 1 → (port s 2).facet.isSome = true →
    exec (.uartBreak busy) s = .next { s with port := vmod s.port 2 fun y => { y with
      uartIgnore := false, transient := if busy = 2 then none else y.transient
      fmtErr := if busy = 0 then y.fmtErr else satInc y.fmtErr } }) ∧
  (∀ s : State, portListens s = true → portMode s 2 = 1 → (port s 2).facet.isSome = true →
    exec .uartGapAbandon s = .next { s with port := vmod s.port 2 fun y => { y with fmtErr := satInc y.fmtErr, uartIgnore := true } }) ∧
  (∀ s : State, portListens s = true → portMode s 2 = 2 → (port s 2).facet.isSome = true →
    exec .i2cStopAbandon s = .next { s with port := vmod s.port 2 fun y => { y with fmtErr := satInc y.fmtErr } }) ∧
  (∀ (p : Port) (f : Facet) (r : Request) (s : State), s.pwc.pf = .none → (port s p.val).facet = some f →
    (port s p.val).executing = none → (port s p.val).waiting = some r →
    exec (.frameWaitStart p) s = .next (wake (runFrame r.cmd f p r.frame
      { s with cyc := Cycle.fresh, port := vmod s.port p.val fun y => { y with waiting := none } }))) ∧
  ∀ (p : Port) (f : Facet) (fr : Frame) (s : State), s.pwc.pf = .none → (port s p.val).facet = some f →
    (port s p.val).executing = none → (port s p.val).waiting = some ⟨cmdStatus, fr⟩ → crcOk cmdStatus fr = true →
    formatOk cmdStatus fr = true →
    ∃ t, exec (.frameWaitStart p) s = .next t ∧ aside s t = s ∧ (∀ q, q ≠ p.val → port t q = port s q) ∧
      (port t p.val).waiting = none ∧ (port t p.val).taken = false ∧ (port t p.val).prevStatus = stOk ∧
      (port t p.val).prevCmd = cmdStatus ∧
      (port t p.val).held = some (mkReply stOk cmdStatus [fctStatus s f.val,
        w32 ((port s p.val).prevStatus + (port s p.val).prevCmd * 2 ^ 8 + b2n (port s p.val).taken * 2 ^ 16 + p.val * 2 ^ 17)])

/-- An accepted write of PWC_ALARM, PWC_ALARM_CFG or DIAG_COMMIT_CFG, of a calibration, creep, phase, linearisation or AFE
register of MTR, or of PQ_CFG or PQ_UDIN completes with OK; the register then holds the written fields as stored by their
rules, every other register keeps its value, the value in force until the next round boundary is unchanged, and nothing else
changes. (R14, R156, R201, 16_register_map.md) -/
def Obligations.PlainRegistersStoreTheirFields : Prop :=
  let stores := fun (c : Instr) (off : Nat) (w : RegWr) => ∀ (f : Facet) (r : RegSpec) (s : State),
    accepted s f off w = true → specOf off = some r →
    ∃ t, exec c s = .next t ∧ cfgV t off = storeFields r.flds w.val ∧ (∀ o, o ≠ off → cfgV t o = cfgV s o) ∧
      rowDone s t w { s with cfg := t.cfg }
  (∀ (off : BitVec 16) (w : RegWr), off = 0x0824 ∨ off = 0x0828 ∨ off = 0xF200 → stores (.registerWrite off w) off.toNat w) ∧
  (∀ (off : BitVec 16) (w : RegWr), within off.toNat 0x1120 0x1238 = true → stores (.mtrCalWrite off w) off.toNat w) ∧
  (∀ (w : RegWr), stores (.pqCfgWrite false w) 0x2800 w) ∧ ∀ (w : RegWr), stores (.pqCfgWrite true w) 0x2804 w

/-- For fields that do not overlap, in ascending places within 32 bits, whose rules answer values that fit: each field of the
stored word is its rule's value of the written field, and every bit outside the fields is 0. The rule of a range a to b
stores b above it and a below it, that of a range "0 or a to b" stores 0 for 0 and otherwise the same, and that of a signed
range stores the limit on the value's side. (R496, R13, 16_register_map.md) -/
def Obligations.StoredFieldsAreHeldToTheirRange : Prop :=
  (∀ (fs : List Fld) (v : Word), fs.Pairwise (fun a b => a.lo + a.width ≤ b.lo) →
    (∀ x ∈ fs, x.lo + x.width ≤ 32 ∧ ∀ n, n < 2 ^ x.width → x.fix n < 2 ^ x.width) →
    (∀ x ∈ fs, x.get (storeFields fs v).toNat = x.fix (x.get v.toNat)) ∧
      ∀ i, (∀ x ∈ fs, i < x.lo ∨ x.lo + x.width ≤ i) → (storeFields fs v).getLsbD i = false) ∧
  (∀ lo width a b n : Nat, a ≤ b → (fRange lo width a b).fix n = if n < a then a else if b < n then b else n) ∧
  (∀ lo width a b n : Nat, a ≤ b → (fZero lo width a b).fix n = if n = 0 then 0 else if n < a then a else if b < n then b else n) ∧
  ∀ (lo width : Nat) (a b : Int) (n : Nat), a ≤ b → (fSigned lo width a b).fix n =
    ofSgn width (if sgnOf width n < a then a else if b < sgnOf width n then b else sgnOf width n)

/-- An accepted write of MTR_FS_x stores the written word, but 1 for a written 0 where the channel is routed and not in LOOP or
VOLT mode. An accepted write of PQ_THR that keeps the four rules of R202 stores it; one that breaks a rule stores nothing
and sets THR_REJECT. Nothing else changes. (R154, R202, 05_energy.md, 06_power_quality.md) -/
def Obligations.FullScalesAndThresholds : Prop :=
  (∀ k : Fin 8, rowDoes (.mtrCalWrite (BitVec.ofNat 16 (0x1100 + 4 * k.val))) (0x1100 + 4 * k.val) id always fun _ v s =>
    let x := if v = 0 ∧ routed s k.val = true ∧ sensorOf s k.val ≠ 5 ∧ sensorOf s k.val ≠ 6 then 1 else v
    { s with cfg := cfgSet s.cfg (0x1100 + 4 * k.val) x }) ∧
  rowDoes .pqThrWrite 0x2808 id always fun _ v s =>
    if 1 ≤ bits v 31 24 ∧ bits v 31 24 ≤ 20 ∧ bits v 23 16 + bits v 31 24 ≤ bits v 7 0 ∧ bits v 7 0 + bits v 31 24 ≤ 200 ∧
      200 + bits v 31 24 ≤ bits v 15 8 then { s with cfg := cfgSet s.cfg 0x2808 v }
    else { s with pq := { s.pq with thrReject := true } }

/-- An accepted write of IOP_CFn_CONST stores the word, but 1 for 0 while ENABLE is 1. One of IOP_CFn_CFG stores its fields and
sets a CONST of 0 to 1 where it sets ENABLE. An enabled generator keeps all it holds while its SET, ACC and CONST stay; if
one of them changes, its E_p and BACKLOG are cleared, and its running pulse, its count and its count of discarded pulses
stay. A generator that the write disables is cleared and its output becomes inactive; one that was disabled and stays so
keeps everything. Nothing else changes. (R176, R180, 05_energy.md) -/
def Obligations.CfRegistersRestartTheirGenerator : Prop :=
  (∀ n : Fin 3, rowDoes (.cfCfgWrite n true) (0x7844 + 16 * n.val) id always fun _ v s =>
    let c := cfgSet s.cfg (0x7844 + 16 * n.val) (if v = 0 ∧ bit (cfgV s (0x7840 + 16 * n.val)) 17 = true then 1 else v)
    let same := fun k => cfgV s (0x7844 + 16 * k) = cfgV { s with cfg := c } (0x7844 + 16 * k)
    let cf := vmap s.nrg.cf fun k g => if cfOn s k = true ∧ ¬ same k then { g with ep := 0, dE := 0, at_ := 0, backlog := 0 } else g
    { s with cfg := c, nrg := { s.nrg with cf := cf } }) ∧
  ∀ (n : Fin 3) (f : Facet) (w : RegWr) (s : State) (r : RegSpec), accepted s f (0x7840 + 16 * n.val) w = true →
    specOf (0x7840 + 16 * n.val) = some r →
    ∃ t, exec (.cfCfgWrite n false w) s = .next t ∧ cfgV t (0x7840 + 16 * n.val) = storeFields r.flds w.val ∧
      cfgV t (0x7844 + 16 * n.val) =
        (if bit (storeFields r.flds w.val) 17 = true ∧ cfgV s (0x7844 + 16 * n.val) = 0 then 1 else cfgV s (0x7844 + 16 * n.val)) ∧
      (∀ o, o ≠ 0x7840 + 16 * n.val → o ≠ 0x7844 + 16 * n.val → cfgV t o = cfgV s o) ∧
      (∀ k : Fin 3,
        let g := cfGen s k.val
        let cleared : CfSt := { g with ep := 0, dE := 0, at_ := 0, backlog := 0 }
        cfGen t k.val =
          if cfOn t k.val = true then
            (if cfgV s (0x7844 + 16 * k.val) = cfgV t (0x7844 + 16 * k.val) ∧
              cfgV s (0x7840 + 16 * k.val) &&& 0x77 = cfgV t (0x7840 + 16 * k.val) &&& 0x77 then g else cleared)
          else if cfOn s k.val = true then
            { cleared with active := false, endCyc := if g.active then s.nrg.eng * 8192 else g.endCyc }
          else g) ∧
      rowDone s t w { s with cfg := t.cfg, nrg := { s.nrg with cf := t.nrg.cf } }

/-- With its key, MTR_AFE_CTRL RESTART takes each named channel in FAULT into STARTING at step 3 of Table 4-7, keeping its
overload and pilot-lost notes, and clears its fault record; other channels and units keep everything. FLW_CTRL RESTART of an
existing path in FAULT without a reference mismatch, CHD_CTRL, BAT_CTRL and DSP_CTRL RESTART of the link, gauge and display
in FAULT clear the unit's record and start it; outside FAULT, or without the key, they change nothing. (R119, R152, R213, R243, R302) -/
def Obligations.RestartsReleaseFaultedUnits : Prop :=
  (rowDoes .mtrRestart 0x10D4 id withoutKey nothing ∧ ∀ (f : Facet) (w : RegWr) (s : State), accepted s f 0x10D4 w = true →
    bits w.val 15 8 = 0x5A →
    ∃ t, exec (.mtrRestart w) s = .next t ∧
      (∀ k, k < 8 → chan t k = if bit w.val k = true ∧ (chan s k).state = .fault then
        { ChanSt.idle with
          state := .starting, ovl := (chan s k).ovl, lastOvlEvt := (chan s k).lastOvlEvt
          lost := (chan s k).lost, age := 12 } else chan s k) ∧
      (∀ u, faultRec t u = if 1 ≤ u ∧ u ≤ 8 ∧ bit w.val (u - 1) = true ∧ (chan s (u - 1)).state = .fault then ⟨[], none, false⟩
        else faultRec s u) ∧
      rowDone s t w { s with met := { s.met with ch := t.met.ch }, whl := { s.whl with faults := t.whl.faults } }) ∧
  (rowDoes .flwRestart 0x300C (withCmd · 3) (fun _ v s => bits v 15 8 ≠ 0x5A ∨ bits v 25 24 = 0 ∨
      pathExists s (bits v 25 24 - 1) = false ∨ (flowPath s (bits v 25 24 - 1)).state ≠ .fault) nothing ∧
    rowDoes .flwRestart 0x300C (withCmd · 3) (fun _ v s => bits v 15 8 = 0x5A ∧ bits v 25 24 ≠ 0 ∧
      pathExists s (bits v 25 24 - 1) = true ∧ (flowPath s (bits v 25 24 - 1)).state = .fault ∧
      (flowPath s (bits v 25 24 - 1)).refMismatch = false)
      fun _ v s => clearFaults (0x0F + bits v 25 24)
        { s with flw := { dropShots (bits v 25 24 - 1) s.flw with
            path := vmod s.flw.path (bits v 25 24 - 1) (pathEnter s (bits v 25 24 - 1)) } }) ∧
  (rowDoes .chdRestart 0x3814 (withCmd · 2) (fun _ v s => bits v 15 8 ≠ 0x5A ∨ s.chd.state ≠ .fault) nothing ∧
    ∀ (f : Facet) (w : RegWr) (s : State), accepted s f 0x3814 { w with val := withCmd w.val 2 } = true → bits w.val 15 8 = 0x5A →
      s.chd.state = .fault →
      ∃ t, exec (.chdRestart w) s = .next t ∧ t.chd.state = .starting ∧ faultRec t 0x18 = ⟨[], none, false⟩ ∧
        (∀ u, u ≠ 0x18 → faultRec t u = faultRec s u) ∧
        eventsAside s (aside s t) = { s with chd := t.chd, whl := { s.whl with faults := t.whl.faults } }) ∧
  (rowDoes .batRestart 0x401C (withCmd · 2) (fun _ v s => bits v 15 8 ≠ 0x5A ∨ s.bat.state ≠ .fault) nothing ∧
    rowDoes .batRestart 0x401C (withCmd · 2) (fun _ v s => bits v 15 8 = 0x5A ∧ s.bat.state = .fault) fun _ _ s =>
      clearFaults 0x20 { s with bat := { s.bat with
        state := .starting, mode := 0, interval := 1, gotI := false, gotV := false, frameNo := 0, quietRun := 0, lastAt := s.aon
        lowSince := none, restFrom := none, stepFrom := none, fullSince := none, emptySince := none } }) ∧
  rowDoes .dspRestart 0x480C (withCmd · 2) (fun _ v s => bits v 15 8 ≠ 0x5A ∨ s.dsp.state ≠ .fault) nothing ∧
    ∀ (f : Facet) (w : RegWr) (s : State), accepted s f 0x480C { w with val := withCmd w.val 2 } = true → bits w.val 15 8 = 0x5A →
      s.dsp.state = .fault →
      ∃ t, exec (.dspRestart w) s = .next t ∧ t.dsp.state ≠ .fault ∧ faultRec t 0x28 = ⟨[], none, false⟩ ∧
        (∀ u, u ≠ 0x28 → faultRec t u = faultRec s u) ∧
        eventsAside s (aside s t) = { s with dsp := t.dsp, whl := { s.whl with faults := t.whl.faults } }

/-- FCT_CTRL CLR_COUNTERS with its key zeroes the facet's own three counters and FCT_LAST_DENIED; PQ_CTRL CLR_COUNTERS zeroes
the event counters, cumulative durations and the fall-back count and time, and leaves PQ_EVT_INDEX; DSP_CTRL CLR_COUNTERS
zeroes the mismatch, emergency and refused counters. Without the key nothing changes. (R83, R201, 02_facets.md, 06_power_quality.md, 11_display.md) -/
def Obligations.CounterClears : Prop :=
  (rowDoes .clrCounters 0x0018 (fctWord · 1) withKey fun f _ s => { s with fac := vmod s.fac f.val fun x => { x with
      deniedRd := 0, deniedWr := 0, unmapped := 0, lastDenied := 0 } }) ∧
    rowDoes .clrCounters 0x0018 (fctWord · 1) withoutKey nothing ∧
  (rowDoes .pqClrCounters 0x28B0 (· ||| 1) withKey fun _ _ s => { s with pq := { s.pq with
      counts := Vector.replicate 12 0, durs := Vector.replicate 3 0, fbCount := 0, fbT := 0, fbFrom := s.aon } }) ∧
    rowDoes .pqClrCounters 0x28B0 (· ||| 1) withoutKey nothing ∧
  (rowDoes .dspClrCounters 0x480C (withCmd · 3) withKey fun _ _ s => { s with dsp := { s.dsp with
      mismatches := 0, emergencies := 0, refused := 0 } }) ∧
    rowDoes .dspClrCounters 0x480C (withCmd · 3) withoutKey nothing

/-- With its key and a path, ZERO of a path that exists, is in RUN and, for the bank, is led by this device starts a calibration
of 16 times [23:16], held to 1 to 64, pairs for each assignment; LEARN of a path that exists starts one of 64; otherwise the
run is REFUSED and FLOW_CAL_DONE is queued. ABORT ends a running calibration with status 3, and so does the time-out once 4
times the count of pair periods or, out of RUN, the hold time has passed; both queue FLOW_CAL_DONE and leave everything
else. Without a running calibration ABORT does nothing. (R233, R213, R261, 07_pipe_flow.md) -/
def Obligations.CalibrationRuns : Prop :=
  let start_ := fun (cmd : Nat) (v : Word) (s : State) =>
    let p := bits v 25 24 - 1
    let bad := pathExists s p = false ∨ (cmd = 1 ∧ ((flowPath s p).state ≠ .run ∨ (p = 2 ∧ s.chd.leader = false)))
    let cal : Cal := ⟨if bad then 4 else 1, bits v 25 24, cmd, if cmd = 1 then 16 * max 1 (min 64 (bits v 23 16)) else 64, 0, 0, 0, [],
      s.aon, if (flowPath s p).state = .run then none else some s.aon⟩
    let u : State := { s with flw := { s.flw with cal := cal } }
    if bad then emit (flowEv s p 0x0705 1 (w32 cmd) 0 0 2) u else u
  let end_ := fun (s : State) => emit (flowEv s (s.flw.cal.path - 1) 0x0705 1 (w32 s.flw.cal.cmd) 0
      (w32 (s.flw.cal.got0 + s.flw.cal.got1)) 1) { s with flw := { s.flw with cal := { s.flw.cal with status := 3, leftAt := none } } }
  let named := fun (_ : Facet) (v : Word) (_ : State) => bits v 15 8 = 0x5A ∧ bits v 25 24 ≠ 0
  rowDoes .zero 0x300C (withCmd · 1) named (fun _ v s => start_ 1 v s) ∧ rowDoes .learn 0x300C (withCmd · 2) named (fun _ v s => start_ 2 v s) ∧
  rowDoes .flwAbort 0x300C (withCmd · 4) named (fun _ _ s => if s.flw.cal.status = 1 then end_ s else s) ∧
  rowDoes .zero 0x300C (withCmd · 1) (fun f v s => ¬ named f v s) nothing ∧
  rowDoes .learn 0x300C (withCmd · 2) (fun f v s => ¬ named f v s) nothing ∧
  rowDoes .flwAbort 0x300C (withCmd · 4) (fun f v s => ¬ named f v s) nothing ∧
  ∀ s : State, live s = true → s.flw.cal.status = 1 →
    (s.flw.cal.start + 4 * s.flw.cal.need * pairPeriod s (s.flw.cal.path - 1) < s.aon ∨
      ∃ a, s.flw.cal.leftAt = some a ∧ holdMs s (s.flw.cal.path - 1) * 32768 < (s.aon - a) * 1000) →
    ∃ t, exec .calibrationTimeout s = .next t ∧ hfxAside s t = end_ s

/-- An accepted write of FLW_HOLD_MS or FLW_CUT stores its fields. One of a path's register stores them where the relation of
that register holds afterwards (X below L, minimum below maximum, sampling within its limit, gaps within the period), and
otherwise stores nothing and sets the path's CFG_REJECT; FLW_PERIOD is judged by every existing pipe path. CHD_CYCLE is
judged by the bank path. A stored reference CRC is checked on an existing path: 0 selects the synthetic reference, the CRC
of the learned bytes accepts them, and any other value or missing bytes place the path in FAULT with REF_MISMATCH. Other
registers, other paths and all else but the event log keep their values. (R213, R243, R244, 07_pipe_flow.md, 08_channel_flow.md) -/
def Obligations.FlowConfigurationKeepsItsRelations : Prop :=
  (∀ (off : BitVec 16) (w : RegWr) (f : Facet) (r : RegSpec) (s : State), off = 0x3004 ∨ off = 0x3008 →
    accepted s f off.toNat w = true → specOf off.toNat = some r →
    ∃ t, exec (.flwConfigWrite off w) s = .next t ∧ rowDone s t w { s with cfg := cfgSet s.cfg off.toNat (storeFields r.flds w.val) }) ∧
  (∀ (w : RegWr) (f : Facet) (r : RegSpec) (s : State), accepted s f 0x3000 w = true → specOf 0x3000 = some r →
    ∃ t, exec (.flwConfigWrite 0x3000 w) s = .next t ∧ rowDone s t w
      (let c := cfgSet s.cfg 0x3000 (storeFields r.flds w.val)
       let bad := fun (p : Nat) (x : FPath) => if p < 2 ∧ pathExists s p = true then { x with cfgReject := true } else x
       if (pathExists s 0 = true → flowRelOk c 0 0x3000 = true) ∧ (pathExists s 1 = true → flowRelOk c 1 0x3000 = true) then { s with cfg := c }
       else { s with flw := { s.flw with path := vmap s.flw.path bad } })) ∧
  (∀ (off : BitVec 16) (w : RegWr) (f : Facet) (r : RegSpec) (s : State), 0x3100 ≤ off.toNat → off.toNat < 0x3340 →
    accepted s f off.toNat w = true → specOf off.toNat = some r →
    (let p := (off.toNat - 0x3100) / 0x100
     let c := cfgSet s.cfg off.toNat (storeFields r.flds w.val)
     (flowRelOk c p off.toNat = false → ∃ t, exec (.flwConfigWrite off w) s = .next t ∧
        rowDone s t w { s with flw := { s.flw with path := vmod s.flw.path p fun x => { x with cfgReject := true } } }) ∧
     (flowRelOk c p off.toNat = true → ∃ t, exec (.flwConfigWrite off w) s = .next t ∧ t.cfg = c ∧
        (∀ q, q ≠ p → flowPath t q = flowPath s q) ∧ t.flw.vol = s.flw.vol ∧ t.flw.refs = s.flw.refs ∧
        eventsAside s (aside s t) = { s with cfg := c, flw := t.flw }))) ∧
  (∀ (i : Fin 3) (w : RegWr) (f : Facet) (s : State), accepted s f ([0x3130, 0x3230, 0x3328].getD i.val 0x3130) w = true →
    pathExists s i.val = true → cfgV s ([0x3130, 0x3230, 0x3328].getD i.val 0x3130) ≠ w.val →
    ∃ t, exec (.flwRefcrcWrite i w) s = .next t ∧ cfgV t ([0x3130, 0x3230, 0x3328].getD i.val 0x3130) = w.val ∧
      (w.val = 0 → (flowPath t i.val).refMismatch = false ∧ (flowPath t i.val).refLearned = false) ∧
      (w.val ≠ 0 → vget s.flw.refHas i.val false = true → crc32 (refBytes s i.val) = w.val →
        (flowPath t i.val).refMismatch = false ∧ (flowPath t i.val).refLearned = true) ∧
      (w.val ≠ 0 → (vget s.flw.refHas i.val false = false ∨ crc32 (refBytes s i.val) ≠ w.val) →
        (flowPath t i.val).refMismatch = true ∧ (flowPath t i.val).state = .fault ∧ (flowPath t i.val).tag = .invalid) ∧
      (∀ q, q ≠ i.val → flowPath t q = flowPath s q) ∧ eventsAside s (aside s t) = { s with cfg := t.cfg, flw := t.flw }) ∧
  ∀ (w : RegWr) (f : Facet) (r : RegSpec) (s : State), accepted s f 0x3804 w = true → specOf 0x3804 = some r →
    ∃ t, exec (.chdCycleWrite w) s = .next t ∧ rowDone s t w
      (let c := cfgSet s.cfg 0x3804 (storeFields r.flds w.val)
       if flowRelOk c 2 0x3804 = true then { s with cfg := c }
       else { s with flw := { s.flw with path := vmod s.flw.path 2 fun x => { x with cfgReject := true } } })

/-- An accepted CHD_CTRL SWAP with its key (so in RUN, with no swap pending) notes this device's own request and nothing else.
An accepted SDI_CTRL QUERY, ACK or IDENT with its key queues that command for the address [23:16] and clears the result of
the one before. Without the key nothing changes. An accepted write of SDI_Sk_CFG or SDI_Sk_PER stores its fields where the
slot is then not enabled or within every range of Table 9-4, its next due time is taken up, its values' age is judged by the
STALE_S then stored, and a slot that does not run drops a concurrent measurement still pending; otherwise it stores nothing
and sets CFG_REJECT of slot k. Other slots and all else keep their values. (R257, R264, R272, R279, 08_channel_flow.md, 09_sdi12_port.md) -/
def Obligations.LinkAndSensorRows : Prop :=
  (rowDoes .swap 0x3814 (withCmd · 1) withKey (fun _ _ s => { s with chd := { s.chd with ownReq := true } }) ∧
    rowDoes .swap 0x3814 (withCmd · 1) withoutKey nothing) ∧
  (let asks := fun (row : RegWr → Instr) (c : Nat) =>
    rowDoes row 0x3C04 (withCmd · c) withKey (fun _ v s =>
      { s with sdi := { s.sdi with shot := some (c, bits v 23 16), shotResult := 0 } }) ∧
    rowDoes row 0x3C04 (withCmd · c) withoutKey nothing
   asks .query 1 ∧ asks .ack 2 ∧ asks .ident 3) ∧
  ∀ (k : Fin 8) (per : Bool) (w : RegWr) (f : Facet) (r : RegSpec) (s : State),
    accepted s f (0x3C40 + 0x60 * k.val + if per then 4 else 0) w = true →
    specOf (0x3C40 + 0x60 * k.val + if per then 4 else 0) = some r →
    (let c := cfgSet s.cfg (0x3C40 + 0x60 * k.val + if per then 4 else 0) (storeFields r.flds w.val)
     let u : State := { s with cfg := c }
     let ok := slotOk (cfgV u (0x3C40 + 0x60 * k.val)) (cfgV u (0x3C40 + 0x60 * k.val + 4))
     ∃ t, exec (.sdiSlotConfigWrite k per w) s = .next t ∧ rowDone s t w
       (if ok then
          let slots := vmod s.sdi.slots k.val fun x => { x with
            dueAt := nextDue u k.val, stale := Vector.ofFn fun j : Fin 9 => sdiOld u k.val j.val }
          { u with sdi := { u.sdi with slots := vmap slots fun j x => if slotRuns u j then x else { x with pendN := none, dataDue := false } } }
        else { s with sdi := { s.sdi with slots := vmod s.sdi.slots k.val fun x => { x with cfgReject := true } } }))

/-- An accepted BAT_CTRL NEW_CELL with its key sets charge, uncertainty, used charge and cycles to 0 and FCC to BAT_CAP_NOM,
derated for a primary cell, clears GAP, CHARGE_INTO_PRIMARY and CELL_CHANGED_POSSIBLE, sets SoC to 1 for a primary cell or
starts the FAST anchor, puts a running gauge into STARTING, and makes a STATE commit fall due. An accepted write of a BAT
register stores its fields where TYPE and the tables then keep their rules, starting or stopping the gauge with ENABLE;
otherwise it stores nothing and sets CFG_REJECT. Nothing else changes. (R291, R302, R303, R382, 10_backup_battery.md) -/
def Obligations.GaugeCommandsAndConfiguration : Prop :=
  (∀ (f : Facet) (w : RegWr) (s : State), accepted s f 0x401C { w with val := withCmd w.val 1 } = true → bits w.val 15 8 = 0x5A →
    ∃ t, exec (.newCell w) s = .next t ∧ t.bat.charge = 0 ∧ t.bat.unc = 0 ∧ t.bat.used = 0 ∧ t.bat.cycles = 0 ∧
      t.bat.fcc = (if batPrimary s then ((cfgV s 0x4008).toNat : Rat) * (cfgV s 0x4018).toNat / 65536 else (cfgV s 0x4008).toNat) ∧
      t.bat.gap = false ∧ t.bat.intoPrimary = false ∧ t.bat.changed = false ∧
      (batPrimary s = true → t.bat.socAbs = 1) ∧ (batPrimary s = false → t.bat.fastFrom = some s.aon) ∧
      t.bat.state = (if gaugeOn s then .starting else s.bat.state) ∧ t.sto.deferred.isSome = true ∧
      rowDone s t w { s with bat := t.bat, sto := { s.sto with deferred := t.sto.deferred } }) ∧
  rowDoes .newCell 0x401C (withCmd · 1) withoutKey nothing ∧
  ∀ (off : BitVec 16) (w : RegWr) (f : Facet) (r : RegSpec) (s : State), 0x4000 ≤ off.toNat → off.toNat < 0x4800 →
    accepted s f off.toNat w = true → specOf off.toNat = some r →
    (let u : State := { s with cfg := cfgSet s.cfg off.toNat (storeFields r.flds w.val) }
     (batCfgOk (cfgV u 0x4000) (batTab u) = false → ∃ t, exec (.batConfigWrite off w) s = .next t ∧
       rowDone s t w { s with bat := { s.bat with cfgReject := true } }) ∧
     (batCfgOk (cfgV u 0x4000) (batTab u) = true → ∃ t, exec (.batConfigWrite off w) s = .next t ∧ t.cfg = u.cfg ∧
       t.bat.state = (if gaugeOn u && !gaugeOn s then .starting else if gaugeOn s && !gaugeOn u then .off else s.bat.state) ∧
       (gaugeOn u = gaugeOn s → t.bat = s.bat) ∧ rowDone s t w { u with bat := t.bat }))

/-- With ENABLE 1, and VMAIN present, a glance running or the conditions of R320, a press of KEY and an accepted GLANCE with its
key set the glance's end GLANCE_S after now, and a display in RUN notes the advance of its legal tile; a display that was
off leaves OFF. Otherwise GLANCE changes nothing and a press with ENABLE 1 counts in DSP_GLANCE_REFUSED alone. (A press in
SHELF ends SHELF.) At its end a glance is over; before it nothing changes. Without the key GLANCE changes nothing. (R318, R319, R320, 11_display.md) -/
def Obligations.GlancesStartExtendAndExpire : Prop :=
  let may := fun s : State => bit (cfgV s 0x4800) 0 = true ∧ (s.pwc.vmainOk = true ∨ s.dsp.glance.isSome = true ∨ batAllows s = true)
  let lit := fun (s t : State) => t.dsp.glance = some (s.aon + bits (cfgV s 0x4800) 12 8 * 32768) ∧
    t.dsp.nextItem = (if s.dsp.seq = .off ∧ s.dsp.state ≠ .fault then false else (s.dsp.nextItem || decide (s.dsp.state = .run))) ∧
    (s.dsp.seq = .off → s.dsp.state ≠ .fault → t.dsp.state = .starting)
  (∀ s : State, live s = true → s.pwc.mode ≠ .shelf → may s →
    ∃ t, exec .keyPress s = .next t ∧ lit s t ∧ eventsAside s (hfxAside s t) = { s with dsp := t.dsp }) ∧
  (∀ s : State, live s = true → s.pwc.mode ≠ .shelf → bit (cfgV s 0x4800) 0 = true → ¬ may s →
    ∃ t, exec .keyPress s = .next t ∧ hfxAside s t = { s with dsp := { s.dsp with refused := satInc s.dsp.refused } }) ∧
  (∀ (f : Facet) (w : RegWr) (s : State), accepted s f 0x480C { w with val := withCmd w.val 1 } = true → bits w.val 15 8 = 0x5A → may s →
    ∃ t, exec (.glance w) s = .next t ∧ lit s t ∧ eventsAside s (aside s t) = { s with dsp := t.dsp }) ∧
  rowDoes .glance 0x480C (withCmd · 1) (fun _ v s => bits v 15 8 ≠ 0x5A ∨ ¬ may s) nothing ∧
  (∀ (s : State) (e : Nat), live s = true → s.dsp.glance = some e → e ≤ s.aon →
    ∃ t, exec .glanceExpiry s = .next t ∧ t.dsp.glance = none ∧ eventsAside s (hfxAside s t) = { s with dsp := t.dsp }) ∧
  ∀ s : State, (s.dsp.glance = none ∨ ∃ e, s.dsp.glance = some e ∧ s.aon < e) →
    ∃ t, exec .glanceExpiry s = .next t ∧ hfxAside s t = s

/-- An accepted write of DSP_RAIL, DSP_GREYj or DSP_TILEn stores its fields where afterwards the rails keep their distances, the
grey table begins with 0 and does not decrease, or the tiles keep the grid, overlap, ownership and legal tile rules;
otherwise it stores nothing and sets CFG_REJECT. An accepted write of DSP_CFG stores its fields; a display that is then
wanted and off starts, and one that runs and is no longer wanted begins to stop. Nothing else but the event log changes. (R308, R312, R318, R326, R327, 11_display.md) -/
def Obligations.DisplayRegistersKeepTheirRules : Prop :=
  let judged := fun (row : RegWr → Instr) (off : Nat) (ok : State → State → Prop) => ∀ (f : Facet) (w : RegWr) (r : RegSpec) (s : State),
    accepted s f off w = true → specOf off = some r →
    (let u : State := { s with cfg := cfgSet s.cfg off (storeFields r.flds w.val) }
     (ok s u → ∃ t, exec (row w) s = .next t ∧ rowDone s t w u) ∧
     (¬ ok s u → ∃ t, exec (row w) s = .next t ∧ rowDone s t w { s with dsp := { s.dsp with cfgReject := true } }))
  let grey := fun (u : State) (i : Nat) => bits (cfgV u (0x4810 + 4 * (i / 4))) (8 * (i % 4) + 7) (8 * (i % 4))
  judged .dspRailWrite 0x4804 (fun _ u => bits (cfgV u 0x4804) 7 0 + 40 ≤ 2 * bits (cfgV u 0x4804) 23 16 ∧
    bits (cfgV u 0x4804) 15 8 + 40 ≤ 2 * bits (cfgV u 0x4804) 31 24) ∧
  (∀ j : Fin 4, judged (.dspGreyWrite j) (0x4810 + 4 * j.val) fun _ u => grey u 0 = 0 ∧ ∀ i, i < 15 → grey u i ≤ grey u (i + 1)) ∧
  (∀ n : Fin 8, judged (.dspTileWrite n) (0x4820 + 4 * n.val) fun s u =>
    tilesOk ((List.range 8).map fun j => cfgV u (0x4820 + 4 * j)) (!(legalItems s).isEmpty) = true ∧
    (((tW (cfgV u (0x4820 + 4 * n.val)) = 0) ↔ (tW (cfgV s (0x4820 + 4 * n.val)) = 0)) ∨ (n ≠ 0 ∧ tileGranted s n.val = false)) ∧
    (n = 0 ∨ tW (cfgV u (0x4820 + 4 * n.val)) = 0 ∨ tileGranted s n.val = true)) ∧
  ∀ (f : Facet) (w : RegWr) (r : RegSpec) (s : State), accepted s f 0x4800 w = true → specOf 0x4800 = some r →
    ∃ t, exec (.dspCfgWrite w) s = .next t ∧ t.cfg = cfgSet s.cfg 0x4800 (storeFields r.flds w.val) ∧
      (dspWanted t = true → s.dsp.seq = .off → t.dsp.state = .starting ∧ t.dsp.seq = .rails 0) ∧
      (dspWanted { s with cfg := t.cfg } = false → s.dsp.seq = .run → t.dsp.seq = .stop) ∧
      eventsAside s (aside s t) = { s with cfg := t.cfg, dsp := t.dsp }

/-- A WRITE of frame memory words, each OK, appends them to the display write queue in order if they fit in its 64 words and is
answered OK; if not it is answered Busy and writes nothing. When the word at the head of the queue lands, each of its two
pixel groups takes the written value exactly where the facet owns the tile it lies in and keeps the old value elsewhere;
every other byte of frame memory keeps its value and the word leaves the queue. Nothing else changes but the tiles' expected
CRCs. (R82, R315, R317, 11_display.md) -/
def Obligations.FrameMemoryWritesQueueAndLand : Prop :=
  (∀ (f : Facet) (fr : Frame) (s : State), ready cmdWrite f fr s → fr.data ≠ [] →
    (∀ x ∈ written fr, inFrameMem x.1 = true ∧ writeOut s f.val x = .ok) →
    (∀ x ∈ written fr, fr.same = true → s.cyc.writes.contains (f, x.1) = false) →
    (s.dsp.queue.length + fr.data.length ≤ 64 → ∃ t, exec (.frameMemoryWrite fr) s = .next t ∧
      frameDone s t fr okWrite { s with dsp := { s.dsp with
        queue := s.dsp.queue ++ (written fr).map fun x => (f, x.1 - 0x5000, x.2) } }) ∧
    (64 < s.dsp.queue.length + fr.data.length → ∃ t, exec (.frameMemoryWrite fr) s = .next t ∧
      frameDone s t fr (mkReply stBusy cmdWrite []) s)) ∧
  ∀ (passed : Bool) (f : Facet) (o : Nat) (w : Word) (rest : List (Facet × Nat × Word)) (s : State), live s = true →
    s.dsp.queue = (f, o, w) :: rest → memWf s.dsp.mem = true →
    ∃ t, exec (.frameMemoryWordLand passed) s = .next t ∧ t.dsp.queue = rest ∧ memWf t.dsp.mem = true ∧
      bits (memWord t.dsp.mem o) 15 0 = (if groupWrites s f.val o 0 then bits w 15 0 else bits (memWord s.dsp.mem o) 15 0) ∧
      bits (memWord t.dsp.mem o) 31 16 = (if groupWrites s f.val o 1 then bits w 31 16 else bits (memWord s.dsp.mem o) 31 16) ∧
      (∀ a, a < o ∨ o + 4 ≤ a → memGet t.dsp.mem a = memGet s.dsp.mem a) ∧
      hfxAside s t = { s with dsp := { s.dsp with mem := t.dsp.mem, queue := rest, tiles := t.dsp.tiles } }

/-- An accepted write of F0 to a SAF configuration register stores its fields; the values in force change only at the next round
boundary, and SAF_WRITE is queued with the offset, the old value, the new value, and the CRC of the values in force, which
is the model's reading of the last word (log 53). Nothing else changes. (R371, R372, 12_safety.md) -/
def Obligations.SafetyRegistersReportTheirWrites : Prop :=
  ∀ (off : BitVec 16) (w : RegWr) (r : RegSpec) (s : State), 0x6000 ≤ off.toNat → off.toNat < 0x6800 → accepted s 0 off.toNat w = true →
    specOf off.toNat = some r →
    ∃ t, exec (.safWrite off w) s = .next t ∧ rowDone s t w
      (emit ⟨0x0C05, 0, 1, blockAndF0 s 13, w32 off.toNat, cfgV s off.toNat, storeFields r.flds w.val, safCfgCrc s, false⟩
        { s with cfg := cfgSet s.cfg off.toNat (storeFields r.flds w.val) })

/-- An accepted write of NVU_SEL or EVT_LOG_CTRL stores the facet's selection and nothing else. NVU_CTRL CLEAR with its key by
the owner of the selected area begins to clear it; by another facet or without the key it does nothing. When the clear is
done every byte of the area reads 0 and every other byte keeps its value. A WRITE of user area words, each OK, is queued and
stays in execution; when its last word is written each word stands at its place, in order, NVU_WRITES of the facet counts
them, and the reply OK is held. Nothing else changes. (R399, R400, R402, 13_persistence.md) -/
def Obligations.StoreAndLogRows : Prop :=
  rowDoes .nvuSelWrite 0x6800 id always (fun f v s => { s with fac := vmod s.fac f.val fun x => { x with nvuSel := bits v 2 0 } }) ∧
  rowDoes .evtLogSelect 0x7100 id always (fun f v s => { s with fac := vmod s.fac f.val fun x => { x with
    logRing := bits v 0 0, logIndex := bits v 15 8 } }) ∧
  (let may := fun (f : Facet) (v : Word) (s : State) => bits v 15 8 = 0x5A ∧ ownsRes s f.val 6 (facet s f.val).nvuSel = true
   rowDoes .clear 0x6808 (withCmd · 1) may (fun f _ s => { s with sto := { s.sto with clearing := some (facet s f.val).nvuSel } }) ∧
   rowDoes .clear 0x6808 (withCmd · 1) (fun f v s => ¬ may f v s) nothing) ∧
  (∀ (n : Nat) (s : State), live s = true → s.sto.clearing = some n →
    ∃ t, exec .userAreaClearDone s = .next t ∧
      (∀ a, memGet t.sto.areas a = if 0x2000 * (n - 1) ≤ a ∧ a < 0x2000 * (n - 1) + 0x2000 then 0 else memGet s.sto.areas a) ∧
      hfxAside s t = { s with sto := { s.sto with clearing := none, areas := t.sto.areas } }) ∧
  (∀ (f : Facet) (fr : Frame) (s : State), ready cmdWrite f fr s → fr.data ≠ [] →
    (∀ x ∈ written fr, 0x8000 ≤ x.1 ∧ x.1 < 0xA000 ∧ writeOut s f.val x = .ok) →
    (∀ x ∈ written fr, fr.same = true → s.cyc.writes.contains (f, x.1) = false) →
    ∃ t, exec (.write fr) s = .next t ∧ (port t fr.port.val).executing = some ⟨cmdWrite, fr⟩ ∧ (port t fr.port.val).held = none ∧
      (∀ q, q ≠ fr.port.val → port t q = port s q) ∧
      aside s t = { s with sto := { s.sto with areaWrites := s.sto.areaWrites ++
        [⟨fr.port, f, (facet s f.val).nvuSel, (written fr).map fun x => (x.1 - 0x8000, x.2)⟩] } }) ∧
  ∀ (w : AreaWrite) (rest : List AreaWrite) (s : State), live s = true → s.sto.areaWrites = w :: rest →
    (port s w.port.val).executing.isSome = true →
    ∃ t, exec .userAreaWriteDone s = .next t ∧ hfxAside s t = { s with
      sto := { s.sto with
        areaWrites := rest
        areas := w.words.foldl (fun m x => memPutWord m (0x2000 * (w.area - 1) + x.1) x.2) s.sto.areas }
      fac := vmod s.fac w.facet.val fun x => { x with nvuWrites := vmod x.nvuWrites (w.area - 1) fun c => satAdd c w.words.length }
      port := vmod s.port w.port.val fun y => { y with
        held := some okWrite, taken := false, executing := none, prevStatus := stOk, prevCmd := cmdWrite } }

/-- An accepted PWC_CTRL RESET or SHELF with its key is answered OK and noted with the time of the first pending request. A load
session whose switch has not started ends: its bank becomes EMPTY, the loader IDLE, and IMG_REFUSE shows code 0x1D. With a
structure applied, no switch in progress, no such commit queued and none closed since, a RESET commit is queued.
Configuration, measurements and units keep their values. Without the key nothing changes. SHELF with its key is answered
Busy and does nothing while VMAIN is good or a session is open. (R392, R406, R420, R56, 14_power_clocks_startup.md) -/
def Obligations.ResetCommandsAskFirst : Prop :=
  let asked := fun (row : RegWr → Instr) (c : Nat) (note : ResetReq → ResetReq) =>
    (∀ (f : Facet) (w : RegWr) (s : State), accepted s f 0x080C { w with val := withCmd w.val c } = true → bits w.val 15 8 = 0x5A →
      ∃ t, exec (row w) s = .next t ∧ answered s t w.port (port s w.port.val).spiMode3 okWrite ∧ t.pwc.req = note s.pwc.req ∧
        t.pwc.reqAt = (if resetAsked s then s.pwc.reqAt else s.aon) ∧
        (sessionOpen s = true → t.img.loader = .idle ∧ bankState t (sessionBank s) = .empty ∧ t.img.refuse.code = 0x1D) ∧
        (sessionOpen s = false → t.img = s.img ∧ t.sec = s.sec) ∧
        (s.str.isSome = true → s.img.step = .none → (∀ q ∈ s.sto.cqueue, q.kind ≠ .reset) →
          (∀ n, newestClosed s = some n → n.2.kind ≠ .reset ∨ n.2.aon < t.pwc.reqAt) → ∃ q ∈ t.sto.cqueue, q.kind = .reset) ∧
        eventsAside s (aside s t) = { s with
          img := t.img
          sec := { s.sec with refuseCount := t.sec.refuseCount }
          pwc := { s.pwc with req := t.pwc.req, reqAt := t.pwc.reqAt }
          sto := { s.sto with
            cqueue := t.sto.cqueue, lastQueued := t.sto.lastQueued, deferred := t.sto.deferred
            maxS := t.sto.maxS, maxPipe := t.sto.maxPipe, maxChan := t.sto.maxChan }
          whl := { s.whl with commitMerged := t.whl.commitMerged } }) ∧
    rowDoes row 0x080C (withCmd · c) withoutKey nothing
  asked .reset 1 (fun r => { r with cmd := true }) ∧ asked .shelf 2 (fun r => { r with shelf := true }) ∧
    ∀ (f : Facet) (w : RegWr) (s : State), ready cmdWrite f (rowFrame s 0x080C (withCmd w.val 2) w) s →
      (w.same = true → s.cyc.writes.contains (f, 0x080C) = false) → writeOut s f.val (0x080C, withCmd w.val 2) = .ok →
      bits w.val 15 8 = 0x5A → s.pwc.vmainOk = true ∨ s.img.loader ≠ .idle →
      ∃ t, exec (.shelf w) s = .next t ∧ frameDone s t (rowFrame s 0x080C (withCmd w.val 2) w) (mkReply stBusy cmdWrite []) s

/-- An accepted write of PWC_RTC_W0 stages its word. One of PWC_RTC_W1 sets the RTC count to the written [47:32] over the staged
word, sets RTC_VALID and queues RTC_SET to every facet with the old and new counts and the epoch offset. One of PWC_EPOCH
stores the offset, sets RTC_VALID and queues RTC_SET. With ALARM_EN set and the count equal to PWC_ALARM, RTC_ALARM is
queued; otherwise the alarm does nothing. XTAL32_TAKEOVER clears AON_RC and XTAL32_FAIL; XTAL32_STOP, and XTAL32_TIMEOUT 1 s
after POR, set them; XTAL32_RESTART tries again every 64 s. RC_TRIM takes the trim on the RC with HFX; on battery without
HFX it becomes a demand. Nothing else changes, so no AON count. (R18, R415, R417, R418, 14_power_clocks_startup.md) -/
def Obligations.RealTimeClockRows : Prop :=
  let set_ := fun (old new : Nat) (epoch : Word) (s u : State) => emit ⟨0x0E05, 0, 1, everyone s, w32 old, w32 new,
    w32 (old / 2 ^ 32 % 65536 + new / 2 ^ 32 % 65536 * 65536), epoch, false⟩ u
  let rc := fun s t : State => eventsAside s t = { s with pwc := { s.pwc with
    aonRc := true, xtalFail := true, xtalRestartAt := some (s.aon + 64 * 32768) } }
  let still := fun s t : State => hfxAside s t = s
  rowDoes .rtcStage 0x0818 id always (fun _ v s => { s with pwc := { s.pwc with rtcStage := v } }) ∧
  rowDoes .rtcSet 0x081C id always (fun _ v s =>
    let new := bits v 15 0 * 2 ^ 32 + s.pwc.rtcStage.toNat
    set_ (s.pwc.rtc % 2 ^ 48) new (cfgV s 0x0820) s { s with pwc := { s.pwc with rtcNext := some new, rtcValid := true } }) ∧
  rowDoes .epochWrite 0x0820 id always (fun _ v s => set_ (s.pwc.rtc % 2 ^ 48) (s.pwc.rtc % 2 ^ 48) v s
    { s with cfg := cfgSet s.cfg 0x0820 v, pwc := { s.pwc with rtcValid := true } }) ∧
  (∀ s : State, (s.pwc.aonRc = true → ∃ t, exec .xtal32Takeover s = .next t ∧ (s.pwc.xtalFail = false → t.sto = s.sto) ∧
      eventsAside s t = { s with pwc := { s.pwc with aonRc := false, xtalFail := false, xtalRestartAt := none } }) ∧
    (s.pwc.aonRc = false → exec .xtal32Takeover s = .next s) ∧
    (s.pwc.aonRc = false → ∃ t, exec .xtal32Stop s = .next t ∧ rc s t) ∧ (s.pwc.aonRc = true → exec .xtal32Stop s = .next s) ∧
    (s.pwc.aonRc = true → s.pwc.xtalFail = false → nbit s.pwc.resetCause 0 = true → s.pwc.startAt + 32768 ≤ s.aon →
      ∃ t, exec .xtal32Timeout s = .next t ∧ rc s t) ∧
    (s.pwc.aonRc = false ∨ s.pwc.xtalFail = true ∨ nbit s.pwc.resetCause 0 = false ∨ s.aon < s.pwc.startAt + 32768 →
      exec .xtal32Timeout s = .next s) ∧
    (∀ a, s.pwc.xtalRestartAt = some a → a ≤ s.aon →
      exec .xtal32Restart s = .next { s with pwc := { s.pwc with xtalRestartAt := some (s.aon + 64 * 32768) } }) ∧
    (∀ a, s.pwc.xtalRestartAt = some a → s.aon < a → exec .xtal32Restart s = .next s) ∧
    (s.pwc.xtalRestartAt = none → exec .xtal32Restart s = .next s)) ∧
  (∀ (ppm : Int) (s : State), live s = true →
    (s.pwc.aonRc = true → s.pwc.hfxOk = true → ∃ t, exec (.rcTrim ppm) s = .next t ∧ hfxAside s t = { s with pwc := { s.pwc with
      aonTrim := max (-2147483648) (min 2147483647 ppm), trimAt := s.aon, dem := { s.pwc.dem with trim := false } } }) ∧
    (s.pwc.aonRc = true → s.pwc.hfxOk = false → s.pwc.vmainOk = false → s.pwc.trimAt + 64 * 32768 ≤ s.aon → ∃ t, exec (.rcTrim ppm) s = .next t ∧
      (s.str.isSome = true → t.pwc.clk.hfx = true) ∧ hfxAside s t = { s with pwc := { s.pwc with dem := { s.pwc.dem with trim := true } } }) ∧
    (s.pwc.aonRc = false ∨ (s.pwc.hfxOk = false ∧ (s.pwc.vmainOk = true ∨ s.aon < s.pwc.trimAt + 64 * 32768)) → ∃ t, exec (.rcTrim ppm) s = .next t ∧ still s t)) ∧
  ∀ s : State, live s = true → ∃ t, exec .rtcAlarm s = .next t ∧ hfxAside s t =
    if bit (cfgV s 0x0828) 31 = true ∧ s.pwc.rtc % 2 ^ 48 = bits (cfgV s 0x0828) 15 0 * 2 ^ 32 + (cfgV s 0x0824).toNat then
      emit ⟨0x0E06, 0, 1, blockAndF0 s 2, w32 (s.pwc.rtc % 2 ^ 48), w32 (s.pwc.rtc % 2 ^ 48 / 2 ^ 32), 0, 0, false⟩ s
    else s

/-- FCT_CTRL FACET_RESET with its key, and a watchdog whose TIMEOUT_MS has elapsed on an armed bound port, clear the facet's
four counters, EVT_LOST and GRANTS_CHANGED, set RESET_SEEN and the cause, restore TIMEOUT_MS and the request presets and
keep its queue and selections; each of its ports loses its reply, frames, snapshot and arming, with no reply sent; its words
not yet written to a user area are discarded. A load session of F0 ends, code 0x1D. FACET_RESET is queued to it. Other
facets, other ports and all else keep their values. An accepted FCT_WDT write stores TIMEOUT_MS, 0 or held to 10 to 60000,
and restarts the facet's armed watchdogs. (R84, R85, R86, R56, 02_facets.md) -/
def Obligations.FacetResetsAndWatchdogs : Prop :=
  let after := fun (s : State) (f cause : Nat) (x : FacetSt) => { presetRequests s.str f x with
    deniedRd := 0, deniedWr := 0, unmapped := 0, lastDenied := 0, evtLost := false, grantsChanged := false, resetSeen := true
    resetCause := cause, timeoutMs := wdtReset s.str f, lastDeniedAt := some s.aon }
  let requests := fun (a b : FacetSt) => maskOf 8 fun n =>
    if n < 6 then decide (vget a.gpReq n 0 ≠ vget b.gpReq n 0)
    else if n = 6 then decide (a.brightLevel ≠ b.brightLevel ∨ a.brightValid ≠ b.brightValid) else decide (a.pumpReq ≠ b.pumpReq)
  let done := fun (s t : State) (f : Facet) (cause p : Nat) =>
    (∀ q, boundPort s f.val q = true → (port t q).facet = some f ∧ (port t q).held = none ∧ (port t q).executing = none ∧
      (port t q).waiting = none ∧ (port t q).snap = none ∧ (port t q).wdtAt = none ∧ (port t q).transient = none) ∧
    (∀ q, boundPort s f.val q = false → port t q = port s q) ∧
    quietFacet (facet t f.val) = quietFacet (after s f.val cause (facet s f.val)) ∧
    (facet s f.val).queue <+: (facet t f.val).queue ∧ (∀ g, g ≠ f.val → facet t g = facet s g) ∧
    (f = 0 → sessionOpen s = true → t.img.loader = .idle ∧ bankState t (sessionBank s) = .empty ∧ t.img.refuse.code = 0x1D) ∧
    (f ≠ 0 ∨ sessionOpen s = false → t.sec = s.sec ∧ t.img = s.img ∧ aside s t = aside s (emit ⟨0x0201, 0, 1, 2 ^ f.val, w32 cause, w32 p,
      w32 (requests (facet s f.val) (after s f.val cause (facet s f.val))), 0, false⟩
        { s with fac := vmod s.fac f.val (after s f.val cause), sto := { s.sto with areaWrites := t.sto.areaWrites } })) ∧
    t.sto.areaWrites = (s.sto.areaWrites.filter fun w => !boundPort s f.val w.port.val) ∧
    eventsAside s (aside s t) = { s with
      img := t.img, sec := { s.sec with refuseCount := t.sec.refuseCount }, sto := { s.sto with areaWrites := t.sto.areaWrites } }
  (∀ (f : Facet) (w : RegWr) (s : State), accepted s f 0x0018 { w with val := fctWord w.val 0 } = true → bits w.val 15 8 = 0x5A →
    ∃ t, exec (.facetReset w) s = .next t ∧ done s t f 1 w.port.val) ∧
  rowDoes .facetReset 0x0018 (fctWord · 0) withoutKey nothing ∧
  (∀ (p : Port) (f : Facet) (a : Nat) (s : State), live s = true → (port s p.val).facet = some f → (port s p.val).wdtAt = some a →
    (facet s f.val).timeoutMs ≠ 0 → (facet s f.val).timeoutMs * 32768 ≤ (s.aon - a) * 1000 → a ≤ s.aon →
    ∃ t, exec (.portWatchdogExpiry p) s = .next t ∧ done s t f 2 p.val) ∧
  ∀ (f : Facet) (w : RegWr) (s : State), accepted s f 0x001C w = true →
    ∃ t, exec (.fctWdtWrite w) s = .next t ∧ (port t w.port.val).held = some okWrite ∧ (port t w.port.val).wdtAt = some s.aon ∧
      (∀ q, q ≠ w.port.val → port t q =
        if boundPort s f.val q = true ∧ (port s q).wdtAt.isSome = true then { port s q with wdtAt := some s.aon } else port s q) ∧
      aside s t = { s with fac := vmod s.fac f.val fun x => { x with
        timeoutMs := if bits w.val 15 0 = 0 then 0 else max 10 (min 60000 (bits w.val 15 0)) } }

/-- An accepted IOP_GPn_REQ or IOP_PUMP_REQ write stores its field, a written 3 as 1, and IOP_BRIGHT_REQ its level and VALID;
nothing else changes, and PRUN then equals the effective pump-run request. In the safe state a write of RUN, or of ON to a
trip-linked output, is answered Locked and changes nothing. IOP_SAFE_ACK with its key and ACK_READY leaves the safe state,
queues SAFE_STATE_EXIT and makes a STATE commit due; in the safe state without ACK_READY it is Busy; otherwise it changes
nothing. (R89, R93, R94, R358, R357, 02_facets.md) -/
def Obligations.RequestsToSharedActuators : Prop :=
  (∀ n : Fin 6, rowDoes (.iopGpReqWrite n) (0x7800 + 4 * n.val) id always fun f v s => { s with fac := vmod s.fac f.val fun x =>
    { x with gpReq := vmod x.gpReq n.val fun _ => if bits v 1 0 = 3 then 1 else bits v 1 0 } }) ∧
  rowDoes .iopBrightReqWrite 0x7818 id always (fun f v s => { s with fac := vmod s.fac f.val fun x =>
    { x with brightLevel := bits v 7 0, brightValid := bit v 8 } }) ∧
  rowDoes .iopPumpReqWrite 0x781C id always (fun f v s => { s with fac := vmod s.fac f.val fun x =>
    { x with pumpReq := if bits v 1 0 = 3 then 1 else bits v 1 0 } }) ∧
  (∀ (f : Facet) (w : RegWr) (s : State), accepted s f 0x781C w = true →
    ∃ t, exec (.iopPumpReqWrite w) s = .next t ∧ t.saf.prun = pumpRun t) ∧
  (∀ (off : Nat) (row : RegWr → Instr) (f : Facet) (w : RegWr) (s : State),
    (off = 0x781C ∧ row = .iopPumpReqWrite) ∨ (∃ n : Fin 6, off = 0x7800 + 4 * n.val ∧ row = .iopGpReqWrite n ∧ tripLinked s n.val = true) →
    ready cmdWrite f (rowFrame s off w.val w) s → (w.same = true → s.cyc.writes.contains (f, off) = false) →
    writeOut s f.val (off, w.val) = .ok → s.saf.safe = true → s.saf.prun = pumpRun s → bits w.val 1 0 = 2 →
    ∃ t, exec (row w) s = .next t ∧ frameDone s t (rowFrame s off w.val w) (mkReply stLocked cmdWrite []) s ∧ t.saf = s.saf) ∧
  (∀ (f : Facet) (w : RegWr) (s : State), accepted s f 0x7830 { w with val := withCmd w.val 1 } = true → bits w.val 15 8 = 0x5A →
    s.saf.safe = true →
    ∃ t, exec (.iopSafeAck w) s = .next t ∧ answered s t w.port (port s w.port.val).spiMode3 okWrite ∧ t.sto.deferred.isSome = true ∧
      (let u := emit ⟨0x0C02, 0, 2, everyone s, w32 s.saf.entry, w32 (min max32 (msUp (s.aon - s.saf.enteredAt))), w32 (2 + 256 * f.val), 0, false⟩
         { s with saf := { s.saf with safe := false } }
       aside s t = { u with sto := { u.sto with deferred := t.sto.deferred } })) ∧
  rowDoes .iopSafeAck 0x7830 (withCmd · 1) (fun _ v s => bits v 15 8 ≠ 0x5A ∨ s.saf.safe = false) nothing ∧
  ∀ (f : Facet) (w : RegWr) (s : State), ready cmdWrite f (rowFrame s 0x7830 (withCmd w.val 1) w) s →
    (w.same = true → s.cyc.writes.contains (f, 0x7830) = false) → writeOut s f.val (0x7830, withCmd w.val 1) = .ok →
    bits w.val 15 8 = 0x5A → s.saf.safe = true → s.saf.cause ≠ 0 →
    ∃ t, exec (.iopSafeAck w) s = .next t ∧ frameDone s t (rowFrame s 0x7830 (withCmd w.val 1) w) (mkReply stBusy cmdWrite []) s

/-- A GP output is energised, and the pump-run request is RUN, exactly if its policy result is on and no safe-state override
applies: under STOP-WINS no owner asks for the stop value and some owner for on; under PRIORITY the first facet of the order
that owns it and asks for anything asks for on; without a policy some owner asks for on. Display brightness under MIN-WINS
is the lowest valid level of its owners or 0x80, so no valid level lies below it. (R89, R93) -/
def Obligations.SharedActuatorsFollowTheirPolicy : Prop :=
  let on := fun (s : State) (act : Nat) (owners : List Nat) (req : Nat → Nat) =>
    (∀ p, policyOf s act = some p → p.pol = 1 → ((∀ f ∈ owners, req f ≠ 1) ∧ ∃ f ∈ owners, req f = 2)) ∧
    (∀ p, policyOf s act = some p → p.pol ≠ 1 → ∃ f, ((orderList p.order).find? fun g => owners.contains g && decide (req g ≠ 0)) = some f ∧
      req f = 2) ∧
    (policyOf s act = none → ∃ f ∈ owners, req f = 2)
  (∀ (s : State) (n : Nat), gpOn s n = true ↔
    on s n (ownersOf s 7 n) (fun f => vget (facet s f).gpReq n 0) ∧ ¬ (s.saf.safe = true ∧ tripLinked s n = true)) ∧
  (∀ s : State, pumpRun s = true ↔ on s 7 (ownersOf s 9 0) (fun f => (facet s f).pumpReq) ∧ s.saf.safe = false) ∧
  ∀ (s : State) (p : PolicyRec), policyOf s 6 = some p → p.pol = 2 →
    (∀ f ∈ ownersOf s 8 0, (facet s f).brightValid = true → brightLevel s ≤ (facet s f).brightLevel) ∧
    ((∃ f ∈ ownersOf s 8 0, (facet s f).brightValid = true ∧ brightLevel s = (facet s f).brightLevel) ∨
      ((∀ f ∈ ownersOf s 8 0, (facet s f).brightValid = false) ∧ brightLevel s = 0x80))

/-- Accepted, BEGIN makes the loading bank LOADING and the loader RECEIVING for its port; VERIFY makes a receiving loader
VERIFYING and takes HOLD from bit 8; ABORT empties the session's bank and returns the loader to IDLE, or does nothing when
it is IDLE; ACTIVATE starts the waiting switch: SWITCH_PENDING, the HELD mark cleared, the SWITCH commit queued. Nothing
else changes. From another port of an open session, and where Table 1-20 does not allow it, each command is answered Busy
and changes nothing. (R51, R52, R54, R55, R57, 01_lattice_image.md) -/
def Obligations.LoaderCommands : Prop :=
  let row := fun (c : Nat) (w : RegWr) => if c = 1 then Instr.imgBegin w else if c = 2 then .verify w else if c = 3 then .imgAbort w
    else .activate w
  let ok := fun (s : State) (f : Facet) (c : Nat) (w : RegWr) => accepted s f 0x0404 { w with val := withCmd w.val c } = true
  let bank := fun (s : State) (g : Bank → Bank) => vmod s.img.banks (sessionBank s) g
  (∀ (f : Facet) (w : RegWr) (s : State), ok s f 1 w → ∃ t, exec (.imgBegin w) s = .next t ∧ rowDone s t w { s with img := { s.img with
    loader := .receiving, sessionPort := w.port, hold := false, step := .none, pendingSeq := 0, received := 0
    banks := bank s fun b => { b with state := .loading, held := false, apply := false } } }) ∧
  (∀ (f : Facet) (w : RegWr) (s : State), ok s f 2 w → ∃ t, exec (.verify w) s = .next t ∧ s.img.loader = .receiving ∧
    rowDone s t w { s with img := { s.img with loader := .verifying, hold := bit w.val 8 } }) ∧
  (∀ (f : Facet) (w : RegWr) (s : State), ok s f 3 w → ∃ t, exec (.imgAbort w) s = .next t ∧ rowDone s t w
    (if s.img.loader = .idle then s else { s with img := { s.img with
      loader := .idle, hold := false, step := .none, pendingSeq := 0
      banks := bank s fun b => { b with state := .empty, held := false, apply := false } } })) ∧
  (∀ (f : Facet) (w : RegWr) (s : State), ok s f 4 w → ∃ t, exec (.activate w) s = .next t ∧
    (t.sto.cqueue.getLast?.map Queued.kind = some .switch) ∧
    rowDone s t w { s with
      img := { s.img with loader := .switchPending, hold := false, step := .commit, banks := bank s fun b => { b with held := false } }
      sto := { s.sto with
        cqueue := t.sto.cqueue, lastQueued := some s.aon, maxS := 0, maxPipe := 0, maxChan := 0 }
      whl := { s.whl with commitMerged := if 2 ≤ s.sto.cqueue.length then satInc s.whl.commitMerged else s.whl.commitMerged } }) ∧
  ∀ (c : Nat) (w : RegWr) (s : State), 1 ≤ c → c ≤ 4 → ready cmdWrite 0 (rowFrame s 0x0404 (withCmd w.val c) w) s →
    (w.same = true → s.cyc.writes.contains (0, 0x0404) = false) →
    ((s.img.loader ≠ .idle ∧ w.port ≠ s.img.sessionPort) ∨ (c = 1 ∧ (s.img.loader = .verifying ∨ s.img.loader = .switchPending)) ∨
      (c = 2 ∧ s.img.loader ≠ .receiving) ∨ (c = 3 ∧ s.img.loader ≠ .idle ∧ s.img.step ≠ .none) ∨
      (c = 4 ∧ (s.img.loader ≠ .switchPending ∨ s.img.step ≠ .none))) →
    ∃ t, exec (row c w) s = .next t ∧ frameDone s t (rowFrame s 0x0404 (withCmd w.val c) w) (mkReply stBusy cmdWrite []) s

/-- While the loader verifies, VERIFICATION_COMPLETE with a refusal of the stages shows it in IMG_REFUSE, counts it, queues
IMAGE_REFUSED to F0 and leaves the loader REFUSED and the bank as it was. With none, the bank is ARMED, the loader
SWITCH_PENDING and IMG_REFUSE without a code (the last by log 31); with HOLD the bank carries the HELD mark and waits,
without it the HELD mark is clear and the SWITCH commit is queued. Nothing else changes. Outside VERIFYING nothing changes. (R40, R44, R54, R57, 01_lattice_image.md) -/
def Obligations.VerificationEndsOrRefuses : Prop :=
  let bank := fun (s : State) (g : Bank → Bank) => vmod s.img.banks (sessionBank s) g
  (∀ (r : RefuseReg) (s : State), live s = true → s.img.loader = .verifying → verify s (runCtx s) (loadingBank s) = some r →
    ∃ t, exec .verificationComplete s = .next t ∧ hfxAside s t =
      (let q := seqKnown (loadingBank s) (some r)
       emit ⟨0x0102, 0, 2, 1, refuseWord r, w32 q, 0, 0, false⟩ { s with
         sec := { s.sec with refuseCount := satInc s.sec.refuseCount }
         img := { s.img with loader := .refused, hold := false, refuse := r, pendingSeq := q } })) ∧
  (∀ s : State, live s = true → s.img.loader = .verifying → verify s (runCtx s) (loadingBank s) = none →
    (s.img.hold = true → ∃ t, exec .verificationComplete s = .next t ∧ hfxAside s t = { s with img := { s.img with
      loader := .switchPending, refuse := ⟨0, 0, 0, 0, 0, false⟩, pendingSeq := seqKnown (loadingBank s) none
      banks := bank s fun b => { b with state := .armed, held := true } } }) ∧
    (s.img.hold = false → ∃ t, exec .verificationComplete s = .next t ∧ t.sto.cqueue.getLast?.map Queued.kind = some .switch ∧
      t.img = { s.img with
        loader := .switchPending, step := .commit, refuse := ⟨0, 0, 0, 0, 0, false⟩, pendingSeq := seqKnown (loadingBank s) none
        banks := bank s fun b => { b with state := .armed, held := false } } ∧
      hfxAside s t = { s with
        img := t.img
        sto := { s.sto with cqueue := t.sto.cqueue, lastQueued := some s.aon, maxS := 0, maxPipe := 0, maxChan := 0 }
        whl := { s.whl with commitMerged := t.whl.commitMerged } })) ∧
  ∀ s : State, live s = true → s.img.loader ≠ .verifying → ∃ t, exec .verificationComplete s = .next t ∧ hfxAside s t = s

/-- At run time, when every enrolled empty slot reads back, each holds its key; each counter of an entry is raised to at least
the entry's VERSION; the lifecycle is SEALED if it was or the image's target is SEALED, else COMMISSIONING; the loaded bank
is ACTIVE with its APPLY mark, the previous ACTIVE bank ARMED, and the loader waits for the round boundary. When a slot
fails, it is marked defective, the bank is EMPTY, the loader IDLE, IMG_REFUSE shows STORE, and counters, lifecycle and
anchor keep their values. At a start the failed candidate becomes EMPTY with STORE shown AT_START. Nothing else changes. (R36, R37, R39, R47, R49, R57, R63, R65, 01_lattice_image.md) -/
def Obligations.KeySlotsThenActivation : Prop :=
  let im := fun s : State => bankImage (loadingBank s)
  let banked := fun (s : State) (j : Nat) (b : Bank) => if j = sessionBank s then { b with state := .active, held := false, apply := true }
    else if b.state = .active then { b with state := .armed, held := false, apply := false } else b
  (∀ (failed : List (Fin 6)) (s : State), s.pwc.start = .served → s.pwc.pf = .none → s.img.step = .slots →
    (∀ x ∈ slotsToProgram s (im s), x.1 ∉ failed.map Fin.val) →
    ∃ t, exec (.keySlotsProgrammed failed) s = .next t ∧
      (∀ x ∈ slotsToProgram s (im s), vget t.sec.keys x.1 none = some x.2) ∧
      (∀ k, k ∉ (slotsToProgram s (im s)).map Prod.fst → vget t.sec.keys k none = vget s.sec.keys k none) ∧
      t.sec.arb = (im s).entries.foldl (fun a e => vmod a (arbIndex e.typ e.idx) fun v => v.raise e.ver) s.sec.arb ∧
      t.sec.lifecycle = (if s.sec.lifecycle = .sealed ∨ (im s).target = 2 then .sealed else .commissioning) ∧
      t.sec.metroEvt = (if s.sec.lifecycle = .sealed then .all (satAdd s.sec.metroEvt.vote (metroChanged s.str (im s)).length)
        else if (im s).target = 2 then .all 0 else s.sec.metroEvt) ∧
      t.img = { s.img with step := .apply, banks := vmap s.img.banks (banked s) } ∧
      hfxAside s t = { s with img := t.img, sec := { s.sec with
        keys := t.sec.keys, arb := t.sec.arb, lifecycle := t.sec.lifecycle, metroEvt := t.sec.metroEvt, anchor := t.sec.anchor
        owed := t.sec.owed } }) ∧
  (∀ (failed : List (Fin 6)) (s : State), s.pwc.start = .served → s.pwc.pf = .none → s.img.step = .slots → resetAsked s = false →
    (∃ x ∈ slotsToProgram s (im s), x.1 ∈ failed.map Fin.val) →
    ∃ t, exec (.keySlotsProgrammed failed) s = .next t ∧ t.img.loader = .idle ∧ t.img.step = .none ∧
      bankState t (sessionBank s) = .empty ∧ t.img.refuse = ⟨0x1C, 0, 0, 0, 0, false⟩ ∧
      (∃ x ∈ slotsToProgram s (im s), x.1 ∈ failed.map Fin.val ∧ vget t.sec.defective x.1 false = true) ∧
      eventsAside s (hfxAside s t) = { s with
        img := t.img
        sec := { s.sec with keys := t.sec.keys, defective := t.sec.defective, refuseCount := satInc s.sec.refuseCount } }) ∧
  ∀ (failed : List (Fin 6)) (i : Nat) (s : State), s.pwc.start = .candidates → s.pwc.pf = .none → s.img.step = .slots → i < 2 →
    s.pwc.tried.getLast? = some i →
    (∃ x ∈ slotsToProgram s (bankImage (vget s.img.banks i Bank.empty)), x.1 ∈ failed.map Fin.val) →
    ∃ t, exec (.keySlotsProgrammed failed) s = .next t ∧ bankState t i = .empty ∧ t.img.step = .none ∧
      t.img.refuse = ⟨0x1C, 0, 0, 0, 0, true⟩ ∧ t.sec.arb = s.sec.arb ∧ t.sec.lifecycle = s.sec.lifecycle

/-- STRUCTURE_APPLY after step 4, at a round boundary or with the wheel stopped, makes the APPLY-marked bank's image the
structure, keeps each register of a section whose DIGEST is unchanged, presets or resets every other, binds each port as the
new FACET records say, clears the APPLY marks, returns the loader to IDLE and marks its FAB cycle as one whose frames are
Busy. With ACC_CLEAR every accumulator of energy and volume and the power quality counts are 0. A changed SAFETY section
enters the safe state with cause 26 set. The security store is kept, the owed events excepted; so are bank memories, the AON
count and the RTC. (R57, R58, R59, R91, R361, 01_lattice_image.md) -/
def Obligations.StructureApplies : Prop :=
  ∀ (i : Nat) (old : Image) (s : State), live s = true → s.img.step = .apply → applyBank s = some i → s.str = some old →
    s.whl.state = .stopped ∨ s.whl.sector = 0 →
    (let im := bankImage (vget s.img.banks i Bank.empty)
     ∃ t, exec .structureApply s = .next t ∧ t.str = some im ∧ t.img.loader = .idle ∧ t.img.step = .none ∧
       (∀ j, j < 2 → (vget t.img.banks j Bank.empty).apply = false ∧ bankState t j = bankState s j ∧
         (vget t.img.banks j Bank.empty).mem = (vget s.img.banks j Bank.empty).mem) ∧
       (∀ off, cfgV t off = if keepsReg (some old) im off = true then cfgV s off
         else cfgV { s with cfg := im.presets.foldl (fun c p => cfgSet c p.off p.val) [] } off) ∧
       (∀ p, p < 3 → (port t p).facet = boundTo (some im) p ∧
         ((port s p).facet ≠ boundTo (some im) p → (port t p).held = none ∧ (port t p).executing = none ∧ (port t p).waiting = none ∧
           (port t p).snap = none ∧ (port t p).wdtAt = none)) ∧
       t.cyc = { Cycle.fresh with applied := true, left := leftBalls (some old) im } ∧ t.sec = { s.sec with owed := [] } ∧ t.aon = s.aon ∧ t.pwc.rtc = s.pwc.rtc ∧
       (im.accClear = true → (∀ k, k < 8 → (enSet t k).acc = Vector.replicate 8 0) ∧
         (∀ v, v < 4 → (volSet t v).fwd = 0 ∧ (volSet t v).rev = 0) ∧
         t.pq.counts = Vector.replicate 12 0 ∧ t.pq.durs = Vector.replicate 3 0) ∧
       (safetyChanged (some old) im = true → nbit t.saf.cause 26 = true ∧ (s.saf.cause = 0 → t.saf.safe = true)))

/-- A reset leaves State.reset but for the image banks, the security store, the event log, records, markers, user areas and
factory state of the store, the learned references, the power quality event number, the safety entry and failure counts, the
level of TRIPFB, and VIO, and note whether a power failure ran before; all but POR also keep the AON count, the RTC with
RTC_VALID, PWC_EPOCH and the alarm, VMAIN_OK and the AON clock's state, and show the down time. RESET_CAUSE shows its
causes. DEVICE_RESET takes effect once the RESET commit closed; a SHELF command alone, and the shipping lattice after 30 s
without VMAIN and frames, end in SHELF. NRST in SHELF resets at once; elsewhere NRST notes a request, and so does SAF_WDT
once no round has closed for 1 s while the wheel turns. (R392, R406, R416, R417, R420, R421, R422, 14_power_clocks_startup.md) -/
def Obligations.ResetsKeepWhatContinues : Prop :=
  let failed := fun s : State => decide (s.pwc.pf ≠ .none) || (decide (s.pwc.start = .heldInReset) && decide (s.pwc.mode ≠ .shelf))
  let cold := fun (por : Bool) (causes : Nat) (s : State) => { State.reset with
    aon := if por then 0 else s.aon
    cfg := if por then [] else s.cfg.filter fun x => decide (x.1 = 0x0820 ∨ x.1 = 0x0824 ∨ x.1 = 0x0828)
    img := { State.reset.img with banks := s.img.banks }
    sec := s.sec
    sto := { s.sto with
      cqueue := [], lastQueued := none, deferred := none, periodAt := 0, restore := none, gap := false, uncl := none, maxS := 0
      maxPipe := 0, maxChan := 0, commitCount := 0, commitFail := 0, eccCorr := 0, eccUncorr := 0, areaWrites := [], clearing := none
      evHold := false, evq := [] }
    flw := { State.reset.flw with refs := s.flw.refs, refHas := s.flw.refHas }
    pq := { State.reset.pq with evtIndex := s.pq.evtIndex }
    saf := { State.reset.saf with entries := s.saf.entries, dfCount := s.saf.dfCount, fb := s.saf.fb }
    pwc := if por then { State.reset.pwc with vioOk := s.pwc.vioOk, resetCause := causes, pfBefore := failed s } else { State.reset.pwc with
      pfBefore := failed s
      vmainOk := s.pwc.vmainOk, vmainLostAt := s.pwc.vmainLostAt, vioOk := s.pwc.vioOk, aonRc := s.pwc.aonRc
      xtalFail := s.pwc.xtalFail, xtalRestartAt := s.pwc.xtalRestartAt, rtcValid := s.pwc.rtcValid, rtc := s.pwc.rtc, rtcNext := s.pwc.rtcNext
      aonCont := true, resetCause := causes, downMs := min (msUp (s.aon - s.pwc.reqAt)) 4294967295, startAt := s.aon }
    pending := s.pending }
  let shelf := fun s : State => { cold false 0 s with pwc := { (cold false 0 s).pwc with mode := .shelf, start := .heldInReset, reqAt := s.aon } }
  let may := fun s : State => resetAsked s = true ∧ resetClosed s = true ∧ s.img.step = .none ∧ s.pwc.pf = .none ∧ s.pwc.start ≠ .heldInReset
  let r := fun s : State => s.pwc.req
  (∀ s : State, exec .por s = .next (cold true 1 s)) ∧
  (∀ s : State, s.pwc.start = .heldInReset → s.pwc.mode ≠ .shelf → s.pwc.heldAt + 3277 ≤ s.aon → exec .pfRestart s = .next (cold false 2 s)) ∧
  (∀ s : State, s.pwc.start ≠ .heldInReset ∨ s.pwc.mode = .shelf ∨ s.aon < s.pwc.heldAt + 3277 → exec .pfRestart s = .next s) ∧
  (∀ s : State, may s → (r s).nrst = true ∨ (r s).safWdt = true ∨ (r s).cmd = true →
    exec .deviceReset s = .next (cold false (4 * b2n (r s).nrst + 8 * b2n (r s).safWdt + 16 * b2n (r s).cmd) s)) ∧
  (∀ s : State, may s → (r s).nrst = false → (r s).safWdt = false → (r s).cmd = false → exec .deviceReset s = .next (shelf s)) ∧
  (∀ s : State, ¬ may s → exec .deviceReset s = .next s) ∧
  (∀ s : State, live s = true → s.pwc.shipping = true → s.pwc.vmainOk = false → s.pwc.portAFrameSeen = false →
    max s.pwc.startAt (s.pwc.vmainLostAt.getD 0) + 983040 ≤ s.aon → exec .shelfAutoEntry s = .next (shelf s)) ∧
  (∀ s : State, s.pwc.mode = .shelf → exec .nrst s = .next (cold false 4 s)) ∧
  ∀ (row : Instr) (note : ResetReq → ResetReq) (s : State),
    (row = .nrst ∧ note = (fun q => { q with nrst := true }) ∧ s.pwc.pf = .none ∧ s.pwc.start ≠ .heldInReset ∧ s.pwc.mode ≠ .shelf) ∨
      (row = .safWdt ∧ note = (fun q => { q with safWdt := true }) ∧ live s = true ∧ s.whl.state ≠ .stopped ∧
        s.whl.closedAt + 32768 ≤ s.aon) →
    ∃ t, exec row s = .next t ∧ t.pwc.req = note s.pwc.req ∧ t.pwc.reqAt = (if resetAsked s then s.pwc.reqAt else s.aon) ∧
      (sessionOpen s = true → t.img.loader = .idle ∧ bankState t (sessionBank s) = .empty ∧ t.img.refuse.code = 0x1D) ∧
      (sessionOpen s = false → t.img = s.img ∧ t.sec = s.sec) ∧
      eventsAside s (hfxAside s t) = { s with
        img := t.img
        sec := { s.sec with refuseCount := t.sec.refuseCount }
        pwc := { s.pwc with req := t.pwc.req, reqAt := t.pwc.reqAt }
        sto := { s.sto with
          cqueue := t.sto.cqueue, lastQueued := t.sto.lastQueued, deferred := t.sto.deferred, maxS := t.sto.maxS
          maxPipe := t.sto.maxPipe, maxChan := t.sto.maxChan }
        whl := { s.whl with commitMerged := t.whl.commitMerged } }

/-- START_SEQUENCE after reset release counts the corrected and uncorrectable words it met. With bad factory data, or with no
ACTIVE bank and no ARMED bank without HELD mark, the shipping lattice runs: no structure, port A bound to F0 and served.
Otherwise the candidates follow, every held ARMED bank EMPTY. When a candidate is refused its bank is EMPTY and IMG_REFUSE
shows the refusal, counted; with no other candidate the shipping lattice runs. When it passes with no slot to program it is
ACTIVE, its image the structure, its ports bound and served, the device in the safe state with cause START; with slots to
program they come first. (R38, R50, R60, R360, R423, 14_power_clocks_startup.md) -/
def Obligations.StartsRunTheirSequence : Prop :=
  let shipping := fun t : State => t.str = none ∧ t.pwc.start = .served ∧ t.pwc.shipping = true ∧ (port t 0).facet = some 0 ∧
    (port t 1).facet = none ∧ (port t 2).facet = none
  let good := fun (i : StartIn) (s : State) => i.factoryOk = true ∧ s.sto.factoryOk = true ∧ (slotKey s 0).isSome = true
  let cand := fun (s : State) (k : Nat) => bankState s k = .active ∨ (bankState s k = .armed ∧ (vget s.img.banks k Bank.empty).held = false)
  let ctx := fun (i : Nat) (s : State) => (⟨true, none, imageOf s s.pwc.wasActive, decide (s.pwc.wasActive = some i),
    s.pwc.wasActive.isNone⟩ : VerCtx)
  let im := fun (i : Nat) (s : State) => bankImage (vget s.img.banks i Bank.empty)
  (∀ (i : StartIn) (s : State), s.pwc.start = .released → s.pwc.pf = .none →
    ∃ t, exec (.startSequence i) s = .next t ∧ t.sto.eccCorr = i.corrected ∧ t.sto.eccUncorr = i.uncorr.length ∧
      t.sec.keys = s.sec.keys ∧ t.sec.lifecycle = s.sec.lifecycle ∧ t.sto.areas = s.sto.areas ∧
      (¬ good i s → shipping t ∧ t.img.refuse = ⟨0x1E, 0, 0, 0, 0, true⟩ ∧ t.img.banks = s.img.banks) ∧
      (good i s → ¬ cand s 0 → ¬ cand s 1 → shipping t) ∧
      (good i s → cand s 0 ∨ cand s 1 → t.pwc.start = .candidates ∧ t.str = s.str) ∧
      (good i s → ∀ k, k < 2 → bankState s k = .armed → (vget s.img.banks k Bank.empty).held = true →
        bankState t k = .empty ∧ t.img.refuse = ⟨0x1D, 0, 0, 0, 0, true⟩) ∧
      (good i s → ∀ k, k < 2 → ¬ (bankState s k = .armed ∧ (vget s.img.banks k Bank.empty).held = true) → bankState t k = bankState s k)) ∧
  (∀ (i : StartIn) (s : State), s.pwc.start ≠ .released → exec (.startSequence i) s = .next s) ∧
  (∀ (i : Nat) (r : RefuseReg) (s : State), s.pwc.start = .candidates → s.pwc.pf = .none → s.img.step = .none → nextCandidate s = some i →
    verify s (ctx i s) (vget s.img.banks i Bank.empty) = some r →
    ∃ t, exec .startCandidateVerified s = .next t ∧ bankState t i = .empty ∧ bankState t (1 - i) = bankState s (1 - i) ∧
      t.img.refuse = r ∧ t.sec.refuseCount = satInc s.sec.refuseCount ∧ t.sec.arb = s.sec.arb ∧ t.sec.keys = s.sec.keys ∧
      (1 - i ∈ s.pwc.tried ∨ (bankState s (1 - i) ≠ .active ∧ bankState s (1 - i) ≠ .armed) → shipping t)) ∧
  ∀ (i : Nat) (s : State), s.pwc.start = .candidates → s.pwc.pf = .none → s.img.step = .none → nextCandidate s = some i →
    verify s (ctx i s) (vget s.img.banks i Bank.empty) = none →
    ∃ t, exec .startCandidateVerified s = .next t ∧
      (bankState s i = .armed → slotsToProgram s (im i s) ≠ [] → t = { s with
        img := { s.img with step := .slots }, pwc := { s.pwc with tried := s.pwc.tried ++ [i] } }) ∧
      (bankState s i = .active ∨ slotsToProgram s (im i s) = [] →
        t.str = some (im i s) ∧ t.pwc.start = .served ∧ t.pwc.shipping = false ∧ bankState t i = .active ∧
        bankState t (1 - i) ≠ .active ∧ (∀ p, p < 3 → (port t p).facet = boundTo (some (im i s)) p) ∧
        t.saf.safe = true ∧ nbit t.saf.cause 24 = true ∧ t.sec.keys = s.sec.keys)

/-- In a round of 64 sectors, SECTOR_START runs the next sector and scrubs the next of 8192 words; with no wrong bit in state
memory only samples, flex work and the runs of the sector change besides. One wrong bit in the scrubbed word is corrected
and counts in DIAG_ECC_CORR; more count in DIAG_ECC_UNCORR, and if the word lies in an instance's state block that instance
counts as stopped in this round; each queues its event for the round close. SECTOR_OVERRUN of an instance that runs in the
sector counts, drops its pending steps and its run, marks it stopped and queues SECTOR_OVERRUN for the close; other
instances cannot overrun. With the wheel stopped, or after sector 63, SECTOR_START does nothing. UNIT_FAULT_RETURN of an
unlatched due unit starts it, except a path whose reference is wrong; otherwise it changes nothing. (R104, R105, R108, R119, R122, R123, R213, 03_wheel.md) -/
def Obligations.SectorsAndForcedUnits : Prop :=
  let turning := fun s : State => engOn s = true ∧ s.whl.state ≠ .stopped ∧ s.whl.sector < 64
  let moved := fun (s t : State) => t.whl.sector = s.whl.sector + 1 ∧ t.whl.scrubWord = (s.whl.scrubWord + 1) % 8192 ∧
    t.whl.scrubPass = (if s.whl.scrubWord = 8191 then s.whl.scrubPass + 1 else s.whl.scrubPass) ∧ t.whl.scrubAny = true
  (∀ (i : SectorIn) (s : State), engOn s = true → s.whl.state = .stopped ∨ 64 ≤ s.whl.sector →
    ∃ t, exec (.sectorStart i) s = .next t ∧ hfxAside s t = s) ∧
  (∀ (i : SectorIn) (s : State), turning s → s.whl.flips = [] → i.flips = [] →
    ∃ t, exec (.sectorStart i) s = .next t ∧ moved s t ∧ hfxAside s t = { s with
      met := { s.met with ch := t.met.ch }
      chd := { s.chd with rxq := t.chd.rxq }
      whl := { s.whl with
        sector := t.whl.sector, scrubWord := t.whl.scrubWord, scrubPass := t.whl.scrubPass, scrubAny := true
        pending := t.whl.pending, ptrs := t.whl.ptrs, ran := t.whl.ran, wrong := t.whl.wrong, halves := t.whl.halves
        sampleLost := t.whl.sampleLost } }) ∧
  (∀ (i : SectorIn) (b : BitVec 72) (s : State), turning s → s.whl.flips = [(s.whl.scrubWord, b)] → i.flips = [] → i.reads = [] →
    (flipCount b = 1 → ∃ t, exec (.sectorStart i) s = .next t ∧ moved s t ∧ t.whl.eccCorr = satInc s.whl.eccCorr ∧ t.whl.flips = [] ∧
      ∃ e, e.code = 0x0304 ∧ e.w4 = w32 s.whl.scrubWord ∧ t.sto.evq = s.sto.evq ++ [e]) ∧
    (1 < flipCount b → i.recBad = none → ∀ (j : Nat) (x : InstRec), stateBlockAt s s.whl.scrubWord = some (j, x) →
      ∃ t, exec (.sectorStart i) s = .next t ∧ moved s t ∧ t.whl.eccUncorr = satInc s.whl.eccUncorr ∧ t.whl.stop = s.whl.stop ++ [j] ∧
        t.whl.flips = [] ∧ ∃ e, e.code = 0x0305 ∧ e.w4 = w32 s.whl.scrubWord ∧ t.sto.evq = s.sto.evq ++ [e])) ∧
  (∀ (n : Nat) (x : InstRec) (s : State), engOn s = true → s.whl.state ≠ .stopped → instAt s n = some x → runsNow s n x = true →
    ∃ t, exec (.sectorOverrun n) s = .next t ∧ workOf t.whl.pending n = [] ∧ (∀ m, m ≠ n → workOf t.whl.pending m = workOf s.whl.pending m) ∧
      (x.prim = s.whl.sector - 1 → (n, false) ∉ t.whl.ran) ∧ (∀ r ∈ s.whl.ran, r.1 ≠ n → r ∈ t.whl.ran) ∧
      hfxAside s t = { s with
        chd := if x.code = 0x0401 then { s.chd with rxq := 0 } else s.chd
        sto := { s.sto with evq := s.sto.evq ++
          [⟨0x0306, 0, 3, 1, w32 (s.whl.sector - 1), w32 n, w32 (s.whl.rounds + 1), 0, false⟩] }
        whl := { s.whl with
          guards := satInc s.whl.guards, stop := s.whl.stop ++ [n], pending := t.whl.pending, ran := t.whl.ran
          df := if isSafetyKernel x.code = true then s.whl.df ++ [(11, x.code)] else s.whl.df } }) ∧
  (∀ (n : Nat) (s : State), s.whl.state = .stopped ∨ (∀ x, instAt s n = some x → runsNow s n x = false) →
    ∃ t, exec (.sectorOverrun n) s = .next t ∧ hfxAside s t = s) ∧
  (∀ (u : BitVec 8) (a : Nat) (s : State), live s = true → unitMgmt s u.toNat = .fault → (faultRec s u.toNat).latched = false →
    (faultRec s u.toNat).returnAt = some a → a ≤ s.aon →
    (let wrong := 0x10 ≤ u.toNat ∧ u.toNat ≤ 0x12 ∧ (flowPath s (u.toNat - 0x10)).refFault = true
     ∃ t, exec (.unitFaultReturn u) s = .next t ∧ (u ≠ 0x28 → ¬ wrong → unitMgmt t u.toNat = .starting) ∧
      (¬ wrong → unitMgmt t u.toNat ≠ .fault) ∧ (wrong → unitMgmt t u.toNat = .fault) ∧
      faultRec t u.toNat = { faultRec s u.toNat with returnAt := none } ∧ ∀ v, v ≠ u.toNat → faultRec t v = faultRec s v)) ∧
  ∀ (u : BitVec 8) (s : State), live s = true →
    unitMgmt s u.toNat ≠ .fault ∨ (faultRec s u.toNat).latched = true ∨ (faultRec s u.toNat).returnAt = none →
    ∃ t, exec (.unitFaultReturn u) s = .next t ∧ hfxAside s t = s

/-- After the 64th sector, ROUND_CLOSE counts the round, returns to sector 0, publishes the bank with the events that waited,
puts the register values in force for the next round, and counts at most one shadow mismatch per safety instance, at least
one where a shadow run is missing. While the wheel is RUNNING each unit of a stopped instance that is not OFF or in FAULT
goes to FAULT and its fault is noted: the fourth within 3600 s latches, any other sets a return 1 s later. Energy
accumulators within their width do not decrease; those of a set that is then DISCARDING, and all in a round without
metering, keep their values, and the discarded round is counted. Structure, image loader, security store, registers, ports,
user areas, frame memory, AON count and RTC keep their values. Before the 64th sector of a round, the round, the
measurements, the safety logic and the published bank of a RUNNING wheel stay as they are. (R108, R114, R119, R121, R123, R169, R170, 03_wheel.md, 05_energy.md) -/
def Obligations.RoundsClose : Prop :=
  let noted := fun (s : State) (u : Nat) =>
    let ts := ((faultRec s u).times.filter fun x => decide (s.aon < x + 3600 * 32768)) ++ [s.aon]
    if 3 < ts.length then (⟨ts, none, true⟩ : FaultRec) else ⟨ts, some (s.aon + 32768), false⟩
  (∀ (r : RoundIn) (s : State), engOn s = true → s.whl.state ≠ .stopped → s.whl.sector = 64 →
    ∃ t, exec (.roundClose r) s = .next t ∧ t.whl.rounds = (s.whl.rounds + 1) % 2 ^ 32 ∧ t.whl.sector = 0 ∧ t.whl.closedAt = s.aon ∧
      t.whl.ran = [] ∧ t.whl.stop = [] ∧ t.pub = none ∧ t.sto.evq = [] ∧ t.cfgR = s.cfg ∧ t.cfg = s.cfg ∧
      (∃ n, n ≤ (safInsts s).length ∧ t.whl.shadow = Nat.repeat satInc n s.whl.shadow ∧
        (s.whl.state = .running → (∃ x ∈ safInsts s, s.whl.ran.contains (x.1, true) = false) → 0 < n)) ∧
      (s.whl.state = .running → ∀ (j : Nat) (x : InstRec) (u : Nat), j ∈ s.whl.stop → instAt s j = some x → u ∈ unitsOf x →
        unitMgmt s u ≠ .off → unitMgmt s u ≠ .fault → unitMgmt t u = .fault ∧ faultRec t u = noted s u) ∧
      (∀ k a, (vget (enSet s k).acc a 0 < 2 ^ 128 → vget (enSet s k).acc a 0 ≤ vget (enSet t k).acc a 0) ∧
        vget (enSet t k).acc a 0 ≤ max (vget (enSet s k).acc a 0) (2 ^ 128 - 1)) ∧
      (∀ k, k < 8 → s.whl.state = .running → setDefined s k = true →
        ((enSet t k).discarding = true → (enSet t k).acc = (enSet s k).acc ∧ (enSet t k).disc = satInc (enSet s k).disc) ∧
        ((enSet t k).discarding = false → (enSet t k).disc = (enSet s k).disc)) ∧
      (∀ k, s.whl.state = .burst ∨ setDefined s k = false → (enSet t k).acc = (enSet s k).acc) ∧
      t.str = s.str ∧ t.img = s.img ∧ t.sec = s.sec ∧ t.port = s.port ∧ t.sto.areas = s.sto.areas ∧ t.dsp.mem = s.dsp.mem ∧
      t.aon = s.aon ∧ t.pwc.rtc = s.pwc.rtc) ∧
  ∀ (r : RoundIn) (s : State), engOn s = true → s.whl.state = .running → s.whl.sector < 64 →
    ∃ t, exec (.roundClose r) s = .next t ∧ t.whl = s.whl ∧ t.nrg = s.nrg ∧ t.met = s.met ∧ t.cfgR = s.cfgR ∧ t.pub = s.pub ∧
      t.saf = s.saf

/-- PILOT_UPDATE takes the die temperature and its reference curvature. Of a routed channel with 8000 rounds of pilot its
averaged gain error moves by 1/16 of the estimate's distance, or to the first estimate; a channel in STARTING or RUN is then
in RUN within the clamp of 0.2 % and 1 µs, and otherwise in FAULT with tag INVALID. Other channels keep everything.
REF_COMPARE records the difference; the second in a row beyond 500 ppm with a safety function enabled enters the safe state
with cause 14, and any other changes nothing else. A 10 s interval gives the mean frequency of its cycles (its rounding is
free, log 6) and begins anew; before it is due nothing changes. (R140, R141, R143, R144, R145, R146, R188, R366, 04_measurement_inputs.md) -/
def Obligations.SecondsAndReferences : Prop :=
  (∀ (die : Int) (s : State), engOn s = true →
    ∃ t, exec (.pilotUpdate die) s = .next t ∧ t.met.dieTemp = die ∧ t.met.refCorr = curvatureAt die ∧
      (∀ k, k < 8 → (routed s k = false ∨ (chan s k).cnt < 8000) → chan t k = chan s k) ∧
      (∀ k, k < 8 → routed s k = true → 8000 ≤ (chan s k).cnt →
        (let c := chan s k
         let u := chan t k
         let e := pilotAmp 8 64000 c.sumI c.sumQ / pilotBaseOf s k - 1
         let ok := -1 / 500 ≤ u.avgG ∧ u.avgG ≤ 1 / 500 ∧ -1 / 1000000 ≤ u.avgD ∧ u.avgD ≤ 1 / 1000000
         u.avgG = (if c.seeded then c.avgG + (e - c.avgG) / 16 else e) ∧ u.sumI = 0 ∧ u.sumQ = 0 ∧ u.cnt = 0 ∧
           (c.state = .starting ∨ c.state = .run → (ok → u.state = .run) ∧ (¬ ok → u.state = .fault ∧ u.tag = .invalid)))) ∧
      eventsAside s (hfxAside s t) = { s with met := t.met, whl := { s.whl with df := t.whl.df } }) ∧
  (∀ (ppm : Int) (s : State), safOn s = true → (ppm.natAbs ≤ 500 ∨ s.saf.refBad = 0 ∨ bits (cfgR s 0x6000) 3 0 = 0) →
    ∃ t, exec (.refCompare ppm) s = .next t ∧ hfxAside s t = { s with
      met := { s.met with refDelta := ppm }
      saf := { s.saf with refBad := if 500 < ppm.natAbs then s.saf.refBad + 1 else 0, refs := s.saf.refs + 1 } }) ∧
  (∀ (ppm : Int) (s : State), safOn s = true → 500 < ppm.natAbs → s.saf.refBad ≠ 0 → bits (cfgR s 0x6000) 3 0 ≠ 0 →
    (s.saf.cause = 0 ∨ s.saf.safe = true) →
    ∃ t, exec (.refCompare ppm) s = .next t ∧ t.met.refDelta = ppm ∧ t.saf.safe = true ∧ nbit t.saf.cause 14 = true) ∧
  (∀ s : State, live s = true → s.pq.tenAt + 327680 ≤ s.aon →
    (let some_ := 0 < s.pq.tenCyc ∧ 0 < s.pq.tenDur
     ∃ t, exec .freq10sInterval s = .next t ∧ hfxAside s t = { s with pq := { s.pq with
       freq10 := if some_ then (rnd 54 ((s.pq.tenCyc : Rat) * 8000000 / s.pq.tenDur)).toNat else 0
       f10tag := if some_ then (if s.pq.tenFb then .settling else .valid) else .invalid
       tenCyc := 0, tenDur := 0, tenFb := s.pq.fallback, tenAt := s.aon } })) ∧
  ∀ s : State, live s = true → s.aon < s.pq.tenAt + 327680 → ∃ t, exec .freq10sInterval s = .next t ∧ hfxAside s t = s

/-- When E_p of an enabled output reaches its constant, the constant is subtracted; a pulse starts at once if none is active,
the gaps have passed and BACKLOG is 0, counted in CFn_COUNT; else it waits in BACKLOG, or at 65535 it is discarded and
OVERRUN set. A waiting pulse starts when the gaps have passed, and an active pulse whose width has passed ends. Before that,
below the constant, and on an output that is off, nothing changes; other outputs never change. (R177, R178, R179, 05_energy.md) -/
def Obligations.CfPulsesStartWaitAndEnd : Prop :=
  let now := fun (s : State) (cyc : Nat) => s.nrg.eng * 8192 + cyc
  let gap := fun (c : CfSt) (t : Nat) => c.active = false ∧ ∀ st, c.startCyc = some st → c.endCyc + 512 ≤ t ∧ st + 1024 ≤ t
  let pulse := fun (s : State) (n t : Nat) (c : CfSt) => { c with
    active := true, startCyc := some t, endCyc := t + cfActive s n c, count := (c.count + 1) % 2 ^ 32 }
  let only := fun (s t : State) (n : Nat) (c : CfSt) =>
    eventsAside s (hfxAside s t) = { s with nrg := { s.nrg with cf := vmod s.nrg.cf n fun _ => c } }
  (∀ (n : Fin 3) (cyc : Nat) (s : State), engOn s = true → cfOn s n.val = true → cfConst s n.val ≤ cfEp (cfGen s n.val) cyc →
    (cfGen s n.val).at_ ≤ cyc → cyc ≤ 8192 →
    (let c := cfGen s n.val
     let c1 := { c with ep := cfEp c cyc - cfConst s n.val, at_ := cyc }
     (gap c (now s cyc) → c.backlog = 0 → ∃ t, exec (.cfPulseEvent n cyc) s = .next t ∧ only s t n.val (pulse s n.val (now s cyc) c1)) ∧
     (¬ (gap c (now s cyc) ∧ c.backlog = 0) → c.backlog < 65535 →
       ∃ t, exec (.cfPulseEvent n cyc) s = .next t ∧ only s t n.val { c1 with backlog := c.backlog + 1 }) ∧
     (65535 ≤ c.backlog → ∃ t, exec (.cfPulseEvent n cyc) s = .next t ∧ (cfGen t n.val).overrun = true ∧
       (cfGen t n.val).ep = c1.ep ∧ (cfGen t n.val).backlog = c.backlog ∧ (cfGen t n.val).count = c.count ∧ only s t n.val (cfGen t n.val)))) ∧
  (∀ (n : Fin 3) (cyc : Nat) (s : State), engOn s = true → (cfOn s n.val = false ∨ cfEp (cfGen s n.val) cyc < cfConst s n.val) →
    ∃ t, exec (.cfPulseEvent n cyc) s = .next t ∧ hfxAside s t = s) ∧
  (∀ (n : Fin 3) (cyc : Nat) (s : State), engOn s = true →
    (let c := cfGen s n.val
     (cfOn s n.val = true → 0 < c.backlog → gap c (now s cyc) → ∃ t, exec (.cfPulseBacklogStart n cyc) s = .next t ∧
       only s t n.val (pulse s n.val (now s cyc) { c with backlog := c.backlog - 1 })) ∧
     (cfOn s n.val = false ∨ c.backlog = 0 ∨ ¬ gap c (now s cyc) → ∃ t, exec (.cfPulseBacklogStart n cyc) s = .next t ∧ hfxAside s t = s))) ∧
  ∀ (n : Fin 3) (cyc : Nat) (s : State), engOn s = true →
    (let c := cfGen s n.val
     (c.active = true → c.endCyc ≤ now s cyc → ∃ t, exec (.cfPulseEnd n cyc) s = .next t ∧ only s t n.val { c with active := false }) ∧
     (c.active = false ∨ now s cyc < c.endCyc → ∃ t, exec (.cfPulseEnd n cyc) s = .next t ∧ hfxAside s t = s))

/-- When its timer is due, an existing configured path without a pair takes the next assignment (D0 with L0 first: log 67, then
alternating), sets the next due time a period later and, outside FAULT, opens a pair and queues its DN shot; in FAULT the
attempt is a failed interval without shots. GAP after its fired DN shot the UP shot joins the queue once. A shot that meets
a busy front end, two filled buffers or waiting shots counts in DIAG_SHOT_DEFER; so does, once, one that a bank shot's
reservation holds back. Otherwise the head of the queue fires when the front end and a buffer are free: VUS below 2.80 V
fails it with HW, a ring outside 0.8 to 1.25 GHz marks HW, an UP shot more than twice GAP after the DN shot marks DEFER; the
DN shot latches settings and reference. A closed capture frees the front end; a full capture evaluated fills in its shot and
frees its buffer, and while the wheel turns hosts read the bank published before. PAIR_OUTCOME ends an aborted or wholly
evaluated pair. Nothing else changes, nor before the conditions hold. (R206, R207, R208, R210, R214, R215, R216, 07_pipe_flow.md) -/
def Obligations.PairAttemptsAndShots : Prop :=
  let due := fun (s : State) (p : Nat) => pathExists s p = true ∧ geomOk s p = true ∧ (flowPath s p).state ≠ .off ∧
    (flowPath s p).nextAt ≤ s.aon ∧ (flowPath s p).pair = none
  let waits := fun s : State => s.flw.front.isSome = true ∨ 2 ≤ s.flw.bufs.length ∨ s.flw.queue ≠ []
  let deferred := fun s : State => if waits s then satInc s.whl.shotDefer else s.whl.shotDefer
  let waited := fun (s : State) (x : Nat × Bool) => if waits s then s.flw.waited ++ [x] else s.flw.waited
  let next := fun (s : State) (p : Nat) => max ((flowPath s p).nextAt + pairPeriod s p) (s.aon + 1)
  let passed := fun (s : State) (p : Nat) (q : PairSt) =>
    ∃ d, q.dnAt = some d ∧ (flowCfg q.cfg p).gapUs * 32768 < (s.aon - d + 1) * 1000000
  let free := fun s : State => s.flw.front = none ∧ s.flw.bufs.length < 2
  (∀ (p : Fin 2) (s : State), live s = true → due s p.val → (flowPath s p.val).state ≠ .fault →
    ∃ t, exec (.pairAttempt p) s = .next t ∧ hfxAside s t = { s with
      flw := { s.flw with
        queue := s.flw.queue ++ [(p.val, false)], waited := waited s (p.val, false)
        path := vmod s.flw.path p.val fun y => { y with
          tried := true, assign := nextAssign y, nextAt := next s p.val
          pair := some { assign := nextAssign y, cfg := latchCfg s, learned := y.refLearned, gain := y.gain, dnAt := none, dnT := 0
                         lsbDn := 0, lsbUp := 0, dn := none, up := none, hwDn := false, hwUp := false, upDue := false, defer := false
                         abort := false } } }
      whl := { s.whl with shotDefer := deferred s } }) ∧
  (∀ (p : Fin 2) (s : State), live s = true → due s p.val → (flowPath s p.val).state = .fault →
    ∃ t, exec (.pairAttempt p) s = .next t ∧ flowPath t p.val = { flowPath s p.val with
        tried := true, assign := nextAssign (flowPath s p.val), nextAt := next s p.val, from_ := s.aon, cls := .invalid, pstamp := s.aon % 2 ^ 32 } ∧
      (∀ j, j ≠ p.val → flowPath t j = flowPath s j) ∧ s.flw.pend <+: t.flw.pend ∧ t.flw.queue = s.flw.queue ∧ t.flw.vol = s.flw.vol ∧
      hfxAside s t = { s with flw := t.flw, sto := { s.sto with deferred := t.sto.deferred } }) ∧
  (∀ (p : Fin 2) (s : State), live s = true → ¬ due s p.val → ∃ t, exec (.pairAttempt p) s = .next t ∧ hfxAside s t = s) ∧
  (∀ (p : Fin 2) (q : PairSt) (s : State), live s = true → (flowPath s p.val).pair = some q →
    (passed s p.val q → q.upDue = false → ∃ t, exec (.upShotDue p) s = .next t ∧ hfxAside s t = { s with
      flw := { s.flw with
        queue := s.flw.queue ++ [(p.val, true)], waited := waited s (p.val, true)
        path := vmod s.flw.path p.val fun y => { y with pair := some { q with upDue := true } } }
      whl := { s.whl with shotDefer := deferred s } }) ∧
    (¬ passed s p.val q ∨ q.upDue = true → ∃ t, exec (.upShotDue p) s = .next t ∧ hfxAside s t = s)) ∧
  (∀ (i : FireIn) (p : Nat) (up : Bool) (rest : List (Nat × Bool)) (q : PairSt) (s : State), engOn s = true → p < 3 →
    s.flw.queue = (p, up) :: rest → free s → bankReserved s p i.at_ up = false → (flowPath s p).pair = some q →
    (let low := i.vus < 2800
     let ring := i.ring < 800000 ∨ 1250000 < i.ring
     ∃ t q', exec (.shotFire i) s = .next t ∧ (flowPath t p).pair = some q' ∧ t.flw.queue = rest ∧
       t.flw.front = (if low then none else some (p, up)) ∧ t.flw.bufs = (if low then s.flw.bufs else s.flw.bufs ++ [(p, up)]) ∧
       t.flw.waited = s.flw.waited.filter (fun x => decide (x ≠ (p, up))) ∧ (low → t.flw.shot = none) ∧
       (¬ low → ∃ h, t.flw.shot = some h ∧ h.drv = (flowPath s p).assign ∧ (h.tx, h.rx) = shotPorts p (flowCfg (latchCfg s) p).orient up ∧
         h.vus = i.vus ∧ h.from_ = i.at_) ∧
       (up = false → q'.dnAt = some s.aon ∧ q'.cfg = latchCfg s ∧ q'.learned = (flowPath s p).refLearned ∧ q'.dnT = i.at_ ∧ q'.hwDn = (q.hwDn || decide ring) ∧
         (low → q'.dn.map ShotRes.cause = some 128) ∧ (¬ low → q'.dn = q.dn) ∧ q'.up = q.up ∧ q'.defer = q.defer) ∧
       (up = true → q'.hwUp = (q.hwUp || decide ring) ∧ (low → q'.up.map ShotRes.cause = some 128) ∧ (¬ low → q'.up = q.up) ∧
         q'.dn = q.dn ∧ q'.defer = (q.defer || decide (((2000000 * (flowCfg q.cfg p).gapUs : Nat) : Int) < psDiff i.at_ q.dnT))) ∧
       (∀ j, j ≠ p → flowPath t j = flowPath s j) ∧ hfxAside s t = { s with flw := t.flw })) ∧
  (∀ (i : FireIn) (p : Nat) (up : Bool) (rest : List (Nat × Bool)) (s : State), engOn s = true → s.flw.queue = (p, up) :: rest →
    (bankReserved s p i.at_ up = true → (p, up) ∉ s.flw.waited → ∃ t, exec (.shotFire i) s = .next t ∧ hfxAside s t = { s with
      flw := { s.flw with waited := s.flw.waited ++ [(p, up)] }, whl := { s.whl with shotDefer := satInc s.whl.shotDefer } }) ∧
    ((bankReserved s p i.at_ up = true ∧ (p, up) ∈ s.flw.waited) ∨ (bankReserved s p i.at_ up = false ∧ ¬ free s) →
      ∃ t, exec (.shotFire i) s = .next t ∧ hfxAside s t = s)) ∧
  (∀ (i : FireIn) (s : State), engOn s = true → s.flw.queue = [] → ∃ t, exec (.shotFire i) s = .next t ∧ hfxAside s t = s) ∧
  (∀ s : State, engOn s = true → ∃ t, exec .captureClose s = .next t ∧ hfxAside s t = { s with flw := { s.flw with front := none, shot := none } }) ∧
  (∀ (p : Fin 2) (q : PairSt) (s : State), live s = true → (flowPath s p.val).pair = some q → pairPublished s p.val = true →
    q.abort = true ∨ (q.dn.isSome = true ∧ q.up.isSome = true) →
    ∃ t, exec (.pairOutcome p) s = .next t ∧ (flowPath t p.val).pair = none ∧ ∀ j, j ≠ p.val → flowPath t j = flowPath s j) ∧
  ∀ (p : Fin 3) (up : Bool) (c : Capture) (q : PairSt) (s : State), engOn s = true → (flowPath s p.val).pair = some q →
    (p.val, up) ∈ s.flw.bufs → s.flw.front ≠ some (p.val, up) → c.samples.length = capLen (flowPath s p.val) (flowCfg q.cfg p.val) →
    (let f := flowCfg q.cfg p.val
     let r := evalShot f (reference s p.val q.learned f) (arrivalWindow (flowPath s p.val) f up) (if up then q.hwUp else q.hwDn)
       (if up then q.lsbUp else q.lsbDn) c
     ∃ t, exec (.shotEvaluated p up c) s = .next t ∧
       t.pub = (if s.whl.state = .stopped then s.pub else some (s.pub.getD (bankOf s))) ∧
       hfxAside s t = { s with
         pub := t.pub, sto := { s.sto with evHold := t.sto.evHold }
         flw := { s.flw with
           bufs := s.flw.bufs.filter fun b => decide (b ≠ (p.val, up))
           path := vmod s.flw.path p.val fun y => { y with
             pair := some (if up then { q with up := some r } else { q with dn := some r }) } } })

/-- PAIR_OUTCOME of a pair that failed (aborted, a shot or pair cause set) ends it whole: its failure is counted, gain and swap
residue stay. In RUN or HOLD with the last valid pair at most FLW_HOLD_MS old the path is in HOLD with tag HELD and its flow
unchanged, and the interval is pending as held; the first one older sets EXPIRED with tag INVALID. In STARTING the tag is
INVALID. A pair with two passing shots within V_MAX in STARTING, RUN or HOLD is counted, ends expiry and acquisition, and
its path is in RUN, or in STARTING before the fifth, with tag VALID or SETTLING (while no LEARN runs). On battery a PAIR
commit falls due. Other paths keep everything. While the wheel turns hosts read the bank published before, and the events
wait for the round close. Without both results in the published bank nothing changes. (R217, R219, R226, R227, R228, R231, 07_pipe_flow.md) -/
def Obligations.PairOutcomesHoldExpireAndResume : Prop :=
  let failed := fun q : PairSt => q.abort = true ∨ (q.dn.isSome = true ∧ q.up.isSome = true ∧ pairCause q ≠ 0)
  let at_ := fun (s : State) (q : PairSt) => q.dnAt.getD s.aon
  let rest := fun (s t : State) (p : Nat) => (∀ j, j ≠ p → flowPath t j = flowPath s j) ∧ s.flw.pend <+: t.flw.pend ∧
    t.flw.vol = s.flw.vol ∧ (s.pwc.vmainOk = false → t.sto.deferred.isSome = true) ∧
    t.pub = (if s.whl.state = .stopped then s.pub else some (s.pub.getD (bankOf s))) ∧
    eventsAside s (hfxAside s t) = { s with
      cfg := t.cfg, flw := t.flw, pub := t.pub, sto := { s.sto with deferred := t.sto.deferred, evHold := t.sto.evHold } }
  (∀ (p : Fin 2) (q : PairSt) (s : State), live s = true → (flowPath s p.val).pair = some q → pairPublished s p.val = true → failed q →
    (let x := flowPath s p.val
     let age := fun l : LastValid => (at_ s q - l.at_) * 1000
     ∃ t, exec (.pairOutcome p) s = .next t ∧ rest s t p.val ∧ t.cfg = s.cfg ∧
       (let y := flowPath t p.val
        y.pair = none ∧ y.fails = satInc x.fails ∧ y.pairs = x.pairs ∧ y.gain = x.gain ∧ y.e = x.e ∧ y.failCause = pairCause q ∧
        y.from_ = at_ s q ∧ y.q = x.q ∧ y.v = x.v ∧ y.last = x.last ∧
        (x.state = .starting → y.state = .starting ∧ y.tag = .invalid) ∧
        (∀ l, x.state = .run ∨ x.state = .hold → x.last = some l → x.expired = false → age l ≤ holdMs s p.val * 32768 →
          y.state = .hold ∧ y.tag = .held ∧ y.expired = false ∧ (volDefined s p.val = true →
            mkInc p.val (0x10 + p.val) x.q 0 ((at_ s q - x.from_) * 1000) 0 .held false ∈ t.flw.pend)) ∧
        (∀ l, x.state = .run ∨ x.state = .hold → x.last = some l → x.expired = false → holdMs s p.val * 32768 < age l →
          y.state = .hold ∧ y.tag = .invalid ∧ y.expired = true ∧ y.expires = satInc x.expires) ∧
        (x.expired = true → x.state = .hold → y.state = .hold ∧ y.tag = .invalid ∧ y.expired = true ∧ y.expires = x.expires)))) ∧
  (∀ (p : Fin 2) (q : PairSt) (dn up : ShotRes) (s : State), live s = true → (flowPath s p.val).pair = some q → pairPublished s p.val = true →
    q.abort = false → q.dn = some dn → q.up = some up → pairCause q = 0 →
    tooFast (flowCfg q.cfg p.val).vMax (pipeVals s p.val (at_ s q) q dn up).v = false →
    (flowPath s p.val).state = .starting ∨ (flowPath s p.val).state = .run ∨ (flowPath s p.val).state = .hold →
    (let x := flowPath s p.val
     ∃ t, exec (.pairOutcome p) s = .next t ∧ rest s t p.val ∧
       (let y := flowPath t p.val
        y.pair = none ∧ y.pairs = satInc x.pairs ∧ y.fails = x.fails ∧ y.expired = false ∧ y.acquiring = false ∧ y.consec = 0 ∧
        y.last.map LastValid.at_ = some (at_ s q) ∧ y.from_ = at_ s q ∧ y.q = (pipeVals s p.val (at_ s q) q dn up).q ∧
        (s.flw.cal.status ≠ 1 ∨ s.flw.cal.cmd ≠ 2 →
          y.state = (if x.state = .starting ∧ x.validRun < 4 then .starting else .run) ∧ (y.tag = .valid ∨ y.tag = .settling) ∧
          (y.state = .starting → y.tag = .settling))))) ∧
  (∀ (p : Fin 2) (s : State), live s = true → (flowPath s p.val).pair = none ∨ pairPublished s p.val = false →
    ∃ t, exec (.pairOutcome p) s = .next t ∧ hfxAside s t = s) ∧
  ∀ (p : Fin 2) (q : PairSt) (s : State), live s = true → (flowPath s p.val).pair = some q → q.abort = false → q.dn = none ∨ q.up = none →
    ∃ t, exec (.pairOutcome p) s = .next t ∧
      hfxAside s t = { s with pub := t.pub, sto := { s.sto with evHold := t.sto.evHold } }

/-- Of a live link, a frame that is short, badly framed, of unknown type, shorter or longer than its configured length, or of a
wrong CRC counts in CHD_DISC_SHORT, _LONG or _BAD by the first failed check of R242. It delivers nothing: offset, role,
epoch, cycle and CHD_GOOD stay. The second in a row takes RUN to HOLD, the 32nd within 1 s any state to FAULT. A frame that
passes, in its slot if its role expects it, counts in CHD_GOOD; if its role does not expect it, and it is no SYNC at a
leader, it counts in CHD_DISC_BAD besides and changes nothing else. A SYNC at a leader sets SECOND_LEADER; the higher epoch,
on equal ones END A, stays leader, the other follows and counts CHD_CONFLICTS. A frame that finds four frames in the receive
queue is lost, counts so and as missing. A missing frame counts in CHD_MISSING, the second cycle in a row takes RUN to HOLD.
The hold expires when the last good offset is older than its time. In other states a frame changes nothing. While the wheel
turns hosts read the bank published before. (R124, R242, R243, R246, R260, 08_channel_flow.md) -/
def Obligations.LinkFramesAreJudged : Prop :=
  let typ := fun i : LinkIn => leAt i.body 0 1
  let n := fun i : LinkIn => i.body.length
  let badKind := fun i : LinkIn => i.framed = false ∨ typ i = 0 ∨ 3 < typ i
  let crcBad := fun i : LinkIn => wordBytes (crc32 (i.body.take (n i - 4))) ≠ i.body.drop (n i - 4)
  let fails := fun (s : State) (i : LinkIn) (k : Nat) =>
    (k = 0 ∧ (n i < 4 ∨ (¬ badKind i ∧ n i < linkLen s (typ i)))) ∨ (k = 1 ∧ 4 ≤ n i ∧ ¬ badKind i ∧ linkLen s (typ i) < n i) ∨
      (k = 2 ∧ 4 ≤ n i ∧ (badKind i ∨ (n i = linkLen s (typ i) ∧ crcBad i)))
  let passes := fun (s : State) (i : LinkIn) => 4 ≤ n i ∧ ¬ badKind i ∧ n i = linkLen s (typ i) ∧ ¬ crcBad i
  let expects := fun (s : State) (i : LinkIn) => if s.chd.leader then 2 ≤ typ i else typ i = 1
  let recent := fun s : State => (s.chd.discAt.filter fun t => decide (s.aon < t + 32768)).length + 1
  let side := fun (s t : State) => (∀ p, p < 2 → flowPath t p = flowPath s p) ∧
    eventsAside s (hfxAside s t) = { s with
      chd := t.chd, flw := { s.flw with path := t.flw.path, cal := t.flw.cal }, pub := t.pub
      sto := { s.sto with evHold := t.sto.evHold }, whl := { s.whl with faults := t.whl.faults, pending := t.whl.pending } }
  (∀ (i : LinkIn) (k : Nat) (s : State), live s = true → linkLive s = true → rxFrames s < 4 → fails s i k →
    ∃ t, exec (.linkFrameReceived i) s = .next t ∧ side s t ∧
      t.chd.discShort = (if k = 0 then satInc s.chd.discShort else s.chd.discShort) ∧
      t.chd.discLong = (if k = 1 then satInc s.chd.discLong else s.chd.discLong) ∧
      t.chd.discBad = (if k = 2 then satInc s.chd.discBad else s.chd.discBad) ∧ t.chd.good = s.chd.good ∧
      t.chd.theta = s.chd.theta ∧ t.chd.leader = s.chd.leader ∧ t.chd.epoch = s.chd.epoch ∧ t.chd.cycle = s.chd.cycle ∧
      t.chd.gotReply = s.chd.gotReply ∧ t.chd.gotArrive = s.chd.gotArrive ∧ t.chd.t4 = s.chd.t4 ∧
      t.chd.state = (if 32 ≤ recent s then .fault else if s.chd.state = .run ∧ 1 ≤ s.chd.discRun then .hold else s.chd.state)) ∧
  (∀ (i : LinkIn) (s : State), live s = true → linkLive s = true → rxFrames s < 4 → passes s i →
    (expects s i → inSlot s (typ i) i.stamp = true → ∃ t, exec (.linkFrameReceived i) s = .next t ∧ t.chd.good = satInc s.chd.good ∧
      t.chd.discShort = s.chd.discShort ∧ t.chd.discLong = s.chd.discLong ∧ t.chd.discBad = s.chd.discBad ∧
      (s.chd.leader = true → typ i = 2 → t.chd.gotReply = true ∧ t.chd.t4 = some i.stamp) ∧
      (s.chd.leader = true → typ i = 3 → t.chd.gotArrive = true) ∧
      (s.chd.leader = false → t.chd.t2 = i.stamp ∧ t.chd.cycle = leAt i.body 3 1 ∧ t.chd.syncAt = s.aon)) ∧
    (expects s i → inSlot s (typ i) i.stamp = false → ∃ t, exec (.linkFrameReceived i) s = .next t ∧ side s t ∧
      t.chd.good = s.chd.good ∧ t.chd.discBad = satInc s.chd.discBad ∧ t.chd.theta = s.chd.theta) ∧
    (¬ expects s i → ¬ (s.chd.leader = true ∧ typ i = 1) → ∃ t, exec (.linkFrameReceived i) s = .next t ∧
      hfxAside s t = { s with
        chd := { s.chd with good := satInc s.chd.good, discRun := 0, discBad := satInc s.chd.discBad, rxq := t.chd.rxq }
        pub := t.pub, sto := { s.sto with evHold := t.sto.evHold }, whl := { s.whl with pending := t.whl.pending } })) ∧
  (∀ (i : LinkIn) (s : State), live s = true → linkLive s = true → rxFrames s < 4 → passes s i → s.chd.leader = true → typ i = 1 →
    (let d := ((BitVec.ofInt 8 ((s.chd.epoch : Int) - leAt i.body 2 1)).toInt : Int)
     let stays := 0 < d ∨ (d = 0 ∧ bit (cfgV s 0x3800) 1 = false)
     ∃ t, exec (.linkFrameReceived i) s = .next t ∧ t.chd.second = true ∧
       (stays → t.chd.leader = true ∧ t.chd.epoch = s.chd.epoch ∧ t.chd.conflicts = s.chd.conflicts) ∧
       (¬ stays → t.chd.leader = false ∧ t.chd.epoch = leAt i.body 2 1 ∧ t.chd.conflicts = satInc s.chd.conflicts ∧
         t.sto.deferred.isSome = true))) ∧
  (∀ (i : LinkIn) (s : State), live s = true → linkLive s = true → 4 ≤ rxFrames s → ∃ t, exec (.linkFrameReceived i) s = .next t ∧
    t.whl.linkQloss = satInc s.whl.linkQloss ∧ t.chd.missing = satInc s.chd.missing ∧ t.chd.good = s.chd.good ∧
    t.chd.leader = s.chd.leader) ∧
  (∀ (i : LinkIn) (s : State), live s = true → linkLive s = false → ∃ t, exec (.linkFrameReceived i) s = .next t ∧ hfxAside s t = s) ∧
  (∀ (k : Nat) (s : State), live s = true → linkLive s = true → k ≠ 3 →
    ∃ t, exec (.linkFrameMissing k) s = .next t ∧ side s t ∧ t.chd.missing = satInc s.chd.missing ∧ t.chd.good = s.chd.good ∧
      t.chd.state = (if s.chd.state = .run ∧ (1 ≤ s.chd.missRun ∧ ¬ (s.chd.cycMissed = true ∧ s.chd.leader = true) ∨
        2 ≤ s.chd.missRun) then .hold else s.chd.state)) ∧
  (∀ s : State, live s = true → ∃ t, exec (.linkFrameMissing 3) s = .next t ∧ t.chd.arriveBad = true ∧ side s t ∧
    t.chd.missing = if linkLive s = true then satInc s.chd.missing else s.chd.missing) ∧
  ∀ s : State, live s = true → ∃ t, exec .chdHoldExpiry s = .next t ∧ hfxAside s t = { s with chd := { s.chd with
    holdExp := s.chd.holdExp || (decide (s.chd.state = .hold) &&
      decide ((cfgV s 0x380C).toNat * 32768 < (s.aon - s.chd.goodAt) * 1000)) } }

/-- A due leader cycle takes the next cycle number and t1, shot A 10 ms later, sends SYNC, and commits the swap requested in the
cycle before; with the swap committed the leader becomes follower, the follower leader, each with the new epoch and a STATE
commit due. Not due, nothing changes. After SYNC a follower sends REPLY once and ARRIVE once. A follower whose revert time
has come leads again with its old epoch. A bank shot of the leader on its plan takes the free front end; without a pair
nothing happens. With its results in the published bank, the leader's bank outcome ends the pair; with a cause it is a
counted failure. In other conditions nothing changes. On battery the cycle's wake starts HFX. (R244, R248, R250, R253, R254, R258, R259, R382, 08_channel_flow.md) -/
def Obligations.LinkCyclesAndRoles : Prop :=
  let quiet := fun (s t : State) => hfxAside s t = s
  (∀ (t1 : Nat) (s : State), live s = true → linkLive s = true → s.chd.leader = true → s.chd.nextAt ≤ s.aon →
    (s.chd.committed = false → (flowPath s 2).pair = none → ∃ t, exec (.linkCycleStart t1) s = .next t ∧ t.chd.leader = true ∧
      t.chd.epoch = s.chd.epoch ∧ t.chd.cycle = (s.chd.cycle + 1) % 256 ∧ t.chd.t1 = t1 ∧ t.chd.tA = t1 + 10000000000 ∧
      t.chd.committed = (s.chd.ownSent || s.chd.partnerReq) ∧ t.chd.ownSent = s.chd.ownReq ∧
      t.chd.nextAt = max (s.chd.nextAt + 32 * (cfgV s 0x3804).toNat) (s.aon + 1) ∧ t.chd.tx.take 4 = [0x55, 0x55, 0xD5, 1] ∧
      (flowPath t 2).pair.isSome = (pathExists s 2 && geomOk s 2) ∧ (∀ p, p < 2 → flowPath t p = flowPath s p) ∧
      hfxAside s t = { s with chd := t.chd, flw := t.flw }) ∧
    (s.chd.committed = true → ∃ t, exec (.linkCycleStart t1) s = .next t ∧ t.chd.leader = false ∧ t.chd.epoch = s.chd.newEpoch ∧
      t.chd.swaps = satInc s.chd.swaps ∧ t.chd.committed = false ∧ t.sto.deferred.isSome = true ∧
      t.chd.revert = some ⟨s.aon + 96 * (cfgV s 0x3804).toNat, s.chd.epoch, swapReqs s⟩)) ∧
  (∀ (t1 : Nat) (s : State), live s = true → linkLive s = true → s.chd.leader = false →
    (s.chd.committed = true → ∃ t, exec (.linkCycleStart t1) s = .next t ∧ t.chd.leader = true ∧
      t.chd.epoch = s.chd.newEpoch ∧ t.chd.swaps = satInc s.chd.swaps ∧ t.chd.t1 = t1 ∧ t.sto.deferred.isSome = true) ∧
    (s.chd.committed = false → ∃ t, exec (.linkCycleStart t1) s = .next t ∧ quiet s t)) ∧
  (∀ (t1 : Nat) (s : State), live s = true → linkLive s = false ∨ (s.chd.leader = true ∧ s.aon < s.chd.nextAt) →
    ∃ t, exec (.linkCycleStart t1) s = .next t ∧ quiet s t) ∧
  (∀ (t3 : Nat) (s : State), live s = true →
    (let due := linkLive s = true ∧ s.chd.leader = false ∧ s.chd.gotReply = true ∧ s.chd.t3 = none
     (due → ∃ t, exec (.linkReplySend t3) s = .next t ∧ t.chd.tx.take 4 = [0x55, 0x55, 0xD5, 2] ∧ hfxAside s t = { s with chd := { s.chd with
       t3 := some t3, ownSent := s.chd.ownSent || s.chd.ownReq, tx := t.chd.tx } }) ∧
     (¬ due → ∃ t, exec (.linkReplySend t3) s = .next t ∧ quiet s t))) ∧
  (∀ s : State, live s = true →
    (let due := linkLive s = true ∧ s.chd.leader = false ∧ s.chd.gotReply = true ∧ s.chd.gotArrive = false
     (due → ∃ t, exec .linkArriveSend s = .next t ∧ t.chd.tx.take 4 = [0x55, 0x55, 0xD5, 3] ∧ hfxAside s t = { s with chd := { s.chd with
       gotArrive := true, ownSent := s.chd.ownSent || s.chd.ownReq, tx := t.chd.tx } }) ∧
     (¬ due → ∃ t, exec .linkArriveSend s = .next t ∧ quiet s t))) ∧
  (∀ (i : BankIn) (q : PairSt) (s : State), engOn s = true → (flowPath s 2).pair = some q → s.chd.leader = true → i.b = false →
    i.fire.at_ = s.chd.tA → s.flw.front = none → 2800 ≤ i.fire.vus → 800000 ≤ i.fire.ring → i.fire.ring ≤ 1250000 →
    ∃ t, exec (.bankShot i) s = .next t ∧ t.flw.front = some (2, !isUpstream s) ∧
      (flowPath t 2).pair = some { q with cfg := latchCfg s, learned := (flowPath s 2).refLearned, dnAt := some s.aon } ∧ (∀ p, p < 2 → flowPath t p = flowPath s p) ∧
      hfxAside s t = { s with chd := t.chd, flw := { s.flw with front := t.flw.front, shot := t.flw.shot, path := t.flw.path } }) ∧
  (∀ (i : BankIn) (s : State), engOn s = true → (flowPath s 2).pair = none → ∃ t, exec (.bankShot i) s = .next t ∧ quiet s t) ∧
  (∀ (q : PairSt) (s : State), live s = true → s.chd.leader = true → (flowPath s 2).pair = some q → pairPublished s 2 = true →
    ∃ t, exec .bankPairOutcome s = .next t ∧ (flowPath t 2).pair = none ∧ (∀ p, p < 2 → flowPath t p = flowPath s p) ∧
      (bankCause s q ≠ 0 → (flowPath t 2).fails = satInc (flowPath s 2).fails ∧ (flowPath t 2).pairs = (flowPath s 2).pairs) ∧
      ((flowPath t 2).pairs = satInc (flowPath s 2).pairs ∧ (flowPath t 2).fails = (flowPath s 2).fails ∨
        (flowPath t 2).fails = satInc (flowPath s 2).fails ∧ (flowPath t 2).pairs = (flowPath s 2).pairs) ∧
      eventsAside s (hfxAside s t) = { s with
        cfg := t.cfg, flw := t.flw, chd := t.chd, pub := t.pub
        sto := { s.sto with deferred := t.sto.deferred, evHold := t.sto.evHold } }) ∧
  (∀ s : State, live s = true →
    ((flowPath s 2).pair = none ∨ pairPublished s 2 = false → ∃ t, exec .bankPairOutcome s = .next t ∧ quiet s t) ∧
    (s.chd.leader = false → ∃ t, exec .bankPairOutcome s = .next t ∧
      hfxAside s t = { s with pub := t.pub, sto := { s.sto with evHold := t.sto.evHold } })) ∧
  (∀ (r : Revert) (s : State), live s = true → s.chd.revert = some r →
    (r.at_ ≤ s.aon → ∃ t, exec .roleSwapRevert s = .next t ∧ t.chd.leader = true ∧ t.chd.epoch = r.epoch ∧ t.chd.revert = none ∧
      (s.chd.leader = false → t.sto.deferred.isSome = true)) ∧
    (s.aon < r.at_ → ∃ t, exec .roleSwapRevert s = .next t ∧ quiet s t)) ∧
  ∀ s : State, live s = true →
    (linkLive s = true → s.pwc.vmainOk = false → ∃ t, exec .linkCycleWake s = .next t ∧ (s.str.isSome = true → t.pwc.clk.hfx = true) ∧
      hfxAside s t = { s with pwc := { s.pwc with dem := { s.pwc.dem with bank := true } } }) ∧
    (linkLive s = false ∨ s.pwc.vmainOk = true → ∃ t, exec .linkCycleWake s = .next t ∧ quiet s t)

/-- A running slot that is due takes its next due time and waits its turn, or is SKIPPED while its own transaction or
measurement is open. With the line free the next transaction opens, after SDP has settled in SWITCHED mode, and sends its
command on the SDI12 ball, after a break in SWITCHED mode; without the ball nothing is sent and no response is taken. A
missing or invalid response is retried three times, counted for its slot; then the slot fails with NO_RESPONSE or
INVALID_RESPONSE, VALID tags become HELD and values stay. A measurement of M waits for ttt, its service request or that time
begins the data phase; one of C frees the line. The last value line stores each value that fits, VALID and of this time, and
leaves the others with VALID tags HELD; the failure count clears. A value older than STALE_S reads INVALID. Nothing else but
the event log changes; out of place nothing does. (R264, R265, R266, R267, R268, R269, R271, R272, R273, R276, R278, 09_sdi12_port.md) -/
def Obligations.SensorTransactionsRun : Prop :=
  let rest := fun (s t : State) => eventsAside s (hfxAside s t) = { s with
    sdi := t.sdi, whl := { s.whl with sdiQloss := t.whl.sdiQloss } }
  let same := fun (c : Instr) (s : State) => ∃ t, exec c s = .next t ∧ hfxAside s t = s
  let others := fun (s t : State) (k : Nat) => ∀ j, j ≠ k → sdiSlot t j = sdiSlot s j
  let active := fun (s : State) (t0 : SdiTxn) => live s = true ∧ s.sdi.txn = some t0 ∧ t0.phase ≠ .power ∧ t0.phase ≠ .wait
  let sends := fun (s t : State) (t0 : SdiTxn) => if sdiWired s = true then
      (∃ brk, t.sdi.cmd = some ⟨s.aon, brk, sdiChars s t0⟩ ∧ (bits (cfgV s 0x3C00) 2 1 = 2 → brk = true))
    else t.sdi.cmd = s.sdi.cmd
  let data := fun (s t : State) (t0 : SdiTxn) => hfxAside s t = { s with sdi := { s.sdi with
    txn := some { t0 with phase := .data, dIdx := 0, retries := 0 }, cmd := t.sdi.cmd, lineAt := t.sdi.lineAt } }
  let parsed := fun (s : State) (t0 : SdiTxn) (l : SdiLine) => parseSdi (slotKind s t0.slot) t0.phase (s.sdi.shot.getD (0, 0)).1
    (if t0.shot then (s.sdi.shot.getD (0, 0)).2 else slotAddr s t0.slot) l
  let retried := fun (s t : State) (t0 : SdiTxn) (any : Bool) =>
    (t0.retries < 3 → t.sdi.txn = some { t0 with anyChar := any, retries := t0.retries + 1 } ∧
      (∀ j, j < 8 → sdiSlot t j = if t0.shot = false ∧ j = t0.slot then { sdiSlot s j with sretry := satInc (sdiSlot s j).sretry }
        else sdiSlot s j)) ∧
    (3 ≤ t0.retries → t.sdi.txn = none ∧
      (t0.shot = true → t.sdi.shot = none ∧ t.sdi.shotResult = (if any then 3 else 2) ∧ t.sdi.slots = s.sdi.slots) ∧
      (t0.shot = false → t0.slot < 8 → others s t t0.slot ∧ (let y := sdiSlot t t0.slot
        y.result = (if any then 5 else 4) ∧ y.stored = 0 ∧ y.fails = (sdiSlot s t0.slot).fails + 1 ∧
        y.scount = satInc (sdiSlot s t0.slot).scount ∧ y.vals = (sdiSlot s t0.slot).vals ∧
        ∀ j, vget y.tags j .invalid = if vget (sdiSlot s t0.slot).tags j .invalid = .valid then .held
          else vget (sdiSlot s t0.slot).tags j .invalid)))
  (∀ (k : Fin 8) (s : State), live s = true → slotRuns s k.val = true → (sdiSlot s k.val).dueAt ≤ s.aon →
    (let open_ := (∃ t0, s.sdi.txn = some t0 ∧ t0.shot = false ∧ t0.slot = k.val) ∨ (sdiSlot s k.val).pendN.isSome = true
     ∃ t, exec (.slotDue k) s = .next t ∧ rest s t ∧ others s t k.val ∧ t.sdi.txn = s.sdi.txn ∧ (let y := sdiSlot t k.val
       y.dueAt = (sdiSlot s k.val).dueAt + max 1 (bits (sper s k.val) 15 0) * 32768 ∧ y.vals = (sdiSlot s k.val).vals ∧
       (open_ → y.skipped = true ∧ y.due = (sdiSlot s k.val).due) ∧
       (¬ open_ → y.skipped = (sdiSlot s k.val).skipped ∧ y.due = true)))) ∧
  (∀ (k : Fin 8) (s : State), live s = true → slotRuns s k.val = false ∨ s.aon < (sdiSlot s k.val).dueAt → same (.slotDue k) s) ∧
  (∀ (t0 : SdiTxn) (s : State), live s = true → s.sdi.txn = none → sdiOn s = true ∨ s.sdi.shot.isSome = true → nextTxn s = some t0 →
    (let sw := bits (cfgV s 0x3C00) 2 1 = 2
     ∃ t, exec .sdiTransactionStart s = .next t ∧ rest s t ∧ t.sdi.sdp = (s.sdi.sdp || decide sw) ∧
       (sw → s.sdi.sdp = false → t.sdi.txn = some { t0 with
         phase := .power, deadline := s.aon + aonOfMs (bits (cfgV s 0x3C00) 31 16) }) ∧
       (¬ sw ∨ s.sdi.sdp = true → t.sdi.txn = some { t0 with phase := txnPhase s t0, deadline := 0 } ∧
         sends s t { t0 with phase := txnPhase s t0 }))) ∧
  (∀ s : State, live s = true → s.sdi.txn.isSome = true ∨ nextTxn s = none → same .sdiTransactionStart s) ∧
  (∀ (t0 : SdiTxn) (s : State), live s = true → s.sdi.txn = some t0 → t0.phase = .power → t0.deadline ≤ s.aon →
    ∃ t, exec .sdpPowerSettled s = .next t ∧ sends s t { t0 with phase := txnPhase s t0 } ∧
      hfxAside s t = { s with sdi := { s.sdi with
        txn := some { t0 with phase := txnPhase s t0 }, cmd := t.sdi.cmd, lineAt := t.sdi.lineAt } }) ∧
  (∀ (any : Bool) (t0 : SdiTxn) (s : State), active s t0 →
    ∃ t, exec (.sdiResponseTimeout any) s = .next t ∧ rest s t ∧ retried s t t0 (t0.anyChar || (any && sdiWired s))) ∧
  (∀ (l : SdiLine) (t0 : SdiTxn) (s : State), active s t0 → sdiWired s = true → parsed s t0 l = .bad →
    ∃ t, exec (.sdiResponse l) s = .next t ∧ rest s t ∧ retried s t t0 true) ∧
  (∀ (l : SdiLine) (ttt n : Nat) (t0 : SdiTxn) (s : State), active s t0 → sdiWired s = true → parsed s t0 l = .announce ttt n → ttt ≠ 0 → n ≠ 0 →
    ∃ t, exec (.sdiResponse l) s = .next t ∧ rest s t ∧
      (slotKind s t0.slot ≤ 1 → t.sdi.slots = s.sdi.slots ∧ t.sdi.txn = some { t0 with
        anyChar := true, phase := .wait, n := n, retries := 0, deadline := s.aon + ttt * 32768 }) ∧
      (2 ≤ slotKind s t0.slot → t0.slot < 8 → t.sdi.txn = none ∧ others s t t0.slot ∧ (sdiSlot t t0.slot).pendN = some n ∧
        (sdiSlot t t0.slot).dataAt = s.aon + ttt * 32768)) ∧
  (∀ (l : SdiLine) (vs : List Rat) (t0 : SdiTxn) (s : State), active s t0 → sdiWired s = true → t0.slot < 8 → t0.phase = .data → parsed s t0 l = .values vs →
    min t0.n (slotN s t0.slot) ≤ (t0.vals ++ vs).length →
    (let ints := ((t0.vals ++ vs).take (min t0.n (slotN s t0.slot))).map fun v => roundAway (v * (10 ^ bits (scfg s t0.slot) 23 20 : Nat))
     let has := fun j => ∃ v, ints[j]? = some v ∧ -2147483648 ≤ v ∧ v ≤ 2147483647
     ∃ t, exec (.sdiResponse l) s = .next t ∧ rest s t ∧ t.sdi.txn = none ∧ others s t t0.slot ∧ (sdiSlot t t0.slot).fails = 0 ∧
       ∀ j, j < 9 → (has j → vget (sdiSlot t t0.slot).vals j 0 = ints.getD j 0 ∧ vget (sdiSlot t t0.slot).at_ j none = some s.aon ∧
           vget (sdiSlot t t0.slot).tags j .invalid = .valid) ∧
         (¬ has j → vget (sdiSlot t t0.slot).vals j 0 = vget (sdiSlot s t0.slot).vals j 0 ∧
           vget (sdiSlot t t0.slot).at_ j none = vget (sdiSlot s t0.slot).at_ j none ∧
           vget (sdiSlot t t0.slot).tags j .invalid ≠ .valid))) ∧
  (∀ (l : SdiLine) (s : State), live s = true → s.sdi.txn = none → same (.sdiResponse l) s ∧ same (.sdiResponseTimeout true) s) ∧
  (∀ (l : SdiLine) (s : State), live s = true → sdiWired s = false → same (.sdiResponse l) s) ∧
  (∀ (addr : Byte) (t0 : SdiTxn) (s : State), live s = true → s.sdi.txn = some t0 → t0.phase = .wait → t0.n ≠ 0 →
    (addr.toNat = slotAddr s t0.slot → sdiWired s = true → ∃ t, exec (.sdiServiceRequest addr) s = .next t ∧ data s t t0) ∧
    (addr.toNat ≠ slotAddr s t0.slot ∨ sdiWired s = false → same (.sdiServiceRequest addr) s) ∧
    (∀ k : Fin 8, k.val = t0.slot → t0.deadline ≤ s.aon → ∃ t, exec (.sdiDataPhaseDue k) s = .next t ∧ data s t t0)) ∧
  (∀ (k : Fin 8) (n : Nat) (s : State), live s = true → s.sdi.txn = none → (sdiSlot s k.val).pendN = some n →
    (sdiSlot s k.val).dataAt ≤ s.aon → slotRuns s k.val = true → ∃ t, exec (.sdiDataPhaseDue k) s = .next t ∧ hfxAside s t = { s with
      sdi := { s.sdi with slots := vmod s.sdi.slots k.val fun x => { x with dataDue := true } } }) ∧
  ∀ (k : Fin 8) (j : Fin 9) (s : State), live s = true →
    (bits (sper s k.val) 31 16 < sdiAge s k.val j.val → ∃ t, exec (.sdiValueStale k j) s = .next t ∧ sdiTag t k.val j.val = .invalid ∧
      hfxAside s t = { s with
        sdi := { s.sdi with slots := vmod s.sdi.slots k.val fun x => { x with stale := vmod x.stale j.val fun _ => true } } }) ∧
    (sdiAge s k.val j.val ≤ bits (sper s k.val) 31 16 → same (.sdiValueStale k j) s)

/-- A frame in ACTIVE adds its current times 1 s to the charge; the fourth in a row below I_Q enters QUIET with 16 s. A sample
in QUIET or REST adds the mean of the two currents times the interval, and I_Q with that mean to the uncertainty (0 after an
anchor); at I_Q or the end of the range it enters ACTIVE. A comparator trip adds the previous current's charge and enters
ACTIVE. A voltage slot that reads the cell below 1.8 V makes it absent and the gauge HOLD; the second sample in a row of 2.0
V or more of an absent cell puts the gauge into STARTING. Each comes once its second or interval has passed. NEW_CELL with
its key zeroes the charge; BAT_CONFIG_WRITE of a BAT register keeps it. A conversion that times out places a running gauge
in FAULT. Apart from the gauge only a battery glance, the gauge demand, the event log and, while the wheel turns, the
published bank may change. A gauge that is not running is left alone. (R286, R287, R288, R289, R290, R299, 10_backup_battery.md) -/
def Obligations.GaugeCountsCharge : Prop :=
  let rest := fun (s t : State) => eventsAside s (hfxAside s t) = { s with
    bat := t.bat, dsp := t.dsp, pub := t.pub, sto := { s.sto with evHold := t.sto.evHold }
    pwc := { s.pwc with dem := { s.pwc.dem with gauge := t.pwc.dem.gauge } } }
  let still := fun (s t : State) => s.dsp.glance = none → s.pwc.vmainOk = true → hfxAside s t = s
  let abs := fun x : Rat => if x < 0 then -x else x
  let dt := fun s : State => ((s.aon - s.bat.lastAt : Nat) : Rat) / 32768
  let uncAfter := fun (s t : State) (im : Rat) => t.bat.unc = s.bat.unc + (iQ s + abs im) * dt s * 5 / 18 ∨ t.bat.unc = 0
  (∀ (i : GaugeIn) (s : State), live s = true → batLive s = true → s.bat.mode = 0 → cellAbsent s = false → gaugeDue 1 s = true →
    s.bat.frameNo % 16 ≠ 0 →
    (let cur := shuntI s i.shunt
     let quiet := abs cur < iQ s ∧ 3 ≤ s.bat.quietRun
     ∃ t, exec (.gaugeFrame i) s = .next t ∧ rest s t ∧ t.bat.curr = cur ∧ t.bat.charge = s.bat.charge + cur * 5 / 18 ∧
       t.bat.frameNo = s.bat.frameNo + 1 ∧ t.bat.lastAt = s.aon ∧ t.bat.mode = (if quiet then 1 else 0) ∧
       t.bat.interval = (if quiet then 16 else 1) ∧ t.bat.used = s.bat.used + (if cur < 0 then -(cur * 5 / 18) else 0))) ∧
  (∀ (i : GaugeIn) (x : GaugeVT) (s : State), live s = true → batLive s = true → s.bat.mode = 0 → gaugeDue 1 s = true →
    i.slot = some x → s.bat.frameNo % 16 = 0 → s.bat.present = true → x.volt < 18000 →
    ∃ t, exec (.gaugeFrame i) s = .next t ∧ rest s t ∧ t.bat.present = false ∧ t.bat.state = .hold ∧ t.bat.volt = x.volt ∧
      t.bat.charge = s.bat.charge ∧ t.bat.unc = s.bat.unc) ∧
  (∀ (i : GaugeIn) (x : GaugeVT) (s : State), live s = true → batLive s = true → s.bat.mode ≠ 0 → i.slot = some x →
    s.bat.present = true → 18000 ≤ x.volt → gaugeDue (min s.bat.interval (maxInterval s)) s = true →
    (let cur := shuntI s i.shunt
     let im := (s.bat.curr + cur) / 2
     let big := iQ s ≤ abs cur ∨ 6250000 ≤ i.shunt.natAbs
     ∃ t, exec (.gaugeIntervalSample i) s = .next t ∧ rest s t ∧ t.bat.curr = cur ∧ t.bat.lastAt = s.aon ∧
       t.bat.charge = s.bat.charge + im * dt s * 5 / 18 ∧ uncAfter s t im ∧
       (big → t.bat.mode = 0 ∧ t.bat.interval = 1) ∧ (¬ big → t.bat.mode = 1 ∨ t.bat.mode = 2))) ∧
  (∀ (i : GaugeIn) (x : GaugeVT) (s : State), live s = true → batLive s = true → cellAbsent s = true → i.slot = some x → gaugeDue 1 s = true →
    ∃ t, exec (.gaugeIntervalSample i) s = .next t ∧ rest s t ∧ t.bat.volt = x.volt ∧ t.bat.charge = s.bat.charge ∧ t.bat.unc = s.bat.unc ∧
      (x.volt < 20000 ∨ s.bat.presRun = 0 → t.bat.present = false ∧ t.bat.state = .hold) ∧
      (20000 ≤ x.volt → 1 ≤ s.bat.presRun → t.bat.present = true ∧ t.bat.state = .starting ∧ t.bat.mode = 0 ∧
        (batPrimary s = true → t.bat.changed = true) ∧ (batPrimary s = false → t.bat.anchored = false))) ∧
  (∀ (f : Facet) (w : RegWr) (s : State), accepted s f 0x401C { w with val := withCmd w.val 1 } = true → bits w.val 15 8 = 0x5A →
    ∃ t, exec (.newCell w) s = .next t ∧ t.bat.charge = 0 ∧ t.bat.unc = 0 ∧ t.bat.used = 0) ∧
  (∀ (off : BitVec 16) (w : RegWr) (f : Facet) (s : State), 0x4000 ≤ off.toNat → off.toNat < 0x4800 → off.toNat ≠ 0x401C →
    accepted s f off.toNat w = true → (specOf off.toNat).isSome = true →
    ∃ t, exec (.batConfigWrite off w) s = .next t ∧ t.bat.charge = s.bat.charge ∧ t.bat.unc = s.bat.unc ∧ t.bat.used = s.bat.used) ∧
  (∀ s : State, live s = true → batLive s = true → s.bat.mode ≠ 0 → s.bat.state ≠ .hold →
    ∃ t, exec .quietComparatorTrip s = .next t ∧ rest s t ∧ t.bat.mode = 0 ∧ t.bat.interval = 1 ∧ t.bat.lastAt = s.aon ∧
      t.bat.charge = s.bat.charge + s.bat.curr * dt s * 5 / 18 ∧ uncAfter s t s.bat.curr) ∧
  (∀ s : State, live s = true → batLive s = true →
    ∃ t, exec .gaugeConversionTimeout s = .next t ∧ t.bat = { s.bat with state := .fault } ∧ s.aon ∈ (faultRec t 0x20).times ∧
      (∀ u, u ≠ 0x20 → faultRec t u = faultRec s u) ∧
      eventsAside s (hfxAside s t) = { s with bat := t.bat, dsp := t.dsp, whl := { s.whl with faults := t.whl.faults } }) ∧
  ∀ (i : GaugeIn) (s : State), live s = true → batLive s = false →
    (∃ t, exec (.gaugeFrame i) s = .next t ∧ still s t) ∧ (∃ t, exec (.gaugeIntervalSample i) s = .next t ∧ still s t) ∧
    (∃ t, exec .quietComparatorTrip s = .next t ∧ hfxAside s t = s) ∧ ∃ t, exec .gaugeConversionTimeout s = .next t ∧ still s t

/-- In a running device VMAIN_LOST clears VMAIN_OK, notes the time, counts the switch, marks SUPPLY for the next round close and
leaves METER for SHOT or IDLE; VMAIN_QUALIFIED sets VMAIN_OK, counts the switch, begins the commit period anew, and with a
structure enters METER with HFX started; within 5 ms of the loss nothing is qualified. During a start a change counts too
and its event waits for the start's; held in reset or in a power-fail sequence only VMAIN_OK and its time change. In SHELF a
qualified VMAIN resets the device with cause SHELF_EXIT. A repeated report changes nothing. HFX_QUALIFIED sets HFX_OK,
PLL_LOCK the lock, HFX_RETRY 1 s after a failure starts HFX on mains, DEMAND_END leaves mains running. VIO_LOST drives the
trip outputs low; VIO_RESTORED is a level. (R101, R281, R283, R407, R408, R410, R411, R413, R414, R471, 10_backup_battery.md, 14_power_clocks_startup.md) -/
def Obligations.SupplySourceChanges : Prop :=
  let runs := fun s : State => s.pwc.start = .served ∧ s.pwc.pf = .none ∧ s.pwc.mode ≠ .shelf
  let dead := fun s : State => s.pwc.start = .heldInReset ∨ s.pwc.pf ≠ .none
  let starts := fun s : State => s.pwc.start ≠ .served ∧ s.pwc.start ≠ .heldInReset ∧ s.pwc.pf = .none
  let counted := fun (s t : State) => t.bat.switchCount = satInc s.bat.switchCount
  let batNow := fun (s t : State) => { s.bat with
    switchCount := t.bat.switchCount, supplyAt := t.bat.supplyAt, supplyChanges := t.bat.supplyChanges }
  (∀ s : State, runs s → s.pwc.vmainOk = true → ∃ t, exec .vmainLost s = .next t ∧ t.pwc.vmainOk = false ∧
    t.pwc.vmainLostAt = some s.aon ∧ t.saf.supply = true ∧ counted s t ∧
    t.pwc.mode = (if s.str.isSome = true ∧ t.pwc.clk.hfx = true then .shot else .idle) ∧
    (s.pwc.clk.hfx = true → t.pwc.clk.hfx = true) ∧ t.pwc.rtc = s.pwc.rtc ∧
    eventsAside s t = { s with bat := batNow s t, dsp := t.dsp, pwc := t.pwc, saf := { s.saf with supply := true } }) ∧
  (∀ s : State, runs s → s.pwc.vmainOk = false → vmainMay s = true → ∃ t, exec .vmainQualified s = .next t ∧ t.pwc.vmainOk = true ∧
    t.pwc.vmainLostAt = none ∧ counted s t ∧ t.sto.periodAt = s.aon ∧
    (s.str.isSome = true → t.pwc.mode = .meter ∧ t.pwc.clk.hfx = true) ∧ t.pwc.rtc = s.pwc.rtc ∧
    eventsAside s t = { s with bat := batNow s t, dsp := t.dsp, pwc := t.pwc, sto := { s.sto with periodAt := s.aon } }) ∧
  (∀ s : State, dead s → s.pwc.vmainOk = true → exec .vmainLost s = .next { s with
    pwc := { s.pwc with vmainOk := false, vmainLostAt := some s.aon, toData := false } }) ∧
  (∀ s : State, dead s → s.pwc.mode ≠ .shelf → s.pwc.vmainOk = false → vmainMay s = true →
    exec .vmainQualified s = .next { s with pwc := { s.pwc with vmainOk := true, vmainLostAt := none } }) ∧
  (∀ s : State, starts s → s.pwc.vmainOk = true → ∃ t, exec .vmainLost s = .next t ∧ counted s t ∧
    s.pwc.startEvents <+: t.pwc.startEvents ∧ t = { s with bat := batNow s t, pwc := { s.pwc with
      vmainOk := false, vmainLostAt := some s.aon, toData := false, startEvents := t.pwc.startEvents } }) ∧
  (∀ s : State, starts s → s.pwc.mode ≠ .shelf → s.pwc.vmainOk = false → vmainMay s = true →
    ∃ t, exec .vmainQualified s = .next t ∧ counted s t ∧ s.pwc.startEvents <+: t.pwc.startEvents ∧
      t = { s with bat := batNow s t, pwc := { s.pwc with
        vmainOk := true, vmainLostAt := none, startEvents := t.pwc.startEvents } }) ∧
  (∀ s : State, s.pwc.mode = .shelf → ∃ t, exec .vmainQualified s = .next t ∧ t.pwc.start = .released ∧ t.pwc.resetCause = 32 ∧
    t.pwc.vmainOk = true ∧ t.pwc.mode = .idle ∧ t.aon = s.aon ∧ t.pwc.rtc = s.pwc.rtc ∧ t.sec = s.sec ∧ t.img.banks = s.img.banks ∧
    t.sto.slots = s.sto.slots ∧ t.sto.areas = s.sto.areas) ∧
  (∀ s : State, s.pwc.vmainOk = false → exec .vmainLost s = .next { s with pwc := { s.pwc with toData := false } }) ∧
  (∀ s : State, s.pwc.mode ≠ .shelf → s.pwc.vmainOk = true ∨ vmainMay s = false → exec .vmainQualified s = .next s) ∧
  (∀ s : State, live s = true → s.pwc.hfxStarting = true → s.pwc.clk.hfx = true → ∃ t, exec .hfxQualified s = .next t ∧ t.pwc.hfxOk = true ∧ t.pwc.hfxFail = false) ∧
  (∀ s : State, live s = true → s.pwc.hfxOk = true → s.pwc.pllLock = false → ∃ t, exec .pllLock s = .next t ∧ t.pwc.pllLock = true ∧
    t.whl.state ≠ .stopped ∧ t.whl.rounds = 0 ∧ t.pwc.vmainOk = s.pwc.vmainOk) ∧
  (∀ s : State, live s = true → s.pwc.hfxFail = true → s.pwc.vmainOk = true → s.str.isSome = true → s.pwc.hfxFailAt + 32768 ≤ s.aon →
    ∃ t, exec .hfxRetry s = .next t ∧ t.pwc.clk.hfx = true ∧ t.pwc.hfxFails = s.pwc.hfxFails) ∧
  (∀ (d : Fin 10) (s : State), live s = true → demandActive s d.val = false → s.pwc.vmainOk = true → s.str.isSome = true →
    ∃ t, exec (.demandEnd d) s = .next t ∧ t.pwc.clk = s.pwc.clk ∧ t.whl = s.whl ∧ (d = 3 → t.pwc.dem.gauge = false)) ∧
  ∀ s : State, exec .vioLost s = .next { s with
      pwc := { s.pwc with vioOk := false }, saf := { s.saf with lvl := (false, false), togB := false } } ∧
    exec .vioRestored s = .next { s with pwc := { s.pwc with vioOk := true } }

/-- Each rail good in turn enables the next, the fourth starts scanning. A frame start takes the tiles, rails and grey levels
written, counts the frame and advances zero frames, stop frames and discharge; the third goes to RUN without a legal tile or
with its diverse CRC. Each rail stop moves to the next rail; after the last the unit is OFF, or stays in FAULT, or starts
again where R318 holds. A rail fault counts under R119 and stops all rails; after their discharge OFF or FAULT. In RUN an
EMS period takes the brightness. A scan CRC that differs blanks the tile, counts, and the third in a row is FAULT with a
power-off, on tile 0 also a legal fault; agreeing CRCs clear the counts. An item's dwell end asks for the next item. Once
per second the render, of a scanned and not stopped panel, writes the bytes of the item's published value into tile 0 with
its diverse CRC. Nothing but the display, event log, fault record and the start of HFX changes. (R309, R311, R313, R322, R323, R324, R325, R327, R330, R332, R335, R336) -/
def Obligations.DisplaySequencesAndChecks : Prop :=
  let rest := fun s t : State => eventsAside s (hfxAside s t) = { s with dsp := t.dsp }
  let faultRest := fun s t : State => s.aon ∈ (faultRec t 0x28).times ∧
    (∀ u, u ≠ 0x28 → faultRec t u = faultRec s u) ∧
    eventsAside s (hfxAside s t) = { s with dsp := t.dsp, whl := { s.whl with faults := t.whl.faults } }
  let still := fun s t : State => hfxAside s t = s
  let isDown := fun s t : State =>
    (s.dsp.state = .fault → t.dsp = { s.dsp with seq := .off, good := 0, disch := 0 }) ∧
    (s.dsp.state ≠ .fault → dspWanted s = false → t.dsp = { s.dsp with state := .off, seq := .off, good := 0, disch := 0 }) ∧
    (s.dsp.state ≠ .fault → dspWanted s = true → t.dsp.state = .starting ∧ t.dsp.seq = .rails 0 ∧ t.dsp.good = 0 ∧ t.dsp.item = 0)
  let own := fun (s : State) (n : Nat) => if n = 0 then tileCrc s.dsp.mem (tileNow s 0) else (tileSt s n).exp
  let agrees0 := fun s : State => tileDef s 0 = true → own s 0 = (tileSt s 0).exp ∧ s.dsp.diverse.isSome = true
  (∀ (n : Fin 4) (s : State), live s = true →
    (s.dsp.seq = .rails n.val → ∃ t, exec (.railGood n) s = .next t ∧ hfxAside s t = { s with dsp := { s.dsp with
      good := s.dsp.good + 2 ^ n.val, seq := if n.val = 3 then .zero 0 else .rails (n.val + 1) } }) ∧
    (s.dsp.seq ≠ .rails n.val → ∃ t, exec (.railGood n) s = .next t ∧ still s t)) ∧
  (∀ s : State, live s = true → ∃ t, exec .frameStart s = .next t ∧ rest s t ∧
    (s.dsp.seq = .run ∨ (∃ n, s.dsp.seq = .zero n) → t.dsp.frames = (s.dsp.frames + 1) % 2 ^ 32 ∧ t.dsp.rail = cfgV s 0x4804 ∧
      (∀ n, n < 8 → tileNow t n = cfgV s (0x4820 + 4 * n)) ∧ (∀ j, j < 4 → vget t.dsp.grey j 0 = cfgV s (0x4810 + 4 * j)) ∧
      ∀ n, 1 ≤ n → n < 8 → (tileSt t n).exp = tileCrc t.dsp.mem (tileNow t n)) ∧
    (∀ n, n < 2 → s.dsp.seq = .zero n → t.dsp.seq = .zero (n + 1) ∧ t.dsp.state = s.dsp.state) ∧
    (s.dsp.seq = .zero 2 → s.dsp.nextItem = false →
      (tW (cfgV s 0x4820) = 0 ∨ s.dsp.diverse.isSome = true → t.dsp.seq = .run ∧ t.dsp.state = .run ∧ t.dsp.railFault = false ∧
        t.dsp.legalFault = false ∧ t.dsp.emergency = false ∧ ∀ n, n < 8 → (tileSt t n).run = 0 ∧ (tileSt t n).blanked = false) ∧
      (tW (cfgV s 0x4820) ≠ 0 → s.dsp.diverse = none → t.dsp.seq = .zero 2 ∧ t.dsp.state = s.dsp.state)) ∧
    (s.dsp.seq = .run → t.dsp.seq = .run ∧ t.dsp.state = s.dsp.state ∧ t.dsp.nextItem = false ∧
      (s.dsp.nextItem = true → legalItems s ≠ [] → t.dsp.item = (s.dsp.item + 1) % (legalItems s).length) ∧
      (s.dsp.nextItem = false → t.dsp.item = s.dsp.item)) ∧
    (s.dsp.seq = .stop → t.dsp.seq = .stopZero 1) ∧ (∀ n, n < 2 → s.dsp.seq = .stopZero n → t.dsp.seq = .stopZero (n + 1)) ∧
    (s.dsp.seq = .stopZero 2 → t.dsp.seq = .disch) ∧
    (s.dsp.seq = .disch → t.dsp = { s.dsp with seq := .down 1, good := 7, disch := 8 }) ∧
    ((s.dsp.seq = .off ∨ s.dsp.seq = .emerg ∨ (∃ n, s.dsp.seq = .rails n ∨ s.dsp.seq = .down n)) → t.dsp = s.dsp)) ∧
  (∀ (n : Nat) (s : State), live s = true → s.dsp.seq = .down n → ∃ t, exec .railStopStep s = .next t ∧ rest s t ∧
    (n < 4 → t.dsp = { s.dsp with seq := .down (n + 1), good := 2 ^ (3 - n) - 1, disch := s.dsp.disch + 2 ^ (3 - n) }) ∧
    (4 ≤ n → isDown s t)) ∧
  (∀ s : State, live s = true → (∀ n, s.dsp.seq ≠ .down n) → ∃ t, exec .railStopStep s = .next t ∧ still s t) ∧
  (∀ (rails : BitVec 4) (c : BitVec 8) (s : State), live s = true →
    (s.dsp.seq ≠ .off → s.dsp.seq ≠ .emerg → ∃ t, exec (.railFault rails c) s = .next t ∧ faultRest s t ∧
      t.dsp = { s.dsp with railFault := true, state := .fault, seq := .emerg, cause := 9, good := 0, disch := 15, emergency := true
                           emergencies := satInc s.dsp.emergencies }) ∧
    (s.dsp.seq = .off ∨ s.dsp.seq = .emerg → ∃ t, exec (.railFault rails c) s = .next t ∧ still s t)) ∧
  (∀ s : State, live s = true →
    (s.dsp.seq = .emerg → ∃ t, exec .displayDischarged s = .next t ∧ rest s t ∧ isDown s t) ∧
    (s.dsp.seq ≠ .emerg → ∃ t, exec .displayDischarged s = .next t ∧ still s t)) ∧
  (∀ s : State, live s = true →
    (s.dsp.state = .run → ∃ t, exec .emsPeriodStart s = .next t ∧ hfxAside s t = { s with dsp := { s.dsp with level := brightLevel s } }) ∧
    (s.dsp.state ≠ .run → ∃ t, exec .emsPeriodStart s = .next t ∧ still s t)) ∧
  (∀ s : State, live s = true → s.dsp.seq = .run → agrees0 s → ∃ t, exec (.tileCrcCheck []) s = .next t ∧
    hfxAside s t = { s with dsp := { s.dsp with tiles := t.dsp.tiles } } ∧ ∀ n, n < 8 →
      (tileDef s n = false → tileSt t n = tileSt s n) ∧
      (tileDef s n = true → tileSt t n = (if (tileSt s n).skip = true then { tileSt s n with
          skip := false, crc := own s n, ref := (tileSt s n).exp }
        else { tileSt s n with crc := own s n, ref := (tileSt s n).exp, run := 0, blanked := false }))) ∧
  (∀ (n : Nat) (crc : Word) (s : State), live s = true → s.dsp.seq = .run → s.dsp.state = .run → n < 8 → n = 0 ∨ agrees0 s →
    tileDef s n = true → (tileSt s n).skip = false → crc ≠ (tileSt s n).exp →
    ∃ t, exec (.tileCrcCheck [⟨n, crc⟩]) s = .next t ∧ t.dsp.mismatches = satInc s.dsp.mismatches ∧
      tileSt t n = { tileSt s n with crc := crc, ref := (tileSt s n).exp, run := min 3 ((tileSt s n).run + 1), blanked := true } ∧
      ((tileSt s n).run < 2 → rest s t ∧ t.dsp.state = .run ∧ t.dsp.seq = .run ∧ t.dsp.legalFaults = s.dsp.legalFaults) ∧
      (2 ≤ (tileSt s n).run → faultRest s t ∧ t.dsp.state = .fault ∧ t.dsp.seq = .stop ∧ t.dsp.cause = 8 ∧
        t.dsp.legalFault = (s.dsp.legalFault || decide (n = 0)) ∧
        t.dsp.legalFaults = (if n = 0 then satInc s.dsp.legalFaults else s.dsp.legalFaults))) ∧
  (∀ s : State, live s = true → s.dsp.state = .run → s.dsp.dwellEnd ≤ s.aon → legalItems s ≠ [] →
    ∃ t, exec .legalItemDwellEnd s = .next t ∧ hfxAside s t = { s with dsp := { s.dsp with nextItem := true } }) ∧
  (∀ s : State, engOn s = true → rendersNow s.dsp.seq = false ∨ s.dsp.renderAt.any (fun a => decide (s.aon < a + 32768)) = true →
    ∃ t, exec .legalTileRender s = .next t ∧ still s t) ∧
  ∀ (it : LegalItem) (s : State), engOn s = true → (legalItems s)[s.dsp.item]? = some it → tileDef s 0 = true →
    s.dsp.seq = .run ∨ (∃ n, s.dsp.seq = .zero n) → s.dsp.renderAt.all (fun a => decide (a + 32768 ≤ s.aon)) = true →
    tileGrid (tileNow s 0) = true → memWf s.dsp.mem = true →
    (let bs := tileBytes (tileNow s 0) (itemLines (tW (tileNow s 0) / 6) (itemText (seen s) it))
     ∃ t, exec .legalTileRender s = .next t ∧ t.dsp.diverse = some (crc32 bs) ∧ tileCrc t.dsp.mem (tileNow s 0) = crc32 bs ∧
       (∀ p ∈ List.zip (tileAddrs (tileNow s 0)) bs, memGet t.dsp.mem p.1 = p.2) ∧
       (∀ a, a ∉ tileAddrs (tileNow s 0) → memGet t.dsp.mem a = memGet s.dsp.mem a) ∧
       hfxAside s t = { s with dsp := { s.dsp with
         mem := t.dsp.mem, renderAt := some s.aon, diverse := some (crc32 bs), tiles := vmod s.dsp.tiles 0 fun x => { x with exp := crc32 bs } } })

/-- A fast sample whose sequence count is new counts, for each valid channel of SF1, its run of samples at OC_INST, and for SF3
the run of the residual at EF_INST; OC_N or EF_N in a row trip the watcher and enter the safe state with cause SF1_INST or
SF3_INST; else only sums, runs and times change. A stall or wrong comparator answer of a watched channel, a second pilot
window in a row outside 0.5 to 1.5 of the factory value, and an RMS difference of fast and round samples beyond its limit
are DF_FASTPATH or DF_XCHECK; other windows only begin anew (roundings are free, log 6). On entry trip outputs are low, PRUN
inactive, pump and trip-linked requests cleared, the entry is counted and a STATE commit due. A DF cause counts. Only safety
state, events, cleared requests and the due commit change. (R343, R346, R350, R352, R356, R364, R365, R370, R94, 12_safety.md) -/
def Obligations.WatcherTripsAndChecks : Prop :=
  let rest := fun s t : State => eventsAside s (hfxAside s t) =
    { s with saf := t.saf, sto := { s.sto with deferred := t.sto.deferred } }
  let caused := fun (s t : State) (b : Nat) => nbit s.saf.cause b = false → nbit t.saf.cause b = true ∧ t.saf.safe = true ∧
    (s.saf.safe = false → t.saf.lvl = (false, false) ∧ t.saf.prun = false ∧ t.saf.entries = satInc s.saf.entries ∧
      t.saf.enteredAt = s.aon ∧ nbit t.saf.entry b = true ∧ t.sto.deferred.isSome = true ∧ ∀ f, f < 5 →
        asksOn (facet t f).pumpReq = false ∧ ∀ n, n < 6 → tripLinked s n = true → asksOn (gpReqOf t n f) = false)
  let failed := fun (s t : State) (b : Nat) => caused s t b ∧ vget t.saf.failAt b 0 = s.aon ∧ rest s t ∧
    (nbit s.saf.cause b = false → t.saf.dfCount = satInc s.saf.dfCount)
  let watched := fun (s : State) (k : Nat) => (fnChans s 0 ++ fnChans s 2).contains k
  (∀ (xs : Vector FastIn 8) (s : State), fastOn s = true →
    (let i := fun k => vget xs k ⟨0, 0⟩
     let x := fun k => fastCode s k (i k).volt
     let ok := fun k => fastValid s k = true ∧ (i k).seq ≠ vget s.saf.seq k 0
     let ocN := bits (cfgR s 0x6004) 19 16
     let efN := bits (cfgR s 0x602C) 19 16
     let at_ := fun (thr : Nat) (v : Int) => thr ≠ 0 ∧ thr ≤ v.natAbs
     let res := if bit (cfgR s 0x6000) 5 then x 3 + x 4 + x 5 + x 6 else x 7
     let srcs := if bit (cfgR s 0x6000) 5 then [3, 4, 5, 6] else [7]
     ∃ t, exec (.fastSample xs) s = .next t ∧ rest s t ∧
       (∀ k, k < 8 → vget t.saf.ocRun k 0 = if fnRuns s 0 && (fnChans s 0).contains k && fastValid s k then
          (if ok k then (if at_ (bits (cfgR s 0x6004) 15 0) (x k) then vget s.saf.ocRun k 0 + 1 else 0) else vget s.saf.ocRun k 0) else 0) ∧
       t.saf.efFast = (if fnRuns s 2 = true ∧ ∀ k ∈ srcs, fastValid s k = true then
         (if ∀ k ∈ srcs, ok k then (if at_ (bits (cfgR s 0x602C) 15 0) res then s.saf.efFast + 1 else 0) else s.saf.efFast) else 0) ∧
       (∀ k, k < 8 → vget t.saf.seq k 0 = if fastValid s k then (i k).seq else vget s.saf.seq k 0) ∧
       (∀ k, k < 8 → vget t.saf.xFast k (0, 0) = if ok k then
         ((vget s.saf.xFast k (0, 0)).1 + (x k * x k).toNat, (vget s.saf.xFast k (0, 0)).2 + 1) else vget s.saf.xFast k (0, 0)) ∧
       ((∃ k, k < 8 ∧ 0 < vget t.saf.ocRun k 0 ∧ ocN ≤ vget t.saf.ocRun k 0) → t.saf.wOc = true ∧ caused s t 0) ∧
       (0 < t.saf.efFast ∧ efN ≤ t.saf.efFast → t.saf.wEf = true ∧ caused s t 3) ∧
       ((∀ k, k < 8 → vget t.saf.ocRun k 0 = 0 ∨ vget t.saf.ocRun k 0 < ocN) → t.saf.efFast = 0 ∨ t.saf.efFast < efN →
         hfxAside s t = { s with saf := t.saf } ∧ t.saf.safe = s.saf.safe ∧ t.saf.cause = s.saf.cause ∧ t.saf.lvl = s.saf.lvl ∧
         t.saf.wOc = s.saf.wOc ∧ t.saf.wEf = s.saf.wEf ∧ t.saf.prun = s.saf.prun))) ∧
  (∀ (k : Fin 8) (s : State), fastOn s = true →
    (anyFn s = true → fastValid s k.val = true → watched s k.val = true → ∃ t, exec (.fastSequenceStall k) s = .next t ∧
      failed s t 13 ∧ vget t.saf.pN k.val 0 = 0 ∧ vget t.saf.pArmed k.val true = false) ∧
    (anyFn s = false ∨ fastValid s k.val = false ∨ watched s k.val = false →
      ∃ t, exec (.fastSequenceStall k) s = .next t ∧ hfxAside s t = s)) ∧
  (∀ (bad : Option (Fin 8)) (s : State), safOn s = true →
    (bad.isSome = true → anyFn s = true → ∃ t, exec (.watcherComparatorTest bad) s = .next t ∧ failed s t 13) ∧
    (bad = none ∨ anyFn s = false → ∃ t, exec (.watcherComparatorTest bad) s = .next t ∧ hfxAside s t = s)) ∧
  (∀ s : State, safOn s = true →
    (let amp := fun k => 2 * sqrtR 144 (vget s.saf.pI k 0 * vget s.saf.pI k 0 + vget s.saf.pQ k 0 * vget s.saf.pQ k 0) / 625
     let base := fun k => (routeOf s k).elim 1 fun r => Config.fastPilotBase r.input r.pga
     let ok := fun k => base k / 2 ≤ amp k ∧ amp k ≤ base k * 3 / 2
     let full := fun k => vget s.saf.pN k 0 = 625
     let second := fun k => full k ∧ ¬ ok k ∧ 1 ≤ vget s.saf.pBad k 0 ∧ watched s k = true
     ∃ t, exec .watcherPilotWindow s = .next t ∧ rest s t ∧
       (∀ k, k < 8 → full k → vget t.saf.pN k 0 = 0 ∧ vget t.saf.pI k 0 = 0 ∧ vget t.saf.pQ k 0 = 0 ∧
         (ok k → vget t.saf.pBad k 0 = 0 ∧ vget t.saf.pArmed k false = true) ∧
         (¬ ok k → vget t.saf.pBad k 0 = vget s.saf.pBad k 0 + 1 ∧ vget t.saf.pArmed k false = vget s.saf.pArmed k false)) ∧
       (∀ k, k < 8 → ¬ full k → vget t.saf.pN k 0 = vget s.saf.pN k 0 ∧ vget t.saf.pBad k 0 = vget s.saf.pBad k 0 ∧
         vget t.saf.pI k 0 = vget s.saf.pI k 0 ∧ vget t.saf.pArmed k false = vget s.saf.pArmed k false) ∧
       ((∃ k, k < 8 ∧ second k) → anyFn s = true → failed s t 13) ∧
       ((∀ k, k < 8 → ¬ second k) ∨ anyFn s = false → hfxAside s t = { s with saf := { s.saf with
         pBad := t.saf.pBad, pArmed := t.saf.pArmed, pI := t.saf.pI, pQ := t.saf.pQ, pN := t.saf.pN } }))) ∧
  ∀ s : State, safOn s = true →
    (let a := fun k => vget s.saf.xFast k (0, 0)
     let b := fun k => vget s.saf.xRound k (0, 0)
     let fast := fun k => sqrtR 145 (((a k).1 : Rat) / (a k).2) * 256
     let round := fun k => sqrtR 146 (((b k).1 : Rat) / (b k).2)
     let lim := fun k => round k / 20 + sqrtR 147 (6291456 * 6291456 / 2) / 200
     let beyond := fun k => watched s k = true ∧ (a k).2 ≠ 0 ∧ (b k).2 ≠ 0 ∧ (lim k < fast k - round k ∨ lim k < round k - fast k)
     ∃ t, exec .watcherCrosscheckWindow s = .next t ∧ t.saf.xFast = Vector.replicate 8 (0, 0) ∧ t.saf.xRound = Vector.replicate 8 (0, 0) ∧
       ((∃ k, k < 8 ∧ beyond k) → anyFn s = true → failed s t 12) ∧
       ((∀ k, k < 8 → ¬ beyond k) ∨ anyFn s = false → hfxAside s t = { s with saf := { s.saf with
         xFast := Vector.replicate 8 (0, 0), xRound := Vector.replicate 8 (0, 0) } }))

/-- A missing token of an armed watchdog, a scan that finds a block of the applied structure whose CRC-32 differs, and pads
wrong for two milliseconds enter the safe state with DF_WDT, DF_IMAGE, DF_READBACK when a function is enabled; a good scan
counts. HFX_FAIL, as a clock monitor that judges HFX, fails it with DF_CLOCK; SAF failing forces the trip outputs low with
DF_CLOCK; AON failing takes the RC clock, no cause. A cause timer clears the causes whose condition has gone, ends the
watcher's trips with theirs, and leaves the safe state by itself only with AUTOACK and entry causes START or SUPPLY. A
TRIPFB change sets the pin. FB_MS after PRUN changed the contactor is judged once, and trips nothing. At an edge TRIPA is
high in the first half period while latch, watcher, SAF and VIO are well, TRIPB in the second while every token was
accepted. (R350, R351, R354, R355, R357, R359, R367, R368, R369, 12_safety.md) -/
def Obligations.DiagnosticsTripOutputsAndExit : Prop :=
  let rest := fun s t : State => eventsAside s (hfxAside s t) =
    { s with saf := t.saf, sto := { s.sto with deferred := t.sto.deferred } }
  let still := fun s t : State => hfxAside s t = s
  let enters := fun (s t : State) (b : Nat) => vget t.saf.failAt b 0 = s.aon ∧ (nbit s.saf.cause b = false →
    nbit t.saf.cause b = true ∧ t.saf.safe = true ∧ t.saf.dfCount = satInc s.saf.dfCount ∧
    (s.saf.safe = false → t.saf.lvl = (false, false) ∧ t.saf.prun = false ∧ t.saf.entries = satInc s.saf.entries ∧
      t.saf.entry = 2 ^ b ∧ t.saf.enteredAt = s.aon))
  let failed := fun (s t : State) (b : Nat) => enters s t b ∧
    (nbit s.saf.cause b = false → s.saf.safe = false → t.sto.deferred.isSome = true)
  let judged := fun (a b c : Nat) => tenOff a b = true ∧ tenOff a c = true
  let fabOff := fun i : ClockIn => 105 * i.hfx < 100 * i.fab ∨ 100 * i.fab < 95 * i.hfx
  (∀ s : State, safOn s = true → s.saf.wdt = true → s.saf.tokRef = true → anyFn s = true →
    ∃ t, exec .wdtTokenTimeout s = .next t ∧ rest s t ∧ failed s t 17 ∧ t.saf.tokOk = false ∧ t.saf.tokRef = false ∧ t.saf.tokSince = s.aon) ∧
  (∀ s : State, safOn s = true → s.saf.wdt = false ∨ s.saf.tokRef = false ∨ anyFn s = false →
    ∃ t, exec .wdtTokenTimeout s = .next t ∧ still s t) ∧
  (∀ s : State, safOn s = true →
    ∀ flips : List (Nat × Nat),
      (let hit := ∃ f ∈ flips, crc32 (scanBlock flips (f.1 / 256) (scanBytes s)) ≠ crc32 (scanBlock [] (f.1 / 256) (scanBytes s))
       (¬ hit → ∃ t, exec (.imageScanPass flips) s = .next t ∧ hfxAside s t = { s with saf := { s.saf with scans := s.saf.scans + 1 } }) ∧
       (hit → anyFn s = true → ∃ t, exec (.imageScanPass flips) s = .next t ∧ rest s t ∧ failed s t 16) ∧
       (hit → anyFn s = false → ∃ t, exec (.imageScanPass flips) s = .next t ∧ still s t))) ∧
  (∀ (pads : List PadSample) (s : State), safOn s = true →
    (let wrong := ∃ p ∈ pads, (p.a, p.b) ≠ if p.now then s.saf.lvl else s.saf.lvlPrev
     ∃ t, exec (.tripReadback pads) s = .next t ∧ rest s t ∧
       (¬ wrong → hfxAside s t = { s with saf := { s.saf with padBad := 0 } }) ∧
       (wrong → t.saf.padBad = s.saf.padBad + 1 ∧ (1 ≤ s.saf.padBad → anyFn s = true → failed s t 18) ∧
         (s.saf.padBad = 0 ∨ anyFn s = false → hfxAside s t = { s with saf := { s.saf with padBad := s.saf.padBad + 1 } })))) ∧
  (∀ (i : ClockIn) (s : State), live s = true →
    (s.pwc.clk.saf = false ∨ s.pwc.hfxOk = false → exec (.clockMonitorCheck i) s = .next s) ∧
    (¬ judged i.hfx i.saf i.aon → ¬ judged i.saf i.hfx i.aon → ¬ judged i.aon i.hfx i.saf ∨ s.pwc.aonRc = true →
      ¬ fabOff i ∨ anyFn s = false → exec (.clockMonitorCheck i) s = .next s) ∧
    (∀ c : Fin 3, (c = 0 ∧ s.pwc.hfxStarting = true ∧ s.pwc.hfxStartAt + 328 ≤ s.aon) ∨ (c = 1 ∧ s.pwc.hfxOk = true) ∨ (c = 2 ∧ s.pwc.pllLock = true) →
      ∃ t, exec (.hfxFail c) s = .next t ∧ t.pwc.hfxFail = true ∧ enters s t 15) ∧
    (s.pwc.clk.saf = true → s.pwc.hfxOk = true → judged i.hfx i.saf i.aon → ∃ t, exec (.clockMonitorCheck i) s = .next t ∧
      t.pwc.hfxFail = true ∧ t.pwc.hfxFails = satInc s.pwc.hfxFails ∧ t.pwc.hfxFailAt = s.aon ∧ t.pwc.hfxOk = false ∧ enters s t 15 ∧
      t.str = s.str ∧ t.sec = s.sec ∧ t.img = s.img ∧ t.sto.areas = s.sto.areas ∧ t.pwc.rtc = s.pwc.rtc) ∧
    (s.pwc.clk.saf = true → s.pwc.hfxOk = true → ¬ judged i.hfx i.saf i.aon → judged i.saf i.hfx i.aon →
      ∃ t, exec (.clockMonitorCheck i) s = .next t ∧ rest s t ∧ t.saf.safFail = true ∧ t.saf.lvl = (false, false) ∧
        t.saf.togB = false ∧ (anyFn s = true → failed s t 15)) ∧
    (s.pwc.clk.saf = true → s.pwc.hfxOk = true → ¬ judged i.hfx i.saf i.aon → ¬ judged i.saf i.hfx i.aon →
      judged i.aon i.hfx i.saf → s.pwc.aonRc = false → ¬ fabOff i → ∃ t, exec (.clockMonitorCheck i) s = .next t ∧
        eventsAside s t = { s with pwc := { s.pwc with
          aonRc := true, xtalFail := true, xtalRestartAt := some (s.aon + 64 * 32768) } }) ∧
    (s.pwc.clk.saf = true → s.pwc.hfxOk = true → ¬ judged i.hfx i.saf i.aon → ¬ judged i.saf i.hfx i.aon →
      ¬ judged i.aon i.hfx i.saf → fabOff i → anyFn s = true →
      ∃ t, exec (.clockMonitorCheck i) s = .next t ∧ rest s t ∧ failed s t 15)) ∧
  (∀ s : State, safOn s = true → ∃ t, exec .safeCauseTimer s = .next t ∧ rest s t ∧
    (∀ b, b < 32 → nbit t.saf.cause b = (nbit s.saf.cause b && !clearable s b)) ∧
    (∀ b ∈ [12, 13, 14, 18], nbit t.saf.cause b = (nbit s.saf.cause b && decide (s.aon < vget s.saf.failAt b 0 + 327680))) ∧
    (nbit t.saf.cause 5 = (nbit s.saf.cause 5 && s.saf.prun)) ∧
    (∀ b ∈ [8, 10, 11, 16], nbit t.saf.cause b = nbit s.saf.cause b) ∧
    t.saf.wOc = (s.saf.wOc && !clearable s 0) ∧ t.saf.wEf = (s.saf.wEf && !clearable s 3) ∧ t.saf.entry = s.saf.entry ∧
    (let leaves := t.saf.cause = 0 ∧ bit (cfgR s 0x6000) 8 = true ∧ ∀ b, b < 32 → nbit s.saf.entry b = true → b = 24 ∨ b = 25
     (s.saf.safe = true → leaves → t.saf.safe = false ∧ t.sto.deferred.isSome = true) ∧
     (s.saf.safe = false ∨ ¬ leaves → t.saf.safe = s.saf.safe ∧ hfxAside s t = { s with saf := t.saf }))) ∧
  (∀ (level : Bool) (s : State), exec (.tripfbChange level) s = .next { s with saf := { s.saf with fb := level } }) ∧
  (∀ s : State, live s = true →
    (let due := bit (cfgR s 0x6000) 6 = true ∧ s.saf.fbDone = false ∧ s.saf.prunAt + aonOfMs (cfgR s 0x6044).toNat ≤ s.aon
     let closed := (s.saf.fb && s.pwc.vioOk) != bit (cfgR s 0x6000) 7
     (due → ∃ t, exec .contactor s = .next t ∧ eventsAside s (hfxAside s t) = { s with saf := { s.saf with fbDone := true } } ∧
       (closed = s.saf.prun → t.sto.evtSeq = s.sto.evtSeq) ∧ (closed ≠ s.saf.prun → s.sto.evHold = false → t.sto.evtSeq = (s.sto.evtSeq + 1) % 2 ^ 32)) ∧
     (¬ due → ∃ t, exec .contactor s = .next t ∧ still s t))) ∧
  ∀ s : State, live s = true →
    (let ok := !s.saf.safe && !s.saf.safFail && s.pwc.clk.saf && s.pwc.vioOk
     ∃ t, exec .tripOutputEdge s = .next t ∧ hfxAside s t = { s with saf := { s.saf with
       half := !s.saf.half, lvlPrev := s.saf.lvl, tokOk := true, togB := ok && s.saf.tokOk
       lvl := (!s.saf.half && (ok && !s.saf.wOc && !s.saf.wEf), s.saf.half && (ok && s.saf.tokOk)) } })

/-- When the front commit is written, it fills the slot that does not hold the newest closed record, with the next SEQ, its
marker in front; it closes if its read-back or its rewrite passes, else the failures count, its maxima pass to the next
record and the slot is unclosed; the other slot keeps its content and the queue moves on. BAT_MAX_S after the latest commit
on battery a PAIR commit is due. PF stops clocks, wheel, pairs, SDI-12 and link, drives the trip outputs low, runs the
display's emergency stop, empties the commit queue and, in a served device with a structure, queues FINAL; energy,
structure, loader, security store, AON count and RTC stay, results not yet published and the log entry being written are
lost. When the sequence ends FINAL closes or stays without its mark, or its CRC and mark, and the device is held in reset. A
second PF, or an end without one, changes nothing. (R382, R384, R385, R388, R389, R390, R324, 13_persistence.md) -/
def Obligations.CommitsAndSupplyLoss : Prop :=
  let slot := fun s : State => (newestClosed s).elim 0 fun x => 1 - x.1
  let seq := fun s : State => (newestClosed s).elim 1 fun x => (x.2.seq + 1) % 65536
  let filled := fun (s t : State) (q : Queued) (crc mark : Bool) =>
    vget t.sto.slots (slot s) none = some ⟨q.aon, seq s, q.kind, q.body, crc, mark⟩ ∧
    vget t.sto.markers (slot s) none = some ⟨seq s, q.kind, q.vmain, (newestClosed s).elim 0 (fun x => x.2.aon), q.aon, q.m4, q.m5, q.m6⟩ ∧
    ∀ j, j < 2 → j ≠ slot s → vget t.sto.slots j none = vget s.sto.slots j none ∧ vget t.sto.markers j none = vget s.sto.markers j none
  (∀ (rb : Fin 3) (q : Queued) (more : List Queued) (s : State), live s = true → s.sto.cqueue = q :: more → q.kind ≠ .switch →
    resetAsked s = false →
    (let ok := decide (rb.val < 2)
     ∃ t, exec (.commitClosed rb) s = .next t ∧ filled s t q ok ok ∧ t.sto.cqueue = (if ok then more else more.map (carryMaxima q)) ∧
       t.sto.commitCount = (if ok then satInc s.sto.commitCount else s.sto.commitCount) ∧
       t.sto.commitFail = satAdd s.sto.commitFail rb.val ∧
       (ok = true ∨ more ≠ [] → t.sto.maxS = s.sto.maxS ∧ t.sto.maxPipe = s.sto.maxPipe ∧ t.sto.maxChan = s.sto.maxChan) ∧
       (ok = true → s.sto.evq = [] → t.sto.evtSeq = s.sto.evtSeq) ∧
       (ok = false → more = [] → t.sto.maxS = max s.sto.maxS q.m4 ∧ t.sto.maxPipe = max s.sto.maxPipe q.m5 ∧ t.sto.maxChan = max s.sto.maxChan q.m6) ∧
       (s.pwc.vmainOk = true → s.str.isSome = true → t.whl.state = s.whl.state ∧ t.pwc.pllLock = s.pwc.pllLock) ∧
       eventsAside s (hfxAside s t) = { s with
         sto := { s.sto with
           slots := t.sto.slots, markers := t.sto.markers, cqueue := t.sto.cqueue, commitCount := t.sto.commitCount
           commitFail := t.sto.commitFail, maxS := t.sto.maxS, maxPipe := t.sto.maxPipe, maxChan := t.sto.maxChan
           evHold := t.sto.evHold }
         whl := { s.whl with state := t.whl.state, sector := t.whl.sector, ran := t.whl.ran, stop := t.whl.stop, wrong := t.whl.wrong }
         pwc := { s.pwc with pllLock := t.pwc.pllLock } })) ∧
  (∀ (rb : Fin 3) (q : Queued) (more : List Queued) (s : State), live s = true → s.sto.cqueue = q :: more → q.kind = .switch →
    rb.val < 2 → resetAsked s = false → s.img.step = .commit →
    (let need := slotsToProgram s (bankImage (loadingBank s))
     ∃ t, exec (.commitClosed rb) s = .next t ∧ filled s t q true true ∧ t.sto.cqueue = more ∧
       (need ≠ [] → t.img = { s.img with step := .slots } ∧ t.sec = s.sec) ∧ (need = [] → bankState t (sessionBank s) = .active))) ∧
  (∀ s : State, live s = true → s.str.isSome = true → s.pwc.vmainOk = false →
    (let due := (s.sto.lastQueued.getD 0) + bits (cfgV s 0xF200) 31 16 * 32768 ≤ s.aon
     (due → ∃ t, exec .commitBatMaxTimer s = .next t ∧ t.pwc.clk.hfx = true ∧ hfxAside s t = { s with sto := { s.sto with
       deferred := some ((s.sto.deferred.map fun d => if d.code < 2 then .pair else d).getD .pair) } }) ∧
     (¬ due → ∃ t, exec .commitBatMaxTimer s = .next t ∧ hfxAside s t = s))) ∧
  (∀ s : State, live s = true → s.pwc.vmainOk = true → ∃ t, exec .commitBatMaxTimer s = .next t ∧ hfxAside s t = s) ∧
  (∀ (landed : Nat) (cut : Option Bool) (s : State), s.pwc.pf = .none → s.pwc.start ≠ .heldInReset →
    ∃ t, exec (.powerFail ⟨landed, cut⟩) s = .next t ∧ t.pwc.pf = .writing ∧ t.pwc.reqAt = s.aon ∧ t.pwc.start = s.pwc.start ∧
      t.pwc.clk = ⟨false, false, false, false, false⟩ ∧ t.pwc.hfxOk = false ∧ t.pwc.pllLock = false ∧ t.pwc.mode = .idle ∧
      t.whl.state = .stopped ∧ t.saf.lvl = (false, false) ∧ t.sdi.txn = none ∧ t.sdi.sdp = false ∧ t.chd.tx = [] ∧ t.flw.queue = [] ∧
      t.flw.front = none ∧ t.flw.pend = [] ∧ (∀ p, p < 3 → (flowPath t p).pair = none) ∧
      (s.dsp.seq ≠ .off → t.dsp.seq = .emerg ∧ t.dsp.emergency = true ∧ t.dsp.emergencies = satInc s.dsp.emergencies) ∧
      (s.dsp.seq = .off → t.dsp = s.dsp) ∧ t.sto.areaWrites = [] ∧ t.sto.clearing = none ∧ t.sto.deferred = none ∧
      (s.pwc.start = .served → s.str.isSome = true →
        ∃ q, t.sto.cqueue = [q] ∧ q.kind = .final ∧ q.aon = s.aon ∧ q.vmain = s.pwc.vmainOk ∧ q.m4 = s.sto.cqueue.foldl (fun m x => max m x.m4) s.sto.maxS) ∧
      (s.pwc.start ≠ .served ∨ s.str = none → t.sto.cqueue = []) ∧
      t.nrg = s.nrg ∧ t.met = (seen s).met ∧ t.pub = none ∧ t.sto.evq = [] ∧ t.pq = s.pq ∧ t.str = s.str ∧ t.img = s.img ∧ t.sec = s.sec ∧ (s.sto.areaWrites = [] → t.fac = s.fac) ∧ t.port = s.port ∧
      t.sto.slots = s.sto.slots ∧ t.sto.markers = s.sto.markers ∧ t.sto.ringM = (if cut = some false then s.sto.ringM.dropLast else s.sto.ringM) ∧
      t.sto.ringG = (if cut = some true then s.sto.ringG.dropLast else s.sto.ringG) ∧ t.aon = s.aon ∧ t.pwc.rtc = s.pwc.rtc ∧ t.cfg = s.cfg) ∧
  (∀ (landed : Nat) (cut : Option Bool) (s : State), s.pwc.pf ≠ .none ∨ s.pwc.start = .heldInReset → exec (.powerFail ⟨landed, cut⟩) s = .next s) ∧
  (∀ (e : Fin 3) (s : State), s.pwc.pf = .none → exec (.finalCommitClosed e) s = .next s) ∧
  (∀ (e : Fin 3) (s : State), s.pwc.pf ≠ .none → s.sto.cqueue = [] →
    exec (.finalCommitClosed e) s = .next { s with pwc := { s.pwc with pf := .none, start := .heldInReset, heldAt := s.aon } }) ∧
  ∀ (e : Fin 3) (q : Queued) (more : List Queued) (s : State), s.pwc.pf ≠ .none → s.sto.cqueue = q :: more →
    ∃ t, exec (.finalCommitClosed e) s = .next t ∧ t.pwc = { s.pwc with pf := .none, start := .heldInReset, heldAt := s.aon } ∧
      filled s t q (decide (e ≠ 1)) (decide (e = 0)) ∧
      t.sto.pfFinal = (if e = 0 then satInc s.sto.pfFinal else s.sto.pfFinal) ∧ t.sto.areas = s.sto.areas ∧ t.sto.ringM = s.sto.ringM ∧
      { t with sto := s.sto, pwc := s.pwc } = s

/-- HFX_QUALIFIED of a start sets HFX_OK; after a failure it clears HFX_FAIL, and the gauge and paths held by it start, but
those whose reference failed. PLL_LOCK starts ENG, and USX where a path uses it, at round and sector 0, with the wheel
RUNNING and the routed channels started on mains, else in BURST. HFX_FAIL of a cause that holds sets HFX_FAIL, counts, stops
clocks and wheel, faults routed channels, paths and gauge with tags INVALID, raises DF_CLOCK and queues a MODE commit.
HFX_RETRY 1 s later starts HFX on mains. When DEMAND_END ends the last demand of HFX on battery, HFX, PLL, wheel and engine
stop and the device is IDLE; a demand in progress stays. Each does nothing where its condition fails. (R101, R367, R408, R411, R413, R414, 14_power_clocks_startup.md) -/
def Obligations.ClocksStartFailAndStop : Prop :=
  let still := fun s t : State => hfxAside s t = s
  (∀ s : State, live s = true → s.pwc.hfxStarting = true → s.pwc.clk.hfx = true →
    (s.pwc.hfxFail = false → exec .hfxQualified s = .next { s with pwc := { s.pwc with hfxOk := true, hfxStarting := false } }) ∧
    (s.pwc.hfxFail = true → ∃ t, exec .hfxQualified s = .next t ∧ t.pwc.hfxOk = true ∧ t.pwc.hfxStarting = false ∧ t.pwc.hfxFail = false ∧
      t.pwc.hfxFails = s.pwc.hfxFails ∧ t.saf = s.saf ∧ t.sec = s.sec ∧ t.str = s.str ∧
      (∀ p, p < 3 → pathExists s p = true → hfxHeld s (0x10 + p) = true → (flowPath s p).refFault = false → (flowPath t p).state = .starting) ∧
      (hfxHeld s 0x20 = true → t.bat.state = .starting))) ∧
  (∀ s : State, live s = true → s.pwc.hfxStarting = false → ∃ t, exec .hfxQualified s = .next t ∧ still s t) ∧
  (∀ s : State, live s = true → s.pwc.hfxOk = true → s.pwc.pllLock = false → ∃ t, exec .pllLock s = .next t ∧
    t.pwc.pllLock = true ∧ t.pwc.clk.eng = true ∧ (t.pwc.clk.usx = true ↔ ∃ p, p < 3 ∧ pathExists s p = true) ∧
    t.whl.rounds = 0 ∧ t.whl.sector = 0 ∧
    (let runs := s.pwc.vmainOk = true ∧ s.str.isSome = true ∧ ∃ k, k < 8 ∧ routed s k = true
     (runs → t.whl.state = .running ∧ t.pwc.clk.mod = true ∧
       ∀ k, k < 8 → routed s k = true → latched s (k + 1) = false → (chan t k).state = .starting) ∧
     (¬ runs → t.whl.state = .burst ∧ t.met = s.met)) ∧
    { hfxAside s t with whl := s.whl, met := s.met } = { s with pwc := { s.pwc with pllLock := true } }) ∧
  (∀ s : State, live s = true → s.pwc.hfxOk = false ∨ s.pwc.pllLock = true → ∃ t, exec .pllLock s = .next t ∧ still s t) ∧
  (∀ (c : Fin 3) (s : State), live s = true →
    (let due := (c = 0 ∧ s.pwc.hfxStarting = true ∧ s.pwc.hfxStartAt + 328 ≤ s.aon) ∨ (c = 1 ∧ s.pwc.hfxOk = true) ∨ (c = 2 ∧ s.pwc.pllLock = true)
     (due → ∃ t, exec (.hfxFail c) s = .next t ∧ t.pwc.hfxFail = true ∧ t.pwc.hfxFails = satInc s.pwc.hfxFails ∧ t.pwc.hfxFailAt = s.aon ∧
       t.pwc.hfxOk = false ∧ t.pwc.hfxStarting = false ∧ t.pwc.pllLock = false ∧ t.pwc.clk = ⟨false, false, false, false, t.pwc.clk.saf⟩ ∧
       t.whl.state = .stopped ∧
       (∀ k, k < 8 → routed s k = true → (chan s k).state ≠ .off → (chan t k).state = .fault ∧ (chan t k).tag = .invalid) ∧
       (∀ p, p < 3 → (flowPath s p).state ≠ .off → (flowPath t p).state = .fault ∧ (p < 2 → (flowPath t p).pair = none)) ∧
       (s.bat.state = .run → t.bat.state = .fault) ∧ (nbit s.saf.cause 15 = false → nbit t.saf.cause 15 = true ∧ t.saf.safe = true) ∧
       t.sto.cqueue.getLast?.map Queued.kind = some .mode ∧
       t.sec = s.sec ∧ t.img = s.img ∧ t.str = s.str ∧ t.cfg = s.cfg ∧ t.pwc.rtc = s.pwc.rtc ∧ t.sto.areas = s.sto.areas) ∧
     (¬ due → exec (.hfxFail c) s = .next s))) ∧
  (∀ s : State, live s = true → ∃ t, exec .hfxRetry s = .next t ∧ still s t ∧
    (s.pwc.hfxFail = true → s.pwc.vmainOk = true → s.str.isSome = true → s.pwc.hfxFailAt + 32768 ≤ s.aon → s.pwc.clk.hfx = false →
      t.pwc.clk.hfx = true ∧ t.pwc.hfxStarting = true ∧ t.pwc.hfxStarts = satInc s.pwc.hfxStarts)) ∧
  ∀ (d : Fin 10) (s : State), live s = true →
    (let dem : Demands := ⟨s.pwc.dem.bank && decide (d ≠ 1), s.pwc.dem.gauge && decide (d ≠ 3), s.pwc.dem.trim⟩
     let u : State := { s with pwc := { s.pwc with dem := dem } }
     (demandActive s d.val = true → ∃ t, exec (.demandEnd d) s = .next t ∧ still s t) ∧
     (demandActive s d.val = false → s.pwc.vmainOk = true → s.str.isSome = true → ∃ t, exec (.demandEnd d) s = .next t ∧ hfxAside s t = u) ∧
     (demandActive s d.val = false → s.pwc.vmainOk = false → s.pwc.mode ≠ .shelf → s.pwc.clk.hfx = true → s.whl.state ≠ .running →
       needsHfx u = false → ∃ t, exec (.demandEnd d) s = .next t ∧ eventsAside s t = { u with
         whl := { s.whl with state := .stopped, sector := 0, ran := [], stop := [], wrong := [] }, sto := { s.sto with evHold := t.sto.evHold }
         pwc := { u.pwc with
           mode := .idle, hfxStarting := false, hfxOk := false, pllLock := false, clk := ⟨false, false, false, false, false⟩ } }))
end

