-- ==== Sys2Proof/Laws/State.lean ====
section
/-! SUPPORT. One lemma per field and update: what each of the named updates of State leaves as it was. -/

namespace Sys2Proof.Machine

open Sys2Proof

@[simp] theorem setPwc_aon (f : Pwc → Pwc) (s : State) : (setPwc f s).aon = s.aon := rfl
@[simp] theorem setPwc_cfg (f : Pwc → Pwc) (s : State) : (setPwc f s).cfg = s.cfg := rfl
@[simp] theorem setPwc_cfgR (f : Pwc → Pwc) (s : State) : (setPwc f s).cfgR = s.cfgR := rfl
@[simp] theorem setPwc_str (f : Pwc → Pwc) (s : State) : (setPwc f s).str = s.str := rfl
@[simp] theorem setPwc_img (f : Pwc → Pwc) (s : State) : (setPwc f s).img = s.img := rfl
@[simp] theorem setPwc_sec (f : Pwc → Pwc) (s : State) : (setPwc f s).sec = s.sec := rfl
@[simp] theorem setPwc_fac (f : Pwc → Pwc) (s : State) : (setPwc f s).fac = s.fac := rfl
@[simp] theorem setPwc_port (f : Pwc → Pwc) (s : State) : (setPwc f s).port = s.port := rfl
@[simp] theorem setPwc_cyc (f : Pwc → Pwc) (s : State) : (setPwc f s).cyc = s.cyc := rfl
@[simp] theorem setPwc_pwc (f : Pwc → Pwc) (s : State) : (setPwc f s).pwc = f s.pwc := rfl
@[simp] theorem setPwc_sto (f : Pwc → Pwc) (s : State) : (setPwc f s).sto = s.sto := rfl
@[simp] theorem setPwc_whl (f : Pwc → Pwc) (s : State) : (setPwc f s).whl = s.whl := rfl
@[simp] theorem setPwc_met (f : Pwc → Pwc) (s : State) : (setPwc f s).met = s.met := rfl
@[simp] theorem setPwc_nrg (f : Pwc → Pwc) (s : State) : (setPwc f s).nrg = s.nrg := rfl
@[simp] theorem setPwc_pq (f : Pwc → Pwc) (s : State) : (setPwc f s).pq = s.pq := rfl
@[simp] theorem setPwc_flw (f : Pwc → Pwc) (s : State) : (setPwc f s).flw = s.flw := rfl
@[simp] theorem setPwc_sdi (f : Pwc → Pwc) (s : State) : (setPwc f s).sdi = s.sdi := rfl
@[simp] theorem setPwc_chd (f : Pwc → Pwc) (s : State) : (setPwc f s).chd = s.chd := rfl
@[simp] theorem setPwc_bat (f : Pwc → Pwc) (s : State) : (setPwc f s).bat = s.bat := rfl
@[simp] theorem setPwc_dsp (f : Pwc → Pwc) (s : State) : (setPwc f s).dsp = s.dsp := rfl
@[simp] theorem setPwc_saf (f : Pwc → Pwc) (s : State) : (setPwc f s).saf = s.saf := rfl
@[simp] theorem setPwc_pending (f : Pwc → Pwc) (s : State) : (setPwc f s).pending = s.pending := rfl
@[simp] theorem setPwc_pub (f : Pwc → Pwc) (s : State) : (setPwc f s).pub = s.pub := rfl

@[simp] theorem setWhl_aon (f : Whl → Whl) (s : State) : (setWhl f s).aon = s.aon := rfl
@[simp] theorem setWhl_cfg (f : Whl → Whl) (s : State) : (setWhl f s).cfg = s.cfg := rfl
@[simp] theorem setWhl_cfgR (f : Whl → Whl) (s : State) : (setWhl f s).cfgR = s.cfgR := rfl
@[simp] theorem setWhl_str (f : Whl → Whl) (s : State) : (setWhl f s).str = s.str := rfl
@[simp] theorem setWhl_img (f : Whl → Whl) (s : State) : (setWhl f s).img = s.img := rfl
@[simp] theorem setWhl_sec (f : Whl → Whl) (s : State) : (setWhl f s).sec = s.sec := rfl
@[simp] theorem setWhl_fac (f : Whl → Whl) (s : State) : (setWhl f s).fac = s.fac := rfl
@[simp] theorem setWhl_port (f : Whl → Whl) (s : State) : (setWhl f s).port = s.port := rfl
@[simp] theorem setWhl_cyc (f : Whl → Whl) (s : State) : (setWhl f s).cyc = s.cyc := rfl
@[simp] theorem setWhl_pwc (f : Whl → Whl) (s : State) : (setWhl f s).pwc = s.pwc := rfl
@[simp] theorem setWhl_sto (f : Whl → Whl) (s : State) : (setWhl f s).sto = s.sto := rfl
@[simp] theorem setWhl_whl (f : Whl → Whl) (s : State) : (setWhl f s).whl = f s.whl := rfl
@[simp] theorem setWhl_met (f : Whl → Whl) (s : State) : (setWhl f s).met = s.met := rfl
@[simp] theorem setWhl_nrg (f : Whl → Whl) (s : State) : (setWhl f s).nrg = s.nrg := rfl
@[simp] theorem setWhl_pq (f : Whl → Whl) (s : State) : (setWhl f s).pq = s.pq := rfl
@[simp] theorem setWhl_flw (f : Whl → Whl) (s : State) : (setWhl f s).flw = s.flw := rfl
@[simp] theorem setWhl_sdi (f : Whl → Whl) (s : State) : (setWhl f s).sdi = s.sdi := rfl
@[simp] theorem setWhl_chd (f : Whl → Whl) (s : State) : (setWhl f s).chd = s.chd := rfl
@[simp] theorem setWhl_bat (f : Whl → Whl) (s : State) : (setWhl f s).bat = s.bat := rfl
@[simp] theorem setWhl_dsp (f : Whl → Whl) (s : State) : (setWhl f s).dsp = s.dsp := rfl
@[simp] theorem setWhl_saf (f : Whl → Whl) (s : State) : (setWhl f s).saf = s.saf := rfl
@[simp] theorem setWhl_pending (f : Whl → Whl) (s : State) : (setWhl f s).pending = s.pending := rfl
@[simp] theorem setWhl_pub (f : Whl → Whl) (s : State) : (setWhl f s).pub = s.pub := rfl

@[simp] theorem setSto_aon (f : Sto → Sto) (s : State) : (setSto f s).aon = s.aon := rfl
@[simp] theorem setSto_cfg (f : Sto → Sto) (s : State) : (setSto f s).cfg = s.cfg := rfl
@[simp] theorem setSto_cfgR (f : Sto → Sto) (s : State) : (setSto f s).cfgR = s.cfgR := rfl
@[simp] theorem setSto_str (f : Sto → Sto) (s : State) : (setSto f s).str = s.str := rfl
@[simp] theorem setSto_img (f : Sto → Sto) (s : State) : (setSto f s).img = s.img := rfl
@[simp] theorem setSto_sec (f : Sto → Sto) (s : State) : (setSto f s).sec = s.sec := rfl
@[simp] theorem setSto_fac (f : Sto → Sto) (s : State) : (setSto f s).fac = s.fac := rfl
@[simp] theorem setSto_port (f : Sto → Sto) (s : State) : (setSto f s).port = s.port := rfl
@[simp] theorem setSto_cyc (f : Sto → Sto) (s : State) : (setSto f s).cyc = s.cyc := rfl
@[simp] theorem setSto_pwc (f : Sto → Sto) (s : State) : (setSto f s).pwc = s.pwc := rfl
@[simp] theorem setSto_sto (f : Sto → Sto) (s : State) : (setSto f s).sto = f s.sto := rfl
@[simp] theorem setSto_whl (f : Sto → Sto) (s : State) : (setSto f s).whl = s.whl := rfl
@[simp] theorem setSto_met (f : Sto → Sto) (s : State) : (setSto f s).met = s.met := rfl
@[simp] theorem setSto_nrg (f : Sto → Sto) (s : State) : (setSto f s).nrg = s.nrg := rfl
@[simp] theorem setSto_pq (f : Sto → Sto) (s : State) : (setSto f s).pq = s.pq := rfl
@[simp] theorem setSto_flw (f : Sto → Sto) (s : State) : (setSto f s).flw = s.flw := rfl
@[simp] theorem setSto_sdi (f : Sto → Sto) (s : State) : (setSto f s).sdi = s.sdi := rfl
@[simp] theorem setSto_chd (f : Sto → Sto) (s : State) : (setSto f s).chd = s.chd := rfl
@[simp] theorem setSto_bat (f : Sto → Sto) (s : State) : (setSto f s).bat = s.bat := rfl
@[simp] theorem setSto_dsp (f : Sto → Sto) (s : State) : (setSto f s).dsp = s.dsp := rfl
@[simp] theorem setSto_saf (f : Sto → Sto) (s : State) : (setSto f s).saf = s.saf := rfl
@[simp] theorem setSto_pending (f : Sto → Sto) (s : State) : (setSto f s).pending = s.pending := rfl
@[simp] theorem setSto_pub (f : Sto → Sto) (s : State) : (setSto f s).pub = s.pub := rfl

@[simp] theorem setFacet_aon (n : Nat) (f : FacetSt → FacetSt) (s : State) : (setFacet n f s).aon = s.aon := rfl
@[simp] theorem setFacet_cfg (n : Nat) (f : FacetSt → FacetSt) (s : State) : (setFacet n f s).cfg = s.cfg := rfl
@[simp] theorem setFacet_cfgR (n : Nat) (f : FacetSt → FacetSt) (s : State) : (setFacet n f s).cfgR = s.cfgR := rfl
@[simp] theorem setFacet_str (n : Nat) (f : FacetSt → FacetSt) (s : State) : (setFacet n f s).str = s.str := rfl
@[simp] theorem setFacet_img (n : Nat) (f : FacetSt → FacetSt) (s : State) : (setFacet n f s).img = s.img := rfl
@[simp] theorem setFacet_sec (n : Nat) (f : FacetSt → FacetSt) (s : State) : (setFacet n f s).sec = s.sec := rfl
@[simp] theorem setFacet_fac (n : Nat) (f : FacetSt → FacetSt) (s : State) : (setFacet n f s).fac = vmod s.fac n f := rfl
@[simp] theorem setFacet_port (n : Nat) (f : FacetSt → FacetSt) (s : State) : (setFacet n f s).port = s.port := rfl
@[simp] theorem setFacet_cyc (n : Nat) (f : FacetSt → FacetSt) (s : State) : (setFacet n f s).cyc = s.cyc := rfl
@[simp] theorem setFacet_pwc (n : Nat) (f : FacetSt → FacetSt) (s : State) : (setFacet n f s).pwc = s.pwc := rfl
@[simp] theorem setFacet_sto (n : Nat) (f : FacetSt → FacetSt) (s : State) : (setFacet n f s).sto = s.sto := rfl
@[simp] theorem setFacet_whl (n : Nat) (f : FacetSt → FacetSt) (s : State) : (setFacet n f s).whl = s.whl := rfl
@[simp] theorem setFacet_met (n : Nat) (f : FacetSt → FacetSt) (s : State) : (setFacet n f s).met = s.met := rfl
@[simp] theorem setFacet_nrg (n : Nat) (f : FacetSt → FacetSt) (s : State) : (setFacet n f s).nrg = s.nrg := rfl
@[simp] theorem setFacet_pq (n : Nat) (f : FacetSt → FacetSt) (s : State) : (setFacet n f s).pq = s.pq := rfl
@[simp] theorem setFacet_flw (n : Nat) (f : FacetSt → FacetSt) (s : State) : (setFacet n f s).flw = s.flw := rfl
@[simp] theorem setFacet_sdi (n : Nat) (f : FacetSt → FacetSt) (s : State) : (setFacet n f s).sdi = s.sdi := rfl
@[simp] theorem setFacet_chd (n : Nat) (f : FacetSt → FacetSt) (s : State) : (setFacet n f s).chd = s.chd := rfl
@[simp] theorem setFacet_bat (n : Nat) (f : FacetSt → FacetSt) (s : State) : (setFacet n f s).bat = s.bat := rfl
@[simp] theorem setFacet_dsp (n : Nat) (f : FacetSt → FacetSt) (s : State) : (setFacet n f s).dsp = s.dsp := rfl
@[simp] theorem setFacet_saf (n : Nat) (f : FacetSt → FacetSt) (s : State) : (setFacet n f s).saf = s.saf := rfl
@[simp] theorem setFacet_pending (n : Nat) (f : FacetSt → FacetSt) (s : State) : (setFacet n f s).pending = s.pending := rfl
@[simp] theorem setFacet_pub (n : Nat) (f : FacetSt → FacetSt) (s : State) : (setFacet n f s).pub = s.pub := rfl

@[simp] theorem setPort_aon (n : Nat) (f : PortSt → PortSt) (s : State) : (setPort n f s).aon = s.aon := rfl
@[simp] theorem setPort_cfg (n : Nat) (f : PortSt → PortSt) (s : State) : (setPort n f s).cfg = s.cfg := rfl
@[simp] theorem setPort_cfgR (n : Nat) (f : PortSt → PortSt) (s : State) : (setPort n f s).cfgR = s.cfgR := rfl
@[simp] theorem setPort_str (n : Nat) (f : PortSt → PortSt) (s : State) : (setPort n f s).str = s.str := rfl
@[simp] theorem setPort_img (n : Nat) (f : PortSt → PortSt) (s : State) : (setPort n f s).img = s.img := rfl
@[simp] theorem setPort_sec (n : Nat) (f : PortSt → PortSt) (s : State) : (setPort n f s).sec = s.sec := rfl
@[simp] theorem setPort_fac (n : Nat) (f : PortSt → PortSt) (s : State) : (setPort n f s).fac = s.fac := rfl
@[simp] theorem setPort_port (n : Nat) (f : PortSt → PortSt) (s : State) : (setPort n f s).port = vmod s.port n f := rfl
@[simp] theorem setPort_cyc (n : Nat) (f : PortSt → PortSt) (s : State) : (setPort n f s).cyc = s.cyc := rfl
@[simp] theorem setPort_pwc (n : Nat) (f : PortSt → PortSt) (s : State) : (setPort n f s).pwc = s.pwc := rfl
@[simp] theorem setPort_sto (n : Nat) (f : PortSt → PortSt) (s : State) : (setPort n f s).sto = s.sto := rfl
@[simp] theorem setPort_whl (n : Nat) (f : PortSt → PortSt) (s : State) : (setPort n f s).whl = s.whl := rfl
@[simp] theorem setPort_met (n : Nat) (f : PortSt → PortSt) (s : State) : (setPort n f s).met = s.met := rfl
@[simp] theorem setPort_nrg (n : Nat) (f : PortSt → PortSt) (s : State) : (setPort n f s).nrg = s.nrg := rfl
@[simp] theorem setPort_pq (n : Nat) (f : PortSt → PortSt) (s : State) : (setPort n f s).pq = s.pq := rfl
@[simp] theorem setPort_flw (n : Nat) (f : PortSt → PortSt) (s : State) : (setPort n f s).flw = s.flw := rfl
@[simp] theorem setPort_sdi (n : Nat) (f : PortSt → PortSt) (s : State) : (setPort n f s).sdi = s.sdi := rfl
@[simp] theorem setPort_chd (n : Nat) (f : PortSt → PortSt) (s : State) : (setPort n f s).chd = s.chd := rfl
@[simp] theorem setPort_bat (n : Nat) (f : PortSt → PortSt) (s : State) : (setPort n f s).bat = s.bat := rfl
@[simp] theorem setPort_dsp (n : Nat) (f : PortSt → PortSt) (s : State) : (setPort n f s).dsp = s.dsp := rfl
@[simp] theorem setPort_saf (n : Nat) (f : PortSt → PortSt) (s : State) : (setPort n f s).saf = s.saf := rfl
@[simp] theorem setPort_pending (n : Nat) (f : PortSt → PortSt) (s : State) : (setPort n f s).pending = s.pending := rfl
@[simp] theorem setPort_pub (n : Nat) (f : PortSt → PortSt) (s : State) : (setPort n f s).pub = s.pub := rfl

@[simp] theorem setBat_aon (f : Bat → Bat) (s : State) : (setBat f s).aon = s.aon := rfl
@[simp] theorem setBat_cfg (f : Bat → Bat) (s : State) : (setBat f s).cfg = s.cfg := rfl
@[simp] theorem setBat_cfgR (f : Bat → Bat) (s : State) : (setBat f s).cfgR = s.cfgR := rfl
@[simp] theorem setBat_str (f : Bat → Bat) (s : State) : (setBat f s).str = s.str := rfl
@[simp] theorem setBat_img (f : Bat → Bat) (s : State) : (setBat f s).img = s.img := rfl
@[simp] theorem setBat_sec (f : Bat → Bat) (s : State) : (setBat f s).sec = s.sec := rfl
@[simp] theorem setBat_fac (f : Bat → Bat) (s : State) : (setBat f s).fac = s.fac := rfl
@[simp] theorem setBat_port (f : Bat → Bat) (s : State) : (setBat f s).port = s.port := rfl
@[simp] theorem setBat_cyc (f : Bat → Bat) (s : State) : (setBat f s).cyc = s.cyc := rfl
@[simp] theorem setBat_pwc (f : Bat → Bat) (s : State) : (setBat f s).pwc = s.pwc := rfl
@[simp] theorem setBat_sto (f : Bat → Bat) (s : State) : (setBat f s).sto = s.sto := rfl
@[simp] theorem setBat_whl (f : Bat → Bat) (s : State) : (setBat f s).whl = s.whl := rfl
@[simp] theorem setBat_met (f : Bat → Bat) (s : State) : (setBat f s).met = s.met := rfl
@[simp] theorem setBat_nrg (f : Bat → Bat) (s : State) : (setBat f s).nrg = s.nrg := rfl
@[simp] theorem setBat_pq (f : Bat → Bat) (s : State) : (setBat f s).pq = s.pq := rfl
@[simp] theorem setBat_flw (f : Bat → Bat) (s : State) : (setBat f s).flw = s.flw := rfl
@[simp] theorem setBat_sdi (f : Bat → Bat) (s : State) : (setBat f s).sdi = s.sdi := rfl
@[simp] theorem setBat_chd (f : Bat → Bat) (s : State) : (setBat f s).chd = s.chd := rfl
@[simp] theorem setBat_bat (f : Bat → Bat) (s : State) : (setBat f s).bat = f s.bat := rfl
@[simp] theorem setBat_dsp (f : Bat → Bat) (s : State) : (setBat f s).dsp = s.dsp := rfl
@[simp] theorem setBat_saf (f : Bat → Bat) (s : State) : (setBat f s).saf = s.saf := rfl
@[simp] theorem setBat_pending (f : Bat → Bat) (s : State) : (setBat f s).pending = s.pending := rfl
@[simp] theorem setBat_pub (f : Bat → Bat) (s : State) : (setBat f s).pub = s.pub := rfl

@[simp] theorem setDsp_aon (f : Dsp → Dsp) (s : State) : (setDsp f s).aon = s.aon := rfl
@[simp] theorem setDsp_cfg (f : Dsp → Dsp) (s : State) : (setDsp f s).cfg = s.cfg := rfl
@[simp] theorem setDsp_cfgR (f : Dsp → Dsp) (s : State) : (setDsp f s).cfgR = s.cfgR := rfl
@[simp] theorem setDsp_str (f : Dsp → Dsp) (s : State) : (setDsp f s).str = s.str := rfl
@[simp] theorem setDsp_img (f : Dsp → Dsp) (s : State) : (setDsp f s).img = s.img := rfl
@[simp] theorem setDsp_sec (f : Dsp → Dsp) (s : State) : (setDsp f s).sec = s.sec := rfl
@[simp] theorem setDsp_fac (f : Dsp → Dsp) (s : State) : (setDsp f s).fac = s.fac := rfl
@[simp] theorem setDsp_port (f : Dsp → Dsp) (s : State) : (setDsp f s).port = s.port := rfl
@[simp] theorem setDsp_cyc (f : Dsp → Dsp) (s : State) : (setDsp f s).cyc = s.cyc := rfl
@[simp] theorem setDsp_pwc (f : Dsp → Dsp) (s : State) : (setDsp f s).pwc = s.pwc := rfl
@[simp] theorem setDsp_sto (f : Dsp → Dsp) (s : State) : (setDsp f s).sto = s.sto := rfl
@[simp] theorem setDsp_whl (f : Dsp → Dsp) (s : State) : (setDsp f s).whl = s.whl := rfl
@[simp] theorem setDsp_met (f : Dsp → Dsp) (s : State) : (setDsp f s).met = s.met := rfl
@[simp] theorem setDsp_nrg (f : Dsp → Dsp) (s : State) : (setDsp f s).nrg = s.nrg := rfl
@[simp] theorem setDsp_pq (f : Dsp → Dsp) (s : State) : (setDsp f s).pq = s.pq := rfl
@[simp] theorem setDsp_flw (f : Dsp → Dsp) (s : State) : (setDsp f s).flw = s.flw := rfl
@[simp] theorem setDsp_sdi (f : Dsp → Dsp) (s : State) : (setDsp f s).sdi = s.sdi := rfl
@[simp] theorem setDsp_chd (f : Dsp → Dsp) (s : State) : (setDsp f s).chd = s.chd := rfl
@[simp] theorem setDsp_bat (f : Dsp → Dsp) (s : State) : (setDsp f s).bat = s.bat := rfl
@[simp] theorem setDsp_dsp (f : Dsp → Dsp) (s : State) : (setDsp f s).dsp = f s.dsp := rfl
@[simp] theorem setDsp_saf (f : Dsp → Dsp) (s : State) : (setDsp f s).saf = s.saf := rfl
@[simp] theorem setDsp_pending (f : Dsp → Dsp) (s : State) : (setDsp f s).pending = s.pending := rfl
@[simp] theorem setDsp_pub (f : Dsp → Dsp) (s : State) : (setDsp f s).pub = s.pub := rfl

@[simp] theorem setSaf_aon (f : Saf → Saf) (s : State) : (setSaf f s).aon = s.aon := rfl
@[simp] theorem setSaf_cfg (f : Saf → Saf) (s : State) : (setSaf f s).cfg = s.cfg := rfl
@[simp] theorem setSaf_cfgR (f : Saf → Saf) (s : State) : (setSaf f s).cfgR = s.cfgR := rfl
@[simp] theorem setSaf_str (f : Saf → Saf) (s : State) : (setSaf f s).str = s.str := rfl
@[simp] theorem setSaf_img (f : Saf → Saf) (s : State) : (setSaf f s).img = s.img := rfl
@[simp] theorem setSaf_sec (f : Saf → Saf) (s : State) : (setSaf f s).sec = s.sec := rfl
@[simp] theorem setSaf_fac (f : Saf → Saf) (s : State) : (setSaf f s).fac = s.fac := rfl
@[simp] theorem setSaf_port (f : Saf → Saf) (s : State) : (setSaf f s).port = s.port := rfl
@[simp] theorem setSaf_cyc (f : Saf → Saf) (s : State) : (setSaf f s).cyc = s.cyc := rfl
@[simp] theorem setSaf_pwc (f : Saf → Saf) (s : State) : (setSaf f s).pwc = s.pwc := rfl
@[simp] theorem setSaf_sto (f : Saf → Saf) (s : State) : (setSaf f s).sto = s.sto := rfl
@[simp] theorem setSaf_whl (f : Saf → Saf) (s : State) : (setSaf f s).whl = s.whl := rfl
@[simp] theorem setSaf_met (f : Saf → Saf) (s : State) : (setSaf f s).met = s.met := rfl
@[simp] theorem setSaf_nrg (f : Saf → Saf) (s : State) : (setSaf f s).nrg = s.nrg := rfl
@[simp] theorem setSaf_pq (f : Saf → Saf) (s : State) : (setSaf f s).pq = s.pq := rfl
@[simp] theorem setSaf_flw (f : Saf → Saf) (s : State) : (setSaf f s).flw = s.flw := rfl
@[simp] theorem setSaf_sdi (f : Saf → Saf) (s : State) : (setSaf f s).sdi = s.sdi := rfl
@[simp] theorem setSaf_chd (f : Saf → Saf) (s : State) : (setSaf f s).chd = s.chd := rfl
@[simp] theorem setSaf_bat (f : Saf → Saf) (s : State) : (setSaf f s).bat = s.bat := rfl
@[simp] theorem setSaf_dsp (f : Saf → Saf) (s : State) : (setSaf f s).dsp = s.dsp := rfl
@[simp] theorem setSaf_saf (f : Saf → Saf) (s : State) : (setSaf f s).saf = f s.saf := rfl
@[simp] theorem setSaf_pending (f : Saf → Saf) (s : State) : (setSaf f s).pending = s.pending := rfl
@[simp] theorem setSaf_pub (f : Saf → Saf) (s : State) : (setSaf f s).pub = s.pub := rfl

@[simp] theorem setChd_aon (f : Chd → Chd) (s : State) : (setChd f s).aon = s.aon := rfl
@[simp] theorem setChd_cfg (f : Chd → Chd) (s : State) : (setChd f s).cfg = s.cfg := rfl
@[simp] theorem setChd_cfgR (f : Chd → Chd) (s : State) : (setChd f s).cfgR = s.cfgR := rfl
@[simp] theorem setChd_str (f : Chd → Chd) (s : State) : (setChd f s).str = s.str := rfl
@[simp] theorem setChd_img (f : Chd → Chd) (s : State) : (setChd f s).img = s.img := rfl
@[simp] theorem setChd_sec (f : Chd → Chd) (s : State) : (setChd f s).sec = s.sec := rfl
@[simp] theorem setChd_fac (f : Chd → Chd) (s : State) : (setChd f s).fac = s.fac := rfl
@[simp] theorem setChd_port (f : Chd → Chd) (s : State) : (setChd f s).port = s.port := rfl
@[simp] theorem setChd_cyc (f : Chd → Chd) (s : State) : (setChd f s).cyc = s.cyc := rfl
@[simp] theorem setChd_pwc (f : Chd → Chd) (s : State) : (setChd f s).pwc = s.pwc := rfl
@[simp] theorem setChd_sto (f : Chd → Chd) (s : State) : (setChd f s).sto = s.sto := rfl
@[simp] theorem setChd_whl (f : Chd → Chd) (s : State) : (setChd f s).whl = s.whl := rfl
@[simp] theorem setChd_met (f : Chd → Chd) (s : State) : (setChd f s).met = s.met := rfl
@[simp] theorem setChd_nrg (f : Chd → Chd) (s : State) : (setChd f s).nrg = s.nrg := rfl
@[simp] theorem setChd_pq (f : Chd → Chd) (s : State) : (setChd f s).pq = s.pq := rfl
@[simp] theorem setChd_flw (f : Chd → Chd) (s : State) : (setChd f s).flw = s.flw := rfl
@[simp] theorem setChd_sdi (f : Chd → Chd) (s : State) : (setChd f s).sdi = s.sdi := rfl
@[simp] theorem setChd_chd (f : Chd → Chd) (s : State) : (setChd f s).chd = f s.chd := rfl
@[simp] theorem setChd_bat (f : Chd → Chd) (s : State) : (setChd f s).bat = s.bat := rfl
@[simp] theorem setChd_dsp (f : Chd → Chd) (s : State) : (setChd f s).dsp = s.dsp := rfl
@[simp] theorem setChd_saf (f : Chd → Chd) (s : State) : (setChd f s).saf = s.saf := rfl
@[simp] theorem setChd_pending (f : Chd → Chd) (s : State) : (setChd f s).pending = s.pending := rfl
@[simp] theorem setChd_pub (f : Chd → Chd) (s : State) : (setChd f s).pub = s.pub := rfl

@[simp] theorem setImg_aon (f : Img → Img) (s : State) : (setImg f s).aon = s.aon := rfl
@[simp] theorem setImg_cfg (f : Img → Img) (s : State) : (setImg f s).cfg = s.cfg := rfl
@[simp] theorem setImg_cfgR (f : Img → Img) (s : State) : (setImg f s).cfgR = s.cfgR := rfl
@[simp] theorem setImg_str (f : Img → Img) (s : State) : (setImg f s).str = s.str := rfl
@[simp] theorem setImg_img (f : Img → Img) (s : State) : (setImg f s).img = f s.img := rfl
@[simp] theorem setImg_sec (f : Img → Img) (s : State) : (setImg f s).sec = s.sec := rfl
@[simp] theorem setImg_fac (f : Img → Img) (s : State) : (setImg f s).fac = s.fac := rfl
@[simp] theorem setImg_port (f : Img → Img) (s : State) : (setImg f s).port = s.port := rfl
@[simp] theorem setImg_cyc (f : Img → Img) (s : State) : (setImg f s).cyc = s.cyc := rfl
@[simp] theorem setImg_pwc (f : Img → Img) (s : State) : (setImg f s).pwc = s.pwc := rfl
@[simp] theorem setImg_sto (f : Img → Img) (s : State) : (setImg f s).sto = s.sto := rfl
@[simp] theorem setImg_whl (f : Img → Img) (s : State) : (setImg f s).whl = s.whl := rfl
@[simp] theorem setImg_met (f : Img → Img) (s : State) : (setImg f s).met = s.met := rfl
@[simp] theorem setImg_nrg (f : Img → Img) (s : State) : (setImg f s).nrg = s.nrg := rfl
@[simp] theorem setImg_pq (f : Img → Img) (s : State) : (setImg f s).pq = s.pq := rfl
@[simp] theorem setImg_flw (f : Img → Img) (s : State) : (setImg f s).flw = s.flw := rfl
@[simp] theorem setImg_sdi (f : Img → Img) (s : State) : (setImg f s).sdi = s.sdi := rfl
@[simp] theorem setImg_chd (f : Img → Img) (s : State) : (setImg f s).chd = s.chd := rfl
@[simp] theorem setImg_bat (f : Img → Img) (s : State) : (setImg f s).bat = s.bat := rfl
@[simp] theorem setImg_dsp (f : Img → Img) (s : State) : (setImg f s).dsp = s.dsp := rfl
@[simp] theorem setImg_saf (f : Img → Img) (s : State) : (setImg f s).saf = s.saf := rfl
@[simp] theorem setImg_pending (f : Img → Img) (s : State) : (setImg f s).pending = s.pending := rfl
@[simp] theorem setImg_pub (f : Img → Img) (s : State) : (setImg f s).pub = s.pub := rfl

@[simp] theorem setSec_aon (f : Sec → Sec) (s : State) : (setSec f s).aon = s.aon := rfl
@[simp] theorem setSec_cfg (f : Sec → Sec) (s : State) : (setSec f s).cfg = s.cfg := rfl
@[simp] theorem setSec_cfgR (f : Sec → Sec) (s : State) : (setSec f s).cfgR = s.cfgR := rfl
@[simp] theorem setSec_str (f : Sec → Sec) (s : State) : (setSec f s).str = s.str := rfl
@[simp] theorem setSec_img (f : Sec → Sec) (s : State) : (setSec f s).img = s.img := rfl
@[simp] theorem setSec_sec (f : Sec → Sec) (s : State) : (setSec f s).sec = f s.sec := rfl
@[simp] theorem setSec_fac (f : Sec → Sec) (s : State) : (setSec f s).fac = s.fac := rfl
@[simp] theorem setSec_port (f : Sec → Sec) (s : State) : (setSec f s).port = s.port := rfl
@[simp] theorem setSec_cyc (f : Sec → Sec) (s : State) : (setSec f s).cyc = s.cyc := rfl
@[simp] theorem setSec_pwc (f : Sec → Sec) (s : State) : (setSec f s).pwc = s.pwc := rfl
@[simp] theorem setSec_sto (f : Sec → Sec) (s : State) : (setSec f s).sto = s.sto := rfl
@[simp] theorem setSec_whl (f : Sec → Sec) (s : State) : (setSec f s).whl = s.whl := rfl
@[simp] theorem setSec_met (f : Sec → Sec) (s : State) : (setSec f s).met = s.met := rfl
@[simp] theorem setSec_nrg (f : Sec → Sec) (s : State) : (setSec f s).nrg = s.nrg := rfl
@[simp] theorem setSec_pq (f : Sec → Sec) (s : State) : (setSec f s).pq = s.pq := rfl
@[simp] theorem setSec_flw (f : Sec → Sec) (s : State) : (setSec f s).flw = s.flw := rfl
@[simp] theorem setSec_sdi (f : Sec → Sec) (s : State) : (setSec f s).sdi = s.sdi := rfl
@[simp] theorem setSec_chd (f : Sec → Sec) (s : State) : (setSec f s).chd = s.chd := rfl
@[simp] theorem setSec_bat (f : Sec → Sec) (s : State) : (setSec f s).bat = s.bat := rfl
@[simp] theorem setSec_dsp (f : Sec → Sec) (s : State) : (setSec f s).dsp = s.dsp := rfl
@[simp] theorem setSec_saf (f : Sec → Sec) (s : State) : (setSec f s).saf = s.saf := rfl
@[simp] theorem setSec_pending (f : Sec → Sec) (s : State) : (setSec f s).pending = s.pending := rfl
@[simp] theorem setSec_pub (f : Sec → Sec) (s : State) : (setSec f s).pub = s.pub := rfl

@[simp] theorem setBank_aon (n : Nat) (f : Bank → Bank) (s : State) : (setBank n f s).aon = s.aon := rfl
@[simp] theorem setBank_cfg (n : Nat) (f : Bank → Bank) (s : State) : (setBank n f s).cfg = s.cfg := rfl
@[simp] theorem setBank_cfgR (n : Nat) (f : Bank → Bank) (s : State) : (setBank n f s).cfgR = s.cfgR := rfl
@[simp] theorem setBank_str (n : Nat) (f : Bank → Bank) (s : State) : (setBank n f s).str = s.str := rfl
@[simp] theorem setBank_img (n : Nat) (f : Bank → Bank) (s : State) : (setBank n f s).img = { s.img with banks := vmod s.img.banks n f } := rfl
@[simp] theorem setBank_sec (n : Nat) (f : Bank → Bank) (s : State) : (setBank n f s).sec = s.sec := rfl
@[simp] theorem setBank_fac (n : Nat) (f : Bank → Bank) (s : State) : (setBank n f s).fac = s.fac := rfl
@[simp] theorem setBank_port (n : Nat) (f : Bank → Bank) (s : State) : (setBank n f s).port = s.port := rfl
@[simp] theorem setBank_cyc (n : Nat) (f : Bank → Bank) (s : State) : (setBank n f s).cyc = s.cyc := rfl
@[simp] theorem setBank_pwc (n : Nat) (f : Bank → Bank) (s : State) : (setBank n f s).pwc = s.pwc := rfl
@[simp] theorem setBank_sto (n : Nat) (f : Bank → Bank) (s : State) : (setBank n f s).sto = s.sto := rfl
@[simp] theorem setBank_whl (n : Nat) (f : Bank → Bank) (s : State) : (setBank n f s).whl = s.whl := rfl
@[simp] theorem setBank_met (n : Nat) (f : Bank → Bank) (s : State) : (setBank n f s).met = s.met := rfl
@[simp] theorem setBank_nrg (n : Nat) (f : Bank → Bank) (s : State) : (setBank n f s).nrg = s.nrg := rfl
@[simp] theorem setBank_pq (n : Nat) (f : Bank → Bank) (s : State) : (setBank n f s).pq = s.pq := rfl
@[simp] theorem setBank_flw (n : Nat) (f : Bank → Bank) (s : State) : (setBank n f s).flw = s.flw := rfl
@[simp] theorem setBank_sdi (n : Nat) (f : Bank → Bank) (s : State) : (setBank n f s).sdi = s.sdi := rfl
@[simp] theorem setBank_chd (n : Nat) (f : Bank → Bank) (s : State) : (setBank n f s).chd = s.chd := rfl
@[simp] theorem setBank_bat (n : Nat) (f : Bank → Bank) (s : State) : (setBank n f s).bat = s.bat := rfl
@[simp] theorem setBank_dsp (n : Nat) (f : Bank → Bank) (s : State) : (setBank n f s).dsp = s.dsp := rfl
@[simp] theorem setBank_saf (n : Nat) (f : Bank → Bank) (s : State) : (setBank n f s).saf = s.saf := rfl
@[simp] theorem setBank_pending (n : Nat) (f : Bank → Bank) (s : State) : (setBank n f s).pending = s.pending := rfl
@[simp] theorem setBank_pub (n : Nat) (f : Bank → Bank) (s : State) : (setBank n f s).pub = s.pub := rfl

@[simp] theorem setPath_aon (n : Nat) (f : FPath → FPath) (s : State) : (setPath n f s).aon = s.aon := rfl
@[simp] theorem setPath_cfg (n : Nat) (f : FPath → FPath) (s : State) : (setPath n f s).cfg = s.cfg := rfl
@[simp] theorem setPath_cfgR (n : Nat) (f : FPath → FPath) (s : State) : (setPath n f s).cfgR = s.cfgR := rfl
@[simp] theorem setPath_str (n : Nat) (f : FPath → FPath) (s : State) : (setPath n f s).str = s.str := rfl
@[simp] theorem setPath_img (n : Nat) (f : FPath → FPath) (s : State) : (setPath n f s).img = s.img := rfl
@[simp] theorem setPath_sec (n : Nat) (f : FPath → FPath) (s : State) : (setPath n f s).sec = s.sec := rfl
@[simp] theorem setPath_fac (n : Nat) (f : FPath → FPath) (s : State) : (setPath n f s).fac = s.fac := rfl
@[simp] theorem setPath_port (n : Nat) (f : FPath → FPath) (s : State) : (setPath n f s).port = s.port := rfl
@[simp] theorem setPath_cyc (n : Nat) (f : FPath → FPath) (s : State) : (setPath n f s).cyc = s.cyc := rfl
@[simp] theorem setPath_pwc (n : Nat) (f : FPath → FPath) (s : State) : (setPath n f s).pwc = s.pwc := rfl
@[simp] theorem setPath_sto (n : Nat) (f : FPath → FPath) (s : State) : (setPath n f s).sto = s.sto := rfl
@[simp] theorem setPath_whl (n : Nat) (f : FPath → FPath) (s : State) : (setPath n f s).whl = s.whl := rfl
@[simp] theorem setPath_met (n : Nat) (f : FPath → FPath) (s : State) : (setPath n f s).met = s.met := rfl
@[simp] theorem setPath_nrg (n : Nat) (f : FPath → FPath) (s : State) : (setPath n f s).nrg = s.nrg := rfl
@[simp] theorem setPath_pq (n : Nat) (f : FPath → FPath) (s : State) : (setPath n f s).pq = s.pq := rfl
@[simp] theorem setPath_flw (n : Nat) (f : FPath → FPath) (s : State) : (setPath n f s).flw = { s.flw with path := vmod s.flw.path n f } := rfl
@[simp] theorem setPath_sdi (n : Nat) (f : FPath → FPath) (s : State) : (setPath n f s).sdi = s.sdi := rfl
@[simp] theorem setPath_chd (n : Nat) (f : FPath → FPath) (s : State) : (setPath n f s).chd = s.chd := rfl
@[simp] theorem setPath_bat (n : Nat) (f : FPath → FPath) (s : State) : (setPath n f s).bat = s.bat := rfl
@[simp] theorem setPath_dsp (n : Nat) (f : FPath → FPath) (s : State) : (setPath n f s).dsp = s.dsp := rfl
@[simp] theorem setPath_saf (n : Nat) (f : FPath → FPath) (s : State) : (setPath n f s).saf = s.saf := rfl
@[simp] theorem setPath_pending (n : Nat) (f : FPath → FPath) (s : State) : (setPath n f s).pending = s.pending := rfl
@[simp] theorem setPath_pub (n : Nat) (f : FPath → FPath) (s : State) : (setPath n f s).pub = s.pub := rfl

@[simp] theorem setSlot_aon (n : Nat) (f : SdiSlot → SdiSlot) (s : State) : (setSlot n f s).aon = s.aon := rfl
@[simp] theorem setSlot_cfg (n : Nat) (f : SdiSlot → SdiSlot) (s : State) : (setSlot n f s).cfg = s.cfg := rfl
@[simp] theorem setSlot_cfgR (n : Nat) (f : SdiSlot → SdiSlot) (s : State) : (setSlot n f s).cfgR = s.cfgR := rfl
@[simp] theorem setSlot_str (n : Nat) (f : SdiSlot → SdiSlot) (s : State) : (setSlot n f s).str = s.str := rfl
@[simp] theorem setSlot_img (n : Nat) (f : SdiSlot → SdiSlot) (s : State) : (setSlot n f s).img = s.img := rfl
@[simp] theorem setSlot_sec (n : Nat) (f : SdiSlot → SdiSlot) (s : State) : (setSlot n f s).sec = s.sec := rfl
@[simp] theorem setSlot_fac (n : Nat) (f : SdiSlot → SdiSlot) (s : State) : (setSlot n f s).fac = s.fac := rfl
@[simp] theorem setSlot_port (n : Nat) (f : SdiSlot → SdiSlot) (s : State) : (setSlot n f s).port = s.port := rfl
@[simp] theorem setSlot_cyc (n : Nat) (f : SdiSlot → SdiSlot) (s : State) : (setSlot n f s).cyc = s.cyc := rfl
@[simp] theorem setSlot_pwc (n : Nat) (f : SdiSlot → SdiSlot) (s : State) : (setSlot n f s).pwc = s.pwc := rfl
@[simp] theorem setSlot_sto (n : Nat) (f : SdiSlot → SdiSlot) (s : State) : (setSlot n f s).sto = s.sto := rfl
@[simp] theorem setSlot_whl (n : Nat) (f : SdiSlot → SdiSlot) (s : State) : (setSlot n f s).whl = s.whl := rfl
@[simp] theorem setSlot_met (n : Nat) (f : SdiSlot → SdiSlot) (s : State) : (setSlot n f s).met = s.met := rfl
@[simp] theorem setSlot_nrg (n : Nat) (f : SdiSlot → SdiSlot) (s : State) : (setSlot n f s).nrg = s.nrg := rfl
@[simp] theorem setSlot_pq (n : Nat) (f : SdiSlot → SdiSlot) (s : State) : (setSlot n f s).pq = s.pq := rfl
@[simp] theorem setSlot_flw (n : Nat) (f : SdiSlot → SdiSlot) (s : State) : (setSlot n f s).flw = s.flw := rfl
@[simp] theorem setSlot_sdi (n : Nat) (f : SdiSlot → SdiSlot) (s : State) : (setSlot n f s).sdi = { s.sdi with slots := vmod s.sdi.slots n f } := rfl
@[simp] theorem setSlot_chd (n : Nat) (f : SdiSlot → SdiSlot) (s : State) : (setSlot n f s).chd = s.chd := rfl
@[simp] theorem setSlot_bat (n : Nat) (f : SdiSlot → SdiSlot) (s : State) : (setSlot n f s).bat = s.bat := rfl
@[simp] theorem setSlot_dsp (n : Nat) (f : SdiSlot → SdiSlot) (s : State) : (setSlot n f s).dsp = s.dsp := rfl
@[simp] theorem setSlot_saf (n : Nat) (f : SdiSlot → SdiSlot) (s : State) : (setSlot n f s).saf = s.saf := rfl
@[simp] theorem setSlot_pending (n : Nat) (f : SdiSlot → SdiSlot) (s : State) : (setSlot n f s).pending = s.pending := rfl
@[simp] theorem setSlot_pub (n : Nat) (f : SdiSlot → SdiSlot) (s : State) : (setSlot n f s).pub = s.pub := rfl

@[simp] theorem setPq_aon (q : Pq) (s : State) : (setPq s q).aon = s.aon := rfl
@[simp] theorem setPq_cfg (q : Pq) (s : State) : (setPq s q).cfg = s.cfg := rfl
@[simp] theorem setPq_cfgR (q : Pq) (s : State) : (setPq s q).cfgR = s.cfgR := rfl
@[simp] theorem setPq_str (q : Pq) (s : State) : (setPq s q).str = s.str := rfl
@[simp] theorem setPq_img (q : Pq) (s : State) : (setPq s q).img = s.img := rfl
@[simp] theorem setPq_sec (q : Pq) (s : State) : (setPq s q).sec = s.sec := rfl
@[simp] theorem setPq_fac (q : Pq) (s : State) : (setPq s q).fac = s.fac := rfl
@[simp] theorem setPq_port (q : Pq) (s : State) : (setPq s q).port = s.port := rfl
@[simp] theorem setPq_cyc (q : Pq) (s : State) : (setPq s q).cyc = s.cyc := rfl
@[simp] theorem setPq_pwc (q : Pq) (s : State) : (setPq s q).pwc = s.pwc := rfl
@[simp] theorem setPq_sto (q : Pq) (s : State) : (setPq s q).sto = s.sto := rfl
@[simp] theorem setPq_whl (q : Pq) (s : State) : (setPq s q).whl = s.whl := rfl
@[simp] theorem setPq_met (q : Pq) (s : State) : (setPq s q).met = s.met := rfl
@[simp] theorem setPq_nrg (q : Pq) (s : State) : (setPq s q).nrg = s.nrg := rfl
@[simp] theorem setPq_pq (q : Pq) (s : State) : (setPq s q).pq = q := rfl
@[simp] theorem setPq_flw (q : Pq) (s : State) : (setPq s q).flw = s.flw := rfl
@[simp] theorem setPq_sdi (q : Pq) (s : State) : (setPq s q).sdi = s.sdi := rfl
@[simp] theorem setPq_chd (q : Pq) (s : State) : (setPq s q).chd = s.chd := rfl
@[simp] theorem setPq_bat (q : Pq) (s : State) : (setPq s q).bat = s.bat := rfl
@[simp] theorem setPq_dsp (q : Pq) (s : State) : (setPq s q).dsp = s.dsp := rfl
@[simp] theorem setPq_saf (q : Pq) (s : State) : (setPq s q).saf = s.saf := rfl
@[simp] theorem setPq_pending (q : Pq) (s : State) : (setPq s q).pending = s.pending := rfl
@[simp] theorem setPq_pub (q : Pq) (s : State) : (setPq s q).pub = s.pub := rfl

@[simp] theorem forceRecord_aon (u : Nat) (s : State) : (forceRecord u s).aon = s.aon := rfl
@[simp] theorem forceRecord_cfg (u : Nat) (s : State) : (forceRecord u s).cfg = s.cfg := rfl
@[simp] theorem forceRecord_cfgR (u : Nat) (s : State) : (forceRecord u s).cfgR = s.cfgR := rfl
@[simp] theorem forceRecord_str (u : Nat) (s : State) : (forceRecord u s).str = s.str := rfl
@[simp] theorem forceRecord_img (u : Nat) (s : State) : (forceRecord u s).img = s.img := rfl
@[simp] theorem forceRecord_sec (u : Nat) (s : State) : (forceRecord u s).sec = s.sec := rfl
@[simp] theorem forceRecord_fac (u : Nat) (s : State) : (forceRecord u s).fac = s.fac := rfl
@[simp] theorem forceRecord_port (u : Nat) (s : State) : (forceRecord u s).port = s.port := rfl
@[simp] theorem forceRecord_cyc (u : Nat) (s : State) : (forceRecord u s).cyc = s.cyc := rfl
@[simp] theorem forceRecord_pwc (u : Nat) (s : State) : (forceRecord u s).pwc = s.pwc := rfl
@[simp] theorem forceRecord_sto (u : Nat) (s : State) : (forceRecord u s).sto = s.sto := rfl
@[simp] theorem forceRecord_whl (u : Nat) (s : State) : (forceRecord u s).whl = { s.whl with faults := putFault s.whl.faults u (noteFault (faultRec s u) s.aon) } := rfl
@[simp] theorem forceRecord_met (u : Nat) (s : State) : (forceRecord u s).met = s.met := rfl
@[simp] theorem forceRecord_nrg (u : Nat) (s : State) : (forceRecord u s).nrg = s.nrg := rfl
@[simp] theorem forceRecord_pq (u : Nat) (s : State) : (forceRecord u s).pq = s.pq := rfl
@[simp] theorem forceRecord_flw (u : Nat) (s : State) : (forceRecord u s).flw = s.flw := rfl
@[simp] theorem forceRecord_sdi (u : Nat) (s : State) : (forceRecord u s).sdi = s.sdi := rfl
@[simp] theorem forceRecord_chd (u : Nat) (s : State) : (forceRecord u s).chd = s.chd := rfl
@[simp] theorem forceRecord_bat (u : Nat) (s : State) : (forceRecord u s).bat = s.bat := rfl
@[simp] theorem forceRecord_dsp (u : Nat) (s : State) : (forceRecord u s).dsp = s.dsp := rfl
@[simp] theorem forceRecord_saf (u : Nat) (s : State) : (forceRecord u s).saf = s.saf := rfl
@[simp] theorem forceRecord_pending (u : Nat) (s : State) : (forceRecord u s).pending = s.pending := rfl
@[simp] theorem forceRecord_pub (u : Nat) (s : State) : (forceRecord u s).pub = s.pub := rfl

@[simp] theorem clearFaults_aon (u : Nat) (s : State) : (clearFaults u s).aon = s.aon := rfl
@[simp] theorem clearFaults_cfg (u : Nat) (s : State) : (clearFaults u s).cfg = s.cfg := rfl
@[simp] theorem clearFaults_cfgR (u : Nat) (s : State) : (clearFaults u s).cfgR = s.cfgR := rfl
@[simp] theorem clearFaults_str (u : Nat) (s : State) : (clearFaults u s).str = s.str := rfl
@[simp] theorem clearFaults_img (u : Nat) (s : State) : (clearFaults u s).img = s.img := rfl
@[simp] theorem clearFaults_sec (u : Nat) (s : State) : (clearFaults u s).sec = s.sec := rfl
@[simp] theorem clearFaults_fac (u : Nat) (s : State) : (clearFaults u s).fac = s.fac := rfl
@[simp] theorem clearFaults_port (u : Nat) (s : State) : (clearFaults u s).port = s.port := rfl
@[simp] theorem clearFaults_cyc (u : Nat) (s : State) : (clearFaults u s).cyc = s.cyc := rfl
@[simp] theorem clearFaults_pwc (u : Nat) (s : State) : (clearFaults u s).pwc = s.pwc := rfl
@[simp] theorem clearFaults_sto (u : Nat) (s : State) : (clearFaults u s).sto = s.sto := rfl
@[simp] theorem clearFaults_met (u : Nat) (s : State) : (clearFaults u s).met = s.met := rfl
@[simp] theorem clearFaults_nrg (u : Nat) (s : State) : (clearFaults u s).nrg = s.nrg := rfl
@[simp] theorem clearFaults_pq (u : Nat) (s : State) : (clearFaults u s).pq = s.pq := rfl
@[simp] theorem clearFaults_flw (u : Nat) (s : State) : (clearFaults u s).flw = s.flw := rfl
@[simp] theorem clearFaults_sdi (u : Nat) (s : State) : (clearFaults u s).sdi = s.sdi := rfl
@[simp] theorem clearFaults_chd (u : Nat) (s : State) : (clearFaults u s).chd = s.chd := rfl
@[simp] theorem clearFaults_bat (u : Nat) (s : State) : (clearFaults u s).bat = s.bat := rfl
@[simp] theorem clearFaults_dsp (u : Nat) (s : State) : (clearFaults u s).dsp = s.dsp := rfl
@[simp] theorem clearFaults_saf (u : Nat) (s : State) : (clearFaults u s).saf = s.saf := rfl
@[simp] theorem clearFaults_pending (u : Nat) (s : State) : (clearFaults u s).pending = s.pending := rfl
@[simp] theorem clearFaults_pub (u : Nat) (s : State) : (clearFaults u s).pub = s.pub := rfl

@[simp] theorem commitDue_aon (k : CommitKind) (s : State) : (commitDue k s).aon = s.aon := rfl
@[simp] theorem commitDue_cfg (k : CommitKind) (s : State) : (commitDue k s).cfg = s.cfg := rfl
@[simp] theorem commitDue_cfgR (k : CommitKind) (s : State) : (commitDue k s).cfgR = s.cfgR := rfl
@[simp] theorem commitDue_str (k : CommitKind) (s : State) : (commitDue k s).str = s.str := rfl
@[simp] theorem commitDue_img (k : CommitKind) (s : State) : (commitDue k s).img = s.img := rfl
@[simp] theorem commitDue_sec (k : CommitKind) (s : State) : (commitDue k s).sec = s.sec := rfl
@[simp] theorem commitDue_fac (k : CommitKind) (s : State) : (commitDue k s).fac = s.fac := rfl
@[simp] theorem commitDue_port (k : CommitKind) (s : State) : (commitDue k s).port = s.port := rfl
@[simp] theorem commitDue_cyc (k : CommitKind) (s : State) : (commitDue k s).cyc = s.cyc := rfl
@[simp] theorem commitDue_pwc (k : CommitKind) (s : State) : (commitDue k s).pwc = s.pwc := rfl
@[simp] theorem commitDue_whl (k : CommitKind) (s : State) : (commitDue k s).whl = s.whl := rfl
@[simp] theorem commitDue_met (k : CommitKind) (s : State) : (commitDue k s).met = s.met := rfl
@[simp] theorem commitDue_nrg (k : CommitKind) (s : State) : (commitDue k s).nrg = s.nrg := rfl
@[simp] theorem commitDue_pq (k : CommitKind) (s : State) : (commitDue k s).pq = s.pq := rfl
@[simp] theorem commitDue_flw (k : CommitKind) (s : State) : (commitDue k s).flw = s.flw := rfl
@[simp] theorem commitDue_sdi (k : CommitKind) (s : State) : (commitDue k s).sdi = s.sdi := rfl
@[simp] theorem commitDue_chd (k : CommitKind) (s : State) : (commitDue k s).chd = s.chd := rfl
@[simp] theorem commitDue_bat (k : CommitKind) (s : State) : (commitDue k s).bat = s.bat := rfl
@[simp] theorem commitDue_dsp (k : CommitKind) (s : State) : (commitDue k s).dsp = s.dsp := rfl
@[simp] theorem commitDue_saf (k : CommitKind) (s : State) : (commitDue k s).saf = s.saf := rfl
@[simp] theorem commitDue_pending (k : CommitKind) (s : State) : (commitDue k s).pending = s.pending := rfl
@[simp] theorem commitDue_pub (k : CommitKind) (s : State) : (commitDue k s).pub = s.pub := rfl

@[simp] theorem queueEv_aon (e : Ev) (s : State) : (queueEv e s).aon = s.aon := rfl
@[simp] theorem queueEv_cfg (e : Ev) (s : State) : (queueEv e s).cfg = s.cfg := rfl
@[simp] theorem queueEv_cfgR (e : Ev) (s : State) : (queueEv e s).cfgR = s.cfgR := rfl
@[simp] theorem queueEv_str (e : Ev) (s : State) : (queueEv e s).str = s.str := rfl
@[simp] theorem queueEv_img (e : Ev) (s : State) : (queueEv e s).img = s.img := rfl
@[simp] theorem queueEv_sec (e : Ev) (s : State) : (queueEv e s).sec = s.sec := rfl
@[simp] theorem queueEv_port (e : Ev) (s : State) : (queueEv e s).port = s.port := rfl
@[simp] theorem queueEv_cyc (e : Ev) (s : State) : (queueEv e s).cyc = s.cyc := rfl
@[simp] theorem queueEv_pwc (e : Ev) (s : State) : (queueEv e s).pwc = s.pwc := rfl
@[simp] theorem queueEv_whl (e : Ev) (s : State) : (queueEv e s).whl = s.whl := rfl
@[simp] theorem queueEv_met (e : Ev) (s : State) : (queueEv e s).met = s.met := rfl
@[simp] theorem queueEv_nrg (e : Ev) (s : State) : (queueEv e s).nrg = s.nrg := rfl
@[simp] theorem queueEv_pq (e : Ev) (s : State) : (queueEv e s).pq = s.pq := rfl
@[simp] theorem queueEv_flw (e : Ev) (s : State) : (queueEv e s).flw = s.flw := rfl
@[simp] theorem queueEv_sdi (e : Ev) (s : State) : (queueEv e s).sdi = s.sdi := rfl
@[simp] theorem queueEv_chd (e : Ev) (s : State) : (queueEv e s).chd = s.chd := rfl
@[simp] theorem queueEv_bat (e : Ev) (s : State) : (queueEv e s).bat = s.bat := rfl
@[simp] theorem queueEv_dsp (e : Ev) (s : State) : (queueEv e s).dsp = s.dsp := rfl
@[simp] theorem queueEv_saf (e : Ev) (s : State) : (queueEv e s).saf = s.saf := rfl
@[simp] theorem queueEv_pending (e : Ev) (s : State) : (queueEv e s).pending = s.pending := rfl
@[simp] theorem queueEv_pub (e : Ev) (s : State) : (queueEv e s).pub = s.pub := rfl

@[simp] theorem emit_aon (e : Ev) (s : State) : (emit e s).aon = s.aon := by unfold emit; split <;> rfl
@[simp] theorem emit_cfg (e : Ev) (s : State) : (emit e s).cfg = s.cfg := by unfold emit; split <;> rfl
@[simp] theorem emit_cfgR (e : Ev) (s : State) : (emit e s).cfgR = s.cfgR := by unfold emit; split <;> rfl
@[simp] theorem emit_str (e : Ev) (s : State) : (emit e s).str = s.str := by unfold emit; split <;> rfl
@[simp] theorem emit_img (e : Ev) (s : State) : (emit e s).img = s.img := by unfold emit; split <;> rfl
@[simp] theorem emit_sec (e : Ev) (s : State) : (emit e s).sec = s.sec := by unfold emit; split <;> rfl
@[simp] theorem emit_port (e : Ev) (s : State) : (emit e s).port = s.port := by unfold emit; split <;> rfl
@[simp] theorem emit_cyc (e : Ev) (s : State) : (emit e s).cyc = s.cyc := by unfold emit; split <;> rfl
@[simp] theorem emit_pwc (e : Ev) (s : State) : (emit e s).pwc = s.pwc := by unfold emit; split <;> rfl
@[simp] theorem emit_whl (e : Ev) (s : State) : (emit e s).whl = s.whl := by unfold emit; split <;> rfl
@[simp] theorem emit_met (e : Ev) (s : State) : (emit e s).met = s.met := by unfold emit; split <;> rfl
@[simp] theorem emit_nrg (e : Ev) (s : State) : (emit e s).nrg = s.nrg := by unfold emit; split <;> rfl
@[simp] theorem emit_pq (e : Ev) (s : State) : (emit e s).pq = s.pq := by unfold emit; split <;> rfl
@[simp] theorem emit_flw (e : Ev) (s : State) : (emit e s).flw = s.flw := by unfold emit; split <;> rfl
@[simp] theorem emit_sdi (e : Ev) (s : State) : (emit e s).sdi = s.sdi := by unfold emit; split <;> rfl
@[simp] theorem emit_chd (e : Ev) (s : State) : (emit e s).chd = s.chd := by unfold emit; split <;> rfl
@[simp] theorem emit_bat (e : Ev) (s : State) : (emit e s).bat = s.bat := by unfold emit; split <;> rfl
@[simp] theorem emit_dsp (e : Ev) (s : State) : (emit e s).dsp = s.dsp := by unfold emit; split <;> rfl
@[simp] theorem emit_saf (e : Ev) (s : State) : (emit e s).saf = s.saf := by unfold emit; split <;> rfl
@[simp] theorem emit_pending (e : Ev) (s : State) : (emit e s).pending = s.pending := by unfold emit; split <;> rfl
@[simp] theorem emit_pub (e : Ev) (s : State) : (emit e s).pub = s.pub := by unfold emit; split <;> rfl

/-- While events are held for the round close, one that is raised joins them and nothing else changes (Table 3-7, step 4). -/
theorem emit_held (e : Ev) (s : State) (h : s.sto.evHold = true) :
    emit e s = { s with sto := { s.sto with evq := s.sto.evq ++ [e] } } := by simp [emit, h]

/-- Outside an open round an event is queued at once. -/
theorem emit_now (e : Ev) (s : State) (h : s.sto.evHold = false) : emit e s = queueEv e s := by simp [emit, h]

end Sys2Proof.Machine
end

