-- ==== Sys2Proof/Laws/HostPath.lean ====
section
/-! SUPPORT. The host path: what an accepted one-word write and a request on a free port reduce to. -/

namespace Sys2Proof.Laws

open Sys2Proof Sys2Proof.Machine Sys2Proof.Safety

theorem crcOk_wordFrame (off : Nat) (v : Word) (w : RegWr) (m : Bool) : crcOk cmdWrite (wordFrame off v w m) = true := by
  simp [crcOk, wordFrame, carriesData, requestBytes]

theorem addr_wordFrame (off : Nat) (v : Word) (w : RegWr) (m : Bool) (h : off < 65536) :
    (wordFrame off v w m).addr.toNat = off := by
  simp [wordFrame]; omega

theorem formatOk_wordFrame (off : Nat) (v : Word) (w : RegWr) (m : Bool) (h : off < 65536) (h4 : off % 4 = 0) :
    formatOk cmdWrite (wordFrame off v w m) = true := by
  have ha := addr_wordFrame off v w m h
  simp only [formatOk, ha]
  simp [wordFrame, h4, cmdWrite]

theorem vmod_vmod {α : Type} {n : Nat} (v : Vector α n) (i : Nat) (f g : α → α) :
    vmod (vmod v i f) i g = vmod v i fun x => g (f x) := by
  ext j hj; simp [vmod]; split <;> simp_all

theorem vmod_id {α : Type} {n : Nat} (v : Vector α n) (i : Nat) : vmod v i (fun x => x) = v := by
  ext j hj; simp [vmod]

theorem vget_vmod {α : Type} {n : Nat} (v : Vector α n) (i : Nat) (f : α → α) (d : α) (h : i < n) :
    vget (vmod v i f) i d = f (vget v i d) := by
  simp [vget, vmod, h]

theorem vget_vmod_ne {α : Type} {n : Nat} (v : Vector α n) (i j : Nat) (f : α → α) (d : α) (h : j ≠ i) :
    vget (vmod v i f) j d = vget v j d := by
  by_cases hj : j < n <;> simp [vget, vmod, hj, h]

/-- On a vector's own element a change may use its value. -/
theorem vmod_own {α : Type} {n : Nat} (v : Vector α n) (i : Nat) (f : α → α → α) (d : α) :
    vmod v i (fun x => f (vget v i d) x) = vmod v i fun x => f x x := by
  ext j hj
  simp only [vmod, Vector.getElem_ofFn]
  split
  · subst i; simp [vget, hj]
  · rfl

theorem getElem_vmod {α : Type} {n : Nat} (v : Vector α n) (i j : Nat) (f : α → α) (h : j < n) :
    (vmod v i f)[j] = if j = i then f v[j] else v[j] := by simp [vmod]

theorem port_setPort (p : Nat) (g : PortSt → PortSt) (s : State) (hp : p < 3) : port (setPort p g s) p = g (port s p) :=
  vget_vmod s.port p g PortSt.zero hp

theorem port_setPort_ne (p q : Nat) (g : PortSt → PortSt) (s : State) (h : q ≠ p) : port (setPort p g s) q = port s q :=
  vget_vmod_ne s.port p q g PortSt.zero h

theorem port_setPwc (f : Pwc → Pwc) (s : State) (p : Nat) : port (setPwc f s) p = port s p := rfl

/-! ### A word is judged by parts of the state that hearing a frame leaves alone -/

theorem writeOut_heard (fr : Frame) (c : Cycle) (s : State) (h : Nat) (x : Nat × Word) :
    writeOut { heard fr s with cyc := c } h x = writeOut s h x := rfl

theorem wordLocked_heard (fr : Frame) (c : Cycle) (s : State) (off : Nat) (v : Word) :
    wordLocked { heard fr s with cyc := c } off v = wordLocked s off v := rfl

theorem imgCtrl_heard (fr : Frame) (c : Cycle) (s : State) (p : Port) (v : Word) :
    (imgCtrl p v { heard fr s with cyc := c }).2 = (imgCtrl p v s).2 := by
  have h : (heard fr s).img = s.img := rfl
  simp only [imgCtrl, h, apply_ite Prod.snd]

theorem wordBusy_heard (fr : Frame) (c : Cycle) (s : State) (f : Nat) (p : Port) (off : Nat) (v : Word) :
    wordBusy { heard fr s with cyc := c } f p off v = wordBusy s f p off v := by
  simp only [wordBusy, imgCtrl_heard]; rfl

theorem port_heard (fr : Frame) (s : State) :
    port (heard fr s) fr.port.val = { port s fr.port.val with
      frames := satInc (port s fr.port.val).frames, wdtAt := some s.aon, held := none
      untaken := if (port s fr.port.val).held.isSome && !(port s fr.port.val).taken then satInc (port s fr.port.val).untaken
        else (port s fr.port.val).untaken
      spiMode3 := if fr.port.val < 2 then fr.mode3 else (port s fr.port.val).spiMode3 } :=
  vget_vmod _ _ _ _ fr.port.isLt

/-! ### A request on a free port -/

/-- Counting a frame on a bound port restarts its watchdog. -/
theorem kick_steps (p : Nat) (hp : p < 3) (s : State) (hf : (port s p).facet.isSome = true) :
    watchdogKick p (setPwc (fun q => { q with portAFrameSeen := q.portAFrameSeen || decide (p = 0) })
      (setPort p (fun x => { x with frames := satInc x.frames }) s)) =
      setPort p (fun x => { x with wdtAt := some s.aon }) (setPwc (fun q => { q with portAFrameSeen := q.portAFrameSeen || decide (p = 0) })
      (setPort p (fun x => { x with frames := satInc x.frames }) s)) := by
  rw [watchdogKick, port_setPwc, port_setPort _ _ _ hp, if_pos hf]; rfl

/-- The state in which a request on a bound port has been counted. -/
def counted (fr : Frame) (s : State) : State :=
  let p := fr.port.val
  setPort p (fun x => { x with wdtAt := some s.aon }) (setPwc (fun q => { q with portAFrameSeen := q.portAFrameSeen || decide (p = 0) })
    (setPort p (fun x => { x with frames := satInc x.frames })
      (if p < 2 then setPort p (fun x => { x with spiMode3 := fr.mode3 }) { s with cyc := fabCycle fr s }
       else { s with cyc := fabCycle fr s })))

theorem counted_eq (fr : Frame) (s : State) : counted fr s =
    { s with
      cyc := fabCycle fr s
      port := vmod s.port fr.port.val fun y => { y with
        frames := satInc y.frames, wdtAt := some s.aon, spiMode3 := if fr.port.val < 2 then fr.mode3 else y.spiMode3 }
      pwc := { s.pwc with portAFrameSeen := s.pwc.portAFrameSeen || decide (fr.port.val = 0) } } := by
  unfold counted
  by_cases h : fr.port.val < 2 <;> simp [h, setPort, setPwc, vmod_vmod]

theorem port_counted (fr : Frame) (s : State) : port (counted fr s) fr.port.val = { port s fr.port.val with
      frames := satInc (port s fr.port.val).frames, wdtAt := some s.aon
      spiMode3 := if fr.port.val < 2 then fr.mode3 else (port s fr.port.val).spiMode3 } := by
  rw [counted_eq]; exact vget_vmod _ _ _ _ fr.port.isLt

theorem noteFrame_counted (cmd : Nat) (fr : Frame) (s : State) (hc : crcOk cmd fr = true)
    (hf : (port s fr.port.val).facet.isSome = true) :
    noteFrame cmd fr (if fr.port.val < 2 then setPort fr.port.val (fun x => { x with spiMode3 := fr.mode3 })
      { s with cyc := fabCycle fr s } else { s with cyc := fabCycle fr s }) = counted fr s := by
  have hd : decide (fr.port = 0) = decide (fr.port.val = 0) := decide_eq_decide.mpr Fin.ext_iff
  rw [noteFrame, if_pos hc, hd, counted]
  by_cases h : fr.port.val < 2
  · rw [if_pos h]
    exact kick_steps _ fr.port.isLt _ (by rw [port_setPort _ _ _ fr.port.isLt]; exact hf)
  · rw [if_neg h]
    exact kick_steps _ fr.port.isLt { s with cyc := fabCycle fr s } hf

theorem discard_counted (fr : Frame) (s : State) : discardHeld fr.port.val (counted fr s) = heard fr s := by
  rw [discardHeld, port_counted, counted_eq]
  cases hl : (port s fr.port.val).held.isSome && !(port s fr.port.val).taken <;>
    simp [setPort, setWhl, vmod_vmod, heard, hl]

/-- A request whose CRC and format hold, on a free port: the frame is heard, executed and answered. -/
theorem hostFrame_free (cmd : Nat) (f : Facet) (fr : Frame) (s : State) (hfree : portFree s f fr.port = true)
    (hc : crcOk cmd fr = true) (hfm : formatOk cmd fr = true) :
    hostFrame cmd fr s = wake (match execFrame cmd f fr.port fr (portWord s fr.port.val) (heard fr s) with
      | .reply s2 r => answer fr.port.val r s2
      | .later s2 => setPort fr.port.val (fun x => { x with executing := some ⟨cmd, fr⟩ }) s2
      | .silent s2 => s2) := by
  simp only [portFree, Bool.and_eq_true, decide_eq_true_eq, Bool.not_eq_true', Option.isNone_iff_eq_none, live] at hfree
  obtain ⟨⟨⟨⟨⟨hli, hst, hpf⟩, hf⟩, hex⟩, hwa⟩, hua⟩ := hfree
  have hfs : (port s fr.port.val).facet.isSome = true := by rw [hf]; rfl
  have e1 : (!portListens s || (decide (fr.port ≠ 0) && decide (s.pwc.start ≠ .served)) ||
      ((port s fr.port.val).facet.isNone && decide (s.pwc.start = .served)) ||
      (decide (portMode s fr.port.val = 1) && (port s fr.port.val).uartIgnore)) = false := by
    simp [hli, hst, hf, hua]
  have e2 : portBusy (counted fr s) fr.port.val = false := by
    rw [portBusy, port_counted]; simp [counted_eq, hst, hpf, hwa]
  have e3 : (port (counted fr s) fr.port.val).executing = none := by rw [port_counted]; exact hex
  have e4 : (port (counted fr s) fr.port.val).facet = some f := by rw [port_counted]; exact hf
  have e5 : portWord (counted fr s) fr.port.val = portWord s fr.port.val := by simp only [portWord, port_counted]
  rw [hostFrame]
  simp only [noteFrame_counted cmd fr s hc hfs, e1, e2, e3, e4, Bool.false_eq_true, ite_false, Option.isSome_none, runFrame, hc, hfm,
    Bool.not_true, e5, discard_counted] <;> rfl

/-! ### One-word writes -/

/-- What an accepted word does. -/
def wordDone (f : Facet) (p : Port) (off : Nat) (v : Word) (s : State) : State :=
  if inFrameMem off then setDsp (fun d => { d with queue := d.queue ++ [(f, off - 0x5000, v)] }) s else regWrite f.val p off v s

theorem wordBusy_cyc (c : Cycle) (s : State) (f : Nat) (p : Port) (off : Nat) (v : Word) :
    wordBusy { s with cyc := c } f p off v = wordBusy s f p off v := by
  have e : (imgCtrl p v { s with cyc := c }).2 = (imgCtrl p v s).2 := by simp only [imgCtrl, apply_ite Prod.snd]
  simp only [wordBusy, e]; rfl

/-- A FAB cycle holds no structure and no write of a word where its frame begins it, or where none stood in it before (R90, R91). -/
theorem fabCycle_clear (fr : Frame) (s : State) (x : Facet × Nat)
    (h : fr.same = true → s.cyc.applied = false ∧ s.cyc.writes.contains x = false) :
    (fabCycle fr s).applied = false ∧ (fabCycle fr s).writes.contains x = false := by
  unfold fabCycle; dsimp only; split
  · rename_i hc; exact h (Bool.and_eq_true_iff.mp hc).1
  · exact ⟨rfl, rfl⟩

/-- A one-word WRITE of an accepted word. -/
theorem execWriteFrame_one (f : Facet) (p : Port) (off : Nat) (v : Word) (fr : Frame) (s : State)
    (hx : (frameOffs fr.addr.toNat fr.count.toNat).zip fr.data = [(off, v)])
    (ho : writeOut s f.val (off, v) = .ok) (hl : wordLocked s off v = false) (hb : wordBusy s f.val p off v = false)
    (ha : inAreaData off = false) (hr : off ≠ 0x0018 ∨ keyed v = false ∨ bit v 0 = false)
    (hq : inFrameMem off = true → s.dsp.queue.length < 64) (hc : s.cyc.applied = false) (hw : s.cyc.writes.contains (f, off) = false) :
    execWriteFrame f p fr s = .reply
      (prunFollow (wordDone f p off v { s with cyc := { s.cyc with writes := s.cyc.writes ++ [(f, off)] } })) okWrite := by
  have hk : (decide (off = 0x0018) && keyed v && bit v 0) = false := by
    rcases hr with h | h | h <;> simp [h]
  have hl' : wordLocked { s with cyc := { s.cyc with writes := s.cyc.writes ++ [(f, off)] } } off v = false := hl
  have hb' : wordBusy { s with cyc := { s.cyc with writes := s.cyc.writes ++ [(f, off)] } } f.val p off v = false :=
    (wordBusy_cyc _ s f.val p off v).trans hb
  have hf : (decide (0 < ([(off, v)].filter fun x => inFrameMem x.1).length) &&
      decide (64 < s.dsp.queue.length + ([(off, v)].filter fun x => inFrameMem x.1).length)) = false := by
    cases hm : inFrameMem off with
    | false => simp [List.filter, hm]
    | true => have := hq hm; simp [List.filter, hm]; omega
  have hap : applyWords f p [(off, v)] { s with cyc := { s.cyc with writes := s.cyc.writes ++ [(f, off)] } } =
      wordDone f p off v { s with cyc := { s.cyc with writes := s.cyc.writes ++ [(f, off)] } } := by
    simp only [applyWords, wordDone, List.foldl, List.filter, ha, hl', hb', Bool.or_self, List.isEmpty_nil, ite_true]; simp
  simp only [hc] at hap
  rw [execWriteFrame, hx]
  simp only [List.map_cons, List.map_nil, ho, show wordsStatus [WordOut.ok] = none from rfl, List.any_cons, List.any_nil,
    hc, hw, hf, hl, hb, Bool.false_and, Bool.not_false, ite_false, Bool.or_self, Bool.false_eq_true, hk, ha, Bool.and_false, hap]
  rfl

/-- An accepted one-word WRITE outside the user areas, other than a facet reset: the frame is heard, the word is applied, and OK
is answered. -/
theorem hostWord_accepted (f : Facet) (off : Nat) (v : Word) (w : RegWr) (s : State)
    (h : accepted s f off { w with val := v } = true) (ha : inAreaData off = false)
    (hr : off ≠ 0x0018 ∨ keyed v = false ∨ bit v 0 = false) :
    hostWord off v w s = replied w.port okWrite (wordDone f w.port off v (heardWord f off { w with val := v } s)) := by
  simp only [accepted, Bool.and_eq_true, decide_eq_true_eq, Bool.not_eq_true', Bool.or_eq_true] at h
  obtain ⟨⟨⟨⟨⟨⟨⟨hfree, hb⟩, h4⟩, ho⟩, hlk⟩, hby⟩, hq⟩, hsm⟩ := h
  have hx : (frameOffs (rowFrame s off v w).addr.toNat (rowFrame s off v w).count.toNat).zip (rowFrame s off v w).data
      = [(off, v)] := by rw [rowFrame, addr_wordFrame _ _ _ _ hb]; simp [wordFrame, frameOffs]
  have hcy : (heard (rowFrame s off v w) s).cyc.applied = false ∧ (heard (rowFrame s off v w) s).cyc.writes.contains (f, off) = false := by
    refine fabCycle_clear _ _ _ fun hs => ?_
    rcases hsm with h | h
    · rw [show w.same = true from hs] at h; cases h
    · exact h
  have hrun := execWriteFrame_one f w.port off v (rowFrame s off v w) (heard (rowFrame s off v w) s) hx ho hlk
    ((wordBusy_heard (rowFrame s off v w) _ s f.val w.port off v).trans hby) ha hr
    (fun h => hq.resolve_left (by simp [h])) hcy.1 hcy.2
  have := hostFrame_free cmdWrite f (rowFrame s off v w) s hfree (crcOk_wordFrame off v w _) (formatOk_wordFrame off v w _ hb h4)
  rw [hostWord]
  refine (show hostFrame cmdWrite (rowFrame s off v w) s = _ from this).trans ?_
  rw [execFrame, if_pos rfl]
  simp only [show (rowFrame s off v w).port = w.port from rfl, hrun]
  rfl

/-! ### What every accepted request may change -/

theorem hfxStart_aside (s t : State) : hfxAside s (hfxStart t) = hfxAside s t := by
  unfold hfxStart; split <;> rfl

theorem wake_hfxAside (s t : State) : hfxAside s (wake t) = hfxAside s t := by
  unfold wake; split
  · exact hfxStart_aside s t
  · rfl

theorem wake_aside (s t : State) : aside s (wake t) = aside s t := by
  unfold wake; split
  · unfold hfxStart; split <;> rfl
  · rfl

theorem prunFollow_aside (s t : State) : aside s (prunFollow t) = aside s t := by
  simp only [prunFollow]; split <;> rfl

theorem answer_aside (s t : State) (p : Nat) (r : Reply) : aside s (answer p r t) = aside s t := rfl

theorem replied_aside (s t : State) (p : Port) (r : Reply) : aside s (replied p r t) = aside s t := by
  rw [replied, wake_aside, answer_aside, prunFollow_aside]

theorem aside_self (s : State) : aside s s = s := rfl

theorem aside_heard (fr : Frame) (s : State) : aside s (heard fr s) = s := rfl

theorem aside_heardWord (f : Facet) (off : Nat) (w : RegWr) (s : State) : aside s (heardWord f off w s) = s := rfl

theorem wake_port (s : State) : (wake s).port = s.port := by
  unfold wake; split
  · unfold hfxStart; split <;> rfl
  · rfl

theorem prunFollow_port (s : State) : (prunFollow s).port = s.port := by
  simp only [prunFollow]; split <;> rfl

theorem answered_heard (fr : Frame) (r : Reply) (s t : State) (h : t.port = (heard fr s).port) :
    answered s (wake (answer fr.port.val r t)) fr.port fr.mode3 r := by
  have e : ∀ q, port (wake (answer fr.port.val r t)) q = port (answer fr.port.val r t) q := fun q => by simp only [port, wake_port]
  have et : ∀ q, port t q = port (heard fr s) q := fun q => by simp only [port, h]
  refine ⟨?_, fun q hq => ?_⟩
  · rw [e, answer, port_setPort _ _ _ fr.port.isLt, et, port_heard]
  · rw [e, answer, port_setPort_ne _ _ _ _ hq, et]; exact vget_vmod_ne _ _ _ _ _ hq

/-- An accepted row: what it does apart from what every accepted request may change is what its word does. -/
theorem rowDone_accepted (f : Facet) (off : Nat) (v : Word) (w : RegWr) (s u : State)
    (h : accepted s f off { w with val := v } = true) (ha : inAreaData off = false)
    (hr : off ≠ 0x0018 ∨ keyed v = false ∨ bit v 0 = false)
    (hp : (wordDone f w.port off v (heardWord f off { w with val := v } s)).port = (heardWord f off { w with val := v } s).port)
    (hu : aside s (wordDone f w.port off v (heardWord f off { w with val := v } s)) = u) :
    rowDone s (hostWord off v w s) w u := by
  rw [hostWord_accepted f off v w s h ha hr]
  refine ⟨?_, by rw [replied_aside, hu]⟩
  have := answered_heard (rowFrame s off v w) okWrite s (prunFollow (wordDone f w.port off v (heardWord f off { w with val := v } s)))
    (by rw [prunFollow_port, hp]; rfl)
  exact this

/-- A family of rows that write one word: what the word does decides. -/
theorem rowDoes_of {row : RegWr → Instr} {off : Nat} {val : Word → Word} {cond : Facet → Word → State → Prop}
    {u : Facet → Word → State → State} (hx : ∀ w s, exec (row w) s = .next (hostWord off (val w.val) w s)) (ha : inAreaData off = false)
    (hr : off ≠ 0x0018 ∨ ∀ v, keyed (val v) = false ∨ bit (val v) 0 = false)
    (hd : ∀ (f : Facet) (w : RegWr) (s : State), accepted s f off { w with val := val w.val } = true → cond f w.val s →
      ∀ h : State, h = heardWord f off { w with val := val w.val } s →
        (wordDone f w.port off (val w.val) h).port = h.port ∧ aside s (wordDone f w.port off (val w.val) h) = u f w.val s) :
    rowDoes row off val cond u := by
  intro f w s hacc hc
  obtain ⟨hp, hu⟩ := hd f w s hacc hc _ rfl
  exact ⟨_, hx w s, rowDone_accepted f off (val w.val) w s _ hacc ha (hr.imp_right fun h => h w.val) hp hu⟩

theorem withCmd_toNat (v : Word) (c : Nat) (h : c < 256) : (withCmd v c).toNat = v.toNat / 256 * 256 + c := by
  have := v.isLt
  simp only [withCmd, w32, BitVec.toNat_ofNat]
  omega

/-- A command code leaves every field above it. -/
theorem bits_withCmd (v : Word) (c hi lo : Nat) (h : c < 256) (hl : 8 ≤ lo) : bits (withCmd v c) hi lo = bits v hi lo := by
  obtain ⟨k, rfl⟩ : ∃ k, lo = 8 + k := ⟨lo - 8, by omega⟩
  simp only [bits, withCmd_toNat v c h, Nat.pow_add]
  rw [← Nat.div_div_eq_div_mul, ← Nat.div_div_eq_div_mul, show 2 ^ 8 = 256 from rfl, show (v.toNat / 256 * 256 + c) / 256 = v.toNat / 256 by omega]

theorem bits_withCmd_code (v : Word) (c : Nat) (h : c < 256) : bits (withCmd v c) 7 0 = c := by
  simp only [bits, withCmd_toNat v c h]; omega

theorem keyed_withCmd (v : Word) (c : Nat) (h : c < 256) : keyed (withCmd v c) = keyed v := by
  rw [keyed, keyed, bits_withCmd v c 15 8 h (by omega)]

/-! ### A request that can execute -/

theorem heard_cyc {cmd : Nat} {f : Facet} {fr : Frame} {s : State} (h : ready cmd f fr s) : (heard fr s).cyc.applied = false := by
  have : (heard fr s).cyc = fabCycle fr s := rfl
  rw [this, fabCycle]; dsimp only; split
  · rename_i hc; exact h.2.2.2 (Bool.and_eq_true_iff.mp hc).1
  · rfl

theorem outcomeOf_heard (fr : Frame) (s : State) (f off : Nat) (wr : Bool) : outcomeOf (heard fr s) f off wr = outcomeOf s f off wr := rfl

/-- A request that is answered at once: it is heard, executed and answered. -/
theorem hostFrame_done {cmd : Nat} {f : Facet} {fr : Frame} {s s2 : State} {r : Reply} (h : ready cmd f fr s)
    (he : execFrame cmd f fr.port fr (portWord s fr.port.val) (heard fr s) = .reply s2 r) :
    hostFrame cmd fr s = wake (answer fr.port.val r s2) := by
  rw [hostFrame_free cmd f fr s h.1 h.2.1 h.2.2.1, he]

/-- A request whose execution leaves the ports alone. -/
theorem frameDone_of {cmd : Nat} {f : Facet} {fr : Frame} {s : State} (s2 : State) {u : State} {r : Reply} (h : ready cmd f fr s)
    (he : execFrame cmd f fr.port fr (portWord s fr.port.val) (heard fr s) = .reply s2 r)
    (hp : s2.port = (heard fr s).port) (hu : aside s s2 = u) : frameDone s (hostFrame cmd fr s) fr r u := by
  rw [hostFrame_done h he]
  exact ⟨answered_heard fr r s s2 hp, by rw [wake_aside, answer_aside, hu]⟩

end Sys2Proof.Laws
end

