-- ==== Sys2Proof/Laws/Events.lean ====
section
/-! SUPPORT. What raising events can change: the queues and EVT_LOST of facets, the sequence numbers and the log rings. -/

namespace Sys2Proof.Laws

open Sys2Proof Sys2Proof.Machine Sys2Proof.Safety

theorem vget_vmap {α β : Type} {n : Nat} (v : Vector α n) (g : Nat → α → β) (i : Nat) (d : α) (e : β) (h : i < n) :
    vget (vmap v g) i e = g i (vget v i d) := by
  simp [vget, vmap, h]

theorem vget_out {α : Type} {n : Nat} (v : Vector α n) (i : Nat) (d : α) (h : ¬ i < n) : vget v i d = d := by
  simp [vget, h]

/-- An event changes the facets' queues and the store's event log, and nothing else. -/
theorem eventsAside_emit (e : Ev) (s t : State) : eventsAside s (emit e t) = eventsAside s t := by
  unfold emit; split <;> rfl

theorem eventsAside_self (s : State) : eventsAside s s = s := rfl

theorem eventsAside_emitAll (es : List Ev) (s t : State) : eventsAside s (emitAll es t) = eventsAside s t := by
  induction es generalizing t with
  | nil => rfl
  | cons e es ih => exact (ih (emit e t)).trans (eventsAside_emit e s t)

theorem queueRec_quiet (s : State) (m : Nat) (r : EvRec) (f : Nat) :
    quietFacet (vget (queueRec s m r) f FacetSt.zero) = quietFacet (vget s.fac f FacetSt.zero) := by
  by_cases h : f < 5
  · rw [queueRec, vget_vmap _ _ _ FacetSt.zero _ h]
    split
    · split <;> rfl
    · rfl
  · rw [vget_out _ _ _ h, vget_out _ _ _ h]

theorem facet_emit (e : Ev) (s : State) (f : Nat) : quietFacet (facet (emit e s) f) = quietFacet (facet s f) := by
  unfold emit
  split
  · rfl
  · unfold facet queueEv
    simp only
    split
    · exact queueRec_quiet s _ _ f
    · rfl

theorem facet_emitAll (es : List Ev) (s : State) (f : Nat) : quietFacet (facet (emitAll es s) f) = quietFacet (facet s f) := by
  induction es generalizing s with
  | nil => rfl
  | cons e es ih => exact (ih (emit e s)).trans (facet_emit e s f)

/-- An event for other facets leaves a facet as it was. -/
theorem facet_queueEv_other (e : Ev) (s : State) (f : Nat) (h : nbit e.who f = false) : facet (queueEv e s) f = facet s f := by
  unfold facet queueEv
  simp only
  split
  · by_cases hf : f < 5
    · have hm : nbit (recipients s e) f = false := by
        have : ∀ n (p : Nat → Bool), (∀ i, p i = true → i ≠ f) → nbit (maskOf n p) f = false := by
          intro n p hp
          have key : ∀ n, nbit (maskOf n p) f = false ∧ maskOf n p < 2 ^ n := by
            intro n
            induction n with
            | zero => simp [maskOf, nbit]
            | succ n ih =>
              have e1 : maskOf (n + 1) p = if p n then maskOf n p + 2 ^ n else maskOf n p := by
                simp [maskOf, List.range_succ, List.foldl_append]
              rw [e1]
              split
              · rename_i hpn
                have hne := hp n hpn
                refine ⟨?_, by have := ih.2; rw [Nat.pow_succ]; omega⟩
                have e2 : maskOf n p + 2 ^ n = 2 ^ n ||| maskOf n p := by
                  rw [Nat.add_comm]
                  have := Nat.two_pow_add_eq_or_of_lt ih.2 1
                  simpa using this
                rw [nbit, e2, Nat.testBit_or, Nat.testBit_two_pow_of_ne hne]
                simpa [nbit] using ih.1
              · exact ⟨ih.1, by have := ih.2; rw [Nat.pow_succ]; omega⟩
          exact (key n).1
        unfold recipients who
        refine this 5 _ ?_
        intro i hi he
        subst he
        simp [h] at hi
      rw [queueRec, vget_vmap _ _ _ FacetSt.zero _ hf, hm]
      rfl
    · rw [vget_out _ _ _ hf, vget_out _ _ _ hf]
  · rfl

theorem facet_emit_other (e : Ev) (s : State) (f : Nat) (h : nbit e.who f = false) : facet (emit e s) f = facet s f := by
  unfold emit; split
  · rfl
  · exact facet_queueEv_other e s f h

theorem facet_emitAll_other (es : List Ev) (s : State) (f : Nat) (h : ∀ e ∈ es, nbit e.who f = false) :
    facet (emitAll es s) f = facet s f := by
  induction es generalizing s with
  | nil => rfl
  | cons e es ih =>
    exact (ih (emit e s) fun x hx => h x (by simp [hx])).trans (facet_emit_other e s f (h e (by simp)))

end Sys2Proof.Laws
end

