-- ==== Sys2Proof/Laws/LoaderParts.lean ====
section
/-! SUPPORT. The security store, the states of the image banks and the queue of commands: what leaves them alone, operation by
operation. -/

namespace Sys2Proof.Machine

open Sys2Proof Sys2Proof.Laws

/-- The security store, the image banks and the queue of commands. -/
def State.loaderPart (s : State) : Sec × Vector Bank 2 × List Instr := (s.sec, s.img.banks, s.pending)

@[simp] theorem loaderPart_mk (aon cfg cfgR str img sec fac port cyc pwc sto whl met nrg pq flw sdi chd bat dsp saf pub pending) :
    State.loaderPart ⟨aon, cfg, cfgR, str, img, sec, fac, port, cyc, pwc, sto, whl, met, nrg, pq, flw, sdi, chd, bat, dsp, saf, pub, pending⟩
      = (sec, img.banks, pending) := rfl

@[simp] theorem loaderPart_fold (s : State) : (s.sec, s.img.banks, s.pending) = s.loaderPart := rfl

@[simp] theorem foldl_loaderPart {β : Type} (l : List β) (g : State → β → State) (h : ∀ a x, (g a x).loaderPart = a.loaderPart)
    (s : State) : (l.foldl g s).loaderPart = s.loaderPart := by
  induction l generalizing s with
  | nil => rfl
  | cons x xs ih => simp [ih, h]

@[simp] theorem queueEv_loaderPart (e : Ev) (s : State) : (queueEv e s).loaderPart = s.loaderPart := by exact rfl
@[simp] theorem emit_loaderPart (e : Ev) (s : State) : (emit e s).loaderPart = s.loaderPart := by
  simp only [emit]; (repeat' split) <;> simp
@[simp] theorem emitAll_loaderPart (es : List Ev) (s : State) : (emitAll es s).loaderPart = s.loaderPart := by simp [emitAll]
@[simp] theorem flushEvents_loaderPart (s : State) : (flushEvents s).loaderPart = s.loaderPart := by simp [flushEvents]
@[simp] theorem forceRecord_loaderPart (u : Nat) (s : State) : (forceRecord u s).loaderPart = s.loaderPart := by exact rfl
@[simp] theorem clearFaults_loaderPart (u : Nat) (s : State) : (clearFaults u s).loaderPart = s.loaderPart := by exact rfl
@[simp] theorem markDf_loaderPart (c : Bool) (cause : Nat × Nat) (s : State) : (markDf c cause s).loaderPart = s.loaderPart := by
  unfold markDf; split <;> simp
@[simp] theorem seen_loaderPart (s : State) : (seen s).loaderPart = s.loaderPart := by
  simp only [seen]; (repeat' split) <;> simp
theorem inRound_loaderPart (f : State → State) (h : ∀ a, (f a).loaderPart = a.loaderPart) (s : State) : (inRound f s).loaderPart = s.loaderPart := by
  unfold inRound; split
  · exact h s
  · exact (h _).trans rfl
@[simp] theorem publishBank_loaderPart (s : State) : (publishBank s).loaderPart = s.loaderPart := by simp [publishBank]
@[simp] theorem commitDue_loaderPart (k : CommitKind) (s : State) : (commitDue k s).loaderPart = s.loaderPart := by exact rfl
@[simp] theorem modBoundary_loaderPart (v : Vector ChanIn 8) (s : State) : (modBoundary v s).loaderPart = s.loaderPart := by exact rfl
@[simp] theorem metRound_loaderPart (s : State) : (metRound s).loaderPart = s.loaderPart := by simp [metRound]
@[simp] theorem auxRound_loaderPart (had : Bool) (s : State) : (auxRound had s).loaderPart = s.loaderPart := by
  simp only [auxRound]; (repeat' split) <;> simp
@[simp] theorem chanForce_loaderPart (k : Nat) (s : State) : (chanForce k s).loaderPart = s.loaderPart := by exact rfl
@[simp] theorem pilotForce_loaderPart (k : Nat) (s : State) : (pilotForce k s).loaderPart = s.loaderPart := by
  simp only [pilotForce]; (repeat' split) <;> simp
@[simp] theorem auxUpdate_loaderPart (s : State) : (auxUpdate s).loaderPart = s.loaderPart := by
  unfold auxUpdate; split <;> simp
@[simp] theorem pilotSecond_loaderPart (die : Int) (s : State) : (pilotSecond die s).loaderPart = s.loaderPart := by simp [pilotSecond]
@[simp] theorem modStart_loaderPart (s : State) : (modStart s).loaderPart = s.loaderPart := by exact rfl
@[simp] theorem modStop_loaderPart (s : State) : (modStop s).loaderPart = s.loaderPart := by exact rfl
@[simp] theorem afeRestart_loaderPart (mask : Nat) (s : State) : (afeRestart mask s).loaderPart = s.loaderPart := by simp [afeRestart]
@[simp] theorem takeSamples_loaderPart (had : Nat → Bool) (s : State) : (takeSamples had s).loaderPart = s.loaderPart := by exact rfl
@[simp] theorem renewPhasors_loaderPart (s : State) : (renewPhasors s).loaderPart = s.loaderPart := by exact rfl
@[simp] theorem creepRound_loaderPart (s : State) : (creepRound s).loaderPart = s.loaderPart := by simp [creepRound]
@[simp] theorem energyRound_loaderPart (s : State) : (energyRound s).loaderPart = s.loaderPart := by simp [energyRound]
@[simp] theorem gatesSet_loaderPart (s : State) : (gatesSet s).loaderPart = s.loaderPart := by exact rfl
@[simp] theorem publish_loaderPart (freq : Nat) (ftag : Tag) (s : State) : (publish freq ftag s).loaderPart = s.loaderPart := by exact rfl
@[simp] theorem cfEvent_loaderPart (n cyc : Nat) (s : State) : (cfEvent n cyc s).loaderPart = s.loaderPart := by
  simp only [cfEvent]; (repeat' split) <;> simp
@[simp] theorem cfBacklog_loaderPart (n cyc : Nat) (s : State) : (cfBacklog n cyc s).loaderPart = s.loaderPart := by
  simp only [cfBacklog]; (repeat' split) <;> simp
@[simp] theorem cfEnd_loaderPart (n cyc : Nat) (s : State) : (cfEnd n cyc s).loaderPart = s.loaderPart := by
  simp only [cfEnd]; (repeat' split) <;> simp
@[simp] theorem setPq_loaderPart (s : State) (q : Pq) : (setPq s q).loaderPart = s.loaderPart := by exact rfl
@[simp] theorem enterFallback_loaderPart (cause : Nat) (s : State) : (enterFallback cause s).loaderPart = s.loaderPart := by
  unfold enterFallback; split <;> simp
@[simp] theorem sourceRound_loaderPart (s : State) : (sourceRound s).loaderPart = s.loaderPart := by
  simp only [sourceRound]; (repeat' split) <;> simp
@[simp] theorem cycleEnd_loaderPart (src : Nat) (len : Rat) (s : State) : (cycleEnd src len s).loaderPart = s.loaderPart := by
  simp only [cycleEnd]; (repeat' split) <;> simp
@[simp] theorem loopRound_loaderPart (s : State) : (loopRound s).1.loaderPart = s.loaderPart := by
  unfold loopRound
  extract_lets n per ac s3 now
  have h3 : s3.loaderPart = s.loaderPart := by
    simp only [s3, ac]
    split
    · rfl
    · split
      · split <;> simp
      · split
        · split <;> simp
        · simp
  split
  · exact h3
  · exact h3
@[simp] theorem windowEnd_loaderPart (s : State) : (windowEnd s).loaderPart = s.loaderPart := by exact rfl
@[simp] theorem cycleRound_loaderPart (len : Rat) (s : State) : (cycleRound len s).loaderPart = s.loaderPart := by
  simp only [cycleRound]; (repeat' split) <;> simp
@[simp] theorem endSupply_loaderPart (t j at_ : Nat) (trunc lost : Bool) (s : State) : (endSupply t j at_ trunc lost s).loaderPart = s.loaderPart := by
  simp only [endSupply]; (repeat' split) <;> simp
@[simp] theorem startSupply_loaderPart (t j : Nat) (chs u ch : Nat) (late : Bool) (s : State) : (startSupply t j chs u ch late s).loaderPart = s.loaderPart := by
  simp only [startSupply]; (repeat' split) <;> simp
@[simp] theorem supplyEndAll_loaderPart (s : State) : (supplyEndAll s).loaderPart = s.loaderPart := foldl_loaderPart _ _ (fun a i => by split <;> simp) _
@[simp] theorem supplyStartAll_loaderPart (late : Bool) (s : State) : (supplyStartAll late s).loaderPart = s.loaderPart := foldl_loaderPart _ _ (fun a i => by
    simp only []; (repeat' split) <;> simp) _
@[simp] theorem supplyTrack_loaderPart (s : State) : (supplyTrack s).loaderPart = s.loaderPart := by exact rfl
@[simp] theorem halfRound_loaderPart (back : Nat) (s : State) : (halfRound back s).loaderPart = s.loaderPart := by
  simp only [halfRound]; (repeat' split) <;> simp
@[simp] theorem markFallback_loaderPart (s : State) : (markFallback s).loaderPart = s.loaderPart := by
  simp only [markFallback]; (repeat' split) <;> simp
@[simp] theorem truncateSupply_loaderPart (s : State) : (truncateSupply s).loaderPart = s.loaderPart := foldl_loaderPart _ _ (fun a i => by simp) _
@[simp] theorem pqConfigTakes_loaderPart (s : State) : (pqConfigTakes s).loaderPart = s.loaderPart := by
  simp only [pqConfigTakes]; (repeat' split) <;> simp
@[simp] theorem pqRound_loaderPart (s : State) : (pqRound s).1.loaderPart = s.loaderPart := by
  simp only [pqRound]; (repeat' split) <;> simp
@[simp] theorem tenSeconds_loaderPart (s : State) : (tenSeconds s).loaderPart = s.loaderPart := by
  unfold tenSeconds; split <;> simp
@[simp] theorem pqClear_loaderPart (s : State) : (pqClear s).loaderPart = s.loaderPart := by exact rfl
@[simp] theorem setPath_loaderPart (p : Nat) (f : FPath → FPath) (s : State) : (setPath p f s).loaderPart = s.loaderPart := by exact rfl
@[simp] theorem calLeft_loaderPart (p : Nat) (s : State) : (calLeft p s).loaderPart = s.loaderPart := by
  simp only [calLeft]; (repeat' split) <;> simp
@[simp] theorem pathStart_loaderPart (p : Nat) (s : State) : (pathStart p s).loaderPart = s.loaderPart := by exact rfl
@[simp] theorem pathStop_loaderPart (p : Nat) (m : Mgmt) (s : State) : (pathStop p m s).loaderPart = s.loaderPart := by
  simp only [pathStop]; (repeat' split) <;> simp
@[simp] theorem pathBack_loaderPart (p : Nat) (s : State) : (pathBack p s).loaderPart = s.loaderPart := by
  simp only [pathBack]; (repeat' split) <;> simp
@[simp] theorem refCheck_loaderPart (p : Nat) (s : State) : (refCheck p s).loaderPart = s.loaderPart := by
  simp only [refCheck]; (repeat' split) <;> simp
@[simp] theorem shotDue_loaderPart (p : Nat) (up : Bool) (s : State) : (shotDue p up s).loaderPart = s.loaderPart := by exact rfl
@[simp] theorem shotFire_loaderPart (i : FireIn) (s : State) : (shotFire i s).loaderPart = s.loaderPart := by
  simp only [shotFire]; (repeat' split) <;> simp
@[simp] theorem captureClose_loaderPart (s : State) : (captureClose s).loaderPart = s.loaderPart := by exact rfl
@[simp] theorem shotEvaluated_loaderPart (p : Nat) (up : Bool) (c : Capture) (s : State) : (shotEvaluated p up c s).loaderPart = s.loaderPart := by
  simp only [shotEvaluated]; (repeat' split) <;> simp
@[simp] theorem upShotDue_loaderPart (p : Nat) (s : State) : (upShotDue p s).loaderPart = s.loaderPart := by
  simp only [upShotDue]; (repeat' split) <;> simp
@[simp] theorem volRound_loaderPart (bad : List Nat) (s : State) : (volRound bad s).loaderPart = s.loaderPart := by
  unfold volRound; exact (foldl_loaderPart _ _ (fun a i => by exact rfl) _).trans rfl
@[simp] theorem pendInc_loaderPart (i : VolInc) (s : State) : (pendInc i s).loaderPart = s.loaderPart := by
  unfold pendInc; split <;> simp
@[simp] theorem volUnmeasured_loaderPart (v fx : Nat) (s : State) : (volUnmeasured v fx s).loaderPart = s.loaderPart := by
  unfold volUnmeasured; split <;> simp
@[simp] theorem pairDue_loaderPart (s : State) : (pairDue s).loaderPart = s.loaderPart := by
  unfold pairDue; split <;> simp
@[simp] theorem outcome_loaderPart (p at_ : Nat) (assign : Bool) (f : FlowCfg) (cause : Nat) (res : Option (Vals × Nat × Word)) (s : State) : (outcome p at_ assign f cause res s).loaderPart = s.loaderPart := by simp [outcome]
@[simp] theorem combine_loaderPart (p at_ : Nat) (before : FPath) (parts : Parts) (s : State) : (combine p at_ before parts s).loaderPart = s.loaderPart := by
  simp only [combine]; (repeat' split) <;> simp
@[simp] theorem calEnd_loaderPart (status : Nat) (value : Word) (s : State) : (calEnd status value s).loaderPart = s.loaderPart := by simp [calEnd]
@[simp] theorem calStart_loaderPart (cmd path n16 : Nat) (leader : Bool) (s : State) : (calStart cmd path n16 leader s).loaderPart = s.loaderPart := by
  simp only [calStart]; (repeat' split) <;> simp
@[simp] theorem learnDone_loaderPart (p : Nat) (s : State) : (learnDone p s).loaderPart = s.loaderPart := by simp [learnDone]
@[simp] theorem calOutcome_loaderPart (p : Nat) (valid assign : Bool) (corr : Rat) (wave : List Rat) (s : State) : (calOutcome p valid assign corr wave s).loaderPart = s.loaderPart := by
  simp only [calOutcome]; (repeat' split) <;> simp
@[simp] theorem pairAttempt_loaderPart (p : Nat) (s : State) : (pairAttempt p s).loaderPart = s.loaderPart := by
  simp only [pairAttempt]; (repeat' split) <;> simp
@[simp] theorem pairOutcome_loaderPart (p : Nat) (s : State) : (pairOutcome p s).loaderPart = s.loaderPart := by
  simp only [pairOutcome]; (repeat' split) <;> simp
@[simp] theorem abortPair_loaderPart (p : Nat) (s : State) : (abortPair p s).loaderPart = s.loaderPart := by
  unfold abortPair; split <;> simp
@[simp] theorem flowReject_loaderPart (p : Nat) (s : State) : (flowReject p s).loaderPart = s.loaderPart := by exact rfl
@[simp] theorem flowWrite_loaderPart (off : Nat) (v : Word) (s : State) : (flowWrite off v s).loaderPart = s.loaderPart := by
  simp only [flowWrite]; (repeat' split) <;> simp
@[simp] theorem flowRestart_loaderPart (path : Nat) (s : State) : (flowRestart path s).loaderPart = s.loaderPart := by
  simp only [flowRestart]; (repeat' split) <;> simp
@[simp] theorem setSlot_loaderPart (k : Nat) (f : SdiSlot → SdiSlot) (s : State) : (setSlot k f s).loaderPart = s.loaderPart := by exact rfl
@[simp] theorem sdiSend_loaderPart (first : Bool) (t : SdiTxn) (s : State) : (sdiSend first t s).loaderPart = s.loaderPart := by
  simp only [sdiSend]; (repeat' split) <;> simp
@[simp] theorem sdiRelease_loaderPart (s : State) : (sdiRelease s).loaderPart = s.loaderPart := by exact rfl
@[simp] theorem sdiFail_loaderPart (k r : Nat) (s : State) : (sdiFail k r s).loaderPart = s.loaderPart := by simp [sdiFail]
@[simp] theorem sdiEnd_loaderPart (k n : Nat) (vs : List Rat) (s : State) : (sdiEnd k n vs s).loaderPart = s.loaderPart := by simp [sdiEnd]
@[simp] theorem shotEnd_loaderPart (r : Nat) (l : List Byte) (s : State) : (shotEnd r l s).loaderPart = s.loaderPart := by exact rfl
@[simp] theorem sdiRetry_loaderPart (t : SdiTxn) (s : State) : (sdiRetry t s).loaderPart = s.loaderPart := by
  simp only [sdiRetry]; (repeat' split) <;> simp
@[simp] theorem sdiData_loaderPart (t : SdiTxn) (n : Nat) (s : State) : (sdiData t n s).loaderPart = s.loaderPart := by
  simp only [sdiData]; (repeat' split) <;> simp
@[simp] theorem sdiResponse_loaderPart (l : SdiLine) (s : State) : (sdiResponse l s).loaderPart = s.loaderPart := by
  simp only [sdiResponse]; (repeat' split) <;> simp
@[simp] theorem sdiTimeout_loaderPart (some_ : Bool) (s : State) : (sdiTimeout some_ s).loaderPart = s.loaderPart := by
  simp only [sdiTimeout]; (repeat' split) <;> simp
@[simp] theorem sdiService_loaderPart (addr : Byte) (s : State) : (sdiService addr s).loaderPart = s.loaderPart := by
  simp only [sdiService]; (repeat' split) <;> simp
@[simp] theorem sdiDataDue_loaderPart (k : Nat) (s : State) : (sdiDataDue k s).loaderPart = s.loaderPart := by
  simp only [sdiDataDue, sdiDataDue.dueConc]; (repeat' split) <;> simp
@[simp] theorem slotDue_loaderPart (k : Nat) (s : State) : (slotDue k s).loaderPart = s.loaderPart := by
  simp only [slotDue]; (repeat' split) <;> simp
@[simp] theorem sdiStart_loaderPart (s : State) : (sdiStart s).loaderPart = s.loaderPart := by
  simp only [sdiStart]; (repeat' split) <;> simp
@[simp] theorem sdpSettled_loaderPart (s : State) : (sdpSettled s).loaderPart = s.loaderPart := by
  simp only [sdpSettled]; (repeat' split) <;> simp
@[simp] theorem sdiShot_loaderPart (cmd addr : Nat) (s : State) : (sdiShot cmd addr s).loaderPart = s.loaderPart := by exact rfl
@[simp] theorem sdiStale_loaderPart (k j : Nat) (s : State) : (sdiStale k j s).loaderPart = s.loaderPart := by
  unfold sdiStale; split <;> simp
@[simp] theorem sdiHalt_loaderPart (s : State) : (sdiHalt s).loaderPart = s.loaderPart := by exact rfl
@[simp] theorem sdiCfgWrite_loaderPart (v : Word) (s : State) : (sdiCfgWrite v s).loaderPart = s.loaderPart := by
  simp only [sdiCfgWrite]; (repeat' split) <;> simp
@[simp] theorem slotWrite_loaderPart (k : Nat) (off : Nat) (v : Word) (s : State) : (slotWrite k off v s).loaderPart = s.loaderPart := by
  simp only [slotWrite]; (repeat' split) <;> simp
@[simp] theorem setChd_loaderPart (f : Chd → Chd) (s : State) : (setChd f s).loaderPart = s.loaderPart := by exact rfl
@[simp] theorem linkState_loaderPart (m : Mgmt) (cause : Nat) (s : State) : (linkState m cause s).loaderPart = s.loaderPart := by
  unfold linkState; split <;> simp
@[simp] theorem linkEnter_loaderPart (cause : Nat) (s : State) : (linkEnter cause s).loaderPart = s.loaderPart := by simp [linkEnter]
@[simp] theorem linkFault_loaderPart (cause : Nat) (s : State) : (linkFault cause s).loaderPart = s.loaderPart := by simp [linkFault]
@[simp] theorem linkDiscard_loaderPart (kind : Nat) (s : State) : (linkDiscard kind s).loaderPart = s.loaderPart := by
  simp only [linkDiscard]; (repeat' split) <;> simp
@[simp] theorem linkComplete_loaderPart (s : State) : (linkComplete s).loaderPart = s.loaderPart := by
  simp only [linkComplete]; (repeat' split) <;> simp
@[simp] theorem copyLapse_loaderPart (s : State) : (copyLapse s).loaderPart = s.loaderPart := by
  simp only [copyLapse]; (repeat' split) <;> simp
@[simp] theorem linkMissing_loaderPart (s : State) : (linkMissing s).loaderPart = s.loaderPart := by
  simp only [linkMissing]; (repeat' split) <;> simp
@[simp] theorem offsetTake_loaderPart (th d : Rat) (at_ : Nat) (s : State) : (offsetTake th d at_ s).loaderPart = s.loaderPart := by
  simp only [offsetTake]; (repeat' split) <;> simp
@[simp] theorem levelStale_loaderPart (st : Bool) (s : State) : (levelStale st s).loaderPart = s.loaderPart := by
  unfold levelStale; split <;> simp
@[simp] theorem bankPairNew_loaderPart (s : State) : (bankPairNew s).loaderPart = s.loaderPart := by
  unfold bankPairNew; split <;> simp
@[simp] theorem shotStart_loaderPart (i : FireIn) (s : State) : (shotStart i s).loaderPart = s.loaderPart := by
  simp only [shotStart]; (repeat' split) <;> simp
@[simp] theorem bankShot_loaderPart (i : BankIn) (s : State) : (bankShot i s).loaderPart = s.loaderPart := by
  have h : ∀ (c : Bool) (x : Flw) (t : State), (if c then t else { t with flw := x }).loaderPart = t.loaderPart := by
    intro c x t; split <;> rfl
  unfold bankShot; split
  · rfl
  · exact (h _ _ _).trans rfl
@[simp] theorem publishAcoustic_loaderPart (v : Vals) (s : State) : (publishAcoustic v s).loaderPart = s.loaderPart := by exact rfl
@[simp] theorem bankOutcome_loaderPart (s : State) : (bankOutcome s).loaderPart = s.loaderPart := by
  simp only [bankOutcome]; (repeat' split) <;> simp
@[simp] theorem abortBank_loaderPart (s : State) : (abortBank s).loaderPart = s.loaderPart := by
  unfold abortBank; split <;> simp
@[simp] theorem followerTrack_loaderPart (outc : Nat) (s : State) : (followerTrack outc s).loaderPart = s.loaderPart := by
  simp only [followerTrack]; (repeat' split) <;> simp
@[simp] theorem closeBankInterval_loaderPart (s : State) : (closeBankInterval s).loaderPart = s.loaderPart := by simp [closeBankInterval]
@[simp] theorem swapToFollower_loaderPart (s : State) : (swapToFollower s).loaderPart = s.loaderPart := by simp [swapToFollower]
@[simp] theorem takeLead_loaderPart (ep : Nat) (s : State) : (takeLead ep s).loaderPart = s.loaderPart := by exact rfl
@[simp] theorem openCycle_loaderPart (t1 : Nat) (s : State) : (openCycle t1 s).loaderPart = s.loaderPart := by
  simp only [openCycle]; (repeat' split) <;> simp
@[simp] theorem linkCycle_loaderPart (t1 : Nat) (s : State) : (linkCycle t1 s).loaderPart = s.loaderPart := by
  simp only [linkCycle]; (repeat' split) <;> simp
@[simp] theorem roleRevert_loaderPart (s : State) : (roleRevert s).loaderPart = s.loaderPart := by
  simp only [roleRevert]; (repeat' split) <;> simp
@[simp] theorem linkReply_loaderPart (t3 : Nat) (s : State) : (linkReply t3 s).loaderPart = s.loaderPart := by
  unfold linkReply; split <;> simp
@[simp] theorem linkArrive_loaderPart (s : State) : (linkArrive s).loaderPart = s.loaderPart := by
  simp only [linkArrive]; (repeat' split) <;> simp
@[simp] theorem takeSync_loaderPart (b : List Byte) (stamp : Nat) (s : State) : (takeSync b stamp s).loaderPart = s.loaderPart := by
  simp only [takeSync]; (repeat' split) <;> simp
@[simp] theorem takeReply_loaderPart (b : List Byte) (stamp : Nat) (s : State) : (takeReply b stamp s).loaderPart = s.loaderPart := by
  simp only [takeReply]; (repeat' split) <;> simp
@[simp] theorem takeArrive_loaderPart (b : List Byte) (s : State) : (takeArrive b s).loaderPart = s.loaderPart := by
  simp only [takeArrive]; (repeat' split) <;> simp
@[simp] theorem twoLeaders_loaderPart (b : List Byte) (stamp : Nat) (s : State) : (twoLeaders b stamp s).loaderPart = s.loaderPart := by
  simp only [twoLeaders]; (repeat' split) <;> simp
@[simp] theorem rxTake_loaderPart (s : State) : (rxTake s).loaderPart = s.loaderPart := by
  simp only [rxTake]; (repeat' split) <;> simp
@[simp] theorem linkReceive_loaderPart (i : LinkIn) (s0 : State) : (linkReceive i s0).loaderPart = s0.loaderPart := by
  have h : ∀ (p : Prop) [Decidable p], (if p then rxTake s0 else s0).loaderPart = s0.loaderPart := fun p _ => by split <;> simp
  simp only [linkReceive, apply_ite State.loaderPart]; simp [h]
@[simp] theorem linkMiss_loaderPart (typ : Nat) (s : State) : (linkMiss typ s).loaderPart = s.loaderPart := by
  unfold linkMiss; split <;> simp
@[simp] theorem linkHoldExpiry_loaderPart (s : State) : (linkHoldExpiry s).loaderPart = s.loaderPart := by
  unfold linkHoldExpiry; split <;> simp
@[simp] theorem linkRestart_loaderPart (s : State) : (linkRestart s).loaderPart = s.loaderPart := by
  unfold linkRestart; split <;> simp
@[simp] theorem chdWrite_loaderPart (off : Nat) (v : Word) (s : State) : (chdWrite off v s).loaderPart = s.loaderPart := by
  simp only [chdWrite]; (repeat' split) <;> simp
@[simp] theorem setBat_loaderPart (f : Bat → Bat) (s : State) : (setBat f s).loaderPart = s.loaderPart := by exact rfl
@[simp] theorem batEnter_loaderPart (s : State) : (batEnter s).loaderPart = s.loaderPart := by exact rfl
@[simp] theorem estimate_loaderPart (emptied : Bool) (s : State) : (estimate emptied s).loaderPart = s.loaderPart := by exact rfl
@[simp] theorem batAnchor_loaderPart (kind : Nat) (soc : Rat) (mark : Bool) (s : State) : (batAnchor kind soc mark s).loaderPart = s.loaderPart := by simp [batAnchor]
@[simp] theorem anchorsDue_loaderPart (s : State) : (anchorsDue s).loaderPart = s.loaderPart := by
  simp only [anchorsDue]; (repeat' split) <;> simp
@[simp] theorem estimates_loaderPart (s : State) : (estimates s).loaderPart = s.loaderPart := by
  simp only [estimates]; (repeat' split) <;> simp
@[simp] theorem batLow_loaderPart (s : State) : (batLow s).loaderPart = s.loaderPart := by simp [batLow]
@[simp] theorem batRuns_loaderPart (s : State) : (batRuns s).loaderPart = s.loaderPart := by exact rfl
@[simp] theorem batCharge_loaderPart (q u im dt : Rat) (s : State) : (batCharge q u im dt s).loaderPart = s.loaderPart := by simp [batCharge]
@[simp] theorem takeVT_loaderPart (x : GaugeVT) (s : State) : (takeVT x s).loaderPart = s.loaderPart := by exact rfl
@[simp] theorem presence_loaderPart (s : State) : (presence s).loaderPart = s.loaderPart := by
  simp only [presence]; (repeat' split) <;> simp
@[simp] theorem batRun_loaderPart (s : State) : (batRun s).loaderPart = s.loaderPart := by
  unfold batRun; split <;> simp
@[simp] theorem gaugeFrame_loaderPart (i : GaugeIn) (s : State) : (gaugeFrame i s).loaderPart = s.loaderPart := by
  simp only [gaugeFrame]; (repeat' split) <;> simp
@[simp] theorem absentSample_loaderPart (x : GaugeVT) (s : State) : (absentSample x s).loaderPart = s.loaderPart := by
  simp only [absentSample]; (repeat' split) <;> simp
@[simp] theorem gaugeSample_loaderPart (i : GaugeIn) (s : State) : (gaugeSample i s).loaderPart = s.loaderPart := by
  simp only [gaugeSample]; (repeat' split) <;> simp
@[simp] theorem gaugeTrip_loaderPart (s : State) : (gaugeTrip s).loaderPart = s.loaderPart := by
  unfold gaugeTrip; split <;> simp
@[simp] theorem gaugeTimeout_loaderPart (s : State) : (gaugeTimeout s).loaderPart = s.loaderPart := by
  unfold gaugeTimeout; split <;> simp
@[simp] theorem newCell_loaderPart (s : State) : (newCell s).loaderPart = s.loaderPart := by
  unfold newCell; split <;> simp
@[simp] theorem batRestart_loaderPart (s : State) : (batRestart s).loaderPart = s.loaderPart := by
  unfold batRestart; split <;> simp
@[simp] theorem batWrite_loaderPart (off : Nat) (v : Word) (s : State) : (batWrite off v s).loaderPart = s.loaderPart := by
  simp only [batWrite]; (repeat' split) <;> simp
@[simp] theorem supplyCount_loaderPart (src : Nat) (s : State) : (supplyCount src s).loaderPart = s.loaderPart := by exact rfl
@[simp] theorem supplyChange_loaderPart (src : Nat) (s : State) : (supplyChange src s).loaderPart = s.loaderPart := by simp [supplyChange]
@[simp] theorem fmLand_loaderPart (passed : Bool) (s : State) : (fmLand passed s).loaderPart = s.loaderPart := by
  unfold fmLand; split <;> simp
@[simp] theorem fmLandAll_loaderPart (s : State) : (fmLandAll s).loaderPart = s.loaderPart := by simp [fmLandAll]
@[simp] theorem setDsp_loaderPart (f : Dsp → Dsp) (s : State) : (setDsp f s).loaderPart = s.loaderPart := by exact rfl
@[simp] theorem dspStart_loaderPart (cause : Nat) (s : State) : (dspStart cause s).loaderPart = s.loaderPart := by simp [dspStart]
@[simp] theorem dspStop_loaderPart (cause : Nat) (s : State) : (dspStop cause s).loaderPart = s.loaderPart := by
  simp only [dspStop]; (repeat' split) <;> simp
@[simp] theorem dspEval_loaderPart (start stop : Nat) (s : State) : (dspEval start stop s).loaderPart = s.loaderPart := by
  simp only [dspEval]; (repeat' split) <;> simp
@[simp] theorem dspDown_loaderPart (s : State) : (dspDown s).loaderPart = s.loaderPart := by
  simp only [dspDown]; (repeat' split) <;> simp
@[simp] theorem emergencyStop_loaderPart (s : State) : (emergencyStop s).loaderPart = s.loaderPart := by
  unfold emergencyStop; split <;> simp
@[simp] theorem railFaulted_loaderPart (rails cause : Nat) (s : State) : (railFaulted rails cause s).loaderPart = s.loaderPart := by
  unfold railFaulted; split <;> simp
@[simp] theorem glanceStart_loaderPart (cause : Nat) (s : State) : (glanceStart cause s).loaderPart = s.loaderPart := by
  simp only [glanceStart]; (repeat' split) <;> simp
@[simp] theorem glanceExpiry_loaderPart (s : State) : (glanceExpiry s).loaderPart = s.loaderPart := by
  simp only [glanceExpiry]; (repeat' split) <;> simp
@[simp] theorem glanceBattery_loaderPart (s : State) : (glanceBattery s).loaderPart = s.loaderPart := by
  unfold glanceBattery; split <;> simp
@[simp] theorem dspVmainLost_loaderPart (s : State) : (dspVmainLost s).loaderPart = s.loaderPart := by
  unfold dspVmainLost; split <;> simp
@[simp] theorem legalRender_loaderPart (s : State) : (legalRender s).loaderPart = s.loaderPart := by
  simp only [legalRender]; (repeat' split) <;> simp
@[simp] theorem legalSecond_loaderPart (s : State) : (legalSecond s).loaderPart = s.loaderPart := by
  simp only [legalSecond]; (repeat' split) <;> simp
@[simp] theorem dwellStart_loaderPart (s : State) : (dwellStart s).loaderPart = s.loaderPart := by exact rfl
@[simp] theorem dwellEnds_loaderPart (s : State) : (dwellEnds s).loaderPart = s.loaderPart := by
  unfold dwellEnds; split <;> simp
@[simp] theorem itemStep_loaderPart (s : State) : (itemStep s).loaderPart = s.loaderPart := by
  simp only [itemStep]; (repeat' split) <;> simp
@[simp] theorem frameTakes_loaderPart (s : State) : (frameTakes s).loaderPart = s.loaderPart := by exact rfl
@[simp] theorem frameExp_loaderPart (s : State) : (frameExp s).loaderPart = s.loaderPart := by exact rfl
@[simp] theorem dspRun_loaderPart (s : State) : (dspRun s).loaderPart = s.loaderPart := by simp [dspRun]
@[simp] theorem frameStart_loaderPart (s : State) : (frameStart s).loaderPart = s.loaderPart := by
  simp only [frameStart]; (repeat' split) <;> simp
@[simp] theorem railGood_loaderPart (rail : Nat) (s : State) : (railGood rail s).loaderPart = s.loaderPart := by
  simp only [railGood]; (repeat' split) <;> simp
@[simp] theorem railStop_loaderPart (s : State) : (railStop s).loaderPart = s.loaderPart := by
  simp only [railStop]; (repeat' split) <;> simp
@[simp] theorem dspDischarged_loaderPart (s : State) : (dspDischarged s).loaderPart = s.loaderPart := by
  unfold dspDischarged; split <;> simp
@[simp] theorem emsPeriod_loaderPart (level : Nat) (s : State) : (emsPeriod level s).loaderPart = s.loaderPart := by
  unfold emsPeriod; split <;> simp
@[simp] theorem tileCheck_loaderPart (n : Nat) (crc : Word) (s : State) : (tileCheck n crc s).loaderPart = s.loaderPart := by
  simp only [tileCheck]; (repeat' split) <;> simp
@[simp] theorem tileCrcCheck_loaderPart (bad : List ScanCrc) (s : State) : (tileCrcCheck bad s).loaderPart = s.loaderPart := by
  unfold tileCrcCheck; split <;> simp
@[simp] theorem dspReturn_loaderPart (s : State) : (dspReturn s).loaderPart = s.loaderPart := by
  unfold dspReturn; split <;> simp
@[simp] theorem dspRestart_loaderPart (s : State) : (dspRestart s).loaderPart = s.loaderPart := by
  unfold dspRestart; split <;> simp
@[simp] theorem dspClear_loaderPart (s : State) : (dspClear s).loaderPart = s.loaderPart := by exact rfl
@[simp] theorem dspReject_loaderPart (s : State) : (dspReject s).loaderPart = s.loaderPart := by exact rfl
@[simp] theorem dspWrite_loaderPart (off : Nat) (v : Word) (s : State) : (dspWrite off v s).loaderPart = s.loaderPart := by
  simp only [dspWrite]; (repeat' split) <;> simp
@[simp] theorem setFacet_loaderPart (f : Nat) (g : FacetSt → FacetSt) (s : State) : (setFacet f g s).loaderPart = s.loaderPart := by exact rfl
@[simp] theorem prunFollow_loaderPart (s : State) : (prunFollow s).loaderPart = s.loaderPart := by
  simp only [prunFollow]; (repeat' split) <;> simp
@[simp] theorem setSaf_loaderPart (f : Saf → Saf) (s : State) : (setSaf f s).loaderPart = s.loaderPart := by exact rfl
@[simp] theorem safSamples_loaderPart (code : Nat → Option Int) (s : State) : (safSamples code s).loaderPart = s.loaderPart := by exact rfl
@[simp] theorem safTherm_loaderPart (s : State) : (safTherm s).loaderPart = s.loaderPart := by
  simp only [safTherm]; (repeat' split) <;> simp
@[simp] theorem safRuns_loaderPart (s : State) : (safRuns s).loaderPart = s.loaderPart := by exact rfl
@[simp] theorem writeRecords_loaderPart (s : State) : (writeRecords s).loaderPart = s.loaderPart := by exact rfl
@[simp] theorem dangerous_loaderPart (b detail : Nat) (s : State) : (dangerous b detail s).loaderPart = s.loaderPart := by simp [dangerous]
@[simp] theorem clearRequests_loaderPart (s : State) : (clearRequests s).loaderPart = s.loaderPart := by simp [clearRequests]
@[simp] theorem armAnew_loaderPart (c : Bool) (s : State) : (armAnew c s).loaderPart = s.loaderPart := by
  unfold armAnew; split <;> simp
@[simp] theorem raiseCauses_loaderPart (cs : List (Nat × Nat)) (s : State) : (raiseCauses cs s).loaderPart = s.loaderPart := by
  simp only [raiseCauses]; (repeat' split) <;> simp
@[simp] theorem diagFails_loaderPart (b detail : Nat) (s : State) : (diagFails b detail s).loaderPart = s.loaderPart := by simp [diagFails]
@[simp] theorem safeExit_loaderPart (who : Option Nat) (s : State) : (safeExit who s).loaderPart = s.loaderPart := by simp [safeExit]
@[simp] theorem autoExit_loaderPart (s : State) : (autoExit s).loaderPart = s.loaderPart := by
  unfold autoExit; split <;> simp
@[simp] theorem clearCauses_loaderPart (s : State) : (clearCauses s).loaderPart = s.loaderPart := by simp [clearCauses]
@[simp] theorem safToken_loaderPart (t : TokenIn) (bad : Bool) (s : State) : (safToken t bad s).loaderPart = s.loaderPart := by
  simp only [safToken]; (repeat' split) <;> simp
@[simp] theorem safUnits_loaderPart (s : State) : (safUnits s).loaderPart = s.loaderPart := by exact rfl
@[simp] theorem safRound_loaderPart (code : Nat → Option Int) (s : State) : (safRound code s).loaderPart = s.loaderPart := by
  simp only [safRound]; (repeat' split) <;> simp
@[simp] theorem safClose_loaderPart (r : RoundIn) (mis : List Nat) (df : List (Nat × Nat)) (s : State) : (safClose r mis df s).loaderPart = s.loaderPart := by simp [safClose]
@[simp] theorem fastSample_loaderPart (xs : Vector FastIn 8) (s : State) : (fastSample xs s).loaderPart = s.loaderPart := by simp [fastSample]
@[simp] theorem fastStall_loaderPart (k : Nat) (s : State) : (fastStall k s).loaderPart = s.loaderPart := by
  unfold fastStall; split <;> simp
@[simp] theorem comparatorTest_loaderPart (bad : Option Nat) (s : State) : (comparatorTest bad s).loaderPart = s.loaderPart := by
  simp only [comparatorTest]; (repeat' split) <;> simp
@[simp] theorem pilotWindow_loaderPart (s : State) : (pilotWindow s).loaderPart = s.loaderPart := by
  simp only [pilotWindow]; (repeat' split) <;> simp
@[simp] theorem crossCheck_loaderPart (s : State) : (crossCheck s).loaderPart = s.loaderPart := by
  simp only [crossCheck]; (repeat' split) <;> simp
@[simp] theorem refCompare_loaderPart (ppm : Int) (s : State) : (refCompare ppm s).loaderPart = s.loaderPart := by
  simp only [refCompare]; (repeat' split) <;> simp
@[simp] theorem imageScan_loaderPart (flips : List (Nat × Nat)) (s : State) : (imageScan flips s).loaderPart = s.loaderPart := by
  simp only [imageScan]; (repeat' split) <;> simp
@[simp] theorem tripReadback_loaderPart (pads : List PadSample) (s : State) : (tripReadback pads s).loaderPart = s.loaderPart := by
  simp only [tripReadback]; (repeat' split) <;> simp
@[simp] theorem tokenTimeout_loaderPart (s : State) : (tokenTimeout s).loaderPart = s.loaderPart := by
  unfold tokenTimeout; split <;> simp
@[simp] theorem tripEdge_loaderPart (s : State) : (tripEdge s).loaderPart = s.loaderPart := by exact rfl
@[simp] theorem contactorDue_loaderPart (s : State) : (contactorDue s).loaderPart = s.loaderPart := by
  simp only [contactorDue]; (repeat' split) <;> simp
@[simp] theorem safWrite_loaderPart (off : Nat) (v : Word) (s : State) : (safWrite off v s).loaderPart = s.loaderPart := by simp [safWrite]
@[simp] theorem setSto_loaderPart (f : Sto → Sto) (s : State) : (setSto f s).loaderPart = s.loaderPart := by exact rfl
@[simp] theorem queueCommit_loaderPart (k : CommitKind) (s : State) : (queueCommit k s).loaderPart = s.loaderPart := by exact rfl
@[simp] theorem maximaRound_loaderPart (s : State) : (maximaRound s).loaderPart = s.loaderPart := by exact rfl
@[simp] theorem periodRound_loaderPart (cycle : Bool) (s : State) : (periodRound cycle s).loaderPart = s.loaderPart := by
  simp only [periodRound]; (repeat' split) <;> simp
@[simp] theorem commitRound_loaderPart (s : State) : (commitRound s).loaderPart = s.loaderPart := by
  simp only [commitRound]; (repeat' split) <;> simp
@[simp] theorem highRound_loaderPart (s : State) : (highRound s).loaderPart = s.loaderPart := by exact rfl
@[simp] theorem commitClose_loaderPart (rb : Nat) (s : State) : (commitClose rb s).loaderPart = s.loaderPart := by
  unfold commitClose; split <;> simp
@[simp] theorem recoverSlot_loaderPart (i : Nat) (r : CommitRec) (s : State) : (recoverSlot i r s).loaderPart = s.loaderPart := by exact rfl
@[simp] theorem recover_loaderPart (s : State) : (recover s).loaderPart = s.loaderPart := by
  simp only [recover, recover.plain]; (repeat' split) <;> simp
@[simp] theorem reportUnclosed_loaderPart (s : State) : (reportUnclosed s).loaderPart = s.loaderPart := by
  unfold reportUnclosed; split <;> simp
@[simp] theorem restoreEnergy_loaderPart (r : CommitBody) (s : State) : (restoreEnergy r s).loaderPart = s.loaderPart := by exact rfl
@[simp] theorem restoreVolume_loaderPart (r : CommitBody) (s : State) : (restoreVolume r s).loaderPart = s.loaderPart := foldl_loaderPart _ _ (fun a i => by split <;> rfl) _
@[simp] theorem restoreGauge_loaderPart (r : CommitBody) (gap : Bool) (s : State) : (restoreGauge r gap s).loaderPart = s.loaderPart := by
  unfold restoreGauge; split <;> simp
@[simp] theorem restoreSafety_loaderPart (r : CommitRec) (s : State) : (restoreSafety r s).loaderPart = s.loaderPart := by exact rfl
@[simp] theorem restoreAll_loaderPart (s : State) : (restoreAll s).loaderPart = s.loaderPart := by
  unfold restoreAll; split <;> simp
@[simp] theorem restoreRole_loaderPart (s : State) : (restoreRole s).loaderPart = s.loaderPart := by
  simp only [restoreRole]; (repeat' split) <;> simp
@[simp] theorem reloadFrom_loaderPart (recBad : Option (Fin 128)) (s : State) : (reloadFrom recBad s).2.loaderPart = s.loaderPart := by
  simp only [reloadFrom]; (repeat' split) <;> simp
@[simp] theorem reloadSet_loaderPart (k : Nat) (recBad : Option (Fin 128)) (s0 : State) : (reloadSet k recBad s0).1.loaderPart = s0.loaderPart := by
  simp only [reloadSet]; (repeat' split) <;> simp
@[simp] theorem takeMedian_loaderPart (s : State) (c : Nat × Nat × Nat × Nat) : (takeMedian s c).loaderPart = s.loaderPart := by
  simp only [takeMedian]; (repeat' split) <;> simp
@[simp] theorem landWords_loaderPart (w : AreaWrite) (n : Nat) (s : State) : (landWords w n s).loaderPart = s.loaderPart := by exact rfl
@[simp] theorem areaLand_loaderPart (s : State) : (areaLand s).loaderPart = s.loaderPart := by
  unfold areaLand; split <;> simp
@[simp] theorem areaClearDone_loaderPart (s : State) : (areaClearDone s).loaderPart = s.loaderPart := by
  unfold areaClearDone; split <;> simp
@[simp] theorem areaAbandon_loaderPart (n : Nat) (s : State) : (areaAbandon n s).loaderPart = s.loaderPart := by
  unfold areaAbandon; split <;> simp
@[simp] theorem logAbandon_loaderPart (cut : Option Bool) (s : State) : (logAbandon cut s).loaderPart = s.loaderPart := by
  simp only [logAbandon]; (repeat' split) <;> simp
@[simp] theorem setWhl_loaderPart (f : Whl → Whl) (s : State) : (setWhl f s).loaderPart = s.loaderPart := by exact rfl
@[simp] theorem forceUnit_loaderPart (u : Nat) (s : State) : (forceUnit u s).loaderPart = s.loaderPart := by
  simp only [forceUnit]; (repeat' split) <;> simp
@[simp] theorem runFlex_loaderPart (j : Nat) (r : SectorRec) (s : State) : (runFlex j r s).loaderPart = s.loaderPart := by exact rfl
@[simp] theorem runFixed_loaderPart (n : Nat) (faults : List RunFault) (s : State) : (runFixed n faults s).loaderPart = s.loaderPart := by exact rfl
@[simp] theorem runSector_loaderPart (n : Nat) (faults : List RunFault) (s : State) : (runSector n faults s).loaderPart = s.loaderPart := by
  simp only [runSector]; (repeat' split) <;> simp
@[simp] theorem zeroBlock_loaderPart (j : Nat) (i : InstRec) (s0 : State) : (zeroBlock j i s0).loaderPart = s0.loaderPart := by
  simp only [zeroBlock, apply_ite State.loaderPart]; simp
@[simp] theorem heldEv_loaderPart (e : Ev) (s : State) : (heldEv e s).loaderPart = s.loaderPart := by exact rfl
@[simp] theorem eccCorrected_loaderPart (a : Nat) (s : State) : (eccCorrected a s).loaderPart = s.loaderPart := by exact rfl
@[simp] theorem eccUncorrectable_loaderPart (recBad : Option (Fin 128)) (a : Nat) (s : State) : (eccUncorrectable recBad a s).loaderPart = s.loaderPart := by
  simp only [eccUncorrectable]; (repeat' split) <;> simp
@[simp] theorem readWord_loaderPart (recBad : Option (Fin 128)) (a : Nat) (s : State) : (readWord recBad a s).loaderPart = s.loaderPart := by
  simp only [readWord]; (repeat' split) <;> simp
@[simp] theorem scrubStep_loaderPart (recBad : Option (Fin 128)) (s : State) : (scrubStep recBad s).loaderPart = s.loaderPart := by simp [scrubStep]
@[simp] theorem addWork_loaderPart (work : List (Nat × List Nat)) (s : State) : (addWork work s).loaderPart = s.loaderPart := by exact rfl
@[simp] theorem sectorStart_loaderPart (i : SectorIn) (s : State) : (sectorStart i s).loaderPart = s.loaderPart := by
  simp only [sectorStart]; (repeat' split) <;> simp
@[simp] theorem sectorOverrun_loaderPart (inst : Nat) (s : State) : (sectorOverrun inst s).loaderPart = s.loaderPart := by
  simp only [sectorOverrun]; (repeat' split) <;> simp
@[simp] theorem unitReturn_loaderPart (u : Nat) (s : State) : (unitReturn u s).loaderPart = s.loaderPart := by
  simp only [unitReturn]; (repeat' split) <;> simp
@[simp] theorem forceOnce_loaderPart (u : Nat) (s : State) : (forceOnce u s).loaderPart = s.loaderPart := by
  unfold forceOnce; split <;> simp
@[simp] theorem consistency_loaderPart (b : BadTag) (s : State) : (consistency b s).loaderPart = s.loaderPart := by
  simp only [consistency]; (repeat' split) <;> simp
@[simp] theorem shadowMismatch_loaderPart (m : Nat × Nat) (s : State) : (shadowMismatch m s).loaderPart = s.loaderPart := by simp [shadowMismatch]
@[simp] theorem modGone_loaderPart (s : State) : (modGone s).loaderPart = s.loaderPart := by simp [modGone]
@[simp] theorem leaveRunning_loaderPart (s : State) : (leaveRunning s).loaderPart = s.loaderPart := by simp [leaveRunning]
@[simp] theorem enterRunning_loaderPart (s : State) : (enterRunning s).loaderPart = s.loaderPart := by
  unfold enterRunning; split <;> simp
@[simp] theorem wheelStep_loaderPart (supply : Bool) (s : State) : (wheelStep supply s).loaderPart = s.loaderPart := by
  simp only [wheelStep]; (repeat' split) <;> simp
@[simp] theorem invalidate_loaderPart (us : List Nat) (s : State) : (invalidate us s).loaderPart = s.loaderPart := by exact rfl
@[simp] theorem kernelRound_loaderPart (code : Nat → Option Int) (s : State) : (kernelRound code s).1.loaderPart = s.loaderPart := by simp [kernelRound]
@[simp] theorem forceAll_loaderPart (r : RoundIn) (lost : List Nat) (s : State) : (forceAll r lost s).loaderPart = s.loaderPart := by
  unfold forceAll; simp only []
  rw [foldl_loaderPart _ _ (fun a k => by simp), foldl_loaderPart _ _ (fun a u => by split <;> simp), foldl_loaderPart _ _ (fun a b => by simp)]
@[simp] theorem applyIncrements_loaderPart (run : Bool) (us : List Nat) (s : State) : (applyIncrements run us s).loaderPart = s.loaderPart := by
  simp only [applyIncrements]; (repeat' split) <;> simp
@[simp] theorem roundClose_loaderPart (r : RoundIn) (s : State) : (roundClose r s).loaderPart = s.loaderPart := by
  simp only [roundClose]; (repeat' split) <;> simp
@[simp] theorem setPwc_loaderPart (f : Pwc → Pwc) (s : State) : (setPwc f s).loaderPart = s.loaderPart := by exact rfl
@[simp] theorem evalMode_loaderPart (s : State) : (evalMode s).loaderPart = s.loaderPart := by exact rfl
@[simp] theorem hfxStart_loaderPart (s : State) : (hfxStart s).loaderPart = s.loaderPart := by
  unfold hfxStart; split <;> simp
@[simp] theorem wake_loaderPart (s : State) : (wake s).loaderPart = s.loaderPart := by
  unfold wake; split <;> simp
@[simp] theorem hfxOff_loaderPart (s : State) : (hfxOff s).loaderPart = s.loaderPart := by simp [hfxOff]
@[simp] theorem powerSettle_loaderPart (s : State) : (powerSettle s).loaderPart = s.loaderPart := by
  unfold powerSettle; split <;> simp
@[simp] theorem demandEnd_loaderPart (d : Nat) (s : State) : (demandEnd d s).loaderPart = s.loaderPart := by
  unfold demandEnd; split <;> simp
@[simp] theorem gaugeDemand_loaderPart (s : State) : (gaugeDemand s).loaderPart = s.loaderPart := by
  unfold gaugeDemand; split <;> simp
@[simp] theorem cycleWake_loaderPart (s : State) : (cycleWake s).loaderPart = s.loaderPart := by
  unfold cycleWake; split <;> simp
@[simp] theorem hfxUnitsBack_loaderPart (s : State) : (hfxUnitsBack s).loaderPart = s.loaderPart := by
  simp only [hfxUnitsBack]; (repeat' split) <;> simp
@[simp] theorem hfxQualified_loaderPart (s : State) : (hfxQualified s).loaderPart = s.loaderPart := by
  simp only [hfxQualified]; (repeat' split) <;> simp
@[simp] theorem pllLocks_loaderPart (s : State) : (pllLocks s).loaderPart = s.loaderPart := by
  simp only [pllLocks]; (repeat' split) <;> simp
@[simp] theorem hfxUnitsFault_loaderPart (s : State) : (hfxUnitsFault s).loaderPart = s.loaderPart := by
  simp only [hfxUnitsFault, apply_ite State.loaderPart]; simp [apply_ite State.loaderPart]
@[simp] theorem abortAll_loaderPart (s : State) : (abortAll s).loaderPart = s.loaderPart := by simp [abortAll]
@[simp] theorem queueFrom_loaderPart (b : OutBank) (k : CommitKind) (s : State) : (queueFrom b k s).loaderPart = s.loaderPart := by exact rfl
@[simp] theorem hfxFailure_loaderPart (cause : Nat) (s : State) : (hfxFailure cause s).loaderPart = s.loaderPart := by
  unfold hfxFailure; split <;> simp
@[simp] theorem hfxFails_loaderPart (cause : Nat) (s : State) : (hfxFails cause s).loaderPart = s.loaderPart := by
  simp only [hfxFails]; (repeat' split) <;> simp
@[simp] theorem hfxRetry_loaderPart (s : State) : (hfxRetry s).loaderPart = s.loaderPart := by
  unfold hfxRetry; split <;> simp
@[simp] theorem aonFails_loaderPart (st : Nat) (s : State) : (aonFails st s).loaderPart = s.loaderPart := by simp [aonFails]
@[simp] theorem xtalTakeover_loaderPart (s : State) : (xtalTakeover s).loaderPart = s.loaderPart := by
  unfold xtalTakeover; split <;> simp
@[simp] theorem xtalTimeout_loaderPart (s : State) : (xtalTimeout s).loaderPart = s.loaderPart := by
  unfold xtalTimeout; split <;> simp
@[simp] theorem xtalStop_loaderPart (s : State) : (xtalStop s).loaderPart = s.loaderPart := by
  unfold xtalStop; split <;> simp
@[simp] theorem xtalRestart_loaderPart (s : State) : (xtalRestart s).loaderPart = s.loaderPart := by
  simp only [xtalRestart]; (repeat' split) <;> simp
@[simp] theorem rcTrim_loaderPart (ppm : Int) (s : State) : (rcTrim ppm s).loaderPart = s.loaderPart := by
  simp only [rcTrim]; (repeat' split) <;> simp
@[simp] theorem clockMonitor_loaderPart (i : ClockIn) (s : State) : (clockMonitor i s).loaderPart = s.loaderPart := by
  simp only [clockMonitor]; (repeat' split) <;> simp
@[simp] theorem countSupply_loaderPart (src : Nat) (s : State) : (countSupply src s).loaderPart = s.loaderPart := by
  simp only [countSupply]; (repeat' split) <;> simp
@[simp] theorem vmainLost_loaderPart (s : State) : (vmainLost s).loaderPart = s.loaderPart := by
  simp only [vmainLost]; (repeat' split) <;> simp
@[simp] theorem vmainReturns_loaderPart (s : State) : (vmainReturns s).loaderPart = s.loaderPart := by
  simp only [vmainReturns]; (repeat' split) <;> simp
@[simp] theorem vioLost_loaderPart (s : State) : (vioLost s).loaderPart = s.loaderPart := by exact rfl
@[simp] theorem vioRestored_loaderPart (s : State) : (vioRestored s).loaderPart = s.loaderPart := by exact rfl
@[simp] theorem rtcStage_loaderPart (v : Word) (s : State) : (rtcStage v s).loaderPart = s.loaderPart := by exact rfl
@[simp] theorem rtcSet_loaderPart (v : Word) (s : State) : (rtcSet v s).loaderPart = s.loaderPart := by simp [rtcSet]
@[simp] theorem epochWrite_loaderPart (v : Word) (s : State) : (epochWrite v s).loaderPart = s.loaderPart := by simp [epochWrite]
@[simp] theorem rtcAlarm_loaderPart (s : State) : (rtcAlarm s).loaderPart = s.loaderPart := by
  simp only [rtcAlarm]; (repeat' split) <;> simp
@[simp] theorem accClear_loaderPart (s : State) : (accClear s).loaderPart = s.loaderPart := by exact rfl
@[simp] theorem gatesStart_loaderPart (run : Bool) (s : State) : (gatesStart run s).loaderPart = s.loaderPart := by simp [gatesStart]
@[simp] theorem volSwap_loaderPart (old : Option Image) (im : Image) (s : State) : (volSwap old im s).loaderPart = s.loaderPart := by
  simp only [volSwap]; (repeat' split) <;> simp
@[simp] theorem cfSwitch_loaderPart (before : State) (s : State) : (cfSwitch before s).loaderPart = s.loaderPart := by exact rfl
@[simp] theorem thetaSwitch_loaderPart (before : State) (s : State) : (thetaSwitch before s).loaderPart = s.loaderPart := by
  unfold thetaSwitch; split <;> simp
@[simp] theorem zeroBlocks_loaderPart (old : Option Image) (im : Image) (s : State) : (zeroBlocks old im s).loaderPart = s.loaderPart := by simp [zeroBlocks]
@[simp] theorem switchChans_loaderPart (old : Option Image) (im : Image) (before s : State) : (switchChans old im before s).loaderPart = s.loaderPart := by
  simp only [switchChans, apply_ite State.loaderPart]; simp [apply_ite State.loaderPart]
@[simp] theorem switchPath_loaderPart (old : Option Image) (im : Image) (before : State) (p : Nat) (s : State) : (switchPath old im before p s).loaderPart = s.loaderPart := by
  simp only [switchPath]; (repeat' split) <;> simp
@[simp] theorem switchLink_loaderPart (old : Option Image) (im : Image) (run : Bool) (before : State) (s : State) : (switchLink old im run before s).loaderPart = s.loaderPart := by
  simp only [switchLink]; (repeat' split) <;> simp
@[simp] theorem switchGauge_loaderPart (old : Option Image) (im : Image) (before : State) (s : State) : (switchGauge old im before s).loaderPart = s.loaderPart := by
  simp only [switchGauge]; (repeat' split) <;> simp
@[simp] theorem switchSdi_loaderPart (old : Option Image) (im : Image) (run : Bool) (before : State) (s : State) : (switchSdi old im run before s).loaderPart = s.loaderPart := by
  simp only [switchSdi]; split <;> (try split) <;> simp [apply_ite State.loaderPart]
@[simp] theorem switchDisplay_loaderPart (old : Option Image) (im : Image) (before s : State) : (switchDisplay old im before s).loaderPart = s.loaderPart := by
  simp only [switchDisplay]; (repeat' split) <;> simp
@[simp] theorem switchTiles_loaderPart (old : Option Image) (im : Image) (s : State) : (switchTiles old im s).loaderPart = s.loaderPart := by exact rfl
@[simp] theorem applyData_loaderPart (run : Bool) (old : Option Image) (im : Image) (s : State) : (applyData run old im s).loaderPart = s.loaderPart := by exact rfl
@[simp] theorem applyUnits_loaderPart (run : Bool) (old : Option Image) (im : Image) (before s : State) : (applyUnits run old im before s).loaderPart = s.loaderPart := by
  simp [applyUnits]
@[simp] theorem sealCal_loaderPart (s : State) : (sealCal s).loaderPart = s.loaderPart := by
  simp only [sealCal]; (repeat' split) <;> simp
@[simp] theorem lastSupply_loaderPart (s : State) : (lastSupply s).loaderPart = s.loaderPart := by
  unfold lastSupply; split <;> simp

@[simp] theorem applyStructure_loaderPart (old : Option Image) (im : Image) (s : State) : (applyStructure old im s).loaderPart = s.loaderPart := by
  simp only [applyStructure]; (repeat' split) <;> simp
@[simp] theorem resetCommit_loaderPart (s : State) : (resetCommit s).loaderPart = s.loaderPart := by
  unfold resetCommit; split <;> simp
@[simp] theorem closeIntervals_loaderPart (s : State) : (closeIntervals s).loaderPart = s.loaderPart := by
  simp only [closeIntervals]; (repeat' split) <;> simp
@[simp] theorem powerFail_loaderPart (landed : Nat) (cut : Option Bool) (s0 : State) : (powerFail landed cut s0).loaderPart = s0.loaderPart := by
  simp only [powerFail]; (repeat' split) <;> simp
@[simp] theorem finalClosed_loaderPart (e : Nat) (s : State) : (finalClosed e s).loaderPart = s.loaderPart := by
  simp only [finalClosed]; (repeat' split) <;> simp
@[simp] theorem startShipping_loaderPart (s : State) : (startShipping s).loaderPart = s.loaderPart := by simp [startShipping]
@[simp] theorem startEntry_loaderPart (s : State) : (startEntry s).loaderPart = s.loaderPart := by simp [startEntry]
@[simp] theorem startGoesOn_loaderPart (s : State) : (startGoesOn s).loaderPart = s.loaderPart := by
  unfold startGoesOn; split <;> simp
@[simp] theorem countDenied_loaderPart (f p off : Nat) (wr : Bool) (s : State) : (countDenied f p off wr s).loaderPart = s.loaderPart := by simp [countDenied]
@[simp] theorem countUnmapped_loaderPart (f n : Nat) (s : State) : (countUnmapped f n s).loaderPart = s.loaderPart := by exact rfl
@[simp] theorem countWord_loaderPart (f p off : Nat) (wr : Bool) (o : WordOut) (s : State) : (countWord f p off wr o s).loaderPart = s.loaderPart := by
  unfold countWord; split <;> simp
@[simp] theorem setPort_loaderPart (p : Nat) (g : PortSt → PortSt) (s : State) : (setPort p g s).loaderPart = s.loaderPart := by exact rfl
@[simp] theorem fctStatusWrite_loaderPart (f : Nat) (v : Word) (s : State) : (fctStatusWrite f v s).loaderPart = s.loaderPart := by exact rfl
@[simp] theorem fctWdtWrite_loaderPart (f : Nat) (v : Word) (s : State) : (fctWdtWrite f v s).loaderPart = s.loaderPart := by exact rfl
@[simp] theorem fctClear_loaderPart (f : Nat) (s : State) : (fctClear f s).loaderPart = s.loaderPart := by exact rfl
@[simp] theorem watchdogKick_loaderPart (p : Nat) (s : State) : (watchdogKick p s).loaderPart = s.loaderPart := by
  unfold watchdogKick; split <;> simp
@[simp] theorem iopWrite_loaderPart (f off : Nat) (v : Word) (s : State) : (iopWrite f off v s).loaderPart = s.loaderPart := by
  simp only [iopWrite]; (repeat' split) <;> simp
@[simp] theorem logSelect_loaderPart (f : Nat) (v : Word) (s : State) : (logSelect f v s).loaderPart = s.loaderPart := by exact rfl
@[simp] theorem regTouch_loaderPart (f p off : Nat) (coh : Bool) (s : State) : (regTouch f p off coh s).loaderPart = s.loaderPart := by
  simp only [regTouch]; (repeat' split) <;> simp
@[simp] theorem flwCtrl_loaderPart (v : Word) (s : State) : (flwCtrl v s).loaderPart = s.loaderPart := by
  simp only [flwCtrl]; (repeat' split) <;> simp
@[simp] theorem chdCtrl_loaderPart (v : Word) (s : State) : (chdCtrl v s).loaderPart = s.loaderPart := by
  simp only [chdCtrl]; (repeat' split) <;> simp
@[simp] theorem sdiCtrl_loaderPart (v : Word) (s : State) : (sdiCtrl v s).loaderPart = s.loaderPart := by
  unfold sdiCtrl; split <;> simp
@[simp] theorem batCtrl_loaderPart (v : Word) (s : State) : (batCtrl v s).loaderPart = s.loaderPart := by
  simp only [batCtrl]; (repeat' split) <;> simp
@[simp] theorem dspCtrl_loaderPart (v : Word) (s : State) : (dspCtrl v s).loaderPart = s.loaderPart := by
  simp only [dspCtrl]; (repeat' split) <;> simp
@[simp] theorem safeAck_loaderPart (f : Nat) (v : Word) (s : State) : (safeAck f v s).loaderPart = s.loaderPart := by
  unfold safeAck; split <;> simp
@[simp] theorem cfWrite_loaderPart (off : Nat) (v : Word) (s : State) : (cfWrite off v s).loaderPart = s.loaderPart := by exact rfl
@[simp] theorem cfgWrite_loaderPart (off : Nat) (r : RegSpec) (w : Word) (s : State) : (cfgWrite off r w s).loaderPart = s.loaderPart := by
  simp only [cfgWrite, apply_ite State.loaderPart]; simp
@[simp] theorem statusClear_loaderPart (off : Nat) (v : Word) (s : State) : (statusClear off v s).loaderPart = s.loaderPart := by
  simp only [statusClear]; (repeat' split) <;> simp
@[simp] theorem coherentWords_loaderPart (f p : Nat) (offs : List Nat) (s : State) : (coherentWords f p offs s).1.loaderPart = s.loaderPart := foldl_loaderPart _ _ (fun a i => by simp only []; split <;> simp) _
@[simp] theorem discardHeld_loaderPart (p : Nat) (s : State) : (discardHeld p s).loaderPart = s.loaderPart := by
  simp only [discardHeld]; (repeat' split) <;> simp
@[simp] theorem answer_loaderPart (p : Nat) (r : Reply) (s : State) : (answer p r s).loaderPart = s.loaderPart := by exact rfl
@[simp] theorem noteFrame_loaderPart (cmd : Nat) (fr : Frame) (s : State) : (noteFrame cmd fr s).loaderPart = s.loaderPart := by
  unfold noteFrame; split <;> simp
@[simp] theorem replyTaken_loaderPart (p : Port) (s : State) : (replyTaken p s).loaderPart = s.loaderPart := by
  simp only [replyTaken]; (repeat' split) <;> simp
@[simp] theorem fetch_loaderPart (p : Port) (mode3 : Bool) (s : State) : (fetch p mode3 s).loaderPart = s.loaderPart := by
  simp only [fetch]; (repeat' split) <;> simp
@[simp] theorem abandon_loaderPart (p : Nat) (s : State) : (abandon p s).loaderPart = s.loaderPart := by exact rfl
@[simp] theorem csRise_loaderPart (p : Port) (inRequest : Bool) (s : State) : (csRise p inRequest s).loaderPart = s.loaderPart := by
  simp only [csRise]; (repeat' split) <;> simp
@[simp] theorem uartBreak_loaderPart (busy : Nat) (s : State) : (uartBreak busy s).loaderPart = s.loaderPart := by
  simp only [uartBreak]; (repeat' split) <;> simp
@[simp] theorem uartGap_loaderPart (s : State) : (uartGap s).loaderPart = s.loaderPart := by
  unfold uartGap; split <;> simp
@[simp] theorem i2cStop_loaderPart (s : State) : (i2cStop s).loaderPart = s.loaderPart := by
  unfold i2cStop; split <;> simp
@[simp] theorem areaWriteDone_loaderPart (s : State) : (areaWriteDone s).loaderPart = s.loaderPart := by
  simp only [areaWriteDone]; (repeat' split) <;> simp
@[simp] theorem roleCommit_loaderPart (b s : State) : (roleCommit b s).loaderPart = s.loaderPart := by
  unfold roleCommit; split <;> simp
@[simp] theorem demandWake_loaderPart (s : State) : (demandWake s).loaderPart = s.loaderPart := by
  unfold demandWake; split <;> simp
@[simp] theorem react_loaderPart (b s : State) : (react b s).loaderPart = s.loaderPart := by simp [react]

@[simp] theorem firstData_loaderPart (s : State) : (firstData s).loaderPart = s.loaderPart := by
  unfold firstData; split <;> simp
@[simp] theorem batMaxTimer_loaderPart (s : State) : (batMaxTimer s).loaderPart = s.loaderPart := by
  unfold batMaxTimer; split <;> simp
theorem gaugeStep_loaderPart (f : State → State) (h : ∀ a, (f a).loaderPart = a.loaderPart) (s : State) : (gaugeStep f s).loaderPart = s.loaderPart := by
  unfold gaugeStep; split
  · exact inRound_loaderPart f h s
  · rfl

end Sys2Proof.Machine
end

