-- ==== Sys2Proof/Laws/Loader.lean ====
section
/-! SUPPORT. The loader's own operations: none undoes the security store, makes a second bank ACTIVE or touches the queue of
commands (R36, R47, R49, R63). -/

namespace Sys2Proof.Laws

open Sys2Proof Sys2Proof.Machine Sys2Proof.Safety

/-- What every operation of the block keeps. -/
structure LoaderKeeps (s t : State) : Prop where
  pending : t.pending = s.pending
  sec : secKept s.sec t.sec
  one : oneActive s → oneActive t

theorem secKept.refl (a : Sec) : secKept a a := ⟨id, fun _ _ h => h, fun _ => le_refl _⟩

theorem secKept.trans {a b c : Sec} (h : secKept a b) (g : secKept b c) : secKept a c :=
  ⟨fun x => g.1 (h.1 x), fun k key x => g.2.1 k key (h.2.1 k key x), fun i => le_trans (h.2.2 i) (g.2.2 i)⟩

theorem LoaderKeeps.refl (s : State) : LoaderKeeps s s := ⟨rfl, secKept.refl _, id⟩

theorem LoaderKeeps.trans {s t u : State} (h : LoaderKeeps s t) (g : LoaderKeeps t u) : LoaderKeeps s u :=
  ⟨g.pending.trans h.pending, secKept.trans h.sec g.sec, fun x => g.one (h.one x)⟩

theorem loaderKeeps_of_eq {s t : State} (h : t.loaderPart = s.loaderPart) : LoaderKeeps s t := by
  simp only [State.loaderPart, Prod.mk.injEq] at h
  obtain ⟨h1, h2, h3⟩ := h
  exact ⟨h3, by rw [h1]; exact secKept.refl _, by simp only [oneActive, bankState, h2]; exact id⟩

/-- Banks change so that no bank becomes ACTIVE. -/
theorem loaderKeeps_setImg (f : Img → Img) (s : State)
    (h : ∀ i, (vget (f s.img).banks i Bank.empty).state = .active → bankState s i = .active) : LoaderKeeps s (setImg f s) :=
  ⟨rfl, secKept.refl _, fun g a b => g (h 0 a) (h 1 b)⟩

theorem loaderKeeps_sameBanks (f : Img → Img) (s : State) (h : ∀ m, (f m).banks = m.banks) : LoaderKeeps s (setImg f s) :=
  loaderKeeps_setImg f s fun i hi => by rw [h] at hi; exact hi

theorem loaderKeeps_setBank (i : Nat) (f : Bank → Bank) (s : State)
    (h : ∀ b, (f b).state = .active → b.state = .active) : LoaderKeeps s (setBank i f s) := by
  refine loaderKeeps_setImg _ s fun j hj => ?_
  have hv : vget (vmod s.img.banks i f) j Bank.empty = if j = i then (if j < 2 then f (vget s.img.banks j Bank.empty) else Bank.empty) else vget s.img.banks j Bank.empty := by
    split
    · subst j
      split
      · rw [vget_vmod _ _ _ _ ‹_›]
      · simp [vget, *]
    · exact vget_vmod_ne _ _ _ _ _ ‹_›
  simp only [hv] at hj
  split at hj
  · split at hj
    · exact h _ hj
    · simp [Bank.empty] at hj
  · exact hj

theorem noteRefusal_keeps (r : RefuseReg) (s : State) : LoaderKeeps s (noteRefusal r s) :=
  ⟨rfl, ⟨id, fun _ _ h => h, fun _ => le_refl _⟩, id⟩

theorem refuse_keeps (r : RefuseReg) (seq : Nat) (s : State) : LoaderKeeps s (refuse r seq s) :=
  (noteRefusal_keeps r s).trans (loaderKeeps_of_eq (by simp [refuse]))

theorem emptyBank_keeps (i : Nat) (s : State) : LoaderKeeps s (emptyBank i s) := loaderKeeps_setBank i _ s fun b h => by simp at h

theorem loaderIdle_keeps (s : State) : LoaderKeeps s (loaderIdle s) := loaderKeeps_sameBanks _ s (by intro; rfl)

theorem begin_keeps (p : Port) (s : State) : LoaderKeeps s (begin_ p s) :=
  (loaderKeeps_setBank (sessionBank s) _ s fun b h => by simp at h).trans (loaderKeeps_sameBanks _ _ (by intro; rfl))

theorem dropSession_keeps (s : State) : LoaderKeeps s (dropSession s) := (emptyBank_keeps _ s).trans (loaderIdle_keeps _)

theorem sessionLost_keeps (s : State) : LoaderKeeps s (sessionLost s) := by
  unfold sessionLost; split
  · exact (dropSession_keeps s).trans (refuse_keeps _ _ _)
  · exact LoaderKeeps.refl s

theorem startSwitch_keeps (s : State) : LoaderKeeps s (startSwitch s) :=
  ((loaderKeeps_setBank (sessionBank s) (fun b => { b with held := false }) s fun b h => h).trans
    (loaderKeeps_sameBanks (fun m => { m with loader := .switchPending, hold := false, step := .commit }) _ fun _ => rfl)).trans
    (loaderKeeps_of_eq (by simp [startSwitch]))

theorem imgCtrl_keeps (p : Port) (v : Word) (s : State) : LoaderKeeps s (imgCtrl p v s).1 := by
  have r := LoaderKeeps.refl s
  simp only [imgCtrl]
  (repeat' split) <;> first
    | exact r
    | exact begin_keeps p s
    | exact dropSession_keeps s
    | exact startSwitch_keeps s
    | exact loaderKeeps_sameBanks (fun m => { m with loader := .verifying, hold := bit v 8 }) s (by intro; rfl)

theorem imageChunk_keeps (p : Port) (a : Nat) (ws : List Word) (s : State) : LoaderKeeps s (imageChunk p a ws s).1 := by
  have r := LoaderKeeps.refl s
  simp only [imageChunk]
  (repeat' split) <;> first
    | exact r
    | exact (loaderKeeps_setBank (sessionBank s) (fun b => { b with mem := memPutWords b.mem (4 * a) ws }) s fun b h => h).trans
        (loaderKeeps_sameBanks (fun m => { m with received := markReceived m.received a ws.length }) _ fun _ => rfl)

theorem verificationComplete_keeps (s : State) : LoaderKeeps s (verificationComplete s) := by
  have h1 : LoaderKeeps s (setImg (fun m => { m with pendingSeq := seqKnown (loadingBank s) (verify s (runCtx s) (loadingBank s)) }) s) :=
    loaderKeeps_sameBanks _ s (by intro; rfl)
  simp only [verificationComplete]
  split
  · exact LoaderKeeps.refl s
  · split
    · exact (h1.trans (loaderKeeps_sameBanks (fun m => { m with loader := .refused, hold := false }) _ fun _ => rfl)).trans
        (refuse_keeps _ _ _)
    · have h2 := fun hold => (h1.trans (loaderKeeps_setBank (sessionBank s) (fun b => { b with state := .armed, held := hold }) _
        fun b h => by simp at h)).trans (loaderKeeps_sameBanks (fun m => { m with loader := .switchPending, refuse := plainRefusal 0 false }) _ fun _ => rfl)
      split
      · exact h2 _
      · exact (h2 _).trans (startSwitch_keeps _)

/-- Programming slots that are empty changes no programmed one (R36, R39). -/
theorem programSlots_keeps (failed : List Nat) (l : List (Nat × List Byte)) (s : State)
    (h : ∀ x ∈ l, slotKey s x.1 = none) : LoaderKeeps s (programSlots failed l s).1 := by
  have key : ∀ (l : List (Nat × List Byte)) (a : State), (∀ x ∈ l, slotKey s x.1 = none) → LoaderKeeps s a →
      LoaderKeeps s (programSlots failed l a).1 := by
    intro l
    induction l with
    | nil => intro a _ g; exact g
    | cons x xs ih =>
      intro a hx g
      obtain ⟨k, kb⟩ := x
      simp only [programSlots]
      split
      · exact ⟨g.pending, ⟨g.sec.1, g.sec.2.1, g.sec.2.2⟩, g.one⟩
      · refine ih _ (fun y hy => hx y (List.mem_cons_of_mem _ hy)) ⟨g.pending, ⟨g.sec.1, fun j key hj => ?_, g.sec.2.2⟩, g.one⟩
        have hk : slotKey s k = none := hx (k, kb) (List.mem_cons_self ..)
        have hne : j ≠ k := by rintro rfl; simp [slotKey] at hk; rw [hk] at hj; cases hj
        show vget (vmod a.sec.keys k fun _ => some kb) j none = some key
        rw [vget_vmod_ne _ _ _ _ _ hne]; exact g.sec.2.1 j key hj
  exact key l s h (LoaderKeeps.refl s)

theorem slotsToProgram_empty (s : State) (im : Image) : ∀ x ∈ slotsToProgram s im, slotKey s x.1 = none := by
  intro x hx
  simp only [slotsToProgram, List.mem_filterMap] at hx
  obtain ⟨j, _, hj⟩ := hx
  split at hj
  · rename_i hc
    simp only [Option.map_eq_some_iff] at hj
    obtain ⟨_, _, rfl⟩ := hj
    simp only [Bool.and_eq_true, Option.isNone_iff_eq_none] at hc
    exact hc.1
  · cases hj

theorem vote_all (n : Nat) : (Copies.all n).vote = n := by simp [Copies.vote, Copies.all]

/-- Raising a counter never lowers what it reads (R47). -/
theorem vote_le_raise (c : Copies) (v : Nat) : c.vote ≤ (c.raise v).vote := by
  rw [Copies.raise, vote_all]; exact le_max_left _ _

/-- One bad copy leaves the vote (R46). -/
theorem vote_spoil (k v : Nat) (c : Copies) : (c.spoil k v).vote = c.vote := by
  unfold Copies.spoil
  split
  · rename_i h
    obtain ⟨h1, h2⟩ := h
    split
    · simp [Copies.vote, h1, h2]
    · split <;> simp [Copies.vote, h1, h2]
  · rfl

theorem arbRaise (es : List DirEntry) (a : Vector Copies 7) (i : Nat) :
    (vget a i (.all 0)).vote ≤ (vget (es.foldl (fun a e => vmod a (arbIndex e.typ e.idx) fun v => v.raise e.ver) a) i (.all 0)).vote := by
  induction es generalizing a with
  | nil => exact le_refl _
  | cons e es ih =>
    refine le_trans ?_ (ih _)
    by_cases h : i = arbIndex e.typ e.idx
    · subst h
      by_cases h7 : arbIndex e.typ e.idx < 7
      · rw [vget_vmod _ _ _ _ h7]; exact vote_le_raise _ _
      · simp [vget, h7]
    · rw [vget_vmod_ne _ _ _ _ _ h]

theorem securityStep_kept (old : Option Image) (im : Image) (c : Sec) (o : List Ev) :
    secKept c { securityStep old im c with owed := o } :=
  ⟨fun h => by simp [securityStep, h], fun _ _ h => h, fun i => arbRaise im.entries c.arb i⟩

theorem activateBank_keeps (i : Nat) (old : Option Image) (im : Image) (s : State) : LoaderKeeps s (activateBank i old im s) := by
  refine ⟨rfl, securityStep_kept old im s.sec _, fun _ => ?_⟩
  have hb : ∀ j, j < 2 → bankState (activateBank i old im s) j = .active → j = i := by
    intro j hj h
    by_contra hne
    simp only [bankState, activateBank, setSec, setImg, vmap, vget] at h
    simp [hj, hne] at h
    split at h <;> simp_all
  intro h0 h1
  have := hb 0 (by omega) h0
  have := hb 1 (by omega) h1
  omega

theorem switchActivate_keeps (s : State) : LoaderKeeps s (switchActivate s) :=
  (activateBank_keeps _ _ _ s).trans (loaderKeeps_sameBanks _ _ (by intro; rfl))

theorem switchCommitClosed_keeps (s : State) : LoaderKeeps s (switchCommitClosed s) := by
  unfold switchCommitClosed; (repeat' split)
  · exact LoaderKeeps.refl s
  · exact switchActivate_keeps s
  · exact loaderKeeps_sameBanks _ s (by intro; rfl)

theorem slotsProgrammed_keeps (failed : List Nat) (s : State) : LoaderKeeps s (slotsProgrammed failed s) := by
  have h := programSlots_keeps failed _ s (slotsToProgram_empty s (bankImage (loadingBank s)))
  simp only [slotsProgrammed]; (repeat' split)
  · exact LoaderKeeps.refl s
  · exact h.trans (switchActivate_keeps _)
  · exact h.trans ((dropSession_keeps _).trans (refuse_keeps _ _ _))

theorem finishSwitch_keeps (s : State) : LoaderKeeps s (finishSwitch s) := by
  have h1 : LoaderKeeps s (emitAll s.sec.owed s) := loaderKeeps_of_eq (by simp)
  have h2 : ∀ a : State, LoaderKeeps a (setImg (fun m => { m with banks := vmap m.banks fun _ b => { b with apply := false } }) a) := by
    intro a
    refine loaderKeeps_setImg _ a fun i hi => ?_
    simp only [vget, vmap] at hi
    by_cases h : i < 2
    · simpa [bankState, vget, h] using hi
    · simp [h, Bank.empty] at hi
  have h3 : ∀ a : State, LoaderKeeps a (setSec (fun c => { c with owed := [] }) a) := fun a => ⟨rfl, ⟨id, fun _ _ h => h, fun _ => le_refl _⟩, id⟩
  exact ((h1.trans (h2 _)).trans (h3 _)).trans (loaderIdle_keeps _)

theorem structureApply_keeps (s : State) : LoaderKeeps s (structureApply s) := by
  have last : ∀ a : State, LoaderKeeps a (if (evalMode a).pwc.vmainOk then hfxStart (evalMode a) else powerSettle (wake (evalMode a))) :=
    fun a => loaderKeeps_of_eq (by split <;> simp)
  have first_ : ∀ (c : Bool) (a b : State), b.loaderPart = a.loaderPart →
      LoaderKeeps a (if c then reportUnclosed (setPwc (fun p => { p with shipping := false }) b) else b) :=
    fun c a b h => loaderKeeps_of_eq (by split <;> simp [h])
  simp only [structureApply]
  split
  · exact LoaderKeeps.refl s
  · split
    · exact LoaderKeeps.refl s
    · refine ((first_ _ s _ ?_).trans (finishSwitch_keeps _)).trans (last _)
      simp only [structureApply.restoreInto]; split <;> simp

/-! ### Resets and the start -/

@[simp] theorem coldState_loaderPart (por : Bool) (causes : Nat) (s : State) : (coldState por causes s).loaderPart = s.loaderPart := by
  exact rfl

@[simp] theorem enterShelf_loaderPart (s : State) : (enterShelf s).loaderPart = s.loaderPart := by exact rfl

@[simp] theorem exitShelf_loaderPart (cause : Nat) (s : State) : (exitShelf cause s).loaderPart = s.loaderPart := by
  unfold exitShelf; split <;> simp

@[simp] theorem deviceReset_loaderPart (s : State) : (deviceReset s).loaderPart = s.loaderPart := by
  simp only [deviceReset]; (repeat' split) <;> simp

@[simp] theorem shelfAuto_loaderPart (s : State) : (shelfAuto s).loaderPart = s.loaderPart := by
  unfold shelfAuto; split <;> simp

@[simp] theorem vmainQualified_loaderPart (s : State) : (vmainQualified s).loaderPart = s.loaderPart := by
  unfold vmainQualified; split <;> simp

@[simp] theorem pfRestart_loaderPart (s : State) : (pfRestart s).loaderPart = s.loaderPart := by
  unfold pfRestart; split <;> simp

@[simp] theorem powerOn_loaderPart (s : State) : (powerOn s).loaderPart = s.loaderPart := by exact rfl

theorem requestReset_keeps (f : ResetReq → ResetReq) (s : State) : LoaderKeeps s (requestReset f s) := by
  simp only [requestReset]; split
  · exact LoaderKeeps.refl s
  · exact ((loaderKeeps_of_eq (setPwc_loaderPart _ s)).trans (sessionLost_keeps _)).trans (loaderKeeps_of_eq (resetCommit_loaderPart _))

theorem nrst_keeps (s : State) : LoaderKeeps s (nrst s) := by
  unfold nrst; split
  · exact loaderKeeps_of_eq (by simp)
  · exact requestReset_keeps _ s

theorem safWatchdog_keeps (s : State) : LoaderKeeps s (safWatchdog s) := by
  unfold safWatchdog; split
  · exact LoaderKeeps.refl s
  · exact requestReset_keeps _ s

theorem startRefuse_keeps (r : RefuseReg) (seq : Nat) (s : State) : LoaderKeeps s (startRefuse r seq s) :=
  (noteRefusal_keeps r s).trans (loaderKeeps_of_eq (by simp [startRefuse]))

theorem startGoesOn_keeps (s : State) : LoaderKeeps s (startGoesOn s) := loaderKeeps_of_eq (by simp)

theorem candidateFails_keeps (i : Nat) (r : RefuseReg) (seq : Nat) (s : State) : LoaderKeeps s (candidateFails i r seq s) :=
  ((emptyBank_keeps i s).trans (startRefuse_keeps r seq _)).trans (startGoesOn_keeps _)

theorem foldl_keeps {β : Type} (l : List β) (g : State → β → State) (h : ∀ a x, LoaderKeeps a (g a x)) (s : State) :
    LoaderKeeps s (l.foldl g s) := by
  induction l generalizing s with
  | nil => exact LoaderKeeps.refl s
  | cons x xs ih => exact (h s x).trans (ih _)

/-- Bad copies lower no counter and touch neither lifecycle nor keys (R46). -/
theorem spoilCopies_kept (l : List (Nat × Nat × Nat)) (c : Sec) : secKept c (spoilCopies l c) := by
  induction l generalizing c with
  | nil => exact secKept.refl c
  | cons x xs ih =>
    refine secKept.trans ?_ (ih _)
    dsimp only
    split
    · exact secKept.refl c
    · refine ⟨id, fun _ _ h => h, fun j => ?_⟩
      show arb c j ≤ (vget (vmod c.arb x.1 fun v => v.spoil x.2.1 x.2.2) j (.all 0)).vote
      by_cases h : j = x.1
      · subst h
        by_cases h7 : x.1 < 7
        · rw [vget_vmod _ _ _ _ h7, vote_spoil]; exact le_refl _
        · simp [arb, vget, h7]
      · rw [vget_vmod_ne _ _ _ _ _ h]; exact le_refl _

theorem startRecover_keeps (i : StartIn) (s : State) : LoaderKeeps s (startRecover i s) := by
  have h0 : (i.copies.foldl takeMedian s).loaderPart = s.loaderPart := foldl_loaderPart _ _ (fun a c => by simp) _
  have h1 : ∀ a : State, LoaderKeeps a (setSec (spoilCopies i.spoiled) a) := fun a =>
    ⟨rfl, spoilCopies_kept i.spoiled a.sec, id⟩
  simp only [startRecover]
  refine ((loaderKeeps_of_eq h0).trans (h1 _)).trans (loaderKeeps_of_eq ?_)
  rw [recover_loaderPart]; split <;> rfl

theorem startSequence_keeps (i : StartIn) (s : State) : LoaderKeeps s (startSequence i s) := by
  have h1 : LoaderKeeps s (setPwc (fun p => { p with
      start := .candidates, tried := []
      wasActive := (List.range 2).find? fun k => decide (bankState s k = .active) }) (startRecover i s)) :=
    (startRecover_keeps i s).trans (loaderKeeps_of_eq (setPwc_loaderPart _ _))
  simp only [startSequence]; split
  · exact LoaderKeeps.refl s
  · split
    · exact (h1.trans (startRefuse_keeps _ _ _)).trans (loaderKeeps_of_eq (startShipping_loaderPart _))
    · exact h1.trans ((foldl_keeps _ _ (fun a k => (emptyBank_keeps k a).trans (startRefuse_keeps _ _ _)) _).trans
        (startGoesOn_keeps _))

theorem startApply_keeps (i : Nat) (s : State) : LoaderKeeps s (startApply i s) := by
  have f : ∀ (c : Bool) (a b : State), b.loaderPart = a.loaderPart → LoaderKeeps a (if c then finishSwitch b else b) := by
    intro c a b h; split
    · exact (loaderKeeps_of_eq h).trans (finishSwitch_keeps b)
    · exact loaderKeeps_of_eq h
  have last : ∀ (g : Pwc → Pwc) (h : Pwc → Pwc) (im : Image) (b a : State),
      LoaderKeeps a (if (setPwc g (applyUnits false none im b (startEntry (setPwc h a)))).pwc.vmainOk
        then hfxStart (setPwc g (applyUnits false none im b (startEntry (setPwc h a))))
        else wake (setPwc g (applyUnits false none im b (startEntry (setPwc h a))))) :=
    fun g h im b a => loaderKeeps_of_eq (by split <;> simp)
  simp only [startApply]
  exact (f _ s _ (by simp [apply_ite State.loaderPart])).trans (last _ _ _ _ _)

theorem startChosen_keeps (i : Nat) (s : State) : LoaderKeeps s (startChosen i s) := by
  unfold startChosen; split
  · exact (activateBank_keeps _ _ _ s).trans (startApply_keeps i _)
  · refine LoaderKeeps.trans (loaderKeeps_setImg _ s fun j hj => ?_) (startApply_keeps i _)
    simp only [vget, vmap] at hj
    by_cases h : j < 2
    · simp only [bankState, vget]; simp [h] at hj ⊢; split at hj <;> simp_all
    · simp [h, Bank.empty] at hj

theorem candidateVerified_keeps (s : State) : LoaderKeeps s (candidateVerified s) := by
  simp only [candidateVerified]; split
  · exact LoaderKeeps.refl s
  · split
    · exact LoaderKeeps.refl s
    · split
      · exact (loaderKeeps_of_eq (setPwc_loaderPart _ s)).trans (candidateFails_keeps _ _ _ _)
      · split
        · exact (loaderKeeps_of_eq (setPwc_loaderPart _ s)).trans (loaderKeeps_sameBanks _ _ (by intro; rfl))
        · exact (loaderKeeps_of_eq (setPwc_loaderPart _ s)).trans (startChosen_keeps _ _)

theorem startSlots_keeps (failed : List Nat) (s : State) : LoaderKeeps s (startSlots failed s) := by
  simp only [startSlots]; split
  · exact LoaderKeeps.refl s
  · rename_i i _
    have h1 : LoaderKeeps s (setImg (fun m => { m with step := .none }) s) := loaderKeeps_sameBanks _ s fun _ => rfl
    have h2 := h1.trans (programSlots_keeps failed (slotsToProgram s (bankImage (vget s.img.banks i Bank.empty))) _
      (slotsToProgram_empty s _))
    split
    · exact h2.trans (startChosen_keeps _ _)
    · exact h2.trans (candidateFails_keeps _ _ _ _)

theorem keySlots_keeps (failed : List Nat) (s : State) : LoaderKeeps s (keySlots failed s) := by
  unfold keySlots; (repeat' split)
  · exact LoaderKeeps.refl s
  · exact startSlots_keeps failed s
  · exact (slotsProgrammed_keeps failed s).trans (loaderKeeps_of_eq (resetCommit_loaderPart _))

/-! ### Facets, registers and the host path -/

theorem facetReset_keeps (f cause p : Nat) (s : State) : LoaderKeeps s (facetReset f cause p s) := by
  have last : ∀ (e : Ev) (a : State), LoaderKeeps a (prunFollow (emit e a)) := fun e a => loaderKeeps_of_eq (by simp)
  have mid : ∀ (c : Prop) [Decidable c] (a b : State), b.loaderPart = a.loaderPart → LoaderKeeps a (if c then sessionLost b else b) := by
    intro c _ a b h; split
    · exact (loaderKeeps_of_eq h).trans (sessionLost_keeps b)
    · exact loaderKeeps_of_eq h
  exact (mid _ s _ (by simp)).trans (last _ _)

theorem watchdogExpiry_keeps (p : Nat) (s : State) : LoaderKeeps s (watchdogExpiry p s) := by
  simp only [watchdogExpiry]; (repeat' split) <;> first
    | exact facetReset_keeps _ _ _ _
    | exact LoaderKeeps.refl s

theorem pwcCtrl_keeps (v : Word) (s : State) : LoaderKeeps s (pwcCtrl v s) := by
  unfold pwcCtrl; (repeat' split) <;> first
    | exact requestReset_keeps _ s
    | exact LoaderKeeps.refl s

theorem regWrite_keeps (f : Nat) (p : Port) (off : Nat) (v : Word) (s : State) : LoaderKeeps s (regWrite f p off v s) := by
  unfold regWrite
  by_cases h1 : off = 0x0018
  · subst h1; simp only [reduceIte, Nat.reduceEqDiff]; (repeat' split) <;> first
      | exact facetReset_keeps _ _ _ _
      | exact loaderKeeps_of_eq (by simp)
  by_cases h2 : off = 0x0404
  · subst h2; simp only [reduceIte, Nat.reduceEqDiff]; exact imgCtrl_keeps _ _ _
  by_cases h3 : off = 0x080C
  · subst h3; simp only [reduceIte, Nat.reduceEqDiff]; exact pwcCtrl_keeps _ _
  · refine loaderKeeps_of_eq ?_
    cases specOf off <;> simp only [h1, h2, h3, if_false, apply_ite State.loaderPart] <;> simp

theorem applyWords_keeps (f : Facet) (p : Port) (xs : List (Nat × Word)) (s : State) : LoaderKeeps s (applyWords f p xs s) := by
  have h : ∀ a : State, ∀ x : Nat × Word, LoaderKeeps a
      (if inFrameMem x.1 then setDsp (fun d => { d with queue := d.queue ++ [(f, x.1 - 0x5000, x.2)] }) a
       else if inAreaData x.1 || wordLocked a x.1 x.2 || wordBusy a f.val p x.1 x.2 then a else regWrite f.val p x.1 x.2 a) := by
    intro a x; (repeat' split) <;> first
      | exact regWrite_keeps _ _ _ _ _
      | exact loaderKeeps_of_eq (by simp)
  simp only [applyWords]; split
  · exact foldl_keeps _ _ h s
  · exact (foldl_keeps _ _ h s).trans (loaderKeeps_of_eq (setSto_loaderPart _ _))

theorem readWords_loaderPart (f p : Nat) (offs : List Nat) (s : State) : (readWords f p offs s).1.loaderPart = s.loaderPart := by
  induction offs generalizing s with
  | nil => rfl
  | cons o os ih => simp only [readWords]; rw [ih]; split <;> simp

/-- The state that a frame leaves. -/
def doneState : Done → State
  | .reply s _ => s
  | .later s => s
  | .silent s => s

theorem execWriteFrame_keeps (f : Facet) (p : Port) (fr : Frame) (s : State) : LoaderKeeps s (doneState (execWriteFrame f p fr s)) := by
  have h : ∀ (c : Cycle) (xs : List (Nat × Word)), LoaderKeeps s (prunFollow (applyWords f p xs { s with cyc := c })) := fun c xs =>
    ((loaderKeeps_of_eq rfl : LoaderKeeps s { s with cyc := c }).trans (applyWords_keeps f p xs _)).trans
      (loaderKeeps_of_eq (prunFollow_loaderPart _))
  simp only [execWriteFrame]
  split
  · exact loaderKeeps_of_eq (foldl_loaderPart _ _ (fun a x => by simp) _)
  · (repeat' split) <;> first
      | exact LoaderKeeps.refl s
      | exact h _ _

theorem execReadFrame_keeps (coh : Bool) (f : Facet) (p : Port) (fr : Frame) (s : State) :
    LoaderKeeps s (doneState (execReadFrame coh f p fr s)) := by
  refine loaderKeeps_of_eq ?_
  simp only [execReadFrame]
  split
  · rfl
  · simp only [doneState]
    split <;> split <;> simp [readWords_loaderPart]

theorem execChunk_keeps (f : Facet) (p : Port) (fr : Frame) (s : State) : LoaderKeeps s (doneState (execChunk f p fr s)) := by
  simp only [execChunk]; (repeat' split)
  · exact loaderKeeps_of_eq (foldl_loaderPart _ _ (fun a x => by simp) _)
  · exact LoaderKeeps.refl s
  · exact imageChunk_keeps _ _ _ s

theorem execPop_keeps (f : Facet) (p : Port) (fr : Frame) (s : State) : LoaderKeeps s (doneState (execPop f p fr s)) := by
  simp only [execPop]; split
  · exact LoaderKeeps.refl s
  · exact loaderKeeps_of_eq (setFacet_loaderPart _ _ s)

theorem execFrame_keeps (cmd : Nat) (f : Facet) (p : Port) (fr : Frame) (w : Word) (s : State) :
    LoaderKeeps s (doneState (execFrame cmd f p fr w s)) := by
  unfold execFrame; (repeat' split) <;> first
    | exact execWriteFrame_keeps f p fr s
    | exact execReadFrame_keeps _ f p fr s
    | exact execChunk_keeps f p fr s
    | exact execPop_keeps f p fr s
    | exact LoaderKeeps.refl s

theorem runFrame_keeps (cmd : Nat) (f : Facet) (p : Port) (fr : Frame) (s : State) : LoaderKeeps s (runFrame cmd f p fr s) := by
  have h1 : LoaderKeeps s (discardHeld p.val s) := loaderKeeps_of_eq (by simp)
  simp only [runFrame]; split
  · exact h1.trans (loaderKeeps_of_eq (by simp))
  · split
    · exact h1.trans (loaderKeeps_of_eq (by simp))
    · have h2 := h1.trans (execFrame_keeps cmd f p fr (portWord s p.val) (discardHeld p.val s))
      split <;> rename_i e <;> rw [e] at h2
      · exact h2.trans (loaderKeeps_of_eq (answer_loaderPart _ _ _))
      · exact h2.trans (loaderKeeps_of_eq (setPort_loaderPart _ _ _))
      · exact h2

theorem wake_keeps (s : State) : LoaderKeeps s (wake s) := loaderKeeps_of_eq (wake_loaderPart s)

theorem hostFrame_keeps (cmd : Nat) (fr : Frame) (s : State) : LoaderKeeps s (hostFrame cmd fr s) := by
  have h1 : ∀ c : Prop, ∀ [Decidable c], LoaderKeeps s (noteFrame cmd fr (if c then
      setPort fr.port.val (fun x => { x with spiMode3 := fr.mode3 }) { s with cyc := fabCycle fr s }
      else { s with cyc := fabCycle fr s })) := fun c _ => loaderKeeps_of_eq (by
    rw [noteFrame_loaderPart]; split <;> simp)
  have tail : ∀ s1 : State, LoaderKeeps s s1 → LoaderKeeps s
      (if portBusy s1 fr.port.val then
        setPort fr.port.val (fun x => { x with transient := some (mkReply stBusy cmd []), busy := satInc x.busy }) s1
      else if (port s1 fr.port.val).executing.isSome then setPort fr.port.val (fun x => { x with waiting := some ⟨cmd, fr⟩ }) s1
      else match (port s1 fr.port.val).facet with
        | none => s1
        | some f => wake (runFrame cmd f fr.port fr s1)) := by
    intro s1 h
    (repeat' split) <;> first
      | exact h.trans (loaderKeeps_of_eq (setPort_loaderPart _ _ _))
      | exact h
      | exact h.trans ((runFrame_keeps _ _ _ _ _).trans (wake_keeps _))
  unfold hostFrame
  by_cases c : (!portListens s || (decide (fr.port ≠ 0) && decide (s.pwc.start ≠ .served)) ||
      ((port s fr.port.val).facet.isNone && decide (s.pwc.start = .served)) ||
      (portMode s fr.port.val = 1 && (port s fr.port.val).uartIgnore)) = true
  · rw [if_pos c]; exact LoaderKeeps.refl s
  · rw [if_neg c]; exact tail _ (h1 _)

theorem hostWord_keeps (off : Nat) (v : Word) (w : RegWr) (s : State) : LoaderKeeps s (hostWord off v w s) := hostFrame_keeps _ _ s

theorem frameWaitStart_keeps (p : Port) (s : State) : LoaderKeeps s (frameWaitStart p s) := by
  simp only [frameWaitStart]; split
  · exact LoaderKeeps.refl s
  · split
    · exact ((loaderKeeps_of_eq (by simp)).trans (runFrame_keeps _ _ _ _ _)).trans (wake_keeps _)
    · exact LoaderKeeps.refl s

theorem commitEnds_keeps (rb : Nat) (s : State) : LoaderKeeps s (commitEnds rb s) := by
  have h1 : LoaderKeeps s (commitClose rb s) := loaderKeeps_of_eq (by simp)
  have last : ∀ a : State, LoaderKeeps a (powerSettle (resetCommit a)) := fun a => loaderKeeps_of_eq (by simp)
  have mid : ∀ (c : Bool) (a : State), LoaderKeeps a
      (if c then (if rb < 2 then switchCommitClosed a else queueCommit .switch a) else a) := by
    intro c a; (repeat' split) <;> first
      | exact switchCommitClosed_keeps a
      | exact loaderKeeps_of_eq (queueCommit_loaderPart _ a)
      | exact LoaderKeeps.refl a
  exact (h1.trans (mid _ _)).trans (last _)

theorem event_keeps (c : Bool) (f : State → State) (s : State) (h : LoaderKeeps s (f s)) : LoaderKeeps s (event c f s) := by
  unfold event; split
  · exact h.trans (loaderKeeps_of_eq (react_loaderPart s _))
  · exact LoaderKeeps.refl s

theorem keyPressed_keeps (s : State) : LoaderKeeps s (keyPressed s) := by
  unfold keyPressed; split
  · exact loaderKeeps_of_eq (by simp)
  · exact event_keeps _ _ s (loaderKeeps_of_eq (by simp))

end Sys2Proof.Laws
end

