-- ==== Sys2Proof/Laws/Memory.lean ====
section
/-! SUPPORT. The laws of the byte memories and of the register file: a read after a write, and the canonical form, which every
operation keeps. -/

namespace Sys2Proof.Laws

open Sys2Proof Sys2Proof.Machine

/-! ### The register file -/

@[simp] theorem cfgFind_cfgSet (m : List (Nat × Word)) (a : Nat) (v : Word) : cfgFind (cfgSet m a v) a = some v := by
  induction m with
  | nil => simp [cfgSet, cfgFind]
  | cons c m ih =>
    obtain ⟨k, w⟩ := c
    simp only [cfgSet]
    split
    · simp [cfgFind]
    · split
      · simp [cfgFind]
      · simp [cfgFind, ih]; omega

theorem cfgFind_cfgSet_ne (m : List (Nat × Word)) (a b : Nat) (v : Word) (h : b ≠ a) : cfgFind (cfgSet m a v) b = cfgFind m b := by
  induction m with
  | nil => simp [cfgSet, cfgFind, h.symm]
  | cons c m ih =>
    obtain ⟨k, w⟩ := c
    simp only [cfgSet]
    split
    · simp [cfgFind, h.symm]
    · split
      · subst a; simp [cfgFind, h.symm]
      · simp [cfgFind, ih]

/-! ### Byte memories -/

theorem memGet_eq_zero {m : List Host.Cell} {a : Nat} (h : ∀ c ∈ m, a < c.1) : memGet m a = 0 := by
  induction m with
  | nil => rfl
  | cons c m ih =>
    obtain ⟨k, b⟩ := c
    have hk : a < k := h (k, b) (by simp)
    rw [memGet, if_neg (by omega)]
    exact ih fun c hc => h c (by simp [hc])

theorem memWf_cons {k : Nat} {b : Byte} {m : List Host.Cell} :
    memWf ((k, b) :: m) = true ↔ b ≠ 0 ∧ (∀ c ∈ m, k < c.1) ∧ memWf m = true := by
  simp [memWf, and_assoc]

/-- Reading the byte just written. -/
theorem memGet_memSet {m : List Host.Cell} (h : memWf m = true) (a : Nat) (v : Byte) : memGet (memSet m a v) a = v := by
  induction m with
  | nil => rw [memSet]; split <;> simp_all [memGet]
  | cons c m ih =>
    obtain ⟨k, b⟩ := c
    rw [memWf_cons] at h
    obtain ⟨-, hk, hm⟩ := h
    rw [memSet]
    split
    · rename_i hlt
      split
      · rename_i hv
        rw [memGet, if_neg (by omega), hv]
        exact memGet_eq_zero fun c hc => Nat.lt_trans hlt (hk c hc)
      · simp [memGet]
    · split
      · rename_i he
        split
        · rename_i hv
          rw [hv]; exact memGet_eq_zero fun c hc => he ▸ hk c hc
        · simp [memGet]
      · rename_i h1 h2
        rw [memGet, if_neg (by omega)]; exact ih hm

/-- A write leaves every other byte. -/
theorem memGet_memSet_ne (m : List Host.Cell) (a b : Nat) (v : Byte) (h : b ≠ a) : memGet (memSet m a v) b = memGet m b := by
  induction m with
  | nil => rw [memSet]; split <;> simp [memGet, h.symm]
  | cons c m ih =>
    obtain ⟨k, x⟩ := c
    rw [memSet]
    split
    · split
      · rfl
      · simp [memGet, h.symm]
    · split
      · rename_i he
        split <;> simp [memGet, ← he, h.symm]
      · simp [memGet, ih]

theorem mem_memSet {m : List Host.Cell} {a : Nat} {v : Byte} {c : Host.Cell} (h : c ∈ memSet m a v) : c = (a, v) ∨ c ∈ m := by
  induction m with
  | nil => by_cases hv : v = 0 <;> simp_all [memSet]
  | cons d m ih =>
    obtain ⟨k, x⟩ := d
    rw [memSet] at h
    split at h
    · split at h
      · exact .inr h
      · rcases List.mem_cons.mp h with h | h
        · exact .inl h
        · exact .inr h
    · split at h
      · split at h
        · exact .inr (List.mem_cons_of_mem _ h)
        · rcases List.mem_cons.mp h with h | h
          · exact .inl h
          · exact .inr (List.mem_cons_of_mem _ h)
      · rcases List.mem_cons.mp h with h | h
        · exact .inr (h ▸ List.mem_cons_self ..)
        · rcases ih h with h | h
          · exact .inl h
          · exact .inr (List.mem_cons_of_mem _ h)

/-- A write keeps the canonical form. -/
theorem memSet_wf {m : List Host.Cell} (h : memWf m = true) (a : Nat) (v : Byte) : memWf (memSet m a v) = true := by
  induction m with
  | nil => rw [memSet]; split <;> simp_all [memWf]
  | cons c m ih =>
    obtain ⟨k, b⟩ := c
    have hc := memWf_cons.mp h
    rw [memSet]
    split
    · rename_i hlt
      split
      · exact h
      · rename_i hv
        refine memWf_cons.mpr ⟨hv, ?_, h⟩
        intro c hm
        rcases List.mem_cons.mp hm with rfl | hm
        · exact hlt
        · exact Nat.lt_trans hlt (hc.2.1 c hm)
    · split
      · rename_i he
        split
        · exact hc.2.2
        · rename_i hv
          exact memWf_cons.mpr ⟨hv, fun c hm => he ▸ hc.2.1 c hm, hc.2.2⟩
      · refine memWf_cons.mpr ⟨hc.1, ?_, ih hc.2.2⟩
        intro c hm
        rcases mem_memSet hm with rfl | hm
        · show k < a; omega
        · exact hc.2.1 c hm

theorem memPutWord_wf {m : List Host.Cell} (h : memWf m = true) (a : Nat) (w : Word) : memWf (memPutWord m a w) = true :=
  memSet_wf (memSet_wf (memSet_wf (memSet_wf h _ _) _ _) _ _) _ _

theorem memPutWords_wf (ws : List Word) {m : List Host.Cell} (h : memWf m = true) (a : Nat) : memWf (memPutWords m a ws) = true := by
  induction ws generalizing m a with
  | nil => exact h
  | cons w ws ih => exact ih (memPutWord_wf h a w) (a + 4)

theorem memClear_wf {m : List Host.Cell} (h : memWf m = true) (lo hi : Nat) : memWf (memClear m lo hi) = true := by
  induction m with
  | nil => rfl
  | cons c m ih =>
    obtain ⟨k, b⟩ := c
    have hc := memWf_cons.mp h
    have e : memClear ((k, b) :: m) lo hi = if decide (k < lo) || decide (hi ≤ k) then (k, b) :: memClear m lo hi else memClear m lo hi := by
      simp only [memClear, List.filter_cons]
    rw [e]
    split
    · exact memWf_cons.mpr ⟨hc.1, fun c hm => hc.2.1 c (List.mem_filter.mp hm).1, ih hc.2.2⟩
    · exact ih hc.2.2

/-- Outside a word's four bytes a word write changes nothing. -/
theorem memGet_memPutWord_ne (m : List Host.Cell) (a b : Nat) (w : Word) (h : b < a ∨ a + 4 ≤ b) :
    memGet (memPutWord m a w) b = memGet m b := by
  simp only [memPutWord]
  rw [memGet_memSet_ne _ _ _ _ (by omega), memGet_memSet_ne _ _ _ _ (by omega), memGet_memSet_ne _ _ _ _ (by omega),
    memGet_memSet_ne _ _ _ _ (by omega)]

/-- Outside the written words a write of words changes nothing. -/
theorem memGet_memPutWords_ne (ws : List Word) (m : List Host.Cell) (a b : Nat) (h : b < a ∨ a + 4 * ws.length ≤ b) :
    memGet (memPutWords m a ws) b = memGet m b := by
  induction ws generalizing m a with
  | nil => rfl
  | cons w ws ih =>
    simp only [List.length_cons] at h
    rw [memPutWords, ih _ _ (by omega), memGet_memPutWord_ne _ _ _ _ (by omega)]

/-- The word just written reads back. -/
theorem memWord_memPutWord {m : List Host.Cell} (h : memWf m = true) (a : Nat) (w : Word) : memWord (memPutWord m a w) a = w := by
  have h1 := memSet_wf h a (w.extractLsb' 0 8)
  have h2 := memSet_wf h1 (a + 1) (w.extractLsb' 8 8)
  have h3 := memSet_wf h2 (a + 2) (w.extractLsb' 16 8)
  simp only [memWord, memPutWord, memWord.wordOf]
  rw [memGet_memSet h3, memGet_memSet_ne _ _ (a + 2) _ (by omega), memGet_memSet h2, memGet_memSet_ne _ _ (a + 1) _ (by omega),
    memGet_memSet_ne _ _ (a + 1) _ (by omega), memGet_memSet h1, memGet_memSet_ne _ _ a _ (by omega),
    memGet_memSet_ne _ _ a _ (by omega), memGet_memSet_ne _ _ a _ (by omega), memGet_memSet h]
  apply BitVec.eq_of_getLsbD_eq
  intro i hi
  simp only [BitVec.getLsbD_append, BitVec.getLsbD_extractLsb']
  have : i < 32 := hi
  split
  · rename_i h1; simp [h1]
  · split
    · rename_i h1 h2; simp [h2, show 8 + (i - 8) = i by omega]
    · split
      · rename_i h1 h2 h3; simp [h3, show 16 + (i - 8 - 8) = i by omega]
      · rename_i h1 h2 h3; simp [show i - 8 - 8 - 8 < 8 by omega, show 24 + (i - 8 - 8 - 8) = i by omega]

/-- Every memory of the machine right after reset is in canonical form. -/
theorem reset_memories : memWf State.reset.dsp.mem = true ∧ memWf State.reset.sto.areas = true ∧ memWf State.reset.flw.refs = true := by
  decide

end Sys2Proof.Laws
end

