-- ==== Sys2Proof/Laws/Wheel.lean ====
section
/-! SUPPORT. The wheel's bookkeeping: reads after writes of fault records, pending work and wrong bits, the published
bank, sample FIFOs, and units that are forced to FAULT. -/

namespace Sys2Proof.Laws

open Sys2Proof Sys2Proof.Machine

/-! ### Lists by key -/

/-- Without the entries of one key, the entry of another is found as before. -/
theorem find_filter_ne {α : Type} {u v : Nat} (h : v ≠ u) (l : List (Nat × α)) :
    (l.filter fun x => decide (x.1 ≠ u)).find? (fun x => decide (x.1 = v)) = l.find? fun x => decide (x.1 = v) := by
  rw [List.find?_filter]
  congr 1
  funext x
  by_cases hv : x.1 = v <;> simp [hv, h]

/-- Without the entries of a key, none of it is found. -/
theorem find_filter_self {α : Type} (u : Nat) (l : List (Nat × α)) :
    (l.filter fun x => decide (x.1 ≠ u)).find? (fun x => decide (x.1 = u)) = none := by
  rw [List.find?_eq_none]
  intro x hx
  simpa using (List.mem_filter.mp hx).2

/-- A forced fault is noted in the unit's own record (R119). -/
theorem faultRec_forceRecord (u : Nat) (s : State) : faultRec (forceRecord u s) u = noteFault (faultRec s u) s.aon := by
  simp [faultRec, forceRecord, putFault]

/-- A forced fault leaves the records of other units alone. -/
theorem faultRec_forceRecord_ne {u v : Nat} (h : v ≠ u) (s : State) : faultRec (forceRecord u s) v = faultRec s v := by
  have := find_filter_ne h s.whl.faults
  simp only [faultRec, forceRecord, putFault]
  rw [List.find?_cons_of_neg (by simpa using h.symm), this]

/-- Clearing a unit's record leaves it none (R119). -/
theorem faultRec_clearFaults (u : Nat) (s : State) : faultRec (clearFaults u s) u = ⟨[], none, false⟩ := by
  have := find_filter_self u s.whl.faults
  simp only [faultRec, clearFaults]
  rw [this]

/-- A record latches exactly when three earlier faults lie within 3600 s (R119). -/
theorem noteFault_latched (r : FaultRec) (now : Nat) :
    (noteFault r now).latched = decide (3 ≤ (r.times.filter fun t => decide (now < t + 3600 * 32768)).length) := by
  unfold noteFault
  by_cases h : 3 ≤ (r.times.filter fun t => decide (now < t + 3600 * 32768)).length
  · rw [decide_eq_true h]
    simp only [List.length_append, List.length_singleton]
    rw [if_pos (by omega)]
  · rw [decide_eq_false h]
    simp only [List.length_append, List.length_singleton]
    rw [if_neg (by omega)]

/-- The work just put is what an instance has. -/
theorem workOf_putWork (w : List (Nat × List Nat)) (i : Nat) (xs : List Nat) : workOf (putWork w i xs) i = xs := by
  have := find_filter_self i w
  unfold workOf putWork
  cases xs with
  | nil => simp only [List.isEmpty_nil, if_true]; rw [this]; rfl
  | cons y ys => simp

/-- Wrong bits of a word are those just put. -/
theorem flipsAt_putFlips (m : List (Nat × BitVec 72)) (a : Nat) (b : BitVec 72) : flipsAt (putFlips m a b) a = b := by
  have := find_filter_self a m
  unfold flipsAt putFlips
  by_cases h : b = 0
  · simp only [h, if_true]; rw [this]; rfl
  · rw [if_neg h]; simp

/-- A read of a word without a wrong bit changes nothing (R122). -/
theorem readWord_clean (r : Option (Fin 128)) (a : Nat) (s : State) (h : flipCount (flipsAt s.whl.flips a) = 0) :
    readWord r a s = s := by simp [readWord, h]

/-! ### The published bank -/

/-- Outside a running wheel an output is published as it is formed. -/
theorem inRound_stopped (f : State → State) (s : State) (h : s.whl.state = .stopped) : inRound f s = f s := by
  simp [inRound, h]

/-- While the wheel turns the bank published stays that of the round before (R103, R121). -/
theorem inRound_pub (f : State → State) (s : State) (h : s.whl.state ≠ .stopped) :
    (inRound f s).pub = some (s.pub.getD (bankOf s)) := by simp [inRound, h]

/-- Events of an open round wait, and those raised after its flex kernels do not. -/
theorem inRound_evHold (f : State → State) (s : State) (h : s.whl.state ≠ .stopped) : (inRound f s).sto.evHold = false := by
  simp [inRound, h]

/-- Without an open output, the published bank is the state itself. -/
theorem seen_none (s : State) (h : s.pub = none) : seen s = s := by simp [seen, h]

/-- A round close leaves no open output. -/
@[simp] theorem publishBank_pub (s : State) : (publishBank s).pub = none := by
  have h : ∀ (es : List Ev) (t : State), (emitAll es t).pub = t.pub := by
    intro es
    induction es with
    | nil => intro t; rfl
    | cons e es ih =>
      intro t
      refine (ih (emit e t)).trans ?_
      unfold emit
      split <;> rfl
  exact h _ _

/-! ### Sample FIFOs -/

/-- A sample FIFO never holds more than 16 words (R124). -/
theorem fifoPut_length (w : FifoWord) (l : List FifoWord) (h : l.length ≤ 16) : (fifoPut w l).1.length ≤ 16 := by
  unfold fifoPut
  split <;> simp <;> omega

/-- A word is dropped exactly when the FIFO is full (R124). -/
theorem fifoPut_lost (w : FifoWord) (l : List FifoWord) : (fifoPut w l).2 = if l.length < 16 then 0 else 1 := by
  unfold fifoPut
  split <;> simp_all

/-- Steps that run fit in the cycles left, and none is lost (R106). -/
theorem runSteps_spec (w : List Nat) (c : Nat) :
    ∃ n, (runSteps w c).1 = w.drop n ∧ (w.take n).sum + (runSteps w c).2 = c := by
  induction w generalizing c with
  | nil => exact ⟨0, rfl, by simp [runSteps]⟩
  | cons x xs ih =>
    unfold runSteps
    split
    · obtain ⟨n, h1, h2⟩ := ih (c - x)
      exact ⟨n + 1, h1, by simp; omega⟩
    · exact ⟨0, rfl, by simp⟩

/-! ### Forced units -/

/-- A unit that this close has forced already is not forced again (R119). -/
theorem forceOnce_again (u : Nat) (s : State) (h1 : unitMgmt s u = .fault) (h2 : (faultRec s u).times.getLast? = some s.aon) :
    forceOnce u s = s := by simp [forceOnce, h1, h2]

end Sys2Proof.Laws
end

