-- ==== Sys2Proof/Machine/Balls.lean ====
section
/-! DEFINITION. The levels of the device's outputs as its state sets them: multi-function balls, host ports, interrupt lines, CF and GP
outputs, and the panel's sources, selects and clocks (R69, R89, R175, R306, R310, R311, R313, R323, R324, R430, R447, R449, R450,
R467, R468). What drives an analogue line, and the pulls of the board, are not levels of these balls. -/

namespace Sys2Proof.Machine

open Sys2Proof

/-- What an output ball shows: driven low, driven high, or high impedance. -/
inductive Level where
  | low | high | float
  deriving DecidableEq, Repr

/-- A push-pull output at a logic level. -/
def Level.drive (b : Bool) : Level := if b then .high else .low

/-- An open-drain output, which drives low only (R465). -/
def Level.drain (b : Bool) : Level := if b then .float else .low

/-! ### Multi-function balls (R465 to R468) -/

/-- The record of a function, where the structure has one. -/
def ballOf (s : State) (fn : Nat) : Option BallRec := s.str.bind fun im => im.balls.find? fun b => decide (b.fn = fn)

/-- A function's output at a logic level, open drain where its record says so; without a record no ball carries it. -/
def ballOut (s : State) (fn : Nat) (b : Bool) : Level :=
  match ballOf s fn with
  | none => .float
  | some r => if nbit r.opt 0 then .drain b else .drive b

/-- GPn: energised is the active level, which ACTIVE_LOW of its record makes the low one (R89, R465). -/
def gpBall (s : State) (n : Nat) : Level :=
  ballOut s (0x20 + n) (gpOn s n != (ballOf s (0x20 + n)).any fun r => nbit r.opt 1)

/-- CFn, for n = 1 to 3: at its active level during a pulse, else, and while it is off or has no owner, at its inactive level
(R175, R176, R178). -/
def cfBall (s : State) (n : Nat) : Level :=
  ballOut s (0x27 + n) ((cfGen s (n - 1)).active != bit (cfgV s (0x7830 + 16 * n)) 16)

/-- The interrupt condition that port p's ball shows, none while the ball is not driven: EN is 0, the port is inactive, or the
shipping lattice runs (R450). -/
def irqShown (s : State) (p : Nat) : Option (Nat × Bool) :=
  match s.str, (port s p).facet with
  | some _, some f => if nbit (irqCfg s f.val) 0 then some (f.val, irqAsserted s f.val) else none
  | _, _ => none

/-- The IRQ ball of port p: open drain and active low, or push-pull and active high (Table 15-10). One that is not driven is high
impedance, the facet that would say push-pull being none where the port is inactive (R69, R450). -/
def irqBall (s : State) (p : Nat) : Level :=
  match irqShown s p with
  | some (f, a) => if nbit (irqCfg s f) 1 then .drive a else .drain (!a)
  | none => if (port s p).facet.any fun f => nbit (irqCfg s f.val) 1 then .low else .float

/-- A reply's bytes up to the end of DATA, and its CRC, most significant byte first (Table 15-3, R430, R431). -/
def Reply.bytes (r : Reply) : List Byte :=
  let b := [BitVec.ofNat 8 r.status, BitVec.ofNat 8 r.cmd, BitVec.ofNat 8 r.words.length] ++ r.words.flatMap wordBytes
  let c := crc16 b
  b ++ [c.extractLsb' 8 8, c.extractLsb' 0 8]

/-- The bit rate of port C as a UART, in bit/s, by the options of its PC_TX record (Table 15-11, R429, R451). -/
def uartRate (s : State) : Nat :=
  [9600, 19200, 38400, 57600, 115200, 230400, 460800, 921600, 1000000].getD (((ballOf s 0x08).map BallRec.opt).getD 0) 9600

/-- What port C transmits for a reply, one level per bit time: a break of 12, 2 of marking, 0x7E, the reply (R446, R447). -/
def uartBits (r : Reply) : List Bool :=
  List.replicate 12 false ++ List.replicate 2 true ++ linkLevels (0x7E#8 :: r.bytes)

/-- The reply that a port is about to send or sends: Busy of the port level, else the one it holds (R434, R436). -/
def replyOut (s : State) (p : Nat) : Option Reply := (port s p).transient.or (port s p).held

/-- PC_TX, n bit times after the transmission of the reply began, none before it: high while idle (R447). Of an inactive port it is
high impedance (R69). The instant within a bit is finer than AON, so it is an operand (log 17). -/
def pcTxBall (s : State) (n : Option Nat) : Level :=
  if portMode s 2 ≠ 1 ∨ (port s 2).facet = none ∨ portListens s = false then .float
  else match n, replyOut s 2 with
    | some k, some r => .drive ((uartBits r).getD k true)
    | _, _ => .drive true

/-- An optional level: none is a released line. -/
def levelOf (b : Option Bool) : Level :=
  match b with
  | none => .float
  | some x => .drive x

/-- SDP, open drain where its record says so (R266, R465). -/
def sdpOut (s : State) : Level :=
  match sdpBall s with
  | none => .float
  | some b => ballOut s 0x15 b

/-- What the ball of index i shows outside a running structure, and while no record names it (R467): MF0 to MF2 are low until the
structure is applied, in SHELF and in the shipping lattice. -/
def ballAtRest (s : State) (i : Nat) : Level := if s.str.isNone ∧ 0x34 ≤ i ∧ i ≤ 0x36 then .low else .float

/-- CHD_TX n bit times of 500 ns after CHD_DE rose for the frame formed last, none outside its slot: the frame's levels from 2.0 µs
on, else the idle high (R239, R240). -/
def chdTxBall (s : State) (n : Option Nat) : Level :=
  match n with
  | none => .high
  | some k => .drive (decide (k < 4) || ((linkLevels s.chd.tx)[k - 4]?).getD true)

/-- CHD_DE: high from 2.0 µs before the first start bit of a frame to 1.0 µs after its last stop bit (R239). -/
def chdDeBall (s : State) (n : Option Nat) : Level :=
  .drive (n.any fun k => s.chd.tx != [] && decide (k < 4 + (linkLevels s.chd.tx).length + 2))

/-- The level of the multi-function ball of index i (R465 to R468, Table 17-4). `bitC` is the bit of a reply that PC_TX sends, `bitL`
that of a link frame; a ball that a request or a clock of its host drives meanwhile (MISO, SDA) shows high impedance here, and inputs
always do. In the FAB cycle of an application a ball that left an output function is high impedance (R468). -/
def mfBall (s : State) (bitC bitL : Option Nat) (i : Nat) : Level :=
  if !s.pwc.vioOk || s.cyc.left.contains i then .float
  else if s.pwc.mode = .shelf then ballAtRest { s with str := none } i
  else match s.str.bind fun im => im.balls.find? fun b => decide (b.ball = i) with
    | none => ballAtRest s i
    | some r =>
      if r.fn = 0x05 then irqBall s 1
      else if r.fn = 0x08 then pcTxBall s bitC
      else if r.fn = 0x0C then irqBall s 2
      else if r.fn = 0x10 then chdTxBall s bitL
      else if r.fn = 0x12 then chdDeBall s bitL
      else if r.fn = 0x14 then levelOf (sdiBall s)
      else if r.fn = 0x15 then sdpOut s
      else if r.fn = 0x18 then .drive s.saf.lvl.1
      else if r.fn = 0x19 then .drive s.saf.lvl.2
      else if r.fn = 0x1A then .drive (pumpRun s)
      else if 0x20 ≤ r.fn ∧ r.fn ≤ 0x25 then gpBall s (r.fn - 0x20)
      else if 0x28 ≤ r.fn ∧ r.fn ≤ 0x2A then cfBall s (r.fn - 0x27)
      else .float

/-- The index of the ball in row r, 0 for A to 11 for M, and column c (R463). -/
def ballIndex (r c : Nat) : Nat := 12 * r + (c - 1)

/-- The ball of SRCn (Table 17-2). -/
def srcBall (n : Nat) : Nat := ballIndex (n / 4) (9 + n % 4)

/-- PA_IRQ, which carries port A's interrupt line whatever the image says (Table 17-2); without VIO it is high impedance (R471). -/
def paIrq (s : State) : Level := if s.pwc.vioOk then irqBall s 0 else .float

/-- Byte n that an SPI port drives on MISO once its reply can be sent, none before: filler 0xFF, the start-of-reply byte 0xA5, the
reply, and 0xFF behind it (R443). While CS is high MISO is high impedance (R444). -/
def misoByte (s : State) (p : Nat) (n : Option Nat) : Byte :=
  match n, replyOut s p with
  | some k, some r => (0xA5#8 :: r.bytes).getD k 0xFF
  | _, _ => 0xFF

/-- The device acknowledges its read address on port C only while it holds a reply (R448). -/
def i2cReadAck (s : State) (addr : Nat) : Bool :=
  portCIs s 2 && decide (addr = (s.str.map Image.portcAddr).getD 0) && (replyOut s 2).isSome && (port s 2).executing.isNone

/-- Byte n of an I2C read: the reply, and 0xFF behind it (R448). -/
def i2cByte (s : State) (n : Nat) : Byte := ((replyOut s 2).map fun r => r.bytes.getD n 0xFF).getD 0xFF

/-- A request byte written to an address on port C as an I2C target is acknowledged up to the last CRC byte of a request of `len`
bytes, at PORTC_ADDR alone (R429, R448). -/
def i2cWriteAck (s : State) (addr n len : Nat) : Bool :=
  portCIs s 2 && decide (addr = (s.str.map Image.portcAddr).getD 0) && decide (n < len)

/-! ### The panel (R306 to R308, R310, R311, R313, R323, R324) -/

/-- The rails as they are set, in mV: VSP, VSN, VGH, VGL (R308, Table 11-3). -/
def railMv (s : State) : Int × Int × Int × Int :=
  let v := s.dsp.rail
  (50 * bits v 7 0, -(50 * bits v 15 8 : Nat), 100 * bits v 23 16, -(100 * bits v 31 24 : Nat))

/-- A gate, select or emission ball: VGH or VGL while a rail is enabled, at AGND with every rail off (R307). -/
inductive Swing where
  | agnd | vgl | vgh
  deriving DecidableEq, Repr

/-- The swing of a gate, select or emission ball that is high or low (R307). After an emergency stop it is at VGL until the rails are
down (R324). -/
def swingOf (s : State) (b : Bool) : Swing :=
  if s.dsp.seq = .off then .agnd else if b then .vgh else .vgl

/-- The source and the demultiplexer phase of column x (R306). -/
def columnSource (x : Nat) : Nat × Nat := (x / 4, x % 4)

/-- The frames of the sequences that scan: every gate and select runs, and the sources sink what R311 says. -/
def panelScans (q : DspSeq) : Bool :=
  match q with
  | .zero _ => true
  | .run => true
  | .stop => true
  | .stopZero _ => true
  | _ => false

/-- The level of grey of pixel (x, y) in frame memory (R314). -/
def pixelAt (s : State) (x y : Nat) : Nat := bits (memWord s.dsp.mem (64 * y + 4 * (x / 8))) (4 * (x % 8) + 3) (4 * (x % 8))

/-- Entry v of the grey table in force (R312). -/
def greyOf (s : State) (v : Nat) : Nat := bits (vget s.dsp.grey (v / 4) 0) (8 * (v % 4) + 7) (8 * (v % 4))

/-- Pixel (x, y) lies in a blanked tile (R335). -/
def blankedAt (s : State) (x y : Nat) : Bool :=
  match groupTile s (64 * y + 4 * (x / 8)) (x % 8 / 4) with
  | none => false
  | some n => (tileSt s n).blanked

/-- The code of source SRCn in phase d of line y (R311): the grey of its pixel in a normal frame, 0 in a blanked tile, a zero frame
or the vertical blank, DSP_DISCH in the discharge frame, 0 outside the sequences. -/
def srcCode (s : State) (n d y : Nat) : Nat :=
  match s.dsp.seq with
  | .run => if y < 64 ∧ blankedAt s (4 * n + d) y = false then greyOf s (pixelAt s (4 * n + d) y) else 0
  | .stop => if y < 64 ∧ blankedAt s (4 * n + d) y = false then greyOf s (pixelAt s (4 * n + d) y) else 0
  | .disch => bits (cfgV s 0x4808) 7 0
  | _ => 0

/-- The current that SRCn sinks in phase d of line y, in nA (R311). -/
def srcCurrent (s : State) (n d y : Nat) : Rat := (srcCode s n d y * 6000 : Nat) / (255 : Rat)

/-- PIX cycles of the half line of Table 11-4: at 30 Hz every time doubles (R310). -/
def pixScale (s : State) : Nat := if s.dsp.slow then 2 else 1

/-- DMXd at PIX cycle c of a line (Table 11-4); in the discharge frame every phase runs (R323). -/
def dmxHigh (s : State) (d c : Nat) : Bool :=
  let k := pixScale s
  (panelScans s.dsp.seq || decide (s.dsp.seq = .disch)) && decide (k * (40 + 480 * d) ≤ c) && decide (c < k * (500 + 480 * d))

/-- GCK1 (g = 0) or GCK2 (g = 1) at PIX cycle c of line y: from 20 of an even or odd line to the start of the next one (Table 11-4),
high throughout the discharge frame (R323). -/
def gckHigh (s : State) (g y c : Nat) : Bool :=
  decide (s.dsp.seq = .disch) || (panelScans s.dsp.seq && decide (y % 2 = g) && decide (20 * pixScale s ≤ c))

/-- GSTV at PIX cycle c of line y: line 67 and the first 40 cycles of line 0 (Table 11-4), high in the discharge frame (R323). -/
def gstvHigh (s : State) (y c : Nat) : Bool :=
  decide (s.dsp.seq = .disch) || (panelScans s.dsp.seq && (decide (y = 67) || (decide (y = 0) && decide (c < 40 * pixScale s))))

/-- EMS at PIX cycle c of line y: in RUN it is high for the first LEVEL ÷ 256 of each period of 17 lines, rounded to a whole PIX
cycle; low in the sequences and the emergency stop (R313). -/
def emsHigh (s : State) (y c : Nat) : Bool :=
  let line := 1960 * pixScale s
  decide (s.dsp.state = .run) && decide (s.dsp.seq = .run)
    && decide (((y % 17 * line + c : Nat) : Int) < rndNear 161 ((17 * line * s.dsp.level : Nat) / (256 : Rat)))

end Sys2Proof.Machine
end

