-- ==== Sys2Proof/WellFormed.lean ====
section
/-! DEFINITION. Which terms of Instr are commands the block can meet: the offset of a register row lies among the row's registers,
a frame fits the format of Table 15-2, a row of SPI names an SPI port, and an observation lies in the range of its
converter. The meanings do not assume it. -/

namespace Sys2Proof

open Sys2Proof.Machine

/-- A frame carries at most 64 words, and only WRITE and IMAGE-CHUNK carry any (Tables 15-2 and 15-4). -/
def Frame.wf (data : Bool) (f : Frame) : Bool := decide (f.data.length ≤ 64) && (data || f.data.isEmpty)

/-- Ports A and B are SPI ports (R443). -/
def isSpi (p : Port) : Bool := decide (p.val < 2)

/-- A value of n bits in two's complement. -/
def fitsS (n : Nat) (x : Int) : Bool := decide (-(2 ^ (n - 1) : Nat) ≤ x) && decide (x < (2 ^ (n - 1) : Nat))

/-- What a chain brings: a voltage that its input buffer takes, which is ±2 V at the pair and 0 to 4 V at IXP (R135). -/
def ChanIn.wf (c : ChanIn) : Bool := decide (-4 ≤ c.volt) && decide (c.volt ≤ 4)

/-- A unit number of Table 3-5. -/
def isUnit (u : Nat) : Bool := decide (1 ≤ u ∧ u ≤ 8) || [0x10, 0x11, 0x12, 0x18, 0x20, 0x28].contains u

/-- What a round close brings: units and tags that exist (R118). -/
def RoundIn.wf (r : RoundIn) : Bool := r.bad.all fun b => isUnit b.unit && decide (b.tag < 4)

/-- A capture: at most 2048 samples of the 12-bit converter (R210). -/
def Capture.wf (c : Capture) : Bool := decide (c.samples.length ≤ 2048) && c.samples.all (fitsS 12)

/-- What a sector brings: steps of at most 120 cycles (R106), words and bits of state memory that exist (R96), and wrong words
of a record or a state half (R113). -/
def SectorIn.wf (i : SectorIn) : Bool :=
  i.mod.all (fun v => v.toList.all ChanIn.wf) && i.work.all (fun w => w.2.all fun c => decide (c ≤ 120))
    && i.flips.all (fun f => decide (f.1 < 8192) && decide (f.2 < 72)) && i.reads.all (fun a => decide (a < 8192))
    && i.wrong.all fun w => decide (w.word ≤ 8)

/-- SDI-12 characters have 7 bits (R268). -/
def SdiLine.wf (l : SdiLine) : Bool := l.chars.all fun c => decide (c.toNat < 128)

/-- The types of link frames: SYNC, REPLY, ARRIVE (R240). -/
def isLinkType (t : Nat) : Bool := decide (1 ≤ t ∧ t ≤ 3)

/-- The well-formed commands. -/
def Instr.wf : Instr → Bool
  | .write f => f.wf true
  | .read f => f.wf false
  | .readCoherent f => f.wf false
  | .status f => f.wf false
  | .imageChunk f => f.wf true
  | .eventPop f => f.wf false
  | .fetch p _ => isSpi p
  | .frameWaitStart _ => true
  | .replyTaken _ => true
  | .spiCsRise p _ => isSpi p
  | .uartBreak _ => true
  | .uartGapAbandon => true
  | .i2cStopAbandon => true
  | .registerWrite off _ => decide (off.toNat % 4 = 0)
  | .imgBegin _ => true
  | .verify _ => true
  | .imgAbort _ => true
  | .activate _ => true
  | .verificationComplete => true
  | .keySlotsProgrammed _ => true
  | .structureApply => true
  | .facetReset _ => true
  | .clrCounters _ => true
  | .fctWdtWrite _ => true
  | .portWatchdogExpiry _ => true
  | .iopGpReqWrite _ _ => true
  | .iopBrightReqWrite _ => true
  | .iopPumpReqWrite _ => true
  | .iopSafeAck _ => true
  | .mtrRestart _ => true
  | .mtrCalWrite off _ => (specMtr off.toNat).isSome
  | .pqClrCounters _ => true
  | .pqThrWrite _ => true
  | .pqCfgWrite _ _ => true
  | .cfCfgWrite _ _ _ => true
  | .zero _ => true
  | .learn _ => true
  | .flwRestart _ => true
  | .flwAbort _ => true
  | .calibrationTimeout => true
  | .flwConfigWrite off _ => (specFlw off.toNat).isSome
  | .flwRefcrcWrite _ _ => true
  | .swap _ => true
  | .chdRestart _ => true
  | .chdCycleWrite _ => true
  | .query _ => true
  | .ack _ => true
  | .ident _ => true
  | .sdiSlotConfigWrite _ _ _ => true
  | .newCell _ => true
  | .batRestart _ => true
  | .batConfigWrite off _ => (specBat off.toNat).isSome
  | .glance _ => true
  | .dspRestart _ => true
  | .dspClrCounters _ => true
  | .dspRailWrite _ => true
  | .dspGreyWrite _ _ => true
  | .dspTileWrite _ _ => true
  | .frameMemoryWrite f => f.wf true && decide (0x5000 ≤ f.addr.toNat ∧ f.addr.toNat < 0x6000)
  | .frameMemoryWordLand _ => true
  | .safWrite off _ => (specSaf off.toNat).isSome
  | .clear _ => true
  | .userAreaClearDone => true
  | .nvuSelWrite _ => true
  | .userAreaWriteDone => true
  | .evtLogSelect _ => true
  | .reset _ => true
  | .shelf _ => true
  | .rtcStage _ => true
  | .rtcSet _ => true
  | .epochWrite _ => true
  | .rtcAlarm => true
  | .sectorStart i => i.wf
  | .sectorOverrun _ => true
  | .roundClose r => r.wf
  | .unitFaultReturn u => isUnit u.toNat
  | .pilotUpdate _ => true
  | .refCompare _ => true
  | .freq10sInterval => true
  | .cfPulseEvent _ cyc => decide (cyc ≤ 8192)
  | .cfPulseBacklogStart _ cyc => decide (cyc ≤ 8192)
  | .cfPulseEnd _ cyc => decide (cyc ≤ 8192)
  | .pairAttempt _ => true
  | .upShotDue _ => true
  | .shotFire _ => true
  | .captureClose => true
  | .shotEvaluated _ _ c => c.wf
  | .pairOutcome _ => true
  | .linkCycleStart _ => true
  | .linkFrameReceived _ => true
  | .linkFrameMissing t => isLinkType t
  | .linkReplySend _ => true
  | .bankShot _ => true
  | .linkArriveSend => true
  | .bankPairOutcome => true
  | .roleSwapRevert => true
  | .slotDue _ => true
  | .sdiTransactionStart => true
  | .sdpPowerSettled => true
  | .sdiResponse l => l.wf
  | .sdiResponseTimeout _ => true
  | .sdiServiceRequest _ => true
  | .sdiDataPhaseDue _ => true
  | .vmainLost => true
  | .vmainQualified => true
  | .gaugeFrame _ => true
  | .gaugeIntervalSample _ => true
  | .quietComparatorTrip => true
  | .gaugeConversionTimeout => true
  | .keyPress => true
  | .glanceExpiry => true
  | .railGood _ => true
  | .railFault rails _ => decide (rails ≠ 0)
  | .displayDischarged => true
  | .frameStart => true
  | .emsPeriodStart => true
  | .railStopStep => true
  | .tileCrcCheck bad => bad.all fun b => decide (b.tile < 8)
  | .legalItemDwellEnd => true
  | .legalTileRender => true
  | .fastSample _ => true
  | .fastSequenceStall _ => true
  | .watcherComparatorTest _ => true
  | .watcherPilotWindow => true
  | .watcherCrosscheckWindow => true
  | .wdtTokenTimeout => true
  | .clockMonitorCheck _ => true
  | .imageScanPass flips => flips.all fun f => decide (f.2 < 8)
  | .tripReadback pads => decide (pads.length = 4)
  | .safeCauseTimer => true
  | .tripfbChange _ => true
  | .contactor => true
  | .commitClosed _ => true
  | .commitBatMaxTimer => true
  | .powerFail i => decide (i.landed ≤ 64)
  | .finalCommitClosed _ => true
  | .por => true
  | .pfRestart => true
  | .nrst => true
  | .safWdt => true
  | .deviceReset => true
  | .startSequence _ => true
  | .startCandidateVerified => true
  | .hfxQualified => true
  | .pllLock => true
  | .hfxFail _ => true
  | .hfxRetry => true
  | .demandEnd _ => true
  | .xtal32Takeover => true
  | .xtal32Timeout => true
  | .xtal32Stop => true
  | .xtal32Restart => true
  | .rcTrim _ => true
  | .shelfAutoEntry => true
  | .dspCfgWrite _ => true
  | .tripOutputEdge => true
  | .chdHoldExpiry => true
  | .sdiValueStale _ _ => true
  | .linkCycleWake => true
  | .vioLost => true
  | .vioRestored => true

end Sys2Proof
end

