-- ==== Sys2Proof/Tests/Slice0.lean ====
section
/-! SUPPORT. Tests: small states; for every statement with hypotheses a theorem that concrete states and operands meet them, clause
by clause, at the boundaries of their ranges; ill-formed commands; published check values; and single steps whose expected
values are computed from the spec's rules by hand. -/

namespace Sys2Proof.Tests

open Sys2Proof Sys2Proof.Machine Sys2Proof.Safety

set_option Elab.async false
set_option maxRecDepth 100000

/-! ### Small states -/

/-- A grant of an owner. -/
def own (cls idx facet : Nat) : GrantRec := ⟨cls, idx, facet, 1⟩

/-- A small structure: F0 on port A owns every block and most resources, F1 on ports B and C the rest. -/
def img : Image :=
  { len := 0, seq := 1, target := 1, device := 0, site := [], entries := [], sigs := [], lifecycle := 1, facetMask := 3,
    portcMode := 1, portcAddr := 0, cosign := 0, balls := [],
    routes := (List.range 8).map fun k => ⟨k, k, 0, if k < 3 then 1 else 2, 4⟩,
    insts := [⟨0x0101, 0, 0, 0xFF, 0, 0, 0, 0, 0⟩, ⟨0x0301, 0, 0, 0x700, 0, 0, 0, 0, 0⟩, ⟨0x0302, 0, 0, 0x300, 0, 0, 0, 0, 0⟩,
      ⟨0x0401, 0, 0, 0xC00, 0, 0, 0, 0, 0⟩, ⟨0x0501, 0, 0, 0, 0, 0, 0, 0, 0⟩, ⟨0x0601, 0, 0, 0, 0, 0, 0, 0, 0⟩,
      ⟨0x0701, 0, 0, 0x38, 0, 0, 0, 0, 0⟩, ⟨0x0703, 0, 0, 0x40, 0, 0, 0, 0, 0⟩],
    sectors := [], rots := [], facRecs := [⟨0, 1, 0⟩, ⟨1, 6, 0⟩],
    grants := (List.range 10).map (fun b => own 1 (b + 2) 0) ++ [own 3 0 0, own 4 0 0, own 5 1 0, own 6 1 0, own 6 2 0, own 7 0 0, own 7 1 1,
      own 7 6 0, own 8 0 0, own 8 0 1, own 9 0 0, own 9 0 1],
    policies := [⟨6, 2, 0⟩, ⟨7, 1, 0⟩], enrols := [], proofCount := 0, loads := [], budgets := [], framePresets := [],
    facets := [], ackFacet := 0, assessor := [], safPresets := [], accClear := false,
    accDef := [3, 4, 4 + 256, 4 + 512, 4 + 768], legal := [⟨3, 0, 2, 0⟩], profile := [], section_ := [], metPresets := [], digest := [] }

/-- A running device on mains with the structure `img`, its clocks on, outside the safe state. -/
def dev : State :=
  let s := State.reset
  { s with
    str := some img, aon := 1000000
    port := Vector.ofFn fun (p : Fin 3) => { vget s.port p.val PortSt.zero with facet := if p = 0 then some 0 else some 1 }
    pwc := { s.pwc with
      mode := .meter, vmainOk := true, vioOk := true, hfxOk := true, pllLock := true, start := .served, shipping := false
      clk := ⟨true, true, true, true, true⟩ }
    saf := { s.saf with safe := false, cause := 0, entry := 0, togB := true, tokOk := true }
    whl := { s.whl with state := .running } }

/-- `dev` with register values, in force since the latest round boundary too. -/
def devCfg (c : List (Nat × Word)) : State := { dev with cfg := c, cfgR := c }

/-- A one-word write on port A. -/
def wr (v : Word) : RegWr := ⟨0, false, v⟩

/-- A request frame on port A with its CRC. -/
def frm (cmd addr count : Nat) (data : List Word) : Frame :=
  let f : Frame := ⟨0, false, false, BitVec.ofNat 16 addr, BitVec.ofNat 8 count, data, 0⟩
  { f with crc := crc16 (requestBytes cmd f) }

/-! ### A whole image -/

/-- A table entry of a fixed part: offset and count (Table 1-6). -/
def tab (off count : Nat) : List Byte := leBytes 2 off ++ leBytes 2 count

/-- The FRAME body: one KN-PREP instance in one flex sector, F0 on port A, the pump-run grant and its policy (Tables 1-6, 1-7). -/
def frameBody : List Byte :=
  leBytes 8 1 ++ tab 0 0 ++ tab 0 0 ++ tab 0x34 1 ++ tab 0x44 64 ++ tab 0x144 2 ++ tab 0x148 1 ++ tab 0x14C 1 ++ tab 0x150 1 ++ tab 0 0
    ++ tab 0x154 1 ++ tab 0 0
    ++ (leBytes 2 0x0901 ++ leBytes 2 0 ++ leBytes 4 0x4000 ++ leBytes 2 0 ++ leBytes 2 (stateSize 0x0901 0) ++ leBytes 4 0xFFFF)
    ++ [0, 1, 0, 1] ++ (List.range 63).flatMap (fun n => leBytes 4 (n + 1))
    ++ leBytes 4 0 ++ [0, 1, 0, 0] ++ [9, 0, 0, 1] ++ [7, 1, 0xFF, 0xFF]
    ++ leBytes 2 120 ++ leBytes 126 0 ++ leBytes 4 1920

/-- The three bodies: F0 acknowledges, no assessor; no accumulators (Tables 1-6, 12-6, 1-8). -/
def bodies : List (Nat × List Byte) := [(1, frameBody), (3, leBytes 72 0), (4, leBytes 24 0)]

/-- Header but its CRC, directory and bodies, with IMAGE_SEQ (Tables 1-2, 1-3). -/
def imageHead : List Byte :=
  leBytes 4 0x4654414C ++ leBytes 2 1 ++ leBytes 2 0x40 ++ leBytes 4 diagId ++ leBytes 4 catalogue ++ leBytes 4 1220 ++ leBytes 4 7
    ++ [1, 3, 0, 0] ++ leBytes 12 0 ++ leBytes 4 1016 ++ leBytes 4 3 ++ leBytes 12 0

/-- A directory entry. -/
def dirBytes (off : Nat) (x : Nat × List Byte) : List Byte :=
  [BitVec.ofNat 8 x.1, 0, 0, 0] ++ leBytes 4 off ++ leBytes 4 x.2.length ++ leBytes 4 1 ++ sha256 x.2

/-- A signature record of signer 1. -/
def sigBytes (typ : Nat) (sig : List Byte) : List Byte := [1, BitVec.ofNat 8 typ, 0, 0] ++ sig

/-- The whole image from its signatures. -/
def imageBytes (sigs : List (List Byte)) : List Byte :=
  imageHead ++ wordBytes (crc32 imageHead)
    ++ dirBytes 448 (1, frameBody) ++ dirBytes 920 (3, leBytes 72 0) ++ dirBytes 992 (4, leBytes 24 0) ++ leBytes 240 0
    ++ bodies.flatMap Prod.snd ++ (List.zip [1, 3, 4] sigs).flatMap fun x => sigBytes x.1 x.2

/-- Bytes as a bank holds them. -/
def cellsOf (bs : List Byte) : List Host.Cell := (bs.zipIdx.filter fun x => decide (x.1 ≠ 0)).map fun x => (x.2, x.1)

/-- A big-endian number of 32 bytes (R23). -/
def be32 (n : Nat) : List Byte := (leBytes 32 n).reverse

/-- The three signatures over the sections with the private key 1, so with the key that is the base point itself (R28). -/
def signatures : List (List Byte) :=
  [be32 0x6b0da0dd150b6b26bcfad79d1b24c50dc15488ccd186c81cb77c9fb629f2308a ++
     be32 0xa26157a81ec128f04b5f09cfd03c02c3f9fadad900c0f31acc735bc73103beda,
   be32 0x6df99df89cfff86cadd6620aa5d0d75e6db73c70ccd7bdde65f11ea953eee613 ++
     be32 0x8e9f3d754a5d949371b46deb8095667a242b6750a4faeeb59905090e6e8c4fa8,
   be32 0x28efb1167619dd2b567ec82a110e5451d7c580d5d86b3ac8e4b2e03533c37f59 ++
     be32 0x0e29341bdde98702abd8930ff93f369c56ff23f5b0e7fcd89b6c64d8859a53c7]

/-- A bank that holds the whole image. -/
def fullBank : Bank := ⟨.loading, false, false, cellsOf (imageBytes signatures)⟩

/-- A running device that verifies the whole image; its slot 1 holds the signing key. -/
def verifying : State :=
  { dev with
    img := { dev.img with loader := .verifying, received := BitVec.allOnes 6144, banks := Vector.ofFn fun _ => fullBank }
    sec := { dev.sec with keys := Vector.ofFn fun k => if k = 1 then some (be32 p256G.1 ++ be32 p256G.2) else none } }

/-! ### States that the witnesses use -/

/-- An event record with a sequence number. -/
def ev (n : Nat) : EvRec := ⟨n, 0, { code := 1, sev := 1, who := 1 }⟩
/-- A state with one facet changed. -/
def onFacet (f : Nat) (g : FacetSt → FacetSt) (s : State) : State := { s with fac := vmod s.fac f g }
/-- A state with one port changed. -/
def onPort (p : Nat) (g : PortSt → PortSt) (s : State) : State := { s with port := vmod s.port p g }
/-- A state with one path changed. -/
def onPath (p : Nat) (g : FPath → FPath) (s : State) : State := { s with flw := { s.flw with path := vmod s.flw.path p g } }
/-- The specification of the register at an offset. -/
def specAt (o : Nat) : RegSpec := (specOf o).getD { ((specOf 0x2800).get (by decide)) with reset := 0 }
def receiving : State := { dev with img := { dev.img with loader := .receiving, sessionPort := 0 } }
def queueDev : State := onPort 0 (fun y => { y with popList := [4,5] }) (onFacet 0 (fun x => { x with queue := [ev 4, ev 5, ev 6] }) dev)
def channelFault : State := { dev with met := { dev.met with ch := vmod dev.met.ch 2 fun c => { c with state := .fault, ovl := 7 } }, whl := { dev.whl with faults := [(3, ⟨[5], some 6, false⟩)] } }
def pathFaulted : State := { onPath 1 (fun x => { x with state := .fault }) dev with whl := { dev.whl with faults := [(17, ⟨[5], some 6, false⟩)] } }
def linkFault : State := { dev with chd := { dev.chd with state := .fault } }
def gaugeFault : State := { dev with bat := { dev.bat with state := .fault } }
def displayFault : State := { dev with dsp := { dev.dsp with state := .fault }, cfg := [(0x4800, 1)] }
def pathRunning : State := onPath 0 (fun x => { x with state := .run }) dev
def calibrating : State := { pathRunning with flw := { pathRunning.flw with cal := ⟨1, 1, 1, 16, 0, 0, 0, [], 5, none⟩ } }
def glanceDev : State := { devCfg [(0x4800, 0xA01)] with dsp := { dev.dsp with seq := .run, state := .run, glance := none } }
def onBat (s : State) : State := { s with pwc := { s.pwc with vmainOk := false, mode := .shot } }
def tileRegs : State := devCfg [(0x4800,1),(0x4820, 0x10006000),(0x4824,0x10200808)]
def tileDev : State := { tileRegs with dsp := { tileRegs.dsp with tile := Vector.ofFn fun (n : Fin 8) => cfgV tileRegs (0x4820 + 4 * n.val) } }
def areaDev : State := onFacet 0 (fun x => { x with nvuSel := 1 }) dev
def watchedDev : State := onPort 1 (fun y => { y with wdtAt := some 967232, held := some okWrite }) (onFacet 1 (fun x => { x with timeoutMs := 1000 }) dev)
def safeDev : State := { devCfg [(0x6000, 0x10000)] with saf := { dev.saf with safe := true, cause := 0, entry := 1 } }
def switchWaits : State := { dev with img := { dev.img with loader := .switchPending, sessionPort := 0, hold := true } }
def verifyingEmpty : State := { dev with img := { dev.img with loader := .verifying } }
def verifyingHeld : State := { verifying with img := { verifying.img with hold := true } }
/-- A bank whose FRAME table enrols a key in slot 1. -/
def enrolBank : Bank := ⟨.loading, false, false,
  [(0x40, 1), (0x44, 0xC0), (0x45, 1), (0x48, 120), (488, 0x34), (490, 1), (500, 1), (504, 7)]⟩
/-- `dev` in step 4 of a switch, its bank enrolling slot 1. -/
def slots : State :=
  { dev with img := { dev.img with loader := .switchPending, step := .slots, banks := Vector.ofFn fun _ => enrolBank } }
/-- The same with nothing to program. -/
def noSlots : State := { slots with img := { slots.img with banks := Vector.ofFn fun _ => { enrolBank with mem := [(0x40, 1)] } } }
/-- A start whose ARMED candidate 0 enrols slot 1. -/
def startSlots : State :=
  { slots with
    pwc := { slots.pwc with start := .candidates, tried := [0] }
    img := { slots.img with loader := .idle, banks := Vector.ofFn fun _ => { enrolBank with state := .armed } } }
/-- `dev` at the round boundary of step 5 with the whole image. -/
def applying : State :=
  { dev with img := { dev.img with
      loader := .switchPending, step := .apply
      banks := Vector.ofFn fun i => if i = 0 then ⟨.armed, false, false, []⟩ else { fullBank with state := .active, apply := true } } }
def asked (r : ResetReq) : State := { dev with
  aon := 1000100, pwc := { dev.pwc with req := r, reqAt := 1000000 }
  sto := { dev.sto with slots := Vector.ofFn fun i => if i = 0 then some ⟨1000050, 1, .reset, packBody dev, true, true⟩ else none } }
def shelved : State := { dev with pwc := { dev.pwc with mode := .shelf, start := .heldInReset } }
def released : State := State.reset
def good : StartIn := ⟨2, [3], [], [], true⟩
def candidateDev : State := { State.reset with
  pwc := { State.reset.pwc with start := .candidates }
  sec := verifying.sec
  img := { State.reset.img with banks := Vector.ofFn fun _ => { fullBank with state := .armed } } }
def sectorIn : SectorIn := ⟨[], [(0, [5])], [], [], [], none⟩
def wheelStopped : State := { dev with whl := { dev.whl with state := .stopped } }
def atSector (n : Nat) : State := { dev with whl := { dev.whl with sector := n } }
/-- A word of state memory with wrong bits, in the state block of the gauge's instance. -/
def flipped (b : BitVec 72) : State := { atSector 5 with
  str := some { img with insts := [⟨0x0501, 0, 0, 0, 32, 64, 0, 0, 0⟩] }
  whl := { (atSector 5).whl with scrubWord := 4, flips := [(4, b)] } }
def noWork : SectorIn := ⟨[], [], [], [], [], none⟩
def quietChan : ChanIn := ⟨1 / 1000, 0, 0, 0, 0⟩
def roundIn : RoundIn := ⟨[⟨4, 0x2000, 0⟩], ⟨1024000, 0⟩⟩
def burst : State := { dev with whl := { dev.whl with state := .burst, sector := 64 } }
def metering : State := { dev with
  met := { dev.met with ch := vmap dev.met.ch fun _ c => { c with state := .run, age := 2000, tag := .valid, cnt := 8000, sumI := 4000000, sumQ := 17 } }
  nrg := { dev.nrg with sets := vmap dev.nrg.sets fun _ x => { x with acc := Vector.replicate 8 (2^128 - 1) } }
  whl := { dev.whl with sector := 64, stop := [1], ran := [(0, false)] } }
def armedFn : State := { devCfg [(0x6000, 0xF)] with saf := { dev.saf with refBad := 1 } }
def tenDue : State := { dev with pq := { dev.pq with tenAt := 672320, tenCyc := 500, tenDur := 80000, tenFb := true } }
def tenEarly : State := { tenDue with aon := 999999 }
def cfCfg : State := { devCfg [(0x7840, 0x20000), (0x7844, 1)] with nrg := { dev.nrg with now := 100, eng := 100 } }
def cfSt (c : CfSt) : State := { cfCfg with nrg := { cfCfg.nrg with cf := vmod cfCfg.nrg.cf 0 fun _ => c } }
def cfDue : State := cfSt ⟨4294967296, 0, 0, 0, false, 5, false, some 818176, 818688, 0, none⟩
def cfBack : State := cfSt ⟨4294967296, 0, 0, 65534, false, 5, true, some 1, 8000000, 0, none⟩
def cfFull : State := cfSt ⟨4294967296, 0, 0, 65535, false, 5, true, some 1, 2, 0, none⟩
def cfLow : State := cfSt ⟨4294967295, 0, 0, 3, false, 5, false, none, 0, 0, none⟩
def flowDev : State := devCfg [(0x310C, 50000), (0x3110, 70711), (0x3114, 50000), (0x330C, 4000000), (0x3310, 3000000)]
def pathDue : State := onPath 0 (fun x => { x with state := .run, nextAt := 1000000, gain := 7 }) flowDev
def pathBusy : State := { pathDue with flw := { pathDue.flw with queue := [(1, true)] } }
def pathFault : State := onPath 0 (fun x => { x with state := .fault }) pathDue
def pathEarly : State := { pathDue with aon := 999999 }
def shot0 : ShotRes := ⟨0, 47000000, 1000, 40, 100, []⟩
def openPair : PairSt := ⟨true, latchCfg flowDev, true, 7, some 999990, 0, 90000, 90000, none, none, false, false, false, false, false⟩
def withPair (q : PairSt) (s : State) : State := onPath 0 (fun x => { x with pair := some q }) s
def afterDn : State := withPair openPair pathDue
def duePair : PairSt := { openPair with dnAt := some 990000 }
def dueDn : State := withPair duePair pathDue
def upWaits : State := withPair { openPair with upDue := true } pathDue
def fire (vus ring at_ : Nat) : FireIn := ⟨vus, ring, 90000, at_⟩
def upHead : State := { upWaits with flw := { upWaits.flw with queue := [(0, true)], bufs := [(1, false)] } }
def dnHead : State := { upWaits with flw := { upWaits.flw with queue := [(0, false), (0, true)] } }
def shotHeld : State := { dnHead with flw := { dnHead.flw with front := some (0, true), bufs := [(0,true)] } }
def reserved : State := { dnHead with
  cfg := dnHead.cfg ++ [(0x3800, 2), (0x3804, 1000), (0x3808, 0x201C18), (0x380C, 10)]
  chd := { dev.chd with state := .run, leader := true, tA := 10000001000 }
  flw := { dnHead.flw with path := vmod dnHead.flw.path 2 fun x => { x with pair := some openPair } } }
def reservedAgain : State := { reserved with flw := { reserved.flw with waited := [(0, false)] } }
def capture : Capture := ⟨List.replicate (capLen (flowPath upWaits 0) (flowCfg openPair.cfg 0)) 100, [⟨3, 5, true⟩]⟩
def captured : State := { shotHeld with flw := { shotHeld.flw with front := none } }
def failedPair : PairSt := { openPair with abort := true }
def lastValid (a : Nat) : Option LastValid := some ⟨a, 47000000, 47000100⟩
def failed (l : Option LastValid) (st : Mgmt) (e : Bool) : State :=
  withPair failedPair (onPath 0 (fun x => { x with state := st, last := l, q := 1000, from_ := 999000, expired := e }) { flowDev with cfg := flowDev.cfg ++ [(0x3004, 1000)] })
def failFresh : State := { failed (lastValid 967222) .run false with cfg := (0x3004, 1000) :: flowDev.cfg }
def failOld : State := { failed (lastValid 967221) .hold false with cfg := (0x3004, 1000) :: flowDev.cfg }
def failExpired : State := failed none .hold true
def failStarting : State := failed none .starting false
def goodPair : PairSt := { openPair with dn := some shot0, up := some { shot0 with arr := 47000500 }, upDue := true }
def passing (n : Nat) (st : Mgmt) : State := withPair goodPair (onPath 0 (fun x => { x with state := st, validRun := n, expired := true }) flowDev)
def unpublished : State := { passing 3 .starting with pub := some (bankOf pathDue) }
def startSeen : State := { State.reset with
  pwc := { State.reset.pwc with start := .candidates }
  img := { State.reset.img with banks := Vector.ofFn fun _ => ⟨.armed, false, false, []⟩ } }
/-- A link frame of a type with epoch and cycle, of n bytes with its CRC. -/
def linkBody (typ epoch cycle n : Nat) : List Byte :=
  let b := [BitVec.ofNat 8 typ, 0, BitVec.ofNat 8 epoch, BitVec.ofNat 8 cycle] ++ List.replicate (n - 8) 0
  b ++ wordBytes (crc32 b)
def linkIn (typ epoch n : Nat) (ok : Bool) (stamp : Nat) : LinkIn := ⟨linkBody typ epoch 9 n, ok, stamp⟩
def linkDev : State := { devCfg [(0x3800, 2), (0x3804, 1000), (0x3808, 0x201C18), (0x380C, 10)] with
  chd := { dev.chd with state := .run, epoch := 5, t1 := 1000, tA := 10000001000, goodAt := 999672 } }
def linkFull : State := { linkDev with chd := { linkDev.chd with rxq := 1000 } }
def leaderDev : State := { linkDev with chd := { linkDev.chd with leader := true } }
def shortRun : State := { linkDev with chd := { linkDev.chd with discRun := 1, discAt := List.replicate 30 967233 } }
def shortMany : State := { linkDev with chd := { linkDev.chd with discRun := 1, discAt := List.replicate 31 967233 } }
def badCrc : LinkIn := ⟨List.replicate 24 1, true, 0⟩
def leaderB : State := { leaderDev with cfg := [(0x3800, 0), (0x3804, 1000), (0x3808, 0x201C18)] }
def missed : State := { leaderDev with chd := { leaderDev.chd with missRun := 1, cycMissed := true } }
def missedOnce : State := { linkDev with chd := { linkDev.chd with missRun := 1 } }
def holdOld : State := { linkDev with chd := { linkDev.chd with state := .hold, goodAt := 672319 } }
def holdEdge : State := { linkDev with chd := { linkDev.chd with state := .hold, goodAt := 672320 } }
def bankCfgs : List (Nat × Word) := (0x330C, 4000000) :: (0x3310, 3000000) :: linkDev.cfg
def cycleDue : State := { leaderDev with cfg := bankCfgs, chd := { leaderDev.chd with nextAt := 1000000, ownReq := true, ownSent := true, cycle := 255 } }
def swapDue : State := { cycleDue with chd := { cycleDue.chd with committed := true, newEpoch := 6 } }
def followSwap : State := { linkDev with chd := { linkDev.chd with committed := true, newEpoch := 6 } }
def cycleEarly : State := { cycleDue with aon := 999999 }
def gotSync : State := { linkDev with chd := { linkDev.chd with gotReply := true, ownReq := true } }
def bankPair : PairSt := ⟨false, latchCfg linkDev, true, 3, none, 0, 0, 0, none, none, false, false, false, false, false⟩
def withBank (q : PairSt) (s : State) : State := onPath 2 (fun x => { x with state := .run, pair := some q }) s
def bankDev : State := withBank bankPair leaderDev
def bankIn (b : Bool) (at_ : Nat) : BankIn := ⟨b, ⟨2800, 800000, 90000, at_⟩⟩
def bankShot : ShotRes := ⟨0, 47000000, 1000, 40, 100, []⟩
def bankGood : State := withBank { bankPair with dn := some bankShot, up := some bankShot, dnAt := some 999990 } { leaderDev with chd := { leaderDev.chd with gotArrive := true, tagA := .valid, tagB := .valid, aArr := some 5000000, bFired := some 7, gotReply := true, t4 := some 3, partnerUp := true } }
def reverts (a : Nat) : State := { linkDev with chd := { linkDev.chd with revert := some ⟨a, 4, 0⟩ } }
def linkBat : State := { linkDev with pwc := { dev.pwc with vmainOk := false, mode := .idle, clk := ⟨false, false, false, false, false⟩ } }
def onSlot (k : Nat) (g : SdiSlot → SdiSlot) (s : State) : State := { s with sdi := { s.sdi with slots := vmod s.sdi.slots k g } }
/-- Slot 0 runs M for address "0" with two values and two decimals; slot 7 runs C for address "1". -/
def sdiDev : State := { devCfg [(0x3C00, 0x00640003), (0x3C40, 0x01220030), (0x3C44, 0x000A003C), (0x3EE0, 0x01010231), (0x3EE4, 0x003C003C)] with
  str := some { img with balls := [⟨0, 0x14, 0⟩] } }
def sdiDue : State := onSlot 0 (fun x => { x with dueAt := 1000000 }) sdiDev
def sdiTxn (k : Nat) (ph : SdiPhase) : SdiTxn := { slot := k, shot := false, conc := false, phase := ph, dIdx := 0, n := 2, vals := [], retries := 0, anyChar := false, deadline := 1000000 }
def sdiOpen (x : SdiTxn) : State := let s := onSlot 0 (fun x => { x with dueAt := 1000000, tags := Vector.replicate 9 .valid, fails := 2 }) sdiDev; { s with sdi := { s.sdi with txn := some x } }
def sdiIdle : State := onSlot 0 (fun x => { x with dueAt := 1000001 }) sdiDev
def sdiBusy : State := sdiOpen (sdiTxn 0 .meas)
def sdiOff : State := { sdiBusy with str := some img }
def sdiReady : State := onSlot 0 (fun x => { x with due := true }) sdiDev
def sdiSwitched : State := { sdiReady with cfg := (0x3C00, 0x00640005) :: sdiReady.cfg }
def firstTxn : SdiTxn := ⟨0, false, false, .power, 0, 0, [], 0, false, 0⟩
def sdiPower : State := sdiOpen (sdiTxn 0 .power)
def sdiLast : State := sdiOpen { sdiTxn 0 .meas with retries := 3 }
def line (cs : List Byte) : SdiLine := ⟨cs, true⟩
def sdiConc : State := sdiOpen (sdiTxn 7 .meas)
def sdiData : State := sdiOpen (sdiTxn 0 .data)
def sdiWait : State := sdiOpen (sdiTxn 0 .wait)
def sdiPend : State := onSlot 7 (fun x => { x with pendN := some 2, dataAt := 1000000 }) sdiDev
def sdiAged : State := onSlot 0 (fun x => { x with at_ := Vector.replicate 9 (some 639552) }) sdiDev
def sdiFresh : State := onSlot 0 (fun x => { x with at_ := Vector.replicate 9 (some 999999) }) sdiDev
def gaugeDev : State := { devCfg [(0x4000, 0x20), (0x4004, 10000), (0x400C, 50)] with bat := { dev.bat with state := .run, present := true, quietRun := 3, frameNo := 17, lastAt := 967232, curr := -20 } }
def gaugeFirst : State := { gaugeDev with bat := { gaugeDev.bat with frameNo := 16 } }
def gaugeIn (nv : Int) (sl : Option GaugeVT) : GaugeIn := ⟨nv, sl⟩
def gaugeQuiet : State := { gaugeDev with bat := { gaugeDev.bat with mode := 1, interval := 16, lastAt := 475712 } }
def gaugeAbsent (n : Nat) : State := { gaugeDev with bat := { gaugeDev.bat with state := .hold, known := true, present := false, presRun := n } }
def batteryDev : State := { dev with pwc := { dev.pwc with vmainOk := false, vmainLostAt := some 5, mode := .shot } }
def batteryNow : State := { batteryDev with pwc := { batteryDev.pwc with vmainLostAt := some 999990 } }
def candidates (ok : Bool) : State := { dev with pwc := { dev.pwc with start := .candidates, vmainOk := ok } }
def inReset : State := { dev with pwc := { dev.pwc with start := .heldInReset } }
def inResetBat : State := { batteryDev with pwc := { batteryDev.pwc with start := .heldInReset } }
def shelfBat : State := { batteryDev with pwc := { batteryDev.pwc with start := .heldInReset, mode := .shelf } }
def withDsp (g : Dsp → Dsp) (s : State) : State := { s with dsp := g s.dsp }
def dspRails (n : Nat) : State := withDsp (fun d => { d with state := .starting, seq := .rails n, good := 7 }) (devCfg [(0x4800, 1)])
def tileCfg : State := devCfg [(0x4800, 1), (0x4820, 0x080C3000), (0x4824, 0x10200808)]
def dspZero (n : Nat) (d : Option Word) : State := withDsp (fun x => { x with state := .starting, seq := .zero n, diverse := d }) tileCfg
def dspRun : State := withDsp (fun x => { x with state := .run, seq := .run, nextItem := true, dwellEnd := 1000000, tile := Vector.ofFn fun (n : Fin 8) => cfgV tileCfg (0x4820 + 4 * n.val) }) tileCfg
def dspSeq (q : DspSeq) (st : Mgmt) : State := withDsp (fun x => { x with state := st, seq := q }) (devCfg [(0x4800, 1)])
def dspLast : State := withDsp (fun x => { x with state := .run, seq := .down 4 }) dev
def dspAgree : State := withDsp (fun x => { x with diverse := some 0#32, tiles := Vector.ofFn fun (n : Fin 8) => ⟨tileCrc [] (tileNow dspRun n), 0, 0, 2, true, decide (n = 1)⟩ }) dspRun
def dspBad : State := withDsp (fun x => { x with diverse := some 0#32, tiles := Vector.ofFn fun (n : Fin 8) => ⟨tileCrc [] (tileNow dspRun n), 0, 0, if n.val = 0 then 1 else 2, true, false⟩ }) dspRun
def functionDev : State := { devCfg [(0x6000, 0x100F), (0x6004, 0x00030100), (0x602C, 0x00020050)] with
  met := { dev.met with ch := vmap dev.met.ch fun _ c => { c with state := .run, age := 2000, tag := .valid } } }
def functionTrip : State := { functionDev with saf := { functionDev.saf with ocRun := Vector.replicate 8 2, efFast := 1, wdt := true, tokRef := true, fb := true } }
def pilotWin : State := { functionDev with saf := { functionDev.saf with pN := Vector.ofFn fun (k : Fin 8) => if k.val = 3 then 625 else 624, pBad := Vector.replicate 8 1 } }
def crossWin : State := { functionDev with saf := { functionDev.saf with xFast := Vector.replicate 8 (1000000000000, 4), xRound := Vector.replicate 8 (4, 4) } }
def padBad : State := { functionDev with saf := { functionDev.saf with padBad := 1, lvl := (true, false) } }
def hfxLost : State := { functionDev with pwc := { functionDev.pwc with hfxOk := false } }
def clearing : State := { functionTrip with saf := { functionTrip.saf with safe := true, cause := 0x01041020, entry := 0x01000000, failAt := Vector.replicate 32 672320 } }
def leaving : State := { devCfg [(0x6000, 0x100)] with saf := { dev.saf with safe := true, cause := 0x1000, entry := 0x01000000, failAt := Vector.replicate 32 672320 } }
def fbDue (closed : Bool) : State := { devCfg [(0x6000, 0x40), (0x6044, 50)] with saf := { dev.saf with fbDone := false, prun := true, prunAt := 998361, fb := closed } }
def closedRec (n : Nat) : CommitRec := ⟨990000, n, .period, packBody dev, true, true⟩
def queued (k : CommitKind) : Queued := ⟨k, 999000, true, packBody dev, 5, 6, 7⟩
def commitDev (k : CommitKind) : State := { dev with sto := { dev.sto with
  slots := Vector.ofFn fun i => if i = 0 then some (closedRec 65535) else none, cqueue := [queued k, queued .state], maxS := 4 } }
def switchCommit : State := { slots with sto := (commitDev .switch).sto, img := { slots.img with step := .commit } }
def switchPlain : State := { noSlots with sto := (commitDev .switch).sto, img := { noSlots.img with step := .commit } }
def batDue (a : Nat) : State := { batteryDev with cfg := [(0xF200, 0x00050002)], sto := { dev.sto with lastQueued := some a, deferred := some .period } }
def scanning : State := withDsp (fun x => { x with state := .run, seq := .run }) afterDn
def pfDev : State := { dev with pwc := { dev.pwc with pf := .writing } }
def pfFinal : State := { pfDev with sto := (commitDev .final).sto }
def withPwc (g : Pwc → Pwc) (s : State) : State := { s with pwc := g s.pwc }
def starting (fail : Bool) : State := withPwc (fun p => { p with hfxStarting := true, hfxStartAt := 999672, hfxOk := false, pllLock := false, hfxFail := fail, clk := ⟨true, false, false, false, false⟩ }) dev
def heldGauge : State := { starting true with bat := { dev.bat with state := .fault }, cfg := [(0x4000, 0x20)] }
def unlocked : State := withPwc (fun p => { p with pllLock := false, clk := ⟨true, false, false, false, true⟩ }) wheelStopped
def unlockedBat : State := withPwc (fun p => { p with vmainOk := false, mode := .shot }) unlocked
def retry (a : Nat) : State := withPwc (fun p => { p with hfxFail := true, hfxFailAt := a, hfxOk := false, pllLock := false, clk := ⟨false, false, false, false, false⟩ }) wheelStopped
def demandLast : State := withPwc (fun p => { p with vmainOk := false, mode := .shot, dem := ⟨false, true, false⟩ }) wheelStopped
def onRc (fail : Bool) (at_ : Option Nat) : State := withPwc (fun p => { p with aonRc := true, xtalFail := fail, xtalRestartAt := at_, resetCause := 1, startAt := 967232 }) dev
def rcBat : State := withPwc (fun p => { p with vmainOk := false, mode := .idle, hfxOk := false, pllLock := false, clk := ⟨false, false, false, false, false⟩ }) { onRc false none with whl := wheelStopped.whl, aon := 2097152 }
def rcEarly : State := { rcBat with aon := 2097151 }
def setRtc : State := withPwc (fun p => { p with rtcNext := some 77 }) dev
def heldSince (a : Nat) : State := withPwc (fun p => { p with start := .heldInReset, heldAt := a }) dev
def rendered (a : Nat) : State := withDsp (fun x => { x with renderAt := some a }) dspRun
def startEarly : State := withPwc (fun p => { p with hfxStartAt := 999673 }) (starting false)

/-! ### States of single clauses, named after the statement they belong to -/

def stepRunsFrontCommand1 : State := { dev with pending := [.captureClose] }
def sealedIsFinal1 : State := { dev with sec := { dev.sec with lifecycle := .sealed } }
def programmedKeysNeverChange1 : State := { dev with sec := { dev.sec with keys := Vector.replicate 6 (some [1]) } }
def countersNeverDecrease1 : State := { dev with sec := { dev.sec with arb := Vector.replicate 7 (.all 3) } }
def atMostOneBankActive1 : State := { dev with aon := dev.aon + 1, cyc := Cycle.fresh, pwc := { dev.pwc with rtc := dev.pwc.rtc + 1 } }
def readReturnsWordValues1 : State := { dev with chd := { dev.chd with second := true } }
def deniedFramesWriteNothing1 : Frame := {frm cmdWrite 0x2808 1 [5] with port := 1}
def imageChunksFillTheBank1 : State := { dev with img := { dev.img with loader := .receiving, sessionPort := 1 } }
def imageChunksFillTheBank2 : State := { dev with img := { dev.img with loader := .verifying, sessionPort := 0 } }
def imageChunksFillTheBank3 : Frame := {frm cmdChunk 0 2 [5,7] with port := 1}
def badFramesChangeOnlyTheirPort1 : Frame := {frm cmdWrite 0x2808 1 [5] with crc := 0}
def badFramesChangeOnlyTheirPort2 : State := onPort 0 (fun y => { y with executing := some ⟨cmdWrite, frm cmdWrite 0x2808 1 [5]⟩ }) dev
def badFramesChangeOnlyTheirPort3 : State := onPort 0 (fun y => { y with executing := some ⟨cmdWrite, frm cmdWrite 0x2808 1 [5]⟩, waiting := some ⟨cmdWrite, frm cmdWrite 0x2808 1 [5]⟩ }) dev
def badFramesChangeOnlyTheirPort4 : State := { dev with pwc := { dev.pwc with start := .candidates } }
def portsBetweenRequests1 : State := onPort 0 (fun y => { y with held := some okWrite }) dev
def portsBetweenRequests2 : State := onPort 0 (fun y => { y with transient := some okWrite }) dev
def portsBetweenRequests3 : State := { dev with str := some { img with portcMode := 2 } }
def portsBetweenRequests4 : State := onPort 0 (fun y => { y with waiting := some ⟨cmdWrite, frm cmdWrite 0x2808 1 [5]⟩ }) dev
def portsBetweenRequests5 : State := onPort 0 (fun y => { y with waiting := some ⟨cmdStatus, frm cmdStatus 0 1 []⟩ }) dev
def counterClears1 : State := onFacet 0 (fun x => { x with deniedRd := 4 }) dev
def counterClears2 : State := { dev with pq := { dev.pq with fbCount := 3 } }
def counterClears3 : State := { dev with dsp := { dev.dsp with refused := 3 } }
def calibrationRuns1 : State := { calibrating with aon := 100000000 }
def flowConfigurationKeepsItsRelations1 : State := { dev with flw := { dev.flw with refHas := Vector.replicate 3 true } }
def linkAndSensorRows1 : State := { dev with chd := { dev.chd with state := .run } }
def glancesStartExtendAndExpire1 : State := { glanceDev with dsp := { glanceDev.dsp with glance := some 1000000 } }
def glancesStartExtendAndExpire2 : State := { glanceDev with dsp := { glanceDev.dsp with glance := some 1000001 } }
def frameMemoryWritesQueueAndLand1 : State := { tileDev with dsp := { tileDev.dsp with queue := List.replicate 64 (0,0,0) } }
def frameMemoryWritesQueueAndLand2 : State := { tileDev with dsp := { tileDev.dsp with queue := [(0,64*32+4,0x12345678#32)] } }
def frameMemoryWritesQueueAndLand3 : State := { tileDev with dsp := { tileDev.dsp with queue := [(1,64*32+4,0x12345678#32)] } }
def storeAndLogRows1 : State := { dev with sto := { dev.sto with clearing := some 2, areas := [(5, 1), (0x2005, 3), (0x4000, 9)] } }
def storeAndLogRows2 : State := onPort 0 (fun y => { y with executing := some ⟨cmdWrite, frm cmdWrite 0x8004 2 [1,2]⟩ }) { dev with sto := { dev.sto with areaWrites := [⟨0, 0, 2, [(4, 0x01020304#32)]⟩] } }
def facetResetsAndWatchdogs1 : State := onFacet 0 (fun x => { x with pumpReq := 2, queue := [ev 4], deniedWr := 3 }) dev
def facetResetsAndWatchdogs2 : State := onPort 0 (fun y => { y with wdtAt := some 967232 }) (onFacet 0 (fun x => { x with timeoutMs := 1000 }) receiving)
def facetResetsAndWatchdogs3 : RegWr := {wr 0xFFFFF with port := 1}
def requestsToSharedActuators1 : State := { safeDev with saf := { safeDev.saf with cause := 1 } }
def sharedActuatorsFollowTheirPolicy1 : State := onFacet 0 (fun x => { x with gpReq := Vector.replicate 6 2 }) dev
def sharedActuatorsFollowTheirPolicy2 : State := onFacet 0 (fun x => { x with pumpReq := 2 }) dev
def sharedActuatorsFollowTheirPolicy3 : State := onFacet 1 (fun x => { x with brightLevel := 7, brightValid := true }) dev
def loaderCommands1 : State := { switchWaits with img := { switchWaits.img with step := .commit } }
def resetsKeepWhatContinues2 : State := { asked ⟨true, false, false, false⟩ with sto := dev.sto }
def resetsKeepWhatContinues3 : State := { dev with str := none, pwc := { dev.pwc with shipping := true, vmainOk := false, vmainLostAt := some 16960, startAt := 10 } }
def resetsKeepWhatContinues4 : State := { dev with img := { dev.img with loader := .receiving } }
def startsRunTheirSequence1 : StartIn := { good with factoryOk := false }
def startsRunTheirSequence2 : State := { released with img := { released.img with banks := Vector.ofFn fun i => if i = 0 then { fullBank with state := .armed, held := true } else { fullBank with state := .armed } } }
def sectorsAndForcedUnits1 : State := { dev with whl := { dev.whl with scrubWord := 8191, sector := 63 } }
def sectorsAndForcedUnits2 : State := { onPath 0 (fun x => { x with state := .fault, refFault := true }) dev with whl := { dev.whl with faults := [(16, ⟨[5], some 1000000, false⟩)] } }
def sectorsAndForcedUnits3 : State := { dev with met := { dev.met with ch := vmod dev.met.ch 2 fun c => { c with state := .fault } }, whl := { dev.whl with faults := [(3, ⟨[5], some 1000000, false⟩)] } }
def pairAttemptsAndShots1 : PairSt := { openPair with upDue := true }
def pairOutcomesHoldExpireAndResume1 : ShotRes := { shot0 with arr := 47000500 }
def linkCyclesAndRoles1 : PairSt := { bankPair with dn := some bankShot, up := some bankShot, dnAt := some 999990 }
def sensorTransactionsRun1 : SdiTxn := { sdiTxn 0 .meas with retries := 3 }
def diagnosticsTripOutputsAndExit1 : State := { functionDev with pwc := { functionDev.pwc with aonRc := false } }
def clocksStartFailAndStop1 : State := { dev with pwc := { dev.pwc with aonRc := false } }

/-! ### Every statement's hypotheses can be met -/

/-- The hypotheses of StepRunsFrontCommand, clause by clause. -/
theorem witness_stepRunsFrontCommand :
    stepRunsFrontCommand1.pending = [Instr.captureClose] ∧
    dev.pending = [] ∧
    setRtc.pending = [] := by
  and_intros <;> decide +kernel

/-- The hypotheses of SealedIsFinal, clause by clause. -/
theorem witness_sealedIsFinal :
    sealedIsFinal1.sec.lifecycle = Lifecycle.sealed := by
  decide +kernel

/-- The hypotheses of ProgrammedKeysNeverChange, clause by clause. -/
theorem witness_programmedKeysNeverChange :
    vget programmedKeysNeverChange1.sec.keys 2 none = some [1] := by
  decide +kernel

/-- The hypotheses of AtMostOneBankActive, clause by clause. -/
theorem witness_atMostOneBankActive :
    oneActive dev ∧
    step dev = Host.Outcome.next atMostOneBankActive1 := by
  and_intros <;> first | decide +kernel | rfl

/-- The hypotheses of ReadReturnsWordValues, clause by clause. -/
theorem witness_readReturnsWordValues :
    ready (if false = true then cmdCoherent else cmdRead) 0 (frm cmdRead 10248 1 []) dev ∧
    ready (if true = true then cmdCoherent else cmdRead) 0 (frm cmdCoherent 0 4 []) dev ∧
    ready (if true = true then cmdCoherent else cmdRead) 0 (frm cmdCoherent 14368 1 []) readReturnsWordValues1 ∧
    (frm cmdCoherent 14368 1 []).addr = 14368 ∧
    (frm cmdCoherent 14368 1 []).count = 1 ∧
    outcomeOf readReturnsWordValues1 0 14368 false = WordOut.ok ∧
    ready (if false = true then cmdCoherent else cmdRead) 0 (frm cmdRead 14368 1 []) readReturnsWordValues1 ∧
    (frm cmdRead 14368 1 []).addr = 14368 ∧
    (frm cmdRead 14368 1 []).count = 1 ∧
    offsets (frm cmdRead 10248 1 []) = [10248] ∧
    outcomeOf dev 0 10248 false = WordOut.ok ∧
    inFrameMem 10248 = false ∧
    snapKey 10248 = none ∧
    (∀ off ∈ offsets (frm cmdCoherent 0 4 []), outcomeOf dev 0 off false = WordOut.ok ∧ inFrameMem off = false ∧ off ≠ 14368) := by
  and_intros <;> decide +kernel

/-- The hypotheses of SnapshotsBelongToTheirPort, clause by clause. -/
theorem witness_snapshotsBelongToTheirPort :
    (frm cmdRead 8192 1 []).count = 1 ∧
    (frm cmdRead 8192 1 []).addr.toNat ≠ 14368 ∧
    outcomeOf dev 0 (frm cmdRead 8192 1 []).addr.toNat false = WordOut.ok ∧
    snapKey (frm cmdRead 8192 1 []).addr.toNat = some (8192, 0) ∧
    ready cmdRead 0 (frm cmdRead 8192 1 []) dev ∧
    (frm cmdRead 8196 1 []).count = 1 ∧
    (frm cmdRead 8196 1 []).addr.toNat ≠ 14368 ∧
    outcomeOf dev 0 (frm cmdRead 8196 1 []).addr.toNat false = WordOut.ok ∧
    snapKey (frm cmdRead 8196 1 []).addr.toNat = some (8192, 1) ∧
    ready cmdRead 0 (frm cmdRead 8196 1 []) dev ∧
    (frm cmdCoherent 8196 1 []).count = 1 ∧
    (frm cmdCoherent 8196 1 []).addr.toNat ≠ 14368 ∧
    outcomeOf dev 0 (frm cmdCoherent 8196 1 []).addr.toNat false = WordOut.ok ∧
    snapKey (frm cmdCoherent 8196 1 []).addr.toNat = some (8192, 1) ∧
    ready cmdCoherent 0 (frm cmdCoherent 8196 1 []) dev := by
  and_intros <;> decide +kernel

/-- The hypotheses of DeniedFramesWriteNothing, clause by clause. -/
theorem witness_deniedFramesWriteNothing :
    ready cmdWrite 1 deniedFramesWriteNothing1 dev ∧
    wordsStatus (List.map (writeOut dev 1) (written deniedFramesWriteNothing1)) ≠ none ∧
    ready cmdWrite 0 (frm cmdWrite 4080 1 [5]) dev ∧
    wordsStatus (List.map (writeOut dev 0) (written (frm cmdWrite 4080 1 [5]))) ≠ none := by
  and_intros <;> decide +kernel

/-- The hypotheses of WriteAppliesItsWords, clause by clause. -/
theorem witness_writeAppliesItsWords :
    ready cmdWrite 0 (frm cmdWrite 10240 2 [5, 7]) dev ∧
    wordsStatus (List.map (writeOut dev 0) (written (frm cmdWrite 10240 2 [5, 7]))) = none ∧
    (∀ x ∈ written (frm cmdWrite 10240 2 [5, 7]), inAreaData x.1 = false ∧ ¬(x.1 = 24 ∧ keyed x.2 = true ∧ bit x.2 0 = true) ∧ ((frm cmdWrite 10240 2 [5, 7]).same = true → dev.cyc.writes.contains (0, x.1) = false)) ∧
    (∀ x ∈ written (frm cmdWrite 10240 2 [5, 7]), inFrameMem x.1 = true → dev.dsp.queue.length + (List.filter (fun y => inFrameMem y.1) (written (frm cmdWrite 10240 2 [5, 7]))).length ≤ 64) ∧
    ((∀ x ∈ written (frm cmdWrite 10240 2 [5, 7]), wordBusy dev 0 (frm cmdWrite 10240 2 [5, 7]).port x.1 x.2 = false) ∨ ∃ x ∈ written (frm cmdWrite 10240 2 [5, 7]), wordLocked dev x.1 x.2 = true) ∧
    ready cmdWrite 0 (frm cmdWrite 12288 2 [5, 7]) dev ∧
    wordsStatus (List.map (writeOut dev 0) (written (frm cmdWrite 12288 2 [5, 7]))) = none ∧
    (∀ x ∈ written (frm cmdWrite 12288 2 [5, 7]), inAreaData x.1 = false ∧ ¬(x.1 = 24 ∧ keyed x.2 = true ∧ bit x.2 0 = true) ∧ ((frm cmdWrite 12288 2 [5, 7]).same = true → dev.cyc.writes.contains (0, x.1) = false)) ∧
    (∀ x ∈ written (frm cmdWrite 12288 2 [5, 7]), inFrameMem x.1 = true → dev.dsp.queue.length + (List.filter (fun y => inFrameMem y.1) (written (frm cmdWrite 12288 2 [5, 7]))).length ≤ 64) ∧
    ((∀ x ∈ written (frm cmdWrite 12288 2 [5, 7]), wordBusy dev 0 (frm cmdWrite 12288 2 [5, 7]).port x.1 x.2 = false) ∨ ∃ x ∈ written (frm cmdWrite 12288 2 [5, 7]), wordLocked dev x.1 x.2 = true) := by
  and_intros <;> decide +kernel

/-- The hypotheses of StatusReportsFacetAndPort, clause by clause. -/
theorem witness_statusReportsFacetAndPort :
    ready cmdStatus 0 (frm cmdStatus 0 1 []) dev := by
  decide +kernel

/-- The hypotheses of ImageChunksFillTheBank, clause by clause. -/
theorem witness_imageChunksFillTheBank :
    ready cmdChunk 0 (frm cmdChunk 6142 2 [5, 7]) receiving ∧
    receiving.img.loader = LoaderState.receiving ∧
    (frm cmdChunk 6142 2 [5, 7]).port = receiving.img.sessionPort ∧
    (frm cmdChunk 6142 2 [5, 7]).addr.toNat + (frm cmdChunk 6142 2 [5, 7]).data.length ≤ 6144 ∧
    memWf (loadingBank receiving).mem = true ∧
    ready cmdChunk 0 (frm cmdChunk 6143 2 [5, 7]) receiving ∧
    (receiving.img.loader = LoaderState.idle ∨ (frm cmdChunk 6143 2 [5, 7]).port = receiving.img.sessionPort) ∧
    receiving.img.loader ≠ LoaderState.verifying ∧
    receiving.img.loader ≠ LoaderState.switchPending ∧
    (receiving.img.loader ≠ LoaderState.receiving ∨ 6144 < (frm cmdChunk 6143 2 [5, 7]).addr.toNat + (frm cmdChunk 6143 2 [5, 7]).data.length) ∧
    ready cmdChunk 0 (frm cmdChunk 0 2 [5, 7]) dev ∧
    (dev.img.loader = LoaderState.idle ∨ (frm cmdChunk 0 2 [5, 7]).port = dev.img.sessionPort) ∧
    dev.img.loader ≠ LoaderState.verifying ∧
    dev.img.loader ≠ LoaderState.switchPending ∧
    (dev.img.loader ≠ LoaderState.receiving ∨ 6144 < (frm cmdChunk 0 2 [5, 7]).addr.toNat + (frm cmdChunk 0 2 [5, 7]).data.length) ∧
    ready cmdChunk 0 (frm cmdChunk 0 2 [5, 7]) imageChunksFillTheBank1 ∧
    (imageChunksFillTheBank1.img.loader ≠ LoaderState.idle ∧ (frm cmdChunk 0 2 [5, 7]).port ≠ imageChunksFillTheBank1.img.sessionPort ∨ imageChunksFillTheBank1.img.loader = LoaderState.verifying ∨ imageChunksFillTheBank1.img.loader = LoaderState.switchPending) ∧
    ready cmdChunk 0 (frm cmdChunk 0 2 [5, 7]) imageChunksFillTheBank2 ∧
    (imageChunksFillTheBank2.img.loader ≠ LoaderState.idle ∧ (frm cmdChunk 0 2 [5, 7]).port ≠ imageChunksFillTheBank2.img.sessionPort ∨ imageChunksFillTheBank2.img.loader = LoaderState.verifying ∨ imageChunksFillTheBank2.img.loader = LoaderState.switchPending) ∧
    ready cmdChunk 1 imageChunksFillTheBank3 dev := by
  and_intros <;> decide +kernel

/-- The hypotheses of EventPopRemovesAcknowledged, clause by clause. -/
theorem witness_eventPopRemovesAcknowledged :
    ready cmdPop 0 (frm cmdPop 5 8 []) queueDev ∧
    ready cmdPop 0 (frm cmdPop 9 16 []) queueDev ∧
    (facet queueDev 0).queue = [ev 4, ev 5, ev 6] ∧
    (port queueDev 0).popList = [4, 5] ∧
    (ev 5).seq % 65536 = (frm cmdPop 5 8 []).addr.toNat ∧
    (∀ r ∈ (facet queueDev 0).queue, r.seq % 65536 ≠ (frm cmdPop 9 16 []).addr.toNat) := by
  and_intros <;> decide +kernel

/-- The hypotheses of BadFramesChangeOnlyTheirPort, clause by clause. -/
theorem witness_badFramesChangeOnlyTheirPort :
    portFree dev 0 badFramesChangeOnlyTheirPort1.port = true ∧
    (crcOk (if true = true then cmdWrite else cmdRead) badFramesChangeOnlyTheirPort1 = false ∨ formatOk (if true = true then cmdWrite else cmdRead) badFramesChangeOnlyTheirPort1 = false) ∧
    portFree dev 0 (frm cmdRead 10249 1 []).port = true ∧
    (crcOk (if false = true then cmdWrite else cmdRead) (frm cmdRead 10249 1 []) = false ∨ formatOk (if false = true then cmdWrite else cmdRead) (frm cmdRead 10249 1 []) = false) ∧
    portListens badFramesChangeOnlyTheirPort2 = true ∧
    live badFramesChangeOnlyTheirPort2 = true ∧
    ↑(frm cmdWrite 10248 1 [5]).port < 2 ∧
    (port badFramesChangeOnlyTheirPort2 ↑(frm cmdWrite 10248 1 [5]).port).facet = some 0 ∧
    (port badFramesChangeOnlyTheirPort2 ↑(frm cmdWrite 10248 1 [5]).port).executing = some (⟨cmdWrite, frm cmdWrite 10248 1 [5]⟩ : Request) ∧
    crcOk cmdWrite (frm cmdWrite 10248 1 [5]) = true ∧
    portListens badFramesChangeOnlyTheirPort3 = true ∧
    live badFramesChangeOnlyTheirPort3 = true ∧
    (port badFramesChangeOnlyTheirPort3 ↑(frm cmdWrite 10248 1 [5]).port).facet = some 0 ∧
    (port badFramesChangeOnlyTheirPort3 ↑(frm cmdWrite 10248 1 [5]).port).executing = some (⟨cmdWrite, frm cmdWrite 10248 1 [5]⟩ : Request) ∧
    portListens badFramesChangeOnlyTheirPort4 = true ∧
    badFramesChangeOnlyTheirPort4.pwc.start ≠ StartPhase.served ∧
    (frm cmdWrite 10248 1 [5]).port = 0 := by
  and_intros <;> decide +kernel

/-- The hypotheses of PortsBetweenRequests, clause by clause. -/
theorem witness_portsBetweenRequests :
    portListens dev = true ∧
    live dev = true ∧
    (port dev 0).facet.isSome = true ∧
    (port portsBetweenRequests1 0).transient = none ∧
    (port portsBetweenRequests1 0).held = some okWrite ∧
    (port portsBetweenRequests2 0).transient = some okWrite ∧
    portMode dev 2 = 1 ∧
    (port dev 2).facet.isSome = true ∧
    portListens portsBetweenRequests3 = true ∧
    portMode portsBetweenRequests3 2 = 2 ∧
    (port portsBetweenRequests3 2).facet.isSome = true ∧
    portsBetweenRequests4.pwc.pf = PfPhase.none ∧
    (port portsBetweenRequests4 0).facet = some 0 ∧
    (port portsBetweenRequests4 0).executing = none ∧
    (port portsBetweenRequests4 0).waiting = some (⟨cmdWrite, frm cmdWrite 10248 1 [5]⟩ : Request) ∧
    portsBetweenRequests5.pwc.pf = PfPhase.none ∧
    (port portsBetweenRequests5 0).facet = some 0 ∧
    (port portsBetweenRequests5 0).executing = none ∧
    (port portsBetweenRequests5 0).waiting = some (⟨cmdStatus, frm cmdStatus 0 1 []⟩ : Request) ∧
    crcOk cmdStatus (frm cmdStatus 0 1 []) = true ∧
    formatOk cmdStatus (frm cmdStatus 0 1 []) = true := by
  and_intros <;> decide +kernel

/-- The hypotheses of PlainRegistersStoreTheirFields, clause by clause. -/
theorem witness_plainRegistersStoreTheirFields :
    (2084#16 = 2084 ∨ 2084#16 = 2088 ∨ 2084#16 = 61952) ∧
    accepted dev 0 (2084#16).toNat (wr 305419896) = true ∧
    specOf (2084#16).toNat = some (specAt 2084) ∧
    (61952#16 = 2084 ∨ 61952#16 = 2088 ∨ 61952#16 = 61952) ∧
    accepted dev 0 (61952#16).toNat (wr 305419896) = true ∧
    specOf (61952#16).toNat = some (specAt 61952) ∧
    within (4384#16).toNat 4384 4664 = true ∧
    accepted dev 0 (4384#16).toNat (wr 4294967295) = true ∧
    specOf (4384#16).toNat = some (specAt 4384) ∧
    within (4664#16).toNat 4384 4664 = true ∧
    accepted dev 0 (4664#16).toNat (wr 4294967295) = true ∧
    specOf (4664#16).toNat = some (specAt 4664) ∧
    accepted dev 0 10240 (wr 4294967295) = true ∧
    specOf 10240 = some (specAt 10240) ∧
    accepted dev 0 10244 (wr 4294967295) = true ∧
    specOf 10244 = some (specAt 10244) := by
  and_intros <;> first | decide +kernel | rfl

/-- The hypotheses of StoredFieldsAreHeldToTheirRange, clause by clause. -/
theorem witness_storedFieldsAreHeldToTheirRange :
    List.Pairwise (fun a b => a.lo + a.width ≤ b.lo) [fRange 0 8 2 10, fSigned 8 8 (-3) 4] ∧
    (∀ x ∈ [fRange 0 8 2 10, fSigned 8 8 (-3) 4], x.lo + x.width ≤ 32 ∧ ∀ n < 2 ^ x.width, x.fix n < 2 ^ x.width) ∧
    -3 ≤ 10 := by
  and_intros <;> decide +kernel

/-- The hypotheses of FullScalesAndThresholds, clause by clause. -/
theorem witness_fullScalesAndThresholds :
    accepted dev 0 (4352 + 4 * 7) { wr 0 with val := (wr 0).val } = true ∧
    accepted dev 0 10248 { wr 0 with val := (wr 0).val } = true ∧
    accepted dev 0 10248 { wr 100599045 with val := (wr 100599045).val } = true := by
  and_intros <;> decide +kernel

/-- The hypotheses of CfRegistersRestartTheirGenerator, clause by clause. -/
theorem witness_cfRegistersRestartTheirGenerator :
    accepted (devCfg [(30784, 131072)]) 0 (30788 + 16 * 0) { wr 0 with val := (wr 0).val } = true ∧
    accepted dev 0 (30784 + 16 * 0) (wr 131072) = true ∧
    specOf (30784 + 16 * 0) = some (specAt 30784) := by
  and_intros <;> first | decide +kernel | rfl

/-- The hypotheses of RestartsReleaseFaultedUnits, clause by clause. -/
theorem witness_restartsReleaseFaultedUnits :
    accepted channelFault 0 4308 { wr 4 with val := (wr 4).val } = true ∧
    bits (wr 4).val 15 8 ≠ 90 ∧
    accepted channelFault 0 4308 (wr 23044) = true ∧
    bits (wr 23044).val 15 8 = 90 ∧
    accepted dev 0 12300 { wr 33577475 with val := withCmd (wr 33577475).val 3 } = true ∧
    (bits (wr 33577475).val 15 8 ≠ 90 ∨ bits (wr 33577475).val 25 24 = 0 ∨ pathExists dev (bits (wr 33577475).val 25 24 - 1) = false ∨ (flowPath dev (bits (wr 33577475).val 25 24 - 1)).state ≠ Mgmt.fault) ∧
    accepted pathFaulted 0 12300 { wr 33554435 with val := withCmd (wr 33554435).val 3 } = true ∧
    (bits (wr 33554435).val 15 8 ≠ 90 ∨ bits (wr 33554435).val 25 24 = 0 ∨ pathExists pathFaulted (bits (wr 33554435).val 25 24 - 1) = false ∨ (flowPath pathFaulted (bits (wr 33554435).val 25 24 - 1)).state ≠ Mgmt.fault) ∧
    accepted pathFaulted 0 12300 { wr 33577475 with val := withCmd (wr 33577475).val 3 } = true ∧
    (bits (wr 33577475).val 15 8 = 90 ∧ bits (wr 33577475).val 25 24 ≠ 0 ∧ pathExists pathFaulted (bits (wr 33577475).val 25 24 - 1) = true ∧ (flowPath pathFaulted (bits (wr 33577475).val 25 24 - 1)).state = Mgmt.fault ∧ (flowPath pathFaulted (bits (wr 33577475).val 25 24 - 1)).refMismatch = false) ∧
    accepted dev 0 14356 { wr 33577474 with val := withCmd (wr 33577474).val 2 } = true ∧
    (bits (wr 33577474).val 15 8 ≠ 90 ∨ dev.chd.state ≠ Mgmt.fault) ∧
    accepted Tests.linkFault 0 14356 { wr 23042 with val := withCmd (wr 23042).val 2 } = true ∧
    bits (wr 23042).val 15 8 = 90 ∧
    Tests.linkFault.chd.state = Mgmt.fault ∧
    accepted dev 0 16412 { wr 23042 with val := withCmd (wr 23042).val 2 } = true ∧
    (bits (wr 23042).val 15 8 ≠ 90 ∨ dev.bat.state ≠ Mgmt.fault) ∧
    accepted gaugeFault 0 16412 { wr 23042 with val := withCmd (wr 23042).val 2 } = true ∧
    (bits (wr 23042).val 15 8 = 90 ∧ gaugeFault.bat.state = Mgmt.fault) ∧
    accepted dev 0 18444 { wr 23042 with val := withCmd (wr 23042).val 2 } = true ∧
    (bits (wr 23042).val 15 8 ≠ 90 ∨ dev.dsp.state ≠ Mgmt.fault) ∧
    accepted displayFault 0 18444 { wr 23042 with val := withCmd (wr 23042).val 2 } = true ∧
    displayFault.dsp.state = Mgmt.fault := by
  and_intros <;> decide +kernel

/-- The hypotheses of CounterClears, clause by clause. -/
theorem witness_counterClears :
    accepted counterClears1 0 24 { wr 23040 with val := fctWord (wr 23040).val 1 } = true ∧
    bits (wr 23040).val 15 8 = 90 ∧
    accepted dev 0 24 { wr 0 with val := fctWord (wr 0).val 1 } = true ∧
    bits (wr 0).val 15 8 ≠ 90 ∧
    accepted counterClears2 0 10416 { wr 23040 with val := (wr 23040).val ||| 1 } = true ∧
    accepted dev 0 10416 { wr 0 with val := (wr 0).val ||| 1 } = true ∧
    accepted counterClears3 0 18444 { wr 23040 with val := withCmd (wr 23040).val 3 } = true ∧
    accepted dev 0 18444 { wr 0 with val := withCmd (wr 0).val 3 } = true := by
  and_intros <;> decide +kernel

/-- The hypotheses of CalibrationRuns, clause by clause. -/
theorem witness_calibrationRuns :
    accepted pathRunning 0 12300 { wr 16931328 with val := withCmd (wr 16931328).val 1 } = true ∧
    (bits (wr 16931328).val 15 8 = 90 ∧ bits (wr 16931328).val 25 24 ≠ 0) ∧
    accepted dev 0 12300 { wr 33511936 with val := withCmd (wr 33511936).val 1 } = true ∧
    (bits (wr 33511936).val 15 8 = 90 ∧ bits (wr 33511936).val 25 24 ≠ 0) ∧
    accepted pathRunning 0 12300 { wr 33708544 with val := withCmd (wr 33708544).val 2 } = true ∧
    (bits (wr 33708544).val 15 8 = 90 ∧ bits (wr 33708544).val 25 24 ≠ 0) ∧
    accepted calibrating 0 12300 { wr 33708544 with val := withCmd (wr 33708544).val 4 } = true ∧
    accepted pathRunning 0 12300 { wr 33708544 with val := withCmd (wr 33708544).val 4 } = true ∧
    accepted pathRunning 0 12300 { wr 154112 with val := withCmd (wr 154112).val 1 } = true ∧
    (¬(bits (wr 154112).val 15 8 = 90 ∧ bits (wr 154112).val 25 24 ≠ 0)) ∧
    accepted pathRunning 0 12300 { wr 154112 with val := withCmd (wr 154112).val 2 } = true ∧
    accepted calibrating 0 12300 { wr 33685504 with val := withCmd (wr 33685504).val 4 } = true ∧
    (¬(bits (wr 33685504).val 15 8 = 90 ∧ bits (wr 33685504).val 25 24 ≠ 0)) ∧
    live calibrationRuns1 = true ∧
    calibrationRuns1.flw.cal.status = 1 ∧
    (calibrationRuns1.flw.cal.start + 4 * calibrationRuns1.flw.cal.need * pairPeriod calibrationRuns1 (calibrationRuns1.flw.cal.path - 1) < calibrationRuns1.aon ∨ ∃ a, calibrationRuns1.flw.cal.leftAt = some a ∧ holdMs calibrationRuns1 (calibrationRuns1.flw.cal.path - 1) * 32768 < (calibrationRuns1.aon - a) * 1000) := by
  and_intros <;> decide +kernel

/-- The hypotheses of FlowConfigurationKeepsItsRelations, clause by clause. -/
theorem witness_flowConfigurationKeepsItsRelations :
    (12292#16 = 12292 ∨ 12292#16 = 12296) ∧
    accepted dev 0 (12292#16).toNat (wr 4294967295) = true ∧
    specOf (12292#16).toNat = some (specAt 12292) ∧
    (12296#16 = 12292 ∨ 12296#16 = 12296) ∧
    accepted dev 0 (12296#16).toNat (wr 4294967295) = true ∧
    specOf (12296#16).toNat = some (specAt 12296) ∧
    accepted dev 0 12288 (wr 4294967295) = true ∧
    specOf 12288 = some (specAt 12288) ∧
    accepted dev 0 12288 (wr 0) = true ∧
    12544 ≤ (12544#16).toNat ∧
    (12544#16).toNat < 13120 ∧
    accepted dev 0 (12544#16).toNat (wr 5000) = true ∧
    specOf (12544#16).toNat = some (specAt 12544) ∧
    12544 ≤ (12548#16).toNat ∧
    (12548#16).toNat < 13120 ∧
    accepted (devCfg [(12544, 5000), (12552, 4000)]) 0 (12548#16).toNat (wr 9000) = true ∧
    specOf (12548#16).toNat = some (specAt 12548) ∧
    12544 ≤ (12552#16).toNat ∧
    (12552#16).toNat < 13120 ∧
    accepted (devCfg [(12548, 5000)]) 0 (12552#16).toNat (wr 9000) = true ∧
    specOf (12552#16).toNat = some (specAt 12552) ∧
    12544 ≤ (13116#16).toNat ∧
    (13116#16).toNat < 13120 ∧
    accepted dev 0 (13116#16).toNat (wr 4294967295) = true ∧
    specOf (13116#16).toNat = some (specAt 13116) ∧
    accepted dev 0 ([12592, 12848, 13096].getD 0 12592) (wr 77) = true ∧
    pathExists dev 0 = true ∧
    cfgV dev ([12592, 12848, 13096].getD 0 12592) ≠ (wr 77).val ∧
    accepted dev 0 ([12592, 12848, 13096].getD 2 12592) (wr 77) = true ∧
    pathExists dev 2 = true ∧
    cfgV dev ([12592, 12848, 13096].getD 2 12592) ≠ (wr 77).val ∧
    accepted (devCfg [(12848, 3)]) 0 ([12592, 12848, 13096].getD 1 12592) (wr 0) = true ∧
    pathExists (devCfg [(12848, 3)]) 1 = true ∧
    cfgV (devCfg [(12848, 3)]) ([12592, 12848, 13096].getD 1 12592) ≠ (wr 0).val ∧
    accepted flowConfigurationKeepsItsRelations1 0 ([12592, 12848, 13096].getD 1 12592) (wr (crc32 (refBytes dev 1))) = true ∧
    pathExists flowConfigurationKeepsItsRelations1 1 = true ∧
    cfgV flowConfigurationKeepsItsRelations1 ([12592, 12848, 13096].getD 1 12592) ≠ (wr (crc32 (refBytes dev 1))).val ∧
    accepted dev 0 14340 (wr 4294967295) = true ∧
    specOf 14340 = some (specAt 14340) ∧
    accepted (devCfg [(13064, 4294967295)]) 0 14340 (wr 0) = true := by
  and_intros <;> first | decide +kernel | rfl

/-- The hypotheses of LinkAndSensorRows, clause by clause. -/
theorem witness_linkAndSensorRows :
    accepted linkAndSensorRows1 0 14356 { wr 23040 with val := withCmd (wr 23040).val 1 } = true ∧
    bits (wr 23040).val 15 8 = 90 ∧
    accepted dev 0 14356 { wr 0 with val := withCmd (wr 0).val 1 } = true ∧
    bits (wr 0).val 15 8 ≠ 90 ∧
    accepted dev 0 15364 { wr 3234304 with val := withCmd (wr 3234304).val 1 } = true ∧
    bits (wr 3234304).val 15 8 = 90 ∧
    accepted dev 0 15364 { wr 3211264 with val := withCmd (wr 3211264).val 2 } = true ∧
    bits (wr 3211264).val 15 8 ≠ 90 ∧
    accepted dev 0 15364 { wr 3234304 with val := withCmd (wr 3234304).val 3 } = true ∧
    accepted dev 0 (15424 + 96 * 7 + if false = true then 4 else 0) (wr 17104945) = true ∧
    specOf (15424 + 96 * 7 + if false = true then 4 else 0) = some (specAt (15424 + 96 * 7)) ∧
    accepted (devCfg [(15424 + 96 * 7, 17104945)]) 0 (15424 + 96 * 7 + if true = true then 4 else 0) (wr 60) = true ∧
    specOf (15424 + 96 * 7 + if true = true then 4 else 0) = some (specAt (15424 + 96 * 7 + 4)) ∧
    accepted (devCfg [(15424, 17104945)]) 0 (15424 + 96 * 0 + if true = true then 4 else 0) (wr 0) = true ∧
    specOf (15424 + 96 * 0 + if true = true then 4 else 0) = some (specAt 15428) := by
  and_intros <;> first | decide +kernel | rfl

/-- The hypotheses of GaugeCommandsAndConfiguration, clause by clause. -/
theorem witness_gaugeCommandsAndConfiguration :
    accepted dev 0 16412 { wr 23040 with val := withCmd (wr 23040).val 1 } = true ∧
    bits (wr 23040).val 15 8 = 90 ∧
    accepted (devCfg [(16384, 33)]) 0 16412 { wr 23040 with val := withCmd (wr 23040).val 1 } = true ∧
    accepted dev 0 16412 { wr 0 with val := withCmd (wr 0).val 1 } = true ∧
    bits (wr 0).val 15 8 ≠ 90 ∧
    16384 ≤ (16384#16).toNat ∧
    (16384#16).toNat < 18432 ∧
    accepted dev 0 (16384#16).toNat (wr 33) = true ∧
    specOf (16384#16).toNat = some (specAt 16384) ∧
    accepted dev 0 (16384#16).toNat (wr 3) = true ∧
    16384 ≤ (16388#16).toNat ∧
    (16388#16).toNat < 18432 ∧
    accepted dev 0 (16388#16).toNat (wr 4294967295) = true ∧
    specOf (16388#16).toNat = some (specAt 16388) := by
  and_intros <;> first | decide +kernel | rfl

/-- The hypotheses of GlancesStartExtendAndExpire, clause by clause. -/
theorem witness_glancesStartExtendAndExpire :
    live (devCfg [(18432, 2561)]) = true ∧
    (devCfg [(18432, 2561)]).pwc.mode ≠ Mode.shelf ∧
    (bit (cfgV (devCfg [(18432, 2561)]) 18432) 0 = true ∧ ((devCfg [(18432, 2561)]).pwc.vmainOk = true ∨ (devCfg [(18432, 2561)]).dsp.glance.isSome = true ∨ batAllows (devCfg [(18432, 2561)]) = true)) ∧
    live glanceDev = true ∧
    glanceDev.pwc.mode ≠ Mode.shelf ∧
    (bit (cfgV glanceDev 18432) 0 = true ∧ (glanceDev.pwc.vmainOk = true ∨ glanceDev.dsp.glance.isSome = true ∨ batAllows glanceDev = true)) ∧
    live (onBat glanceDev) = true ∧
    (onBat glanceDev).pwc.mode ≠ Mode.shelf ∧
    bit (cfgV (onBat glanceDev) 18432) 0 = true ∧
    (¬(bit (cfgV (onBat glanceDev) 18432) 0 = true ∧ ((onBat glanceDev).pwc.vmainOk = true ∨ (onBat glanceDev).dsp.glance.isSome = true ∨ batAllows (onBat glanceDev) = true))) ∧
    accepted glanceDev 0 18444 { wr 23041 with val := withCmd (wr 23041).val 1 } = true ∧
    bits (wr 23041).val 15 8 = 90 ∧
    accepted dev 0 18444 { wr 23041 with val := withCmd (wr 23041).val 1 } = true ∧
    (bits (wr 23041).val 15 8 ≠ 90 ∨ ¬(bit (cfgV dev 18432) 0 = true ∧ (dev.pwc.vmainOk = true ∨ dev.dsp.glance.isSome = true ∨ batAllows dev = true))) ∧
    accepted glanceDev 0 18444 { wr 1 with val := withCmd (wr 1).val 1 } = true ∧
    (bits (wr 1).val 15 8 ≠ 90 ∨ ¬(bit (cfgV glanceDev 18432) 0 = true ∧ (glanceDev.pwc.vmainOk = true ∨ glanceDev.dsp.glance.isSome = true ∨ batAllows glanceDev = true))) ∧
    live glancesStartExtendAndExpire1 = true ∧
    glancesStartExtendAndExpire1.dsp.glance = some 1000000 ∧
    1000000 ≤ glancesStartExtendAndExpire1.aon ∧
    (glancesStartExtendAndExpire2.dsp.glance = none ∨ ∃ e, glancesStartExtendAndExpire2.dsp.glance = some e ∧ glancesStartExtendAndExpire2.aon < e) := by
  and_intros <;> decide +kernel

/-- The hypotheses of DisplayRegistersKeepTheirRules, clause by clause. -/
theorem witness_displayRegistersKeepTheirRules :
    accepted dev 0 18436 (wr 168430090) = true ∧
    specOf 18436 = some (specAt 18436) ∧
    accepted dev 0 18436 (wr 4294904330) = true ∧
    accepted dev 0 (18448 + 4 * 0) (wr 4294904330) = true ∧
    specOf (18448 + 4 * 0) = some (specAt 18448) ∧
    accepted dev 0 (18448 + 4 * 3) (wr 4294904330) = true ∧
    specOf (18448 + 4 * 3) = some (specAt 18460) ∧
    accepted dev 0 (18464 + 4 * 1) (wr 269486088) = true ∧
    specOf (18464 + 4 * 1) = some (specAt 18468) ∧
    accepted dev 0 (18464 + 4 * 1) (wr 0) = true ∧
    accepted tileRegs 0 (18464 + 4 * 1) (wr 269487112) = true ∧
    accepted tileRegs 0 (18464 + 4 * 1) (wr 270535688) = true ∧
    accepted tileRegs 0 (18464 + 4 * 0) (wr 268461056) = true ∧
    specOf (18464 + 4 * 0) = some (specAt 18464) ∧
    accepted dev 0 18432 (wr 1) = true ∧
    specOf 18432 = some (specAt 18432) ∧
    accepted glanceDev 0 18432 (wr 0) = true := by
  and_intros <;> first | decide +kernel | rfl

/-- The hypotheses of FrameMemoryWritesQueueAndLand, clause by clause. -/
theorem witness_frameMemoryWritesQueueAndLand :
    ready cmdWrite 0 (frm cmdWrite (20480 + 64 * 32 + 4) 1 [5]) tileDev ∧
    (frm cmdWrite (20480 + 64 * 32 + 4) 1 [5]).data ≠ [] ∧
    (∀ x ∈ written (frm cmdWrite (20480 + 64 * 32 + 4) 1 [5]), inFrameMem x.1 = true ∧ writeOut tileDev 0 x = WordOut.ok) ∧
    (∀ x ∈ written (frm cmdWrite (20480 + 64 * 32 + 4) 1 [5]), (frm cmdWrite (20480 + 64 * 32 + 4) 1 [5]).same = true → tileDev.cyc.writes.contains (0, x.1) = false) ∧
    ready cmdWrite 0 (frm cmdWrite (20480 + 64 * 32 + 4) 1 [5]) frameMemoryWritesQueueAndLand1 ∧
    (∀ x ∈ written (frm cmdWrite (20480 + 64 * 32 + 4) 1 [5]), inFrameMem x.1 = true ∧ writeOut frameMemoryWritesQueueAndLand1 0 x = WordOut.ok) ∧
    (∀ x ∈ written (frm cmdWrite (20480 + 64 * 32 + 4) 1 [5]), (frm cmdWrite (20480 + 64 * 32 + 4) 1 [5]).same = true → frameMemoryWritesQueueAndLand1.cyc.writes.contains (0, x.1) = false) ∧
    live frameMemoryWritesQueueAndLand2 = true ∧
    frameMemoryWritesQueueAndLand2.dsp.queue = [(0, 64 * 32 + 4, 305419896#32)] ∧
    memWf frameMemoryWritesQueueAndLand2.dsp.mem = true ∧
    live frameMemoryWritesQueueAndLand3 = true ∧
    frameMemoryWritesQueueAndLand3.dsp.queue = [(1, 64 * 32 + 4, 305419896#32)] ∧
    memWf frameMemoryWritesQueueAndLand3.dsp.mem = true := by
  and_intros <;> decide +kernel

/-- The hypotheses of SafetyRegistersReportTheirWrites, clause by clause. -/
theorem witness_safetyRegistersReportTheirWrites :
    24576 ≤ (24576#16).toNat ∧
    (24576#16).toNat < 26624 ∧
    accepted dev 0 (24576#16).toNat (wr 4294967295) = true ∧
    specOf (24576#16).toNat = some (specAt 24576) ∧
    24576 ≤ (24644#16).toNat ∧
    (24644#16).toNat < 26624 ∧
    accepted dev 0 (24644#16).toNat (wr 4294967295) = true ∧
    specOf (24644#16).toNat = some (specAt 24644) := by
  and_intros <;> first | decide +kernel | rfl

/-- The hypotheses of StoreAndLogRows, clause by clause. -/
theorem witness_storeAndLogRows :
    accepted dev 0 26624 { wr 2 with val := (wr 2).val } = true ∧
    accepted dev 0 28928 { wr 769 with val := (wr 769).val } = true ∧
    accepted areaDev 0 26632 { wr 23040 with val := withCmd (wr 23040).val 1 } = true ∧
    (bits (wr 23040).val 15 8 = 90 ∧ ownsRes areaDev 0 6 (facet areaDev 0).nvuSel = true) ∧
    accepted dev 0 26632 { wr 23040 with val := withCmd (wr 23040).val 1 } = true ∧
    (¬(bits (wr 23040).val 15 8 = 90 ∧ ownsRes dev 0 6 (facet dev 0).nvuSel = true)) ∧
    accepted areaDev 0 26632 { wr 0 with val := withCmd (wr 0).val 1 } = true ∧
    (¬(bits (wr 0).val 15 8 = 90 ∧ ownsRes areaDev 0 6 (facet areaDev 0).nvuSel = true)) ∧
    live storeAndLogRows1 = true ∧
    storeAndLogRows1.sto.clearing = some 2 ∧
    ready cmdWrite 0 (frm cmdWrite 32772 2 [1, 2]) areaDev ∧
    (frm cmdWrite 32772 2 [1, 2]).data ≠ [] ∧
    (∀ x ∈ written (frm cmdWrite 32772 2 [1, 2]), 32768 ≤ x.1 ∧ x.1 < 40960 ∧ writeOut areaDev 0 x = WordOut.ok) ∧
    (∀ x ∈ written (frm cmdWrite 32772 2 [1, 2]), (frm cmdWrite 32772 2 [1, 2]).same = true → areaDev.cyc.writes.contains (0, x.1) = false) ∧
    live storeAndLogRows2 = true ∧
    storeAndLogRows2.sto.areaWrites = [{ port := 0, facet := 0, area := 2, words := [(4, 16909060#32)] : AreaWrite }] ∧
    (port storeAndLogRows2 ↑{ port := 0, facet := 0, area := 2, words := [(4, 16909060#32)] : AreaWrite }.port).executing.isSome = true := by
  and_intros <;> decide +kernel

/-- The hypotheses of ResetCommandsAskFirst, clause by clause. -/
theorem witness_resetCommandsAskFirst :
    accepted dev 0 2060 { wr 23040 with val := withCmd (wr 23040).val 1 } = true ∧
    bits (wr 23040).val 15 8 = 90 ∧
    accepted receiving 0 2060 { wr 23040 with val := withCmd (wr 23040).val 1 } = true ∧
    accepted dev 0 2060 { wr 0 with val := withCmd (wr 0).val 1 } = true ∧
    bits (wr 0).val 15 8 ≠ 90 ∧
    accepted (onBat dev) 0 2060 { wr 23040 with val := withCmd (wr 23040).val 2 } = true ∧
    accepted dev 0 2060 { wr 22784 with val := withCmd (wr 22784).val 2 } = true ∧
    bits (wr 22784).val 15 8 ≠ 90 ∧
    ready cmdWrite 0 (rowFrame dev 2060 (withCmd (wr 23040).val 2) (wr 23040)) dev ∧
    writeOut dev 0 (2060, withCmd (wr 23040).val 2) = WordOut.ok ∧
    (dev.pwc.vmainOk = true ∨ dev.img.loader ≠ LoaderState.idle) ∧
    ready cmdWrite 0 (rowFrame (onBat receiving) 2060 (withCmd (wr 23040).val 2) (wr 23040)) (onBat receiving) ∧
    writeOut (onBat receiving) 0 (2060, withCmd (wr 23040).val 2) = WordOut.ok ∧
    ((onBat receiving).pwc.vmainOk = true ∨ (onBat receiving).img.loader ≠ LoaderState.idle) := by
  and_intros <;> decide +kernel

/-- The hypotheses of RealTimeClockRows, clause by clause. -/
theorem witness_realTimeClockRows :
    accepted dev 0 2072 { wr 77 with val := (wr 77).val } = true ∧
    accepted dev 0 2076 { wr 77 with val := (wr 77).val } = true ∧
    accepted dev 0 2080 { wr 77 with val := (wr 77).val } = true ∧
    live (onRc false none) = true ∧
    (onRc false none).pwc.aonRc = true ∧
    (onRc false none).pwc.hfxOk = true ∧
    live rcBat = true ∧
    rcBat.pwc.aonRc = true ∧
    rcBat.pwc.hfxOk = false ∧
    rcBat.pwc.vmainOk = false ∧
    rcBat.pwc.trimAt + 64 * 32768 ≤ rcBat.aon ∧
    live clocksStartFailAndStop1 = true ∧
    (clocksStartFailAndStop1.pwc.aonRc = false ∨ clocksStartFailAndStop1.pwc.hfxOk = false ∧ (clocksStartFailAndStop1.pwc.vmainOk = true ∨ clocksStartFailAndStop1.aon < clocksStartFailAndStop1.pwc.trimAt + 64 * 32768)) ∧
    live rcEarly = true ∧
    (rcEarly.pwc.aonRc = false ∨ rcEarly.pwc.hfxOk = false ∧ (rcEarly.pwc.vmainOk = true ∨ rcEarly.aon < rcEarly.pwc.trimAt + 64 * 32768)) ∧
    live (devCfg [(2084, 0), (2088, 2147483648)]) = true ∧
    live dev = true := by
  and_intros <;> decide +kernel

/-- The hypotheses of FacetResetsAndWatchdogs, clause by clause. -/
theorem witness_facetResetsAndWatchdogs :
    accepted facetResetsAndWatchdogs1 0 24 { wr 23040 with val := fctWord (wr 23040).val 0 } = true ∧
    bits (wr 23040).val 15 8 = 90 ∧
    accepted receiving 0 24 { wr 23040 with val := fctWord (wr 23040).val 0 } = true ∧
    accepted dev 0 24 { wr 0 with val := fctWord (wr 0).val 0 } = true ∧
    bits (wr 0).val 15 8 ≠ 90 ∧
    live watchedDev = true ∧
    (port watchedDev 1).facet = some 1 ∧
    (port watchedDev 1).wdtAt = some 967232 ∧
    (facet watchedDev 1).timeoutMs ≠ 0 ∧
    (facet watchedDev 1).timeoutMs * 32768 ≤ (watchedDev.aon - 967232) * 1000 ∧
    967232 ≤ watchedDev.aon ∧
    live facetResetsAndWatchdogs2 = true ∧
    (port facetResetsAndWatchdogs2 0).facet = some 0 ∧
    (port facetResetsAndWatchdogs2 0).wdtAt = some 967232 ∧
    (facet facetResetsAndWatchdogs2 0).timeoutMs ≠ 0 ∧
    (facet facetResetsAndWatchdogs2 0).timeoutMs * 32768 ≤ (facetResetsAndWatchdogs2.aon - 967232) * 1000 ∧
    967232 ≤ facetResetsAndWatchdogs2.aon ∧
    accepted dev 0 28 (wr 5) = true ∧
    accepted watchedDev 1 28 facetResetsAndWatchdogs3 = true := by
  and_intros <;> decide +kernel

/-- The hypotheses of RequestsToSharedActuators, clause by clause. -/
theorem witness_requestsToSharedActuators :
    accepted dev 0 (30720 + 4 * 0) { wr 3 with val := (wr 3).val } = true ∧
    accepted dev 0 30744 { wr 383 with val := (wr 383).val } = true ∧
    accepted dev 0 30748 { wr 2 with val := (wr 2).val } = true ∧
    accepted dev 0 30748 (wr 2) = true ∧
    ready cmdWrite 0 (rowFrame safeDev 30748 (wr 2).val (wr 2)) safeDev ∧
    writeOut safeDev 0 (30748, (wr 2).val) = WordOut.ok ∧
    safeDev.saf.safe = true ∧
    safeDev.saf.prun = pumpRun safeDev ∧
    bits (wr 2).val 1 0 = 2 ∧
    ready cmdWrite 0 (rowFrame safeDev 30720 (wr 2).val (wr 2)) safeDev ∧
    writeOut safeDev 0 (30720, (wr 2).val) = WordOut.ok ∧
    accepted safeDev 0 30768 { wr 23040 with val := withCmd (wr 23040).val 1 } = true ∧
    bits (wr 23040).val 15 8 = 90 ∧
    accepted dev 0 30768 { wr 23040 with val := withCmd (wr 23040).val 1 } = true ∧
    (bits (wr 23040).val 15 8 ≠ 90 ∨ dev.saf.safe = false) ∧
    ready cmdWrite 0 (rowFrame requestsToSharedActuators1 30768 (withCmd (wr 23040).val 1) (wr 23040)) requestsToSharedActuators1 ∧
    writeOut requestsToSharedActuators1 0 (30768, withCmd (wr 23040).val 1) = WordOut.ok ∧
    requestsToSharedActuators1.saf.safe = true ∧
    requestsToSharedActuators1.saf.cause ≠ 0 ∧
    tripLinked safeDev 0 = true := by
  and_intros <;> decide +kernel

/-- The hypotheses of SharedActuatorsFollowTheirPolicy, clause by clause. -/
theorem witness_sharedActuatorsFollowTheirPolicy :
    policyOf sharedActuatorsFollowTheirPolicy3 6 = some { act := 6, pol := 2, order := 0 : PolicyRec } ∧
    { act := 6, pol := 2, order := 0 : PolicyRec }.pol = 2 := by
  and_intros <;> decide +kernel

/-- The hypotheses of LoaderCommands, clause by clause. -/
theorem witness_loaderCommands :
    accepted dev 0 1028 { wr 23040 with val := withCmd (wr 23040).val 1 } = true ∧
    accepted receiving 0 1028 { wr 88576 with val := withCmd (wr 88576).val 2 } = true ∧
    accepted receiving 0 1028 { wr 23040 with val := withCmd (wr 23040).val 3 } = true ∧
    accepted dev 0 1028 { wr 23040 with val := withCmd (wr 23040).val 3 } = true ∧
    accepted switchWaits 0 1028 { wr 23040 with val := withCmd (wr 23040).val 4 } = true ∧
    ready cmdWrite 0 (rowFrame switchWaits 1028 (withCmd (wr 23040).val 1) (wr 23040)) switchWaits ∧
    (switchWaits.img.loader ≠ LoaderState.idle ∧ (wr 23040).port ≠ switchWaits.img.sessionPort ∨ 1 = 1 ∧ (switchWaits.img.loader = LoaderState.verifying ∨ switchWaits.img.loader = LoaderState.switchPending) ∨ 1 = 2 ∧ switchWaits.img.loader ≠ LoaderState.receiving ∨ 1 = 3 ∧ switchWaits.img.loader ≠ LoaderState.idle ∧ switchWaits.img.step ≠ SwitchStep.none ∨ 1 = 4 ∧ (switchWaits.img.loader ≠ LoaderState.switchPending ∨ switchWaits.img.step ≠ SwitchStep.none)) ∧
    ready cmdWrite 0 (rowFrame switchWaits 1028 (withCmd (wr 23040).val 2) (wr 23040)) switchWaits ∧
    (switchWaits.img.loader ≠ LoaderState.idle ∧ (wr 23040).port ≠ switchWaits.img.sessionPort ∨ 2 = 1 ∧ (switchWaits.img.loader = LoaderState.verifying ∨ switchWaits.img.loader = LoaderState.switchPending) ∨ 2 = 2 ∧ switchWaits.img.loader ≠ LoaderState.receiving ∨ 2 = 3 ∧ switchWaits.img.loader ≠ LoaderState.idle ∧ switchWaits.img.step ≠ SwitchStep.none ∨ 2 = 4 ∧ (switchWaits.img.loader ≠ LoaderState.switchPending ∨ switchWaits.img.step ≠ SwitchStep.none)) ∧
    ready cmdWrite 0 (rowFrame loaderCommands1 1028 (withCmd (wr 23040).val 3) (wr 23040)) loaderCommands1 ∧
    (loaderCommands1.img.loader ≠ LoaderState.idle ∧ (wr 23040).port ≠ loaderCommands1.img.sessionPort ∨ 3 = 1 ∧ (loaderCommands1.img.loader = LoaderState.verifying ∨ loaderCommands1.img.loader = LoaderState.switchPending) ∨ 3 = 2 ∧ loaderCommands1.img.loader ≠ LoaderState.receiving ∨ 3 = 3 ∧ loaderCommands1.img.loader ≠ LoaderState.idle ∧ loaderCommands1.img.step ≠ SwitchStep.none ∨ 3 = 4 ∧ (loaderCommands1.img.loader ≠ LoaderState.switchPending ∨ loaderCommands1.img.step ≠ SwitchStep.none)) ∧
    ready cmdWrite 0 (rowFrame dev 1028 (withCmd (wr 23040).val 4) (wr 23040)) dev ∧
    (dev.img.loader ≠ LoaderState.idle ∧ (wr 23040).port ≠ dev.img.sessionPort ∨ 4 = 1 ∧ (dev.img.loader = LoaderState.verifying ∨ dev.img.loader = LoaderState.switchPending) ∨ 4 = 2 ∧ dev.img.loader ≠ LoaderState.receiving ∨ 4 = 3 ∧ dev.img.loader ≠ LoaderState.idle ∧ dev.img.step ≠ SwitchStep.none ∨ 4 = 4 ∧ (dev.img.loader ≠ LoaderState.switchPending ∨ dev.img.step ≠ SwitchStep.none)) := by
  and_intros <;> decide +kernel

/-- The hypotheses of VerificationEndsOrRefuses, clause by clause. -/
theorem witness_verificationEndsOrRefuses :
    live verifyingEmpty = true ∧
    verifyingEmpty.img.loader = LoaderState.verifying ∧
    verify verifyingEmpty (runCtx verifyingEmpty) (loadingBank verifyingEmpty) = some { code := 1, stage := 1, sect := 0, index := 0, sigrec := 0, atStart := false : RefuseReg } ∧
    live verifyingHeld = true ∧
    verifyingHeld.img.loader = LoaderState.verifying ∧
    verify verifyingHeld (runCtx verifyingHeld) (loadingBank verifyingHeld) = none ∧
    verifyingHeld.img.hold = true ∧
    live verifying = true ∧
    verifying.img.loader = LoaderState.verifying ∧
    verify verifying (runCtx verifying) (loadingBank verifying) = none ∧
    verifying.img.hold = false ∧
    live dev = true ∧
    dev.img.loader ≠ LoaderState.verifying := by
  and_intros <;> decide +kernel

/-- The hypotheses of KeySlotsThenActivation, clause by clause. -/
theorem witness_keySlotsThenActivation :
    slots.pwc.start = StartPhase.served ∧
    slots.pwc.pf = PfPhase.none ∧
    slots.img.step = SwitchStep.slots ∧
    (∀ x ∈ slotsToProgram slots (bankImage (loadingBank slots)), x.1 ∉ []) ∧
    noSlots.pwc.start = StartPhase.served ∧
    noSlots.pwc.pf = PfPhase.none ∧
    noSlots.img.step = SwitchStep.slots ∧
    (∀ x ∈ slotsToProgram noSlots (bankImage (loadingBank noSlots)), x.1 ∉ [1]) ∧
    resetAsked slots = false ∧
    (∃ x ∈ slotsToProgram slots (bankImage (loadingBank slots)), x.1 ∈ [1]) ∧
    Tests.startSlots.pwc.start = StartPhase.candidates ∧
    Tests.startSlots.pwc.pf = PfPhase.none ∧
    Tests.startSlots.img.step = SwitchStep.slots ∧
    Tests.startSlots.pwc.tried.getLast? = some 0 ∧
    (∃ x ∈ slotsToProgram Tests.startSlots (bankImage (vget Tests.startSlots.img.banks 0 Bank.empty)), x.1 ∈ [1]) := by
  and_intros <;> decide +kernel

/-- The hypotheses of StructureApplies, clause by clause. -/
theorem witness_structureApplies :
    live applying = true ∧
    applying.img.step = SwitchStep.apply ∧
    applyBank applying = some 1 ∧
    applying.str = some img ∧
    (applying.whl.state = WheelState.stopped ∨ applying.whl.sector = 0) := by
  and_intros <;> decide +kernel

/-- The hypotheses of ResetsKeepWhatContinues, clause by clause. -/
theorem witness_resetsKeepWhatContinues :
    (heldSince 996723).pwc.start = StartPhase.heldInReset ∧
    (heldSince 996723).pwc.mode ≠ Mode.shelf ∧
    (heldSince 996723).pwc.heldAt + 3277 ≤ (heldSince 996723).aon ∧
    ((heldSince 996724).pwc.start ≠ StartPhase.heldInReset ∨ (heldSince 996724).pwc.mode = Mode.shelf ∨ (heldSince 996724).aon < (heldSince 996724).pwc.heldAt + 3277) ∧
    (shelved.pwc.start ≠ StartPhase.heldInReset ∨ shelved.pwc.mode = Mode.shelf ∨ shelved.aon < shelved.pwc.heldAt + 3277) ∧
    (dev.pwc.start ≠ StartPhase.heldInReset ∨ dev.pwc.mode = Mode.shelf ∨ dev.aon < dev.pwc.heldAt + 3277) ∧
    (resetAsked (asked { nrst := true, safWdt := true, cmd := true, shelf := true : ResetReq }) = true ∧ resetClosed (asked { nrst := true, safWdt := true, cmd := true, shelf := true : ResetReq }) = true ∧ (asked { nrst := true, safWdt := true, cmd := true, shelf := true : ResetReq }).img.step = SwitchStep.none ∧ (asked { nrst := true, safWdt := true, cmd := true, shelf := true : ResetReq }).pwc.pf = PfPhase.none ∧ (asked { nrst := true, safWdt := true, cmd := true, shelf := true : ResetReq }).pwc.start ≠ StartPhase.heldInReset) ∧
    ((asked { nrst := true, safWdt := true, cmd := true, shelf := true : ResetReq }).pwc.req.nrst = true ∨ (asked { nrst := true, safWdt := true, cmd := true, shelf := true : ResetReq }).pwc.req.safWdt = true ∨ (asked { nrst := true, safWdt := true, cmd := true, shelf := true : ResetReq }).pwc.req.cmd = true) ∧
    (resetAsked (asked { nrst := false, safWdt := false, cmd := false, shelf := true : ResetReq }) = true ∧ resetClosed (asked { nrst := false, safWdt := false, cmd := false, shelf := true : ResetReq }) = true ∧ (asked { nrst := false, safWdt := false, cmd := false, shelf := true : ResetReq }).img.step = SwitchStep.none ∧ (asked { nrst := false, safWdt := false, cmd := false, shelf := true : ResetReq }).pwc.pf = PfPhase.none ∧ (asked { nrst := false, safWdt := false, cmd := false, shelf := true : ResetReq }).pwc.start ≠ StartPhase.heldInReset) ∧
    (asked { nrst := false, safWdt := false, cmd := false, shelf := true : ResetReq }).pwc.req.nrst = false ∧
    (asked { nrst := false, safWdt := false, cmd := false, shelf := true : ResetReq }).pwc.req.safWdt = false ∧
    (asked { nrst := false, safWdt := false, cmd := false, shelf := true : ResetReq }).pwc.req.cmd = false ∧
    (¬(resetAsked resetsKeepWhatContinues2 = true ∧ resetClosed resetsKeepWhatContinues2 = true ∧ resetsKeepWhatContinues2.img.step = SwitchStep.none ∧ resetsKeepWhatContinues2.pwc.pf = PfPhase.none ∧ resetsKeepWhatContinues2.pwc.start ≠ StartPhase.heldInReset)) ∧
    live resetsKeepWhatContinues3 = true ∧
    resetsKeepWhatContinues3.pwc.shipping = true ∧
    resetsKeepWhatContinues3.pwc.vmainOk = false ∧
    resetsKeepWhatContinues3.pwc.portAFrameSeen = false ∧
    max resetsKeepWhatContinues3.pwc.startAt (resetsKeepWhatContinues3.pwc.vmainLostAt.getD 0) + 983040 ≤ resetsKeepWhatContinues3.aon ∧
    shelved.pwc.mode = Mode.shelf ∧
    dev.pwc.pf = PfPhase.none ∧
    dev.pwc.start ≠ StartPhase.heldInReset ∧
    dev.pwc.mode ≠ Mode.shelf ∧
    live dev = true ∧
    dev.whl.state ≠ WheelState.stopped := by
  and_intros <;> decide +kernel

/-- The hypotheses of StartsRunTheirSequence, clause by clause. -/
theorem witness_startsRunTheirSequence :
    released.pwc.start = StartPhase.released ∧
    released.pwc.pf = PfPhase.none ∧
    startsRunTheirSequence2.pwc.start = StartPhase.released ∧
    startsRunTheirSequence2.pwc.pf = PfPhase.none ∧
    dev.pwc.start ≠ StartPhase.released ∧
    startSeen.pwc.start = StartPhase.candidates ∧
    startSeen.pwc.pf = PfPhase.none ∧
    startSeen.img.step = SwitchStep.none ∧
    nextCandidate startSeen = some 0 ∧
    verify startSeen { start := true, received := none, running := imageOf startSeen startSeen.pwc.wasActive, met35 := decide (startSeen.pwc.wasActive = some 0), noActive := startSeen.pwc.wasActive.isNone : VerCtx } (vget startSeen.img.banks 0 Bank.empty) = some { code := 2, stage := 2, sect := 0, index := 0, sigrec := 0, atStart := true : RefuseReg } ∧
    candidateDev.pwc.start = StartPhase.candidates ∧
    candidateDev.pwc.pf = PfPhase.none ∧
    candidateDev.img.step = SwitchStep.none ∧
    nextCandidate candidateDev = some 0 ∧
    verify candidateDev { start := true, received := none, running := imageOf candidateDev candidateDev.pwc.wasActive, met35 := decide (candidateDev.pwc.wasActive = some 0), noActive := candidateDev.pwc.wasActive.isNone : VerCtx } (vget candidateDev.img.banks 0 Bank.empty) = none := by
  and_intros <;> decide +kernel

/-- The hypotheses of SectorsAndForcedUnits, clause by clause. -/
theorem witness_sectorsAndForcedUnits :
    engOn wheelStopped = true ∧
    (wheelStopped.whl.state = WheelState.stopped ∨ 64 ≤ wheelStopped.whl.sector) ∧
    engOn (atSector 64) = true ∧
    ((atSector 64).whl.state = WheelState.stopped ∨ 64 ≤ (atSector 64).whl.sector) ∧
    (engOn sectorsAndForcedUnits1 = true ∧ sectorsAndForcedUnits1.whl.state ≠ WheelState.stopped ∧ sectorsAndForcedUnits1.whl.sector < 64) ∧
    sectorsAndForcedUnits1.whl.flips = [] ∧
    sectorIn.flips = [] ∧
    (engOn dev = true ∧ dev.whl.state ≠ WheelState.stopped ∧ dev.whl.sector < 64) ∧
    dev.whl.flips = [] ∧
    (engOn (flipped 2) = true ∧ (flipped 2).whl.state ≠ WheelState.stopped ∧ (flipped 2).whl.sector < 64) ∧
    (flipped 2).whl.flips = [((flipped 2).whl.scrubWord, 2#72)] ∧
    noWork.flips = [] ∧
    noWork.reads = [] ∧
    flipCount 2#72 = 1 ∧
    (engOn (flipped 3) = true ∧ (flipped 3).whl.state ≠ WheelState.stopped ∧ (flipped 3).whl.sector < 64) ∧
    (flipped 3).whl.flips = [((flipped 3).whl.scrubWord, 3#72)] ∧
    1 < flipCount 3#72 ∧
    noWork.recBad = none ∧
    stateBlockAt (flipped 3) (flipped 3).whl.scrubWord = some (0, { code := 1281, inst := 0, flags := 0, chans := 0, off := 32, len := 64, prim := 0, shad := 0, rsv := 0 : InstRec }) ∧
    engOn (atSector 1) = true ∧
    (atSector 1).whl.state ≠ WheelState.stopped ∧
    instAt (atSector 1) 0 = some { code := 257, inst := 0, flags := 0, chans := 255, off := 0, len := 0, prim := 0, shad := 0, rsv := 0 : InstRec } ∧
    runsNow (atSector 1) 0 { code := 257, inst := 0, flags := 0, chans := 255, off := 0, len := 0, prim := 0, shad := 0, rsv := 0 : InstRec } = true ∧
    instAt (atSector 1) 3 = some { code := 1025, inst := 0, flags := 0, chans := 3072, off := 0, len := 0, prim := 0, shad := 0, rsv := 0 : InstRec } ∧
    runsNow (atSector 1) 3 { code := 1025, inst := 0, flags := 0, chans := 3072, off := 0, len := 0, prim := 0, shad := 0, rsv := 0 : InstRec } = true ∧
    instAt (atSector 1) 6 = some { code := 1793, inst := 0, flags := 0, chans := 56, off := 0, len := 0, prim := 0, shad := 0, rsv := 0 : InstRec } ∧
    runsNow (atSector 1) 6 { code := 1793, inst := 0, flags := 0, chans := 56, off := 0, len := 0, prim := 0, shad := 0, rsv := 0 : InstRec } = true ∧
    (wheelStopped.whl.state = WheelState.stopped ∨ ∀ (x : InstRec), instAt wheelStopped 1 = some x → runsNow wheelStopped 1 x = false) ∧
    ((atSector 2).whl.state = WheelState.stopped ∨ ∀ (x : InstRec), instAt (atSector 2) 1 = some x → runsNow (atSector 2) 1 x = false) ∧
    live sectorsAndForcedUnits3 = true ∧
    unitMgmt sectorsAndForcedUnits3 (3#8).toNat = Mgmt.fault ∧
    (faultRec sectorsAndForcedUnits3 (3#8).toNat).latched = false ∧
    (faultRec sectorsAndForcedUnits3 (3#8).toNat).returnAt = some 1000000 ∧
    1000000 ≤ sectorsAndForcedUnits3.aon ∧
    live sectorsAndForcedUnits2 = true ∧
    unitMgmt sectorsAndForcedUnits2 (16#8).toNat = Mgmt.fault ∧
    (faultRec sectorsAndForcedUnits2 (16#8).toNat).latched = false ∧
    (faultRec sectorsAndForcedUnits2 (16#8).toNat).returnAt = some 1000000 ∧
    1000000 ≤ sectorsAndForcedUnits2.aon ∧
    live dev = true ∧
    (unitMgmt dev (3#8).toNat ≠ Mgmt.fault ∨ (faultRec dev (3#8).toNat).latched = true ∨ (faultRec dev (3#8).toNat).returnAt = none) := by
  and_intros <;> decide +kernel

/-- The hypotheses of RoundsClose, clause by clause. -/
theorem witness_roundsClose :
    engOn (atSector 64) = true ∧
    (atSector 64).whl.state ≠ WheelState.stopped ∧
    (atSector 64).whl.sector = 64 ∧
    engOn burst = true ∧
    burst.whl.state ≠ WheelState.stopped ∧
    burst.whl.sector = 64 ∧
    engOn metering = true ∧
    metering.whl.state ≠ WheelState.stopped ∧
    metering.whl.sector = 64 ∧
    engOn (atSector 63) = true ∧
    (atSector 63).whl.state = WheelState.running ∧
    (atSector 63).whl.sector < 64 := by
  and_intros <;> decide +kernel

/-- The hypotheses of SecondsAndReferences, clause by clause. -/
theorem witness_secondsAndReferences :
    engOn dev = true ∧
    engOn metering = true ∧
    safOn armedFn = true ∧
    (Int.natAbs 500 ≤ 500 ∨ armedFn.saf.refBad = 0 ∨ bits (cfgR armedFn 24576) 3 0 = 0) ∧
    safOn dev = true ∧
    (Int.natAbs 501 ≤ 500 ∨ dev.saf.refBad = 0 ∨ bits (cfgR dev 24576) 3 0 = 0) ∧
    500 < (-501).natAbs ∧
    armedFn.saf.refBad ≠ 0 ∧
    bits (cfgR armedFn 24576) 3 0 ≠ 0 ∧
    (armedFn.saf.cause = 0 ∨ armedFn.saf.safe = true) ∧
    live tenDue = true ∧
    tenDue.pq.tenAt + 327680 ≤ tenDue.aon ∧
    live dev = true ∧
    dev.pq.tenAt + 327680 ≤ dev.aon ∧
    live tenEarly = true ∧
    tenEarly.aon < tenEarly.pq.tenAt + 327680 := by
  and_intros <;> decide +kernel

/-- The hypotheses of CfPulsesStartWaitAndEnd, clause by clause. -/
theorem witness_cfPulsesStartWaitAndEnd :
    engOn cfDue = true ∧
    cfOn cfDue 0 = true ∧
    cfConst cfDue 0 ≤ cfEp (cfGen cfDue 0) 0 ∧
    (cfGen cfDue 0).at_ ≤ 0 ∧
    ((cfGen cfDue 0).active = false ∧ ∀ (st : ℕ), (cfGen cfDue 0).startCyc = some st → (cfGen cfDue 0).endCyc + 512 ≤ cfDue.nrg.eng * 8192 + 0 ∧ st + 1024 ≤ cfDue.nrg.eng * 8192 + 0) ∧
    (cfGen cfDue 0).backlog = 0 ∧
    engOn cfBack = true ∧
    cfOn cfBack 0 = true ∧
    cfConst cfBack 0 ≤ cfEp (cfGen cfBack 0) 8192 ∧
    (cfGen cfBack 0).at_ ≤ 8192 ∧
    (¬(((cfGen cfBack 0).active = false ∧ ∀ (st : ℕ), (cfGen cfBack 0).startCyc = some st → (cfGen cfBack 0).endCyc + 512 ≤ cfBack.nrg.eng * 8192 + 8192 ∧ st + 1024 ≤ cfBack.nrg.eng * 8192 + 8192) ∧ (cfGen cfBack 0).backlog = 0)) ∧
    (cfGen cfBack 0).backlog < 65535 ∧
    engOn cfFull = true ∧
    cfOn cfFull 0 = true ∧
    cfConst cfFull 0 ≤ cfEp (cfGen cfFull 0) 8192 ∧
    (cfGen cfFull 0).at_ ≤ 8192 ∧
    65535 ≤ (cfGen cfFull 0).backlog ∧
    engOn cfLow = true ∧
    (cfOn cfLow 0 = false ∨ cfEp (cfGen cfLow 0) 0 < cfConst cfLow 0) ∧
    cfOn cfLow 0 = true ∧
    0 < (cfGen cfLow 0).backlog ∧
    ((cfGen cfLow 0).active = false ∧ ∀ (st : ℕ), (cfGen cfLow 0).startCyc = some st → (cfGen cfLow 0).endCyc + 512 ≤ cfLow.nrg.eng * 8192 + 0 ∧ st + 1024 ≤ cfLow.nrg.eng * 8192 + 0) ∧
    (cfOn cfBack 0 = false ∨ (cfGen cfBack 0).backlog = 0 ∨ ¬((cfGen cfBack 0).active = false ∧ ∀ (st : ℕ), (cfGen cfBack 0).startCyc = some st → (cfGen cfBack 0).endCyc + 512 ≤ cfBack.nrg.eng * 8192 + 0 ∧ st + 1024 ≤ cfBack.nrg.eng * 8192 + 0)) ∧
    (cfGen cfFull 0).active = true ∧
    (cfGen cfFull 0).endCyc ≤ cfFull.nrg.eng * 8192 + 1 ∧
    ((cfGen cfBack 0).active = false ∨ cfBack.nrg.eng * 8192 + 1 < (cfGen cfBack 0).endCyc) := by
  and_intros <;> decide +kernel

/-- The hypotheses of PairAttemptsAndShots, clause by clause. -/
theorem witness_pairAttemptsAndShots :
    live pathDue = true ∧
    (pathExists pathDue 0 = true ∧ geomOk pathDue 0 = true ∧ (flowPath pathDue 0).state ≠ Mgmt.off ∧ (flowPath pathDue 0).nextAt ≤ pathDue.aon ∧ (flowPath pathDue 0).pair = none) ∧
    (flowPath pathDue 0).state ≠ Mgmt.fault ∧
    live pathBusy = true ∧
    (pathExists pathBusy 0 = true ∧ geomOk pathBusy 0 = true ∧ (flowPath pathBusy 0).state ≠ Mgmt.off ∧ (flowPath pathBusy 0).nextAt ≤ pathBusy.aon ∧ (flowPath pathBusy 0).pair = none) ∧
    (flowPath pathBusy 0).state ≠ Mgmt.fault ∧
    live pathFault = true ∧
    (pathExists pathFault 0 = true ∧ geomOk pathFault 0 = true ∧ (flowPath pathFault 0).state ≠ Mgmt.off ∧ (flowPath pathFault 0).nextAt ≤ pathFault.aon ∧ (flowPath pathFault 0).pair = none) ∧
    (flowPath pathFault 0).state = Mgmt.fault ∧
    live pathEarly = true ∧
    (¬(pathExists pathEarly 0 = true ∧ geomOk pathEarly 0 = true ∧ (flowPath pathEarly 0).state ≠ Mgmt.off ∧ (flowPath pathEarly 0).nextAt ≤ pathEarly.aon ∧ (flowPath pathEarly 0).pair = none)) ∧
    live dueDn = true ∧
    (flowPath dueDn 0).pair = some duePair ∧
    (∃ d, duePair.dnAt = some d ∧ (flowCfg duePair.cfg 0).gapUs * 32768 < (dueDn.aon - d + 1) * 1000000) ∧
    duePair.upDue = false ∧
    live afterDn = true ∧
    (flowPath afterDn 0).pair = some openPair ∧
    ((¬∃ d, openPair.dnAt = some d ∧ (flowCfg openPair.cfg 0).gapUs * 32768 < (afterDn.aon - d + 1) * 1000000) ∨ openPair.upDue = true) ∧
    live upWaits = true ∧
    (flowPath upWaits 0).pair = some pairAttemptsAndShots1 ∧
    ((¬∃ d, pairAttemptsAndShots1.dnAt = some d ∧ (flowCfg pairAttemptsAndShots1.cfg 0).gapUs * 32768 < (upWaits.aon - d + 1) * 1000000) ∨ pairAttemptsAndShots1.upDue = true) ∧
    engOn upHead = true ∧
    upHead.flw.queue = [(0, true)] ∧
    (upHead.flw.front = none ∧ upHead.flw.bufs.length < 2) ∧
    bankReserved upHead 0 (fire 2800 1250000 4).at_ true = false ∧
    (flowPath upHead 0).pair = some pairAttemptsAndShots1 ∧
    bankReserved upHead 0 (fire 2799 799999 5000000000).at_ true = false ∧
    engOn dnHead = true ∧
    dnHead.flw.queue = [(0, false), (0, true)] ∧
    (dnHead.flw.front = none ∧ dnHead.flw.bufs.length < 2) ∧
    bankReserved dnHead 0 (fire 2800 800000 0).at_ false = false ∧
    (flowPath dnHead 0).pair = some pairAttemptsAndShots1 ∧
    bankReserved dnHead 0 (fire 2799 800000 77).at_ false = false ∧
    engOn reserved = true ∧
    reserved.flw.queue = [(0, false), (0, true)] ∧
    bankReserved reserved 0 (fire 2800 800000 10000001000).at_ false = true ∧
    (0, false) ∉ reserved.flw.waited ∧
    engOn reservedAgain = true ∧
    reservedAgain.flw.queue = [(0, false), (0, true)] ∧
    (bankReserved reservedAgain 0 (fire 2800 800000 10000001000).at_ false = true ∧ (0, false) ∈ reservedAgain.flw.waited ∨ bankReserved reservedAgain 0 (fire 2800 800000 10000001000).at_ false = false ∧ ¬(reservedAgain.flw.front = none ∧ reservedAgain.flw.bufs.length < 2)) ∧
    engOn shotHeld = true ∧
    shotHeld.flw.queue = [(0, false), (0, true)] ∧
    (bankReserved shotHeld 0 (fire 2800 800000 0).at_ false = true ∧ (0, false) ∈ shotHeld.flw.waited ∨ bankReserved shotHeld 0 (fire 2800 800000 0).at_ false = false ∧ ¬(shotHeld.flw.front = none ∧ shotHeld.flw.bufs.length < 2)) ∧
    engOn dev = true ∧
    dev.flw.queue = [] ∧
    live failFresh = true ∧
    (flowPath failFresh 0).pair = some failedPair ∧
    pairPublished failFresh 0 = true ∧
    (failedPair.abort = true ∨ failedPair.dn.isSome = true ∧ failedPair.up.isSome = true) ∧
    live (passing 3 Mgmt.starting) = true ∧
    (flowPath (passing 3 Mgmt.starting) 0).pair = some goodPair ∧
    pairPublished (passing 3 Mgmt.starting) 0 = true ∧
    (goodPair.abort = true ∨ goodPair.dn.isSome = true ∧ goodPair.up.isSome = true) ∧
    engOn captured = true ∧
    (flowPath captured 0).pair = some pairAttemptsAndShots1 ∧
    (0, true) ∈ captured.flw.bufs ∧
    captured.flw.front ≠ some (0, true) ∧
    capture.samples.length = capLen (flowPath captured 0) (flowCfg pairAttemptsAndShots1.cfg 0) := by
  and_intros <;> decide +kernel

/-- The hypotheses of PairOutcomesHoldExpireAndResume, clause by clause. -/
theorem witness_pairOutcomesHoldExpireAndResume :
    live failFresh = true ∧
    (flowPath failFresh 0).pair = some failedPair ∧
    pairPublished failFresh 0 = true ∧
    (failedPair.abort = true ∨ failedPair.dn.isSome = true ∧ failedPair.up.isSome = true ∧ pairCause failedPair ≠ 0) ∧
    live failOld = true ∧
    (flowPath failOld 0).pair = some failedPair ∧
    pairPublished failOld 0 = true ∧
    live failExpired = true ∧
    (flowPath failExpired 0).pair = some failedPair ∧
    pairPublished failExpired 0 = true ∧
    live failStarting = true ∧
    (flowPath failStarting 0).pair = some failedPair ∧
    pairPublished failStarting 0 = true ∧
    live (passing 3 Mgmt.starting) = true ∧
    (flowPath (passing 3 Mgmt.starting) 0).pair = some goodPair ∧
    pairPublished (passing 3 Mgmt.starting) 0 = true ∧
    goodPair.abort = false ∧
    goodPair.dn = some shot0 ∧
    goodPair.up = some pairOutcomesHoldExpireAndResume1 ∧
    pairCause goodPair = 0 ∧
    tooFast (flowCfg goodPair.cfg 0).vMax (pipeVals (passing 3 Mgmt.starting) 0 (goodPair.dnAt.getD (passing 3 Mgmt.starting).aon) goodPair shot0 pairOutcomesHoldExpireAndResume1).v = false ∧
    ((flowPath (passing 3 Mgmt.starting) 0).state = Mgmt.starting ∨ (flowPath (passing 3 Mgmt.starting) 0).state = Mgmt.run ∨ (flowPath (passing 3 Mgmt.starting) 0).state = Mgmt.hold) ∧
    live (passing 4 Mgmt.starting) = true ∧
    (flowPath (passing 4 Mgmt.starting) 0).pair = some goodPair ∧
    pairPublished (passing 4 Mgmt.starting) 0 = true ∧
    tooFast (flowCfg goodPair.cfg 0).vMax (pipeVals (passing 4 Mgmt.starting) 0 (goodPair.dnAt.getD (passing 4 Mgmt.starting).aon) goodPair shot0 pairOutcomesHoldExpireAndResume1).v = false ∧
    ((flowPath (passing 4 Mgmt.starting) 0).state = Mgmt.starting ∨ (flowPath (passing 4 Mgmt.starting) 0).state = Mgmt.run ∨ (flowPath (passing 4 Mgmt.starting) 0).state = Mgmt.hold) ∧
    live (passing 0 Mgmt.hold) = true ∧
    (flowPath (passing 0 Mgmt.hold) 0).pair = some goodPair ∧
    pairPublished (passing 0 Mgmt.hold) 0 = true ∧
    tooFast (flowCfg goodPair.cfg 0).vMax (pipeVals (passing 0 Mgmt.hold) 0 (goodPair.dnAt.getD (passing 0 Mgmt.hold).aon) goodPair shot0 pairOutcomesHoldExpireAndResume1).v = false ∧
    ((flowPath (passing 0 Mgmt.hold) 0).state = Mgmt.starting ∨ (flowPath (passing 0 Mgmt.hold) 0).state = Mgmt.run ∨ (flowPath (passing 0 Mgmt.hold) 0).state = Mgmt.hold) ∧
    live unpublished = true ∧
    ((flowPath unpublished 0).pair = none ∨ pairPublished unpublished 0 = false) ∧
    live afterDn = true ∧
    ((flowPath afterDn 1).pair = none ∨ pairPublished afterDn 1 = false) ∧
    (flowPath afterDn 0).pair = some openPair ∧
    openPair.abort = false ∧
    (openPair.dn = none ∨ openPair.up = none) := by
  and_intros <;> decide +kernel

/-- The hypotheses of LinkFramesAreJudged, clause by clause. -/
theorem witness_linkFramesAreJudged :
    live linkDev = true ∧
    linkLive linkDev = true ∧
    rxFrames linkDev < 4 ∧
    (0 = 0 ∧ ((linkIn 1 5 23 true 0).body.length < 4 ∨ ¬((linkIn 1 5 23 true 0).framed = false ∨ leAt (linkIn 1 5 23 true 0).body 0 1 = 0 ∨ 3 < leAt (linkIn 1 5 23 true 0).body 0 1) ∧ (linkIn 1 5 23 true 0).body.length < linkLen linkDev (leAt (linkIn 1 5 23 true 0).body 0 1)) ∨ 0 = 1 ∧ 4 ≤ (linkIn 1 5 23 true 0).body.length ∧ ¬((linkIn 1 5 23 true 0).framed = false ∨ leAt (linkIn 1 5 23 true 0).body 0 1 = 0 ∨ 3 < leAt (linkIn 1 5 23 true 0).body 0 1) ∧ linkLen linkDev (leAt (linkIn 1 5 23 true 0).body 0 1) < (linkIn 1 5 23 true 0).body.length ∨ 0 = 2 ∧ 4 ≤ (linkIn 1 5 23 true 0).body.length ∧ (((linkIn 1 5 23 true 0).framed = false ∨ leAt (linkIn 1 5 23 true 0).body 0 1 = 0 ∨ 3 < leAt (linkIn 1 5 23 true 0).body 0 1) ∨ (linkIn 1 5 23 true 0).body.length = linkLen linkDev (leAt (linkIn 1 5 23 true 0).body 0 1) ∧ wordBytes (crc32 (List.take ((linkIn 1 5 23 true 0).body.length - 4) (linkIn 1 5 23 true 0).body)) ≠ List.drop ((linkIn 1 5 23 true 0).body.length - 4) (linkIn 1 5 23 true 0).body)) ∧
    live shortRun = true ∧
    linkLive shortRun = true ∧
    rxFrames shortRun < 4 ∧
    (0 = 0 ∧ ((linkIn 1 5 23 true 0).body.length < 4 ∨ ¬((linkIn 1 5 23 true 0).framed = false ∨ leAt (linkIn 1 5 23 true 0).body 0 1 = 0 ∨ 3 < leAt (linkIn 1 5 23 true 0).body 0 1) ∧ (linkIn 1 5 23 true 0).body.length < linkLen shortRun (leAt (linkIn 1 5 23 true 0).body 0 1)) ∨ 0 = 1 ∧ 4 ≤ (linkIn 1 5 23 true 0).body.length ∧ ¬((linkIn 1 5 23 true 0).framed = false ∨ leAt (linkIn 1 5 23 true 0).body 0 1 = 0 ∨ 3 < leAt (linkIn 1 5 23 true 0).body 0 1) ∧ linkLen shortRun (leAt (linkIn 1 5 23 true 0).body 0 1) < (linkIn 1 5 23 true 0).body.length ∨ 0 = 2 ∧ 4 ≤ (linkIn 1 5 23 true 0).body.length ∧ (((linkIn 1 5 23 true 0).framed = false ∨ leAt (linkIn 1 5 23 true 0).body 0 1 = 0 ∨ 3 < leAt (linkIn 1 5 23 true 0).body 0 1) ∨ (linkIn 1 5 23 true 0).body.length = linkLen shortRun (leAt (linkIn 1 5 23 true 0).body 0 1) ∧ wordBytes (crc32 (List.take ((linkIn 1 5 23 true 0).body.length - 4) (linkIn 1 5 23 true 0).body)) ≠ List.drop ((linkIn 1 5 23 true 0).body.length - 4) (linkIn 1 5 23 true 0).body)) ∧
    live shortMany = true ∧
    linkLive shortMany = true ∧
    rxFrames shortMany < 4 ∧
    (1 = 0 ∧ ((linkIn 1 5 25 true 0).body.length < 4 ∨ ¬((linkIn 1 5 25 true 0).framed = false ∨ leAt (linkIn 1 5 25 true 0).body 0 1 = 0 ∨ 3 < leAt (linkIn 1 5 25 true 0).body 0 1) ∧ (linkIn 1 5 25 true 0).body.length < linkLen shortMany (leAt (linkIn 1 5 25 true 0).body 0 1)) ∨ 1 = 1 ∧ 4 ≤ (linkIn 1 5 25 true 0).body.length ∧ ¬((linkIn 1 5 25 true 0).framed = false ∨ leAt (linkIn 1 5 25 true 0).body 0 1 = 0 ∨ 3 < leAt (linkIn 1 5 25 true 0).body 0 1) ∧ linkLen shortMany (leAt (linkIn 1 5 25 true 0).body 0 1) < (linkIn 1 5 25 true 0).body.length ∨ 1 = 2 ∧ 4 ≤ (linkIn 1 5 25 true 0).body.length ∧ (((linkIn 1 5 25 true 0).framed = false ∨ leAt (linkIn 1 5 25 true 0).body 0 1 = 0 ∨ 3 < leAt (linkIn 1 5 25 true 0).body 0 1) ∨ (linkIn 1 5 25 true 0).body.length = linkLen shortMany (leAt (linkIn 1 5 25 true 0).body 0 1) ∧ wordBytes (crc32 (List.take ((linkIn 1 5 25 true 0).body.length - 4) (linkIn 1 5 25 true 0).body)) ≠ List.drop ((linkIn 1 5 25 true 0).body.length - 4) (linkIn 1 5 25 true 0).body)) ∧
    (2 = 0 ∧ ((linkIn 4 5 24 true 0).body.length < 4 ∨ ¬((linkIn 4 5 24 true 0).framed = false ∨ leAt (linkIn 4 5 24 true 0).body 0 1 = 0 ∨ 3 < leAt (linkIn 4 5 24 true 0).body 0 1) ∧ (linkIn 4 5 24 true 0).body.length < linkLen linkDev (leAt (linkIn 4 5 24 true 0).body 0 1)) ∨ 2 = 1 ∧ 4 ≤ (linkIn 4 5 24 true 0).body.length ∧ ¬((linkIn 4 5 24 true 0).framed = false ∨ leAt (linkIn 4 5 24 true 0).body 0 1 = 0 ∨ 3 < leAt (linkIn 4 5 24 true 0).body 0 1) ∧ linkLen linkDev (leAt (linkIn 4 5 24 true 0).body 0 1) < (linkIn 4 5 24 true 0).body.length ∨ 2 = 2 ∧ 4 ≤ (linkIn 4 5 24 true 0).body.length ∧ (((linkIn 4 5 24 true 0).framed = false ∨ leAt (linkIn 4 5 24 true 0).body 0 1 = 0 ∨ 3 < leAt (linkIn 4 5 24 true 0).body 0 1) ∨ (linkIn 4 5 24 true 0).body.length = linkLen linkDev (leAt (linkIn 4 5 24 true 0).body 0 1) ∧ wordBytes (crc32 (List.take ((linkIn 4 5 24 true 0).body.length - 4) (linkIn 4 5 24 true 0).body)) ≠ List.drop ((linkIn 4 5 24 true 0).body.length - 4) (linkIn 4 5 24 true 0).body)) ∧
    live leaderDev = true ∧
    linkLive leaderDev = true ∧
    rxFrames leaderDev < 4 ∧
    (2 = 0 ∧ ((linkIn 1 5 24 false 0).body.length < 4 ∨ ¬((linkIn 1 5 24 false 0).framed = false ∨ leAt (linkIn 1 5 24 false 0).body 0 1 = 0 ∨ 3 < leAt (linkIn 1 5 24 false 0).body 0 1) ∧ (linkIn 1 5 24 false 0).body.length < linkLen leaderDev (leAt (linkIn 1 5 24 false 0).body 0 1)) ∨ 2 = 1 ∧ 4 ≤ (linkIn 1 5 24 false 0).body.length ∧ ¬((linkIn 1 5 24 false 0).framed = false ∨ leAt (linkIn 1 5 24 false 0).body 0 1 = 0 ∨ 3 < leAt (linkIn 1 5 24 false 0).body 0 1) ∧ linkLen leaderDev (leAt (linkIn 1 5 24 false 0).body 0 1) < (linkIn 1 5 24 false 0).body.length ∨ 2 = 2 ∧ 4 ≤ (linkIn 1 5 24 false 0).body.length ∧ (((linkIn 1 5 24 false 0).framed = false ∨ leAt (linkIn 1 5 24 false 0).body 0 1 = 0 ∨ 3 < leAt (linkIn 1 5 24 false 0).body 0 1) ∨ (linkIn 1 5 24 false 0).body.length = linkLen leaderDev (leAt (linkIn 1 5 24 false 0).body 0 1) ∧ wordBytes (crc32 (List.take ((linkIn 1 5 24 false 0).body.length - 4) (linkIn 1 5 24 false 0).body)) ≠ List.drop ((linkIn 1 5 24 false 0).body.length - 4) (linkIn 1 5 24 false 0).body)) ∧
    (2 = 0 ∧ (badCrc.body.length < 4 ∨ ¬(badCrc.framed = false ∨ leAt badCrc.body 0 1 = 0 ∨ 3 < leAt badCrc.body 0 1) ∧ badCrc.body.length < linkLen linkDev (leAt badCrc.body 0 1)) ∨ 2 = 1 ∧ 4 ≤ badCrc.body.length ∧ ¬(badCrc.framed = false ∨ leAt badCrc.body 0 1 = 0 ∨ 3 < leAt badCrc.body 0 1) ∧ linkLen linkDev (leAt badCrc.body 0 1) < badCrc.body.length ∨ 2 = 2 ∧ 4 ≤ badCrc.body.length ∧ ((badCrc.framed = false ∨ leAt badCrc.body 0 1 = 0 ∨ 3 < leAt badCrc.body 0 1) ∨ badCrc.body.length = linkLen linkDev (leAt badCrc.body 0 1) ∧ wordBytes (crc32 (List.take (badCrc.body.length - 4) badCrc.body)) ≠ List.drop (badCrc.body.length - 4) badCrc.body)) ∧
    (4 ≤ (linkIn 1 5 24 true 12345).body.length ∧ ¬((linkIn 1 5 24 true 12345).framed = false ∨ leAt (linkIn 1 5 24 true 12345).body 0 1 = 0 ∨ 3 < leAt (linkIn 1 5 24 true 12345).body 0 1) ∧ (linkIn 1 5 24 true 12345).body.length = linkLen linkDev (leAt (linkIn 1 5 24 true 12345).body 0 1) ∧ ¬wordBytes (crc32 (List.take ((linkIn 1 5 24 true 12345).body.length - 4) (linkIn 1 5 24 true 12345).body)) ≠ List.drop ((linkIn 1 5 24 true 12345).body.length - 4) (linkIn 1 5 24 true 12345).body) ∧
    (if linkDev.chd.leader = true then 2 ≤ leAt (linkIn 1 5 24 true 12345).body 0 1 else leAt (linkIn 1 5 24 true 12345).body 0 1 = 1) ∧
    inSlot linkDev (leAt (linkIn 1 5 24 true 12345).body 0 1) (linkIn 1 5 24 true 12345).stamp = true ∧
    (4 ≤ (linkIn 2 5 28 true 2000001000).body.length ∧ ¬((linkIn 2 5 28 true 2000001000).framed = false ∨ leAt (linkIn 2 5 28 true 2000001000).body 0 1 = 0 ∨ 3 < leAt (linkIn 2 5 28 true 2000001000).body 0 1) ∧ (linkIn 2 5 28 true 2000001000).body.length = linkLen leaderDev (leAt (linkIn 2 5 28 true 2000001000).body 0 1) ∧ ¬wordBytes (crc32 (List.take ((linkIn 2 5 28 true 2000001000).body.length - 4) (linkIn 2 5 28 true 2000001000).body)) ≠ List.drop ((linkIn 2 5 28 true 2000001000).body.length - 4) (linkIn 2 5 28 true 2000001000).body) ∧
    (if leaderDev.chd.leader = true then 2 ≤ leAt (linkIn 2 5 28 true 2000001000).body 0 1 else leAt (linkIn 2 5 28 true 2000001000).body 0 1 = 1) ∧
    inSlot leaderDev (leAt (linkIn 2 5 28 true 2000001000).body 0 1) (linkIn 2 5 28 true 2000001000).stamp = true ∧
    (4 ≤ (linkIn 3 5 32 true 10000001000).body.length ∧ ¬((linkIn 3 5 32 true 10000001000).framed = false ∨ leAt (linkIn 3 5 32 true 10000001000).body 0 1 = 0 ∨ 3 < leAt (linkIn 3 5 32 true 10000001000).body 0 1) ∧ (linkIn 3 5 32 true 10000001000).body.length = linkLen leaderDev (leAt (linkIn 3 5 32 true 10000001000).body 0 1) ∧ ¬wordBytes (crc32 (List.take ((linkIn 3 5 32 true 10000001000).body.length - 4) (linkIn 3 5 32 true 10000001000).body)) ≠ List.drop ((linkIn 3 5 32 true 10000001000).body.length - 4) (linkIn 3 5 32 true 10000001000).body) ∧
    (if leaderDev.chd.leader = true then 2 ≤ leAt (linkIn 3 5 32 true 10000001000).body 0 1 else leAt (linkIn 3 5 32 true 10000001000).body 0 1 = 1) ∧
    inSlot leaderDev (leAt (linkIn 3 5 32 true 10000001000).body 0 1) (linkIn 3 5 32 true 10000001000).stamp = true ∧
    (4 ≤ (linkIn 2 5 28 true 2000001001).body.length ∧ ¬((linkIn 2 5 28 true 2000001001).framed = false ∨ leAt (linkIn 2 5 28 true 2000001001).body 0 1 = 0 ∨ 3 < leAt (linkIn 2 5 28 true 2000001001).body 0 1) ∧ (linkIn 2 5 28 true 2000001001).body.length = linkLen leaderDev (leAt (linkIn 2 5 28 true 2000001001).body 0 1) ∧ ¬wordBytes (crc32 (List.take ((linkIn 2 5 28 true 2000001001).body.length - 4) (linkIn 2 5 28 true 2000001001).body)) ≠ List.drop ((linkIn 2 5 28 true 2000001001).body.length - 4) (linkIn 2 5 28 true 2000001001).body) ∧
    (if leaderDev.chd.leader = true then 2 ≤ leAt (linkIn 2 5 28 true 2000001001).body 0 1 else leAt (linkIn 2 5 28 true 2000001001).body 0 1 = 1) ∧
    inSlot leaderDev (leAt (linkIn 2 5 28 true 2000001001).body 0 1) (linkIn 2 5 28 true 2000001001).stamp = false ∧
    (4 ≤ (linkIn 2 5 28 true 0).body.length ∧ ¬((linkIn 2 5 28 true 0).framed = false ∨ leAt (linkIn 2 5 28 true 0).body 0 1 = 0 ∨ 3 < leAt (linkIn 2 5 28 true 0).body 0 1) ∧ (linkIn 2 5 28 true 0).body.length = linkLen linkDev (leAt (linkIn 2 5 28 true 0).body 0 1) ∧ ¬wordBytes (crc32 (List.take ((linkIn 2 5 28 true 0).body.length - 4) (linkIn 2 5 28 true 0).body)) ≠ List.drop ((linkIn 2 5 28 true 0).body.length - 4) (linkIn 2 5 28 true 0).body) ∧
    (¬if linkDev.chd.leader = true then 2 ≤ leAt (linkIn 2 5 28 true 0).body 0 1 else leAt (linkIn 2 5 28 true 0).body 0 1 = 1) ∧
    (¬(linkDev.chd.leader = true ∧ leAt (linkIn 2 5 28 true 0).body 0 1 = 1)) ∧
    (4 ≤ (linkIn 1 4 24 true 0).body.length ∧ ¬((linkIn 1 4 24 true 0).framed = false ∨ leAt (linkIn 1 4 24 true 0).body 0 1 = 0 ∨ 3 < leAt (linkIn 1 4 24 true 0).body 0 1) ∧ (linkIn 1 4 24 true 0).body.length = linkLen leaderDev (leAt (linkIn 1 4 24 true 0).body 0 1) ∧ ¬wordBytes (crc32 (List.take ((linkIn 1 4 24 true 0).body.length - 4) (linkIn 1 4 24 true 0).body)) ≠ List.drop ((linkIn 1 4 24 true 0).body.length - 4) (linkIn 1 4 24 true 0).body) ∧
    leaderDev.chd.leader = true ∧
    leAt (linkIn 1 4 24 true 0).body 0 1 = 1 ∧
    (4 ≤ (linkIn 1 5 24 true 0).body.length ∧ ¬((linkIn 1 5 24 true 0).framed = false ∨ leAt (linkIn 1 5 24 true 0).body 0 1 = 0 ∨ 3 < leAt (linkIn 1 5 24 true 0).body 0 1) ∧ (linkIn 1 5 24 true 0).body.length = linkLen leaderDev (leAt (linkIn 1 5 24 true 0).body 0 1) ∧ ¬wordBytes (crc32 (List.take ((linkIn 1 5 24 true 0).body.length - 4) (linkIn 1 5 24 true 0).body)) ≠ List.drop ((linkIn 1 5 24 true 0).body.length - 4) (linkIn 1 5 24 true 0).body) ∧
    leAt (linkIn 1 5 24 true 0).body 0 1 = 1 ∧
    live leaderB = true ∧
    linkLive leaderB = true ∧
    rxFrames leaderB < 4 ∧
    (4 ≤ (linkIn 1 5 24 true 0).body.length ∧ ¬((linkIn 1 5 24 true 0).framed = false ∨ leAt (linkIn 1 5 24 true 0).body 0 1 = 0 ∨ 3 < leAt (linkIn 1 5 24 true 0).body 0 1) ∧ (linkIn 1 5 24 true 0).body.length = linkLen leaderB (leAt (linkIn 1 5 24 true 0).body 0 1) ∧ ¬wordBytes (crc32 (List.take ((linkIn 1 5 24 true 0).body.length - 4) (linkIn 1 5 24 true 0).body)) ≠ List.drop ((linkIn 1 5 24 true 0).body.length - 4) (linkIn 1 5 24 true 0).body) ∧
    leaderB.chd.leader = true ∧
    (4 ≤ (linkIn 1 133 24 true 0).body.length ∧ ¬((linkIn 1 133 24 true 0).framed = false ∨ leAt (linkIn 1 133 24 true 0).body 0 1 = 0 ∨ 3 < leAt (linkIn 1 133 24 true 0).body 0 1) ∧ (linkIn 1 133 24 true 0).body.length = linkLen leaderB (leAt (linkIn 1 133 24 true 0).body 0 1) ∧ ¬wordBytes (crc32 (List.take ((linkIn 1 133 24 true 0).body.length - 4) (linkIn 1 133 24 true 0).body)) ≠ List.drop ((linkIn 1 133 24 true 0).body.length - 4) (linkIn 1 133 24 true 0).body) ∧
    leAt (linkIn 1 133 24 true 0).body 0 1 = 1 ∧
    live linkFull = true ∧
    linkLive linkFull = true ∧
    4 ≤ rxFrames linkFull ∧
    live dev = true ∧
    linkLive dev = false ∧
    live missed = true ∧
    linkLive missed = true ∧
    live missedOnce = true ∧
    linkLive missedOnce = true ∧
    live holdOld = true ∧
    live holdEdge = true := by
  and_intros <;> decide +kernel

/-- The hypotheses of LinkCyclesAndRoles, clause by clause. -/
theorem witness_linkCyclesAndRoles :
    live cycleDue = true ∧
    linkLive cycleDue = true ∧
    cycleDue.chd.leader = true ∧
    cycleDue.chd.nextAt ≤ cycleDue.aon ∧
    cycleDue.chd.committed = false ∧
    (flowPath cycleDue 2).pair = none ∧
    live leaderDev = true ∧
    linkLive leaderDev = true ∧
    leaderDev.chd.leader = true ∧
    leaderDev.chd.nextAt ≤ leaderDev.aon ∧
    leaderDev.chd.committed = false ∧
    (flowPath leaderDev 2).pair = none ∧
    live swapDue = true ∧
    linkLive swapDue = true ∧
    swapDue.chd.leader = true ∧
    swapDue.chd.nextAt ≤ swapDue.aon ∧
    swapDue.chd.committed = true ∧
    live followSwap = true ∧
    linkLive followSwap = true ∧
    followSwap.chd.leader = false ∧
    followSwap.chd.committed = true ∧
    live linkDev = true ∧
    linkLive linkDev = true ∧
    linkDev.chd.leader = false ∧
    linkDev.chd.committed = false ∧
    live cycleEarly = true ∧
    (linkLive cycleEarly = false ∨ cycleEarly.chd.leader = true ∧ cycleEarly.aon < cycleEarly.chd.nextAt) ∧
    live gotSync = true ∧
    (linkLive gotSync = true ∧ gotSync.chd.leader = false ∧ gotSync.chd.gotReply = true ∧ gotSync.chd.t3 = none) ∧
    (¬(linkLive linkDev = true ∧ linkDev.chd.leader = false ∧ linkDev.chd.gotReply = true ∧ linkDev.chd.t3 = none)) ∧
    (linkLive gotSync = true ∧ gotSync.chd.leader = false ∧ gotSync.chd.gotReply = true ∧ gotSync.chd.gotArrive = false) ∧
    (¬(linkLive linkDev = true ∧ linkDev.chd.leader = false ∧ linkDev.chd.gotReply = true ∧ linkDev.chd.gotArrive = false)) ∧
    engOn bankDev = true ∧
    (flowPath bankDev 2).pair = some bankPair ∧
    bankDev.chd.leader = true ∧
    (bankIn false 10000001000).b = false ∧
    (bankIn false 10000001000).fire.at_ = bankDev.chd.tA ∧
    bankDev.flw.front = none ∧
    2800 ≤ (bankIn false 10000001000).fire.vus ∧
    800000 ≤ (bankIn false 10000001000).fire.ring ∧
    (bankIn false 10000001000).fire.ring ≤ 1250000 ∧
    engOn leaderDev = true ∧
    live bankDev = true ∧
    pairPublished bankDev 2 = true ∧
    live bankGood = true ∧
    bankGood.chd.leader = true ∧
    (flowPath bankGood 2).pair = some linkCyclesAndRoles1 ∧
    pairPublished bankGood 2 = true ∧
    ((flowPath linkDev 2).pair = none ∨ pairPublished linkDev 2 = false) ∧
    live (withBank bankPair linkDev) = true ∧
    (withBank bankPair linkDev).chd.leader = false ∧
    live (reverts 1000000) = true ∧
    (reverts 1000000).chd.revert = some { at_ := 1000000, epoch := 4, reqs := 0 : Revert } ∧
    { at_ := 1000000, epoch := 4, reqs := 0 : Revert }.at_ ≤ (reverts 1000000).aon ∧
    live (reverts 1000001) = true ∧
    (reverts 1000001).chd.revert = some { at_ := 1000001, epoch := 4, reqs := 0 : Revert } ∧
    (reverts 1000001).aon < { at_ := 1000001, epoch := 4, reqs := 0 : Revert }.at_ ∧
    live linkBat = true ∧
    linkLive linkBat = true ∧
    linkBat.pwc.vmainOk = false ∧
    live dev = true ∧
    (linkLive dev = false ∨ dev.pwc.vmainOk = true) := by
  and_intros <;> decide +kernel

/-- The hypotheses of SensorTransactionsRun, clause by clause. -/
theorem witness_sensorTransactionsRun :
    live sdiDue = true ∧
    slotRuns sdiDue 0 = true ∧
    (sdiSlot sdiDue 0).dueAt ≤ sdiDue.aon ∧
    live sdiBusy = true ∧
    slotRuns sdiBusy 0 = true ∧
    (sdiSlot sdiBusy 0).dueAt ≤ sdiBusy.aon ∧
    live sdiIdle = true ∧
    (slotRuns sdiIdle 0 = false ∨ sdiIdle.aon < (sdiSlot sdiIdle 0).dueAt) ∧
    live sdiDev = true ∧
    (slotRuns sdiDev 3 = false ∨ sdiDev.aon < (sdiSlot sdiDev 3).dueAt) ∧
    live sdiReady = true ∧
    sdiReady.sdi.txn = none ∧
    (sdiOn sdiReady = true ∨ sdiReady.sdi.shot.isSome = true) ∧
    nextTxn sdiReady = some firstTxn ∧
    live sdiSwitched = true ∧
    sdiSwitched.sdi.txn = none ∧
    (sdiOn sdiSwitched = true ∨ sdiSwitched.sdi.shot.isSome = true) ∧
    nextTxn sdiSwitched = some firstTxn ∧
    (sdiBusy.sdi.txn.isSome = true ∨ nextTxn sdiBusy = none) ∧
    live dev = true ∧
    (dev.sdi.txn.isSome = true ∨ nextTxn dev = none) ∧
    live sdiPower = true ∧
    sdiPower.sdi.txn = some (sdiTxn 0 SdiPhase.power) ∧
    (sdiTxn 0 SdiPhase.power).phase = SdiPhase.power ∧
    (sdiTxn 0 SdiPhase.power).deadline ≤ sdiPower.aon ∧
    (live sdiBusy = true ∧ sdiBusy.sdi.txn = some (sdiTxn 0 SdiPhase.meas) ∧ (sdiTxn 0 SdiPhase.meas).phase ≠ SdiPhase.power ∧ (sdiTxn 0 SdiPhase.meas).phase ≠ SdiPhase.wait) ∧
    (live sdiLast = true ∧ sdiLast.sdi.txn = some sensorTransactionsRun1 ∧ sensorTransactionsRun1.phase ≠ SdiPhase.power ∧ sensorTransactionsRun1.phase ≠ SdiPhase.wait) ∧
    sdiWired sdiLast = true ∧
    parseSdi (slotKind sdiLast sensorTransactionsRun1.slot) sensorTransactionsRun1.phase (sdiLast.sdi.shot.getD (0, 0)).1 (if sensorTransactionsRun1.shot = true then (sdiLast.sdi.shot.getD (0, 0)).2 else slotAddr sdiLast sensorTransactionsRun1.slot) (line [48]) = SdiAnswer.bad ∧
    sdiWired sdiBusy = true ∧
    parseSdi (slotKind sdiBusy (sdiTxn 0 SdiPhase.meas).slot) (sdiTxn 0 SdiPhase.meas).phase (sdiBusy.sdi.shot.getD (0, 0)).1 (if (sdiTxn 0 SdiPhase.meas).shot = true then (sdiBusy.sdi.shot.getD (0, 0)).2 else slotAddr sdiBusy (sdiTxn 0 SdiPhase.meas).slot) (line [49, 48, 48, 49, 50]) = SdiAnswer.bad ∧
    parseSdi (slotKind sdiBusy (sdiTxn 0 SdiPhase.meas).slot) (sdiTxn 0 SdiPhase.meas).phase (sdiBusy.sdi.shot.getD (0, 0)).1 (if (sdiTxn 0 SdiPhase.meas).shot = true then (sdiBusy.sdi.shot.getD (0, 0)).2 else slotAddr sdiBusy (sdiTxn 0 SdiPhase.meas).slot) (line [48, 48, 48, 49, 50]) = SdiAnswer.announce 1 2 ∧
    (live sdiConc = true ∧ sdiConc.sdi.txn = some (sdiTxn 7 SdiPhase.meas) ∧ (sdiTxn 7 SdiPhase.meas).phase ≠ SdiPhase.power ∧ (sdiTxn 7 SdiPhase.meas).phase ≠ SdiPhase.wait) ∧
    sdiWired sdiConc = true ∧
    parseSdi (slotKind sdiConc (sdiTxn 7 SdiPhase.meas).slot) (sdiTxn 7 SdiPhase.meas).phase (sdiConc.sdi.shot.getD (0, 0)).1 (if (sdiTxn 7 SdiPhase.meas).shot = true then (sdiConc.sdi.shot.getD (0, 0)).2 else slotAddr sdiConc (sdiTxn 7 SdiPhase.meas).slot) (line [49, 48, 48, 49, 48, 50]) = SdiAnswer.announce 1 2 ∧
    (live Tests.sdiData = true ∧ Tests.sdiData.sdi.txn = some (sdiTxn 0 SdiPhase.data) ∧ (sdiTxn 0 SdiPhase.data).phase ≠ SdiPhase.power ∧ (sdiTxn 0 SdiPhase.data).phase ≠ SdiPhase.wait) ∧
    sdiWired Tests.sdiData = true ∧
    (sdiTxn 0 SdiPhase.data).slot < 8 ∧
    (sdiTxn 0 SdiPhase.data).phase = SdiPhase.data ∧
    parseSdi (slotKind Tests.sdiData (sdiTxn 0 SdiPhase.data).slot) (sdiTxn 0 SdiPhase.data).phase (Tests.sdiData.sdi.shot.getD (0, 0)).1 (if (sdiTxn 0 SdiPhase.data).shot = true then (Tests.sdiData.sdi.shot.getD (0, 0)).2 else slotAddr Tests.sdiData (sdiTxn 0 SdiPhase.data).slot) (line [48, 43, 49, 46, 53, 45, 50]) = SdiAnswer.values [3 / 2, -2] ∧
    min (sdiTxn 0 SdiPhase.data).n (slotN Tests.sdiData (sdiTxn 0 SdiPhase.data).slot) ≤ ((sdiTxn 0 SdiPhase.data).vals ++ [3 / 2, -2]).length ∧
    dev.sdi.txn = none ∧
    live sdiOff = true ∧
    sdiWired sdiOff = false ∧
    live sdiWait = true ∧
    sdiWait.sdi.txn = some (sdiTxn 0 SdiPhase.wait) ∧
    (sdiTxn 0 SdiPhase.wait).phase = SdiPhase.wait ∧
    (sdiTxn 0 SdiPhase.wait).n ≠ 0 ∧
    (48#8).toNat = slotAddr sdiWait (sdiTxn 0 SdiPhase.wait).slot ∧
    sdiWired sdiWait = true ∧
    ((49#8).toNat ≠ slotAddr sdiWait (sdiTxn 0 SdiPhase.wait).slot ∨ sdiWired sdiWait = false) ∧
    0 = (sdiTxn 0 SdiPhase.wait).slot ∧
    (sdiTxn 0 SdiPhase.wait).deadline ≤ sdiWait.aon ∧
    live sdiPend = true ∧
    sdiPend.sdi.txn = none ∧
    (sdiSlot sdiPend 7).pendN = some 2 ∧
    (sdiSlot sdiPend 7).dataAt ≤ sdiPend.aon ∧
    slotRuns sdiPend 7 = true ∧
    live sdiAged = true ∧
    bits (sper sdiAged 0) 31 16 < sdiAge sdiAged 0 0 ∧
    live sdiFresh = true ∧
    sdiAge sdiFresh 0 0 ≤ bits (sper sdiFresh 0) 31 16 := by
  and_intros <;> decide +kernel

/-- The hypotheses of GaugeCountsCharge, clause by clause. -/
theorem witness_gaugeCountsCharge :
    live gaugeDev = true ∧
    batLive gaugeDev = true ∧
    gaugeDev.bat.mode = 0 ∧
    cellAbsent gaugeDev = false ∧
    gaugeDue 1 gaugeDev = true ∧
    gaugeDev.bat.frameNo % 16 ≠ 0 ∧
    live gaugeFirst = true ∧
    batLive gaugeFirst = true ∧
    gaugeFirst.bat.mode = 0 ∧
    gaugeDue 1 gaugeFirst = true ∧
    (gaugeIn 100 (some { volt := 17999, ratio := 1 / 2, die := 6400 : GaugeVT })).slot = some { volt := 17999, ratio := 1 / 2, die := 6400 : GaugeVT } ∧
    gaugeFirst.bat.frameNo % 16 = 0 ∧
    gaugeFirst.bat.present = true ∧
    { volt := 17999, ratio := 1 / 2, die := 6400 : GaugeVT }.volt < 18000 ∧
    live gaugeQuiet = true ∧
    batLive gaugeQuiet = true ∧
    gaugeQuiet.bat.mode ≠ 0 ∧
    (gaugeIn 499 (some { volt := 18000, ratio := 1 / 2, die := 6400 : GaugeVT })).slot = some { volt := 18000, ratio := 1 / 2, die := 6400 : GaugeVT } ∧
    gaugeQuiet.bat.present = true ∧
    18000 ≤ { volt := 18000, ratio := 1 / 2, die := 6400 : GaugeVT }.volt ∧
    gaugeDue (min gaugeQuiet.bat.interval (maxInterval gaugeQuiet)) gaugeQuiet = true ∧
    (gaugeIn (-6250000) (some { volt := 30000, ratio := 1 / 2, die := 6400 : GaugeVT })).slot = some { volt := 30000, ratio := 1 / 2, die := 6400 : GaugeVT } ∧
    18000 ≤ { volt := 30000, ratio := 1 / 2, die := 6400 : GaugeVT }.volt ∧
    live (gaugeAbsent 0) = true ∧
    batLive (gaugeAbsent 0) = true ∧
    cellAbsent (gaugeAbsent 0) = true ∧
    (gaugeIn 499 (some { volt := 20000, ratio := 1 / 2, die := 6400 : GaugeVT })).slot = some { volt := 20000, ratio := 1 / 2, die := 6400 : GaugeVT } ∧
    gaugeDue 1 (gaugeAbsent 0) = true ∧
    live (gaugeAbsent 1) = true ∧
    batLive (gaugeAbsent 1) = true ∧
    cellAbsent (gaugeAbsent 1) = true ∧
    gaugeDue 1 (gaugeAbsent 1) = true ∧
    (gaugeIn 499 (some { volt := 19999, ratio := 1 / 2, die := 6400 : GaugeVT })).slot = some { volt := 19999, ratio := 1 / 2, die := 6400 : GaugeVT } ∧
    accepted dev 0 16412 { wr 23040 with val := withCmd (wr 23040).val 1 } = true ∧
    bits (wr 23040).val 15 8 = 90 ∧
    16384 ≤ (16388#16).toNat ∧
    (16388#16).toNat < 18432 ∧
    (16388#16).toNat ≠ 16412 ∧
    accepted gaugeDev 0 (16388#16).toNat (wr 5) = true ∧
    (specOf (16388#16).toNat).isSome = true ∧
    gaugeQuiet.bat.state ≠ Mgmt.hold ∧
    live dev = true ∧
    batLive dev = false := by
  and_intros <;> decide +kernel

/-- The hypotheses of SupplySourceChanges, clause by clause. -/
theorem witness_supplySourceChanges :
    (dev.pwc.start = StartPhase.served ∧ dev.pwc.pf = PfPhase.none ∧ dev.pwc.mode ≠ Mode.shelf) ∧
    dev.pwc.vmainOk = true ∧
    (batteryDev.pwc.start = StartPhase.served ∧ batteryDev.pwc.pf = PfPhase.none ∧ batteryDev.pwc.mode ≠ Mode.shelf) ∧
    batteryDev.pwc.vmainOk = false ∧
    vmainMay batteryDev = true ∧
    (inReset.pwc.start = StartPhase.heldInReset ∨ inReset.pwc.pf ≠ PfPhase.none) ∧
    inReset.pwc.vmainOk = true ∧
    (inResetBat.pwc.start = StartPhase.heldInReset ∨ inResetBat.pwc.pf ≠ PfPhase.none) ∧
    inResetBat.pwc.mode ≠ Mode.shelf ∧
    inResetBat.pwc.vmainOk = false ∧
    vmainMay inResetBat = true ∧
    ((candidates true).pwc.start ≠ StartPhase.served ∧ (candidates true).pwc.start ≠ StartPhase.heldInReset ∧ (candidates true).pwc.pf = PfPhase.none) ∧
    (candidates true).pwc.vmainOk = true ∧
    ((candidates false).pwc.start ≠ StartPhase.served ∧ (candidates false).pwc.start ≠ StartPhase.heldInReset ∧ (candidates false).pwc.pf = PfPhase.none) ∧
    (candidates false).pwc.mode ≠ Mode.shelf ∧
    (candidates false).pwc.vmainOk = false ∧
    vmainMay (candidates false) = true ∧
    shelfBat.pwc.mode = Mode.shelf ∧
    dev.pwc.mode ≠ Mode.shelf ∧
    (dev.pwc.vmainOk = true ∨ vmainMay dev = false) ∧
    batteryNow.pwc.mode ≠ Mode.shelf ∧
    (batteryNow.pwc.vmainOk = true ∨ vmainMay batteryNow = false) ∧
    live (starting true) = true ∧
    (starting true).pwc.hfxStarting = true ∧
    (starting true).pwc.clk.hfx = true ∧
    live unlocked = true ∧
    unlocked.pwc.hfxOk = true ∧
    unlocked.pwc.pllLock = false ∧
    live (retry 967232) = true ∧
    (retry 967232).pwc.hfxFail = true ∧
    (retry 967232).pwc.vmainOk = true ∧
    (retry 967232).str.isSome = true ∧
    (retry 967232).pwc.hfxFailAt + 32768 ≤ (retry 967232).aon ∧
    live dev = true ∧
    demandActive dev 3 = false ∧
    dev.str.isSome = true := by
  and_intros <;> decide +kernel

/-- The hypotheses of DisplaySequencesAndChecks, clause by clause. -/
theorem witness_displaySequencesAndChecks :
    live (dspRails 3) = true ∧
    (dspRails 3).dsp.seq = DspSeq.rails 3 ∧
    (dspRails 3).dsp.seq ≠ DspSeq.rails 2 ∧
    live (dspZero 1 none) = true ∧
    live (dspZero 2 none) = true ∧
    live (dspZero 2 (some 7#32)) = true ∧
    live Tests.dspRun = true ∧
    live (dspSeq DspSeq.stop Mgmt.run) = true ∧
    live (dspSeq (DspSeq.stopZero 1) Mgmt.run) = true ∧
    live (dspSeq (DspSeq.stopZero 2) Mgmt.run) = true ∧
    live (dspSeq DspSeq.disch Mgmt.run) = true ∧
    live (dspSeq DspSeq.emerg Mgmt.fault) = true ∧
    live (dspSeq (DspSeq.down 2) Mgmt.run) = true ∧
    live (dspSeq (DspSeq.down 3) Mgmt.run) = true ∧
    (dspSeq (DspSeq.down 3) Mgmt.run).dsp.seq = DspSeq.down 3 ∧
    live (dspSeq (DspSeq.down 4) Mgmt.fault) = true ∧
    (dspSeq (DspSeq.down 4) Mgmt.fault).dsp.seq = DspSeq.down 4 ∧
    live (dspSeq (DspSeq.down 4) Mgmt.run) = true ∧
    (dspSeq (DspSeq.down 4) Mgmt.run).dsp.seq = DspSeq.down 4 ∧
    live dspLast = true ∧
    dspLast.dsp.seq = DspSeq.down 4 ∧
    (∀ (n : ℕ), Tests.dspRun.dsp.seq ≠ DspSeq.down n) ∧
    Tests.dspRun.dsp.seq ≠ DspSeq.off ∧
    Tests.dspRun.dsp.seq ≠ DspSeq.emerg ∧
    live dev = true ∧
    (dev.dsp.seq = DspSeq.off ∨ dev.dsp.seq = DspSeq.emerg) ∧
    (dspSeq DspSeq.emerg Mgmt.fault).dsp.seq = DspSeq.emerg ∧
    live (dspSeq DspSeq.emerg Mgmt.run) = true ∧
    (dspSeq DspSeq.emerg Mgmt.run).dsp.seq = DspSeq.emerg ∧
    Tests.dspRun.dsp.state = Mgmt.run ∧
    dev.dsp.state ≠ Mgmt.run ∧
    live dspAgree = true ∧
    dspAgree.dsp.seq = DspSeq.run ∧
    (tileDef dspAgree 0 = true → (if 0 = 0 then tileCrc dspAgree.dsp.mem (tileNow dspAgree 0) else (tileSt dspAgree 0).exp) = (tileSt dspAgree 0).exp ∧ dspAgree.dsp.diverse.isSome = true) ∧
    live dspBad = true ∧
    dspBad.dsp.seq = DspSeq.run ∧
    dspBad.dsp.state = Mgmt.run ∧
    (0 = 0 ∨ (tileDef dspBad 0 = true → (if 0 = 0 then tileCrc dspBad.dsp.mem (tileNow dspBad 0) else (tileSt dspBad 0).exp) = (tileSt dspBad 0).exp ∧ dspBad.dsp.diverse.isSome = true)) ∧
    tileDef dspBad 0 = true ∧
    (tileSt dspBad 0).skip = false ∧
    5#32 ≠ (tileSt dspBad 0).exp ∧
    (1 = 0 ∨ (tileDef dspBad 0 = true → (if 0 = 0 then tileCrc dspBad.dsp.mem (tileNow dspBad 0) else (tileSt dspBad 0).exp) = (tileSt dspBad 0).exp ∧ dspBad.dsp.diverse.isSome = true)) ∧
    tileDef dspBad 1 = true ∧
    (tileSt dspBad 1).skip = false ∧
    5#32 ≠ (tileSt dspBad 1).exp ∧
    Tests.dspRun.dsp.dwellEnd ≤ Tests.dspRun.aon ∧
    legalItems Tests.dspRun ≠ [] ∧
    engOn dev = true ∧
    (rendersNow dev.dsp.seq = false ∨ Option.any (fun a => decide (dev.aon < a + 32768)) dev.dsp.renderAt = true) ∧
    engOn (rendered 967233) = true ∧
    (rendersNow (rendered 967233).dsp.seq = false ∨ Option.any (fun a => decide ((rendered 967233).aon < a + 32768)) (rendered 967233).dsp.renderAt = true) ∧
    engOn Tests.dspRun = true ∧
    (legalItems Tests.dspRun)[Tests.dspRun.dsp.item]? = some { kind := 3, idx := 0, dwell := 2, opt := 0 : LegalItem } ∧
    tileDef Tests.dspRun 0 = true ∧
    (Tests.dspRun.dsp.seq = DspSeq.run ∨ ∃ n, Tests.dspRun.dsp.seq = DspSeq.zero n) ∧
    Option.all (fun a => decide (a + 32768 ≤ Tests.dspRun.aon)) Tests.dspRun.dsp.renderAt = true ∧
    tileGrid (tileNow Tests.dspRun 0) = true ∧
    memWf Tests.dspRun.dsp.mem = true ∧
    engOn (rendered 967232) = true ∧
    (legalItems (rendered 967232))[(rendered 967232).dsp.item]? = some { kind := 3, idx := 0, dwell := 2, opt := 0 : LegalItem } ∧
    tileDef (rendered 967232) 0 = true ∧
    ((rendered 967232).dsp.seq = DspSeq.run ∨ ∃ n, (rendered 967232).dsp.seq = DspSeq.zero n) ∧
    Option.all (fun a => decide (a + 32768 ≤ (rendered 967232).aon)) (rendered 967232).dsp.renderAt = true ∧
    tileGrid (tileNow (rendered 967232) 0) = true ∧
    memWf (rendered 967232).dsp.mem = true := by
  and_intros <;> first | decide +kernel | exact Or.inl rfl | nofun

/-- The hypotheses of WatcherTripsAndChecks, clause by clause. -/
theorem witness_watcherTripsAndChecks :
    fastOn functionDev = true ∧
    fastOn functionTrip = true ∧
    anyFn functionDev = true ∧
    fastValid functionDev 3 = true ∧
    (fnChans functionDev 0 ++ fnChans functionDev 2).contains 3 = true ∧
    fastOn dev = true ∧
    (anyFn dev = false ∨ fastValid dev 3 = false ∨ (fnChans dev 0 ++ fnChans dev 2).contains 3 = false) ∧
    safOn functionDev = true ∧
    (some 4).isSome = true ∧
    safOn pilotWin = true ∧
    safOn dev = true ∧
    safOn crossWin = true := by
  and_intros <;> decide +kernel

/-- The hypotheses of DiagnosticsTripOutputsAndExit, clause by clause. -/
theorem witness_diagnosticsTripOutputsAndExit :
    safOn functionTrip = true ∧
    functionTrip.saf.wdt = true ∧
    functionTrip.saf.tokRef = true ∧
    anyFn functionTrip = true ∧
    safOn functionDev = true ∧
    (functionDev.saf.wdt = false ∨ functionDev.saf.tokRef = false ∨ anyFn functionDev = false) ∧
    (¬∃ f ∈ [(70000, 0)], crc32 (scanBlock [(70000, 0)] (f.1 / 256) (scanBytes functionDev)) ≠ crc32 (scanBlock [] (f.1 / 256) (scanBytes functionDev))) ∧
    (¬∃ f ∈ ([] : List (Nat × Nat)), crc32 (scanBlock [] (f.1 / 256) (scanBytes functionDev)) ≠ crc32 (scanBlock [] (f.1 / 256) (scanBytes functionDev))) ∧
    (∃ f ∈ [(3, 5)], crc32 (scanBlock [(3, 5)] (f.1 / 256) (scanBytes functionDev)) ≠ crc32 (scanBlock [] (f.1 / 256) (scanBytes functionDev))) ∧
    anyFn functionDev = true ∧
    safOn dev = true ∧
    (∃ f ∈ [(0, 7), (70000, 1)], crc32 (scanBlock [(0, 7), (70000, 1)] (f.1 / 256) (scanBytes dev)) ≠ crc32 (scanBlock [] (f.1 / 256) (scanBytes dev))) ∧
    anyFn dev = false ∧
    safOn padBad = true ∧
    live hfxLost = true ∧
    (hfxLost.pwc.clk.saf = false ∨ hfxLost.pwc.hfxOk = false) ∧
    live functionDev = true ∧
    (¬(tenOff { saf := 1100000, hfx := 1000000, aon := 1000000, fab := 1050000 : ClockIn }.hfx { saf := 1100000, hfx := 1000000, aon := 1000000, fab := 1050000 : ClockIn }.saf = true ∧ tenOff { saf := 1100000, hfx := 1000000, aon := 1000000, fab := 1050000 : ClockIn }.hfx { saf := 1100000, hfx := 1000000, aon := 1000000, fab := 1050000 : ClockIn }.aon = true)) ∧
    (¬(tenOff { saf := 1100000, hfx := 1000000, aon := 1000000, fab := 1050000 : ClockIn }.saf { saf := 1100000, hfx := 1000000, aon := 1000000, fab := 1050000 : ClockIn }.hfx = true ∧ tenOff { saf := 1100000, hfx := 1000000, aon := 1000000, fab := 1050000 : ClockIn }.saf { saf := 1100000, hfx := 1000000, aon := 1000000, fab := 1050000 : ClockIn }.aon = true)) ∧
    (¬(tenOff { saf := 1100000, hfx := 1000000, aon := 1000000, fab := 1050000 : ClockIn }.aon { saf := 1100000, hfx := 1000000, aon := 1000000, fab := 1050000 : ClockIn }.hfx = true ∧ tenOff { saf := 1100000, hfx := 1000000, aon := 1000000, fab := 1050000 : ClockIn }.aon { saf := 1100000, hfx := 1000000, aon := 1000000, fab := 1050000 : ClockIn }.saf = true) ∨ functionDev.pwc.aonRc = true) ∧
    (¬(105 * { saf := 1100000, hfx := 1000000, aon := 1000000, fab := 1050000 : ClockIn }.hfx < 100 * { saf := 1100000, hfx := 1000000, aon := 1000000, fab := 1050000 : ClockIn }.fab ∨ 100 * { saf := 1100000, hfx := 1000000, aon := 1000000, fab := 1050000 : ClockIn }.fab < 95 * { saf := 1100000, hfx := 1000000, aon := 1000000, fab := 1050000 : ClockIn }.hfx) ∨ anyFn functionDev = false) ∧
    (1 = 0 ∧ functionDev.pwc.hfxStarting = true ∧ functionDev.pwc.hfxStartAt + 328 ≤ functionDev.aon ∨ 1 = 1 ∧ functionDev.pwc.hfxOk = true ∨ 1 = 2 ∧ functionDev.pwc.pllLock = true) ∧
    live (starting false) = true ∧
    (0 = 0 ∧ (starting false).pwc.hfxStarting = true ∧ (starting false).pwc.hfxStartAt + 328 ≤ (starting false).aon ∨ 0 = 1 ∧ (starting false).pwc.hfxOk = true ∨ 0 = 2 ∧ (starting false).pwc.pllLock = true) ∧
    functionDev.pwc.clk.saf = true ∧
    functionDev.pwc.hfxOk = true ∧
    (tenOff { saf := 1000000, hfx := 1100001, aon := 1000000, fab := 1000000 : ClockIn }.hfx { saf := 1000000, hfx := 1100001, aon := 1000000, fab := 1000000 : ClockIn }.saf = true ∧ tenOff { saf := 1000000, hfx := 1100001, aon := 1000000, fab := 1000000 : ClockIn }.hfx { saf := 1000000, hfx := 1100001, aon := 1000000, fab := 1000000 : ClockIn }.aon = true) ∧
    (¬(tenOff { saf := 1100001, hfx := 1000000, aon := 1000000, fab := 1000000 : ClockIn }.hfx { saf := 1100001, hfx := 1000000, aon := 1000000, fab := 1000000 : ClockIn }.saf = true ∧ tenOff { saf := 1100001, hfx := 1000000, aon := 1000000, fab := 1000000 : ClockIn }.hfx { saf := 1100001, hfx := 1000000, aon := 1000000, fab := 1000000 : ClockIn }.aon = true)) ∧
    (tenOff { saf := 1100001, hfx := 1000000, aon := 1000000, fab := 1000000 : ClockIn }.saf { saf := 1100001, hfx := 1000000, aon := 1000000, fab := 1000000 : ClockIn }.hfx = true ∧ tenOff { saf := 1100001, hfx := 1000000, aon := 1000000, fab := 1000000 : ClockIn }.saf { saf := 1100001, hfx := 1000000, aon := 1000000, fab := 1000000 : ClockIn }.aon = true) ∧
    live diagnosticsTripOutputsAndExit1 = true ∧
    diagnosticsTripOutputsAndExit1.pwc.clk.saf = true ∧
    diagnosticsTripOutputsAndExit1.pwc.hfxOk = true ∧
    (¬(tenOff { saf := 1000000, hfx := 1000000, aon := 1100001, fab := 1000000 : ClockIn }.hfx { saf := 1000000, hfx := 1000000, aon := 1100001, fab := 1000000 : ClockIn }.saf = true ∧ tenOff { saf := 1000000, hfx := 1000000, aon := 1100001, fab := 1000000 : ClockIn }.hfx { saf := 1000000, hfx := 1000000, aon := 1100001, fab := 1000000 : ClockIn }.aon = true)) ∧
    (¬(tenOff { saf := 1000000, hfx := 1000000, aon := 1100001, fab := 1000000 : ClockIn }.saf { saf := 1000000, hfx := 1000000, aon := 1100001, fab := 1000000 : ClockIn }.hfx = true ∧ tenOff { saf := 1000000, hfx := 1000000, aon := 1100001, fab := 1000000 : ClockIn }.saf { saf := 1000000, hfx := 1000000, aon := 1100001, fab := 1000000 : ClockIn }.aon = true)) ∧
    (tenOff { saf := 1000000, hfx := 1000000, aon := 1100001, fab := 1000000 : ClockIn }.aon { saf := 1000000, hfx := 1000000, aon := 1100001, fab := 1000000 : ClockIn }.hfx = true ∧ tenOff { saf := 1000000, hfx := 1000000, aon := 1100001, fab := 1000000 : ClockIn }.aon { saf := 1000000, hfx := 1000000, aon := 1100001, fab := 1000000 : ClockIn }.saf = true) ∧
    diagnosticsTripOutputsAndExit1.pwc.aonRc = false ∧
    (¬(105 * { saf := 1000000, hfx := 1000000, aon := 1100001, fab := 1000000 : ClockIn }.hfx < 100 * { saf := 1000000, hfx := 1000000, aon := 1100001, fab := 1000000 : ClockIn }.fab ∨ 100 * { saf := 1000000, hfx := 1000000, aon := 1100001, fab := 1000000 : ClockIn }.fab < 95 * { saf := 1000000, hfx := 1000000, aon := 1100001, fab := 1000000 : ClockIn }.hfx)) ∧
    (¬(tenOff { saf := 1000000, hfx := 1000000, aon := 1000000, fab := 1050001 : ClockIn }.hfx { saf := 1000000, hfx := 1000000, aon := 1000000, fab := 1050001 : ClockIn }.saf = true ∧ tenOff { saf := 1000000, hfx := 1000000, aon := 1000000, fab := 1050001 : ClockIn }.hfx { saf := 1000000, hfx := 1000000, aon := 1000000, fab := 1050001 : ClockIn }.aon = true)) ∧
    (¬(tenOff { saf := 1000000, hfx := 1000000, aon := 1000000, fab := 1050001 : ClockIn }.saf { saf := 1000000, hfx := 1000000, aon := 1000000, fab := 1050001 : ClockIn }.hfx = true ∧ tenOff { saf := 1000000, hfx := 1000000, aon := 1000000, fab := 1050001 : ClockIn }.saf { saf := 1000000, hfx := 1000000, aon := 1000000, fab := 1050001 : ClockIn }.aon = true)) ∧
    (¬(tenOff { saf := 1000000, hfx := 1000000, aon := 1000000, fab := 1050001 : ClockIn }.aon { saf := 1000000, hfx := 1000000, aon := 1000000, fab := 1050001 : ClockIn }.hfx = true ∧ tenOff { saf := 1000000, hfx := 1000000, aon := 1000000, fab := 1050001 : ClockIn }.aon { saf := 1000000, hfx := 1000000, aon := 1000000, fab := 1050001 : ClockIn }.saf = true)) ∧
    (105 * { saf := 1000000, hfx := 1000000, aon := 1000000, fab := 1050001 : ClockIn }.hfx < 100 * { saf := 1000000, hfx := 1000000, aon := 1000000, fab := 1050001 : ClockIn }.fab ∨ 100 * { saf := 1000000, hfx := 1000000, aon := 1000000, fab := 1050001 : ClockIn }.fab < 95 * { saf := 1000000, hfx := 1000000, aon := 1000000, fab := 1050001 : ClockIn }.hfx) ∧
    safOn clearing = true ∧
    safOn leaving = true ∧
    live (fbDue true) = true ∧
    (bit (cfgR (fbDue true) 24576) 6 = true ∧ (fbDue true).saf.fbDone = false ∧ (fbDue true).saf.prunAt + aonOfMs (BitVec.toNat (cfgR (fbDue true) 24644)) ≤ (fbDue true).aon) ∧
    live (fbDue false) = true ∧
    (bit (cfgR (fbDue false) 24576) 6 = true ∧ (fbDue false).saf.fbDone = false ∧ (fbDue false).saf.prunAt + aonOfMs (BitVec.toNat (cfgR (fbDue false) 24644)) ≤ (fbDue false).aon) ∧
    live dev = true ∧
    (¬(bit (cfgR dev 24576) 6 = true ∧ dev.saf.fbDone = false ∧ dev.saf.prunAt + aonOfMs (BitVec.toNat (cfgR dev 24644)) ≤ dev.aon)) ∧
    live functionTrip = true := by
  and_intros <;> decide +kernel

/-- The hypotheses of CommitsAndSupplyLoss, clause by clause. -/
theorem witness_commitsAndSupplyLoss :
    live (commitDev CommitKind.period) = true ∧
    (commitDev CommitKind.period).sto.cqueue = [queued CommitKind.period, queued CommitKind.state] ∧
    (queued CommitKind.period).kind ≠ CommitKind.switch ∧
    resetAsked (commitDev CommitKind.period) = false ∧
    live switchCommit = true ∧
    switchCommit.sto.cqueue = [queued CommitKind.switch, queued CommitKind.state] ∧
    (queued CommitKind.switch).kind = CommitKind.switch ∧
    resetAsked switchCommit = false ∧
    switchCommit.img.step = SwitchStep.commit ∧
    live switchPlain = true ∧
    switchPlain.sto.cqueue = [queued CommitKind.switch, queued CommitKind.state] ∧
    resetAsked switchPlain = false ∧
    switchPlain.img.step = SwitchStep.commit ∧
    live (batDue 836160) = true ∧
    (batDue 836160).str.isSome = true ∧
    (batDue 836160).pwc.vmainOk = false ∧
    (batDue 836160).sto.lastQueued.getD 0 + bits (cfgV (batDue 836160) 61952) 31 16 * 32768 ≤ (batDue 836160).aon ∧
    live (batDue 836161) = true ∧
    (batDue 836161).str.isSome = true ∧
    (batDue 836161).pwc.vmainOk = false ∧
    (¬(batDue 836161).sto.lastQueued.getD 0 + bits (cfgV (batDue 836161) 61952) 31 16 * 32768 ≤ (batDue 836161).aon) ∧
    live dev = true ∧
    dev.pwc.vmainOk = true ∧
    dev.pwc.pf = PfPhase.none ∧
    dev.pwc.start ≠ StartPhase.heldInReset ∧
    Tests.scanning.pwc.pf = PfPhase.none ∧
    Tests.scanning.pwc.start ≠ StartPhase.heldInReset ∧
    State.reset.pwc.pf = PfPhase.none ∧
    State.reset.pwc.start ≠ StartPhase.heldInReset ∧
    (inReset.pwc.pf ≠ PfPhase.none ∨ inReset.pwc.start = StartPhase.heldInReset) ∧
    pfDev.pwc.pf ≠ PfPhase.none ∧
    pfDev.sto.cqueue = [] ∧
    pfFinal.pwc.pf ≠ PfPhase.none ∧
    pfFinal.sto.cqueue = [queued CommitKind.final, queued CommitKind.state] := by
  and_intros <;> decide +kernel

/-- The hypotheses of ClocksStartFailAndStop, clause by clause. -/
theorem witness_clocksStartFailAndStop :
    live (starting false) = true ∧
    (starting false).pwc.hfxStarting = true ∧
    (starting false).pwc.clk.hfx = true ∧
    (starting false).pwc.hfxFail = false ∧
    live (starting true) = true ∧
    (starting true).pwc.hfxStarting = true ∧
    (starting true).pwc.clk.hfx = true ∧
    (starting true).pwc.hfxFail = true ∧
    live heldGauge = true ∧
    heldGauge.pwc.hfxStarting = true ∧
    heldGauge.pwc.clk.hfx = true ∧
    heldGauge.pwc.hfxFail = true ∧
    live dev = true ∧
    dev.pwc.hfxStarting = false ∧
    live unlocked = true ∧
    unlocked.pwc.hfxOk = true ∧
    unlocked.pwc.pllLock = false ∧
    live unlockedBat = true ∧
    unlockedBat.pwc.hfxOk = true ∧
    unlockedBat.pwc.pllLock = false ∧
    (dev.pwc.hfxOk = false ∨ dev.pwc.pllLock = true) ∧
    live metering = true ∧
    (1 = 0 ∧ metering.pwc.hfxStarting = true ∧ metering.pwc.hfxStartAt + 328 ≤ metering.aon ∨ 1 = 1 ∧ metering.pwc.hfxOk = true ∨ 1 = 2 ∧ metering.pwc.pllLock = true) ∧
    live afterDn = true ∧
    (2 = 0 ∧ afterDn.pwc.hfxStarting = true ∧ afterDn.pwc.hfxStartAt + 328 ≤ afterDn.aon ∨ 2 = 1 ∧ afterDn.pwc.hfxOk = true ∨ 2 = 2 ∧ afterDn.pwc.pllLock = true) ∧
    live gaugeDev = true ∧
    (2 = 0 ∧ gaugeDev.pwc.hfxStarting = true ∧ gaugeDev.pwc.hfxStartAt + 328 ≤ gaugeDev.aon ∨ 2 = 1 ∧ gaugeDev.pwc.hfxOk = true ∨ 2 = 2 ∧ gaugeDev.pwc.pllLock = true) ∧
    (0 = 0 ∧ (starting false).pwc.hfxStarting = true ∧ (starting false).pwc.hfxStartAt + 328 ≤ (starting false).aon ∨ 0 = 1 ∧ (starting false).pwc.hfxOk = true ∨ 0 = 2 ∧ (starting false).pwc.pllLock = true) ∧
    (¬(0 = 0 ∧ dev.pwc.hfxStarting = true ∧ dev.pwc.hfxStartAt + 328 ≤ dev.aon ∨ 0 = 1 ∧ dev.pwc.hfxOk = true ∨ 0 = 2 ∧ dev.pwc.pllLock = true)) ∧
    live startEarly = true ∧
    (¬(0 = 0 ∧ startEarly.pwc.hfxStarting = true ∧ startEarly.pwc.hfxStartAt + 328 ≤ startEarly.aon ∨ 0 = 1 ∧ startEarly.pwc.hfxOk = true ∨ 0 = 2 ∧ startEarly.pwc.pllLock = true)) ∧
    live (retry 967232) = true ∧
    live (retry 967233) = true ∧
    demandActive afterDn 0 = true ∧
    demandActive dev 1 = false ∧
    dev.pwc.vmainOk = true ∧
    dev.str.isSome = true ∧
    live demandLast = true ∧
    demandActive demandLast 3 = false ∧
    demandLast.pwc.vmainOk = false ∧
    demandLast.pwc.mode ≠ Mode.shelf ∧
    demandLast.pwc.clk.hfx = true ∧
    demandLast.whl.state ≠ WheelState.running ∧
    needsHfx { demandLast with pwc := { demandLast.pwc with dem := ⟨false, false, false⟩ } } = false := by
  and_intros <;> decide +kernel

/-! ### Ill-formed commands are refused -/

/-- One ill-formed term for each check of Instr.wf, and the same check on a well-formed neighbour. -/
theorem test_wf_frames : (Instr.read (frm cmdRead 0x2808 1 [5])).wf = false ∧ (Instr.read (frm cmdRead 0x2808 1 [])).wf = true ∧
    (Instr.write (frm cmdWrite 0x2808 65 (List.replicate 65 0))).wf = false ∧
    (Instr.write (frm cmdWrite 0x2808 64 (List.replicate 64 0))).wf = true ∧
    (Instr.frameMemoryWrite (frm cmdWrite 0x6000 1 [0])).wf = false ∧ (Instr.frameMemoryWrite (frm cmdWrite 0x5FFC 1 [0])).wf = true := by
  decide +kernel

theorem test_wf_ports : (Instr.fetch 2 false).wf = false ∧ (Instr.fetch 1 false).wf = true ∧ (Instr.spiCsRise 2 true).wf = false ∧
    (Instr.spiCsRise 0 true).wf = true := by decide +kernel

theorem test_wf_register_rows : (Instr.registerWrite 0x2809 (wr 0)).wf = false ∧ (Instr.registerWrite 0x2808 (wr 0)).wf = true ∧
    (Instr.mtrCalWrite 0x2800 (wr 0)).wf = false ∧ (Instr.mtrCalWrite 0x1100 (wr 0)).wf = true ∧
    (Instr.flwConfigWrite 0x2800 (wr 0)).wf = false ∧ (Instr.flwConfigWrite 0x3110 (wr 0)).wf = true ∧
    (Instr.batConfigWrite 0x2800 (wr 0)).wf = false ∧ (Instr.batConfigWrite 0x4004 (wr 0)).wf = true ∧
    (Instr.safWrite 0x2800 (wr 0)).wf = false ∧ (Instr.safWrite 0x6004 (wr 0)).wf = true := by decide +kernel

theorem test_wf_wheel :
    (let mod := fun (v : Rat) => (⟨[Vector.replicate 8 { quietChan with volt := v }], [], [], [], [], none⟩ : SectorIn)
     (Instr.sectorStart (mod (41 / 10))).wf = false ∧ (Instr.sectorStart (mod (-4))).wf = true) ∧
    (Instr.sectorStart { noWork with work := [(0, [120, 121])] }).wf = false ∧
    (Instr.sectorStart { noWork with work := [(0, [120, 0])] }).wf = true ∧
    (Instr.sectorStart { noWork with flips := [(8192, 0)] }).wf = false ∧ (Instr.sectorStart { noWork with flips := [(0, 72)] }).wf = false ∧
    (Instr.sectorStart { noWork with flips := [(8191, 71)] }).wf = true ∧ (Instr.sectorStart { noWork with reads := [8192] }).wf = false ∧
    (Instr.sectorStart { noWork with reads := [8191] }).wf = true ∧
    (Instr.sectorStart { noWork with wrong := [⟨0, 9, 0, 1⟩] }).wf = false ∧
    (Instr.sectorStart { noWork with wrong := [⟨0, 8, 0, 1⟩] }).wf = true ∧
    (Instr.unitFaultReturn 9).wf = false ∧ (Instr.unitFaultReturn 8).wf = true ∧
    (Instr.roundClose { roundIn with bad := [⟨9, 0, 0⟩] }).wf = false ∧ (Instr.roundClose { roundIn with bad := [⟨8, 0, 4⟩] }).wf = false ∧
    (Instr.roundClose { roundIn with bad := [⟨8, 0, 3⟩] }).wf = true ∧
    (Instr.cfPulseEvent 0 8193).wf = false ∧ (Instr.cfPulseEvent 0 8192).wf = true := by decide +kernel

theorem test_wf_observations : (Instr.shotEvaluated 0 false ⟨[2048], []⟩).wf = false ∧
    (Instr.shotEvaluated 0 false ⟨[-2048], []⟩).wf = true ∧ (Instr.shotEvaluated 0 false ⟨List.replicate 2049 0, []⟩).wf = false ∧
    (Instr.linkFrameMissing 0).wf = false ∧ (Instr.linkFrameMissing 3).wf = true ∧
    (Instr.sdiResponse ⟨[0x80], true⟩).wf = false ∧ (Instr.sdiResponse ⟨[0x7F], true⟩).wf = true ∧ (Instr.railFault 0 1).wf = false ∧
    (Instr.railFault 8 1).wf = true ∧ (Instr.tileCrcCheck [⟨8, 0⟩]).wf = false ∧ (Instr.tileCrcCheck [⟨7, 0⟩]).wf = true ∧
    (Instr.tripReadback []).wf = false ∧ (Instr.tripReadback (List.replicate 4 ⟨true, false, false⟩)).wf = true ∧
    (Instr.powerFail ⟨65, none⟩).wf = false ∧ (Instr.powerFail ⟨64, none⟩).wf = true := by decide +kernel

/-! ### Check codes and signatures on published values -/

/-- SHA-256 of "abc" (FIPS 180-4 names the algorithm; the value is that of its published example). -/
theorem test_sha256_abc : sha256 [0x61, 0x62, 0x63] =
    be32 0xba7816bf8f01cfea414140de5dae2223b00361a396177a9cb410ff61f20015ad := by decide +kernel

/-- CRC-32 of "123456789": the published check value of the polynomial and bit order of R25. -/
theorem test_crc32_check : crc32 [0x31, 0x32, 0x33, 0x34, 0x35, 0x36, 0x37, 0x38, 0x39] = 0xCBF43926#32 := by decide +kernel

/-- ECDSA P-256 with SHA-256 over "sample": the published vector of RFC 6979, A.2.5; and it fails for another message. -/
theorem test_ecdsa_vector :
    (let key := be32 0x60FED4BA255A9D31C961EB74C6356D68C049B8923B61FA6CE669622E60F29FB6 ++
       be32 0x7903FE1008B8BC99A41AE9E95628BC64F2F1B20C2D7E9F5177A3C294D4462299
     let sig := be32 0xEFD48B2AACB6A8FD1140DD9CD45E81D69D2C877B56AAF991C34D0EA84EAF3716 ++
       be32 0xF7CB1C942D657C41D436C7A1B6E29F65F3E900DBB9AFF4064DC4AB2F843ACDA8
     (ecdsaVerify key [0x73, 0x61, 0x6D, 0x70, 0x6C, 0x65] sig, ecdsaVerify key [0x73, 0x61, 0x6D, 0x70, 0x6C, 0x66] sig)) =
      (true, false) := by decide +kernel

/-! ### Single steps -/

/-- What a step leaves, where it answers a next state. -/
def after (o : Host.Outcome State Fault Refusal) (p : State → Bool) : Bool :=
  match o with
  | .next t => p t
  | _ => false

/-- The status code of the reply that port A holds. -/
def heldStatus (t : State) : Option Nat := (port t 0).held.map Reply.status

/-- R433: a WRITE whose CRC is right is applied and answered OK; with a wrong CRC nothing is applied and CRC_ERR counts. -/
theorem test_write_crc :
    after (exec (.write (frm cmdWrite 0x0824 1 [0x1234])) dev) (fun t => cfgV t 0x0824 == 0x1234#32 && heldStatus t == some stOk) = true ∧
    after (exec (.write { frm cmdWrite 0x0824 1 [0x1234] with crc := 0 }) dev) (fun t => cfgV t 0x0824 == cfgV dev 0x0824 &&
      (port t 0).crcErr == 1) = true := by decide +kernel

/-- R76 and R78: a facet that does not own the resource is answered Denied, and the register keeps its value. -/
theorem test_write_denied : after (exec (.write { frm cmdWrite 0x2808 1 [5] with port := 1 }) dev) (fun t =>
    (port t 1).held.map Reply.status == some stDenied && cfgV t 0x2808 == cfgV dev 0x2808 && (facet t 1).deniedWr == 1) = true := by
  decide +kernel

/-- R417: PWC_RTC_W1 sets the count from its own 16 bits over the staged word, at the next AON edge. -/
theorem test_rtc_set : after (exec (.rtcSet (wr 0xFFFF0002)) { dev with pwc := { dev.pwc with rtcStage := 0x89ABCDEF } })
    (fun t => t.pwc.rtc == dev.pwc.rtc && (idle t).pwc.rtc == 0x289ABCDEF && t.pwc.rtcValid) = true := by decide +kernel

/-- R121 and R122: sector 63 is the last of its round, which then waits for its close; word 8191 of 8192 is followed by word 0. -/
theorem test_sector_wraps : after (exec (.sectorStart noWork) { dev with whl := { dev.whl with sector := 63, scrubWord := 8191 } })
    (fun t => t.whl.sector == 64 && t.whl.scrubWord == 0 && t.whl.scrubPass == 1) = true ∧
    after (exec (.sectorStart noWork) { dev with whl := { dev.whl with sector := 64, scrubWord := 8191 } })
    (fun t => t.whl.scrubWord == 8191) = true := by decide +kernel

/-- R119: the fourth forced fault within an hour latches the unit; a fault an hour old no longer counts. -/
theorem test_fourth_fault_latches :
    (let s := fun (old : Nat) => ({ dev with aon := 200000000, whl := { dev.whl with faults :=
      [(0x10, ⟨[old, 199999998, 199999999], none, false⟩)] } } : State)
     (faultRec (forceUnit 0x10 (s 199999997)) 0x10).latched = true ∧
       (faultRec (forceUnit 0x10 (s (200000000 - 3600 * 32768))) 0x10).latched = false) := by decide +kernel

/-- R178: two pulses start at least 1024 ENG cycles apart; the second waits in BACKLOG. -/
theorem test_cf_backlog : after (exec (.cfPulseEvent 0 0) cfDue) (fun t => (cfGen t 0).count == 6 && (cfGen t 0).backlog == 0) = true ∧
    after (exec (.cfPulseEvent 0 0) (cfSt { cfGen cfDue 0 with startCyc := some 818177 }))
      (fun t => (cfGen t 0).count == 5 && (cfGen t 0).backlog == 1) = true := by decide +kernel

/-- R227: a failed pair exactly FLW_HOLD_MS after the last valid one is HELD; a count later it has expired. -/
theorem test_hold_expires : after (exec (.pairOutcome 0) failFresh) (fun t => (flowPath t 0).tag == .held) = true ∧
    after (exec (.pairOutcome 0) failOld) (fun t => (flowPath t 0).tag == .invalid && (flowPath t 0).expired) = true := by decide +kernel

/-- R243: the 32nd discarded link frame within a second is FAULT; one a count older than a second no longer counts. -/
theorem test_link_discards : after (exec (.linkFrameReceived (linkIn 1 5 25 true 0)) shortMany) (fun t => t.chd.state == .fault) = true ∧
    after (exec (.linkFrameReceived (linkIn 1 5 25 true 0)) shortRun) (fun t => t.chd.state == .hold) = true := by decide +kernel

/-- R287: 499 nV on 10 mOhm lies below I_Q = 50 µA and the gauge enters QUIET; 500 nV does not. -/
theorem test_gauge_quiet : after (exec (.gaugeFrame (gaugeIn 499 none)) gaugeDev) (fun t => t.bat.mode == 1 && t.bat.interval == 16) = true ∧
    after (exec (.gaugeFrame (gaugeIn 500 none)) gaugeDev) (fun t => t.bat.mode == 0) = true := by decide +kernel

/-- R343: OC_N fast samples in a row at OC_INST trip the watcher; one below the threshold begins the count anew. -/
theorem test_overcurrent_trips :
    after (exec (.fastSample (Vector.replicate 8 ⟨1, 1⟩)) functionTrip) (fun t => t.saf.safe && t.saf.wOc && nbit t.saf.cause 0) = true ∧
    after (exec (.fastSample (Vector.replicate 8 ⟨1 / 1000, 1⟩)) functionTrip)
      (fun t => !nbit t.saf.cause 0 && vget t.saf.ocRun 3 9 == 0) = true := by
  decide +kernel

/-- R350 and R352: TRIPA is high in the first half of the period, TRIPB in the second; neither in the safe state. -/
theorem test_trip_outputs :
    (let first := { dev with saf := { dev.saf with half := true } }
     after (exec .tripOutputEdge first) (fun t => t.saf.lvl == (false, true)) = true ∧
       after (exec .tripOutputEdge dev) (fun t => t.saf.lvl == (true, false)) = true ∧
       after (exec .tripOutputEdge { dev with saf := { dev.saf with safe := true } }) (fun t => t.saf.lvl == (false, false)) = true) := by
  decide +kernel

/-- R383: the slot beside the newest record is filled, with SEQ after 65535 again 0. -/
theorem test_commit_alternates : after (exec (.commitClosed 0) (commitDev .period)) (fun t =>
    ((vget t.sto.slots 1 none).map fun r => (r.seq, r.marked)) == some (0, true) &&
      ((vget t.sto.slots 0 none).map CommitRec.seq) == some 65535) = true := by decide +kernel

/-- The worked case of chapter 13: record 0x3A41 closed in slot 0 and the valid FINAL marker of 0x3A42 beside it give the
UNCLOSED_INTERVAL payload that the chapter prints. -/
theorem test_unclosed_interval :
    (let s := { dev with sto := { dev.sto with
       slots := Vector.ofFn fun i => if i = 0 then some ⟨0x0F3C8A10, 0x3A41, .period, packBody dev, true, true⟩ else none
       markers := Vector.ofFn fun i => if i = 1 then some ⟨0x3A42, .final, false, 0x0F3C8A10, 0x0F3C8BAA, 361800, 1281402, 10183080⟩ else none } }
     let t := reportUnclosed (recover s)
     ((facet t 0).queue.map fun e => (e.ev.code, e.ev.w4, e.ev.w5, e.ev.w6, e.ev.w7)) =
       [(0x0D01, 0x2000000D, 0x000004EA, 0x00003EA2, 0x0001F1B5)] ∧ t.sto.unclosed = 1) := by decide +kernel

/-- The worked case of chapter 11: item 0 at 1 234 567 890 123 µWh shows "P+ ST" and "1234.5 kWh", right-aligned after 11 blanks. -/
theorem test_legal_item :
    (let s := { dev with nrg := { dev.nrg with sets := vmod dev.nrg.sets 6 fun e =>
       { e with acc := vmod e.acc 0 fun _ => 1234567890123 * 2 ^ 32 } } }
     itemLines 21 (itemText s ⟨1, 0, 5, 0x110006⟩) =
       (codes "P+ ST                ", codes "           1234.5 kWh")) := by decide +kernel

/-- R306, R311: column 5 is SRC1 in phase 1; with grey entry 15 of 255 its pixel at level 15 sinks 6.000 µA, and none in a zero frame. -/
theorem test_panel_source :
    (let s := { dev with dsp := { dev.dsp with seq := .run, mem := [(2, 0xF0#8)], grey := Vector.replicate 4 0xFF000000 } }
     columnSource 5 = (1, 1) ∧ srcCurrent s 1 1 0 = 6000 ∧ srcCurrent s 1 0 0 = 0 ∧
       srcCurrent { s with dsp := { s.dsp with seq := .zero 1 } } 1 1 0 = 0) := by decide +kernel

/-- R447: a reply on PC_TX is 12 bits of break, 2 of marking, then 0x7E with its start bit, least significant bit first. -/
theorem test_uart_reply : (uartBits (mkReply stOk cmdStatus [])).take 24 =
    List.replicate 12 false ++ [true, true, false, false] ++ List.replicate 6 true ++ [false, true] := by decide +kernel

/-- R420 and R422: POR leaves AON 0 and the sections of the security store as they are. -/
theorem test_por : after (exec .por { dev with sec := { dev.sec with lifecycle := .sealed } }) (fun t =>
    t.aon == 0 && t.sec.lifecycle == .sealed && t.str.isNone && t.pwc.resetCause == 1) = true := by decide +kernel

/-- A word spells no command, so withFetchWord puts none in the queue. -/
theorem test_no_word_spells_a_command : decodeTableWord 32 0 = none ∧ dev.withFetchWord 32 5 = dev := ⟨rfl, rfl⟩

end Sys2Proof.Tests
end

section
/-! PROOFS. Rules about shared operations: places in the register window, the register file, what the statements set back, and
what follows an event of the hardware (R14, R16, R382, R408). -/

namespace Sys2Proof.Proofs

open Sys2Proof Sys2Proof.Machine Sys2Proof.Safety Sys2Proof.Laws

/-! ### Registers -/

theorem within_iff (off a b : Nat) : within off a b = true ↔ a ≤ off ∧ off ≤ b ∧ off % 4 = 0 := by
  simp [within, and_assoc]

@[simp] theorem cfgV_cfgSet (s : State) (off : Nat) (v : Word) : cfgV { s with cfg := cfgSet s.cfg off v } off = v := by simp [cfgV]

theorem cfgV_cfgSet_ne (s : State) {off o : Nat} (v : Word) (h : o ≠ off) :
    cfgV { s with cfg := cfgSet s.cfg off v } o = cfgV s o := by simp [cfgV, cfgFind_cfgSet_ne _ _ _ _ h]

/-! ### What the statements set back -/

/-- An event is raised alike whatever every accepted request may change. -/
theorem aside_emit (e : Ev) (s t : State) : aside s (emit e t) = emit e (aside s t) := by
  cases h : t.sto.evHold with
  | true => rw [emit_held e t h, emit_held e (aside s t) h]; rfl
  | false => rw [emit_now e t h, emit_now e (aside s t) h]; rfl

theorem hfxAside_of_pwc {s t : State} (h : t.pwc = s.pwc) : hfxAside s t = t := by
  rw [hfxAside, ← h]

/-! ### What follows an event of the hardware -/

/-- After an event that leaves the link alone no STATE commit falls due. -/
theorem react_eq_demandWake {s t : State} (h : t.chd = s.chd) : react s t = demandWake t := by
  rw [react, roleCommit, h, if_neg (not_not.mpr rfl)]

/-- What follows such an event may only start HFX. -/
theorem hfxAside_react {s t : State} (h : t.chd = s.chd) (u : State) : hfxAside u (react s t) = hfxAside u t := by
  rw [react_eq_demandWake h, demandWake]
  split
  · rfl
  · exact wake_hfxAside u t

/-- HFX that runs keeps running through what follows such an event. -/
theorem react_hfx {s t : State} (h : t.chd = s.chd) (hx : t.pwc.clk.hfx = true) : (react s t).pwc.clk.hfx = true := by
  have hwake : wake t = t := by simp [wake, hx]
  rw [react_eq_demandWake h, demandWake, hwake, ite_self, hx]

/-- A device with a structure that runs on battery and has a demand runs HFX (R408). -/
theorem wake_hfx {s : State} (hl : live s = true) (hstr : s.str.isSome = true) (hv : s.pwc.vmainOk = false)
    (hn : needsHfx s = true) : (wake s).pwc.clk.hfx = true := by
  obtain ⟨hstart, hpf⟩ : s.pwc.start = .served ∧ s.pwc.pf = .none := by simpa [live] using hl
  cases h : s.pwc.clk.hfx with
  | true => simp [wake, h]
  | false =>
    have : wake s = hfxStart s := by simp [wake, h, hstr, hv, hstart, hpf, hn]
    rw [this, hfxStart, h]; rfl

@[simp] theorem wake_chd (s : State) : (wake s).chd = s.chd := by
  unfold wake hfxStart
  split
  · split <;> rfl
  · rfl

end Sys2Proof.Proofs
end

section
/-! PROOFS. What a host write stores in a register: each field by its rule, and no bit outside the fields (R13, R496). -/

namespace Sys2Proof.Proofs

open Sys2Proof Sys2Proof.Machine

/-- Bit i lies in the place of field x. -/
def Covers (x : Fld) (i : Nat) : Prop := x.lo ≤ i ∧ i < x.lo + x.width

/-- The fields stand one above the other, none over the next. -/
abbrev Ascending (fs : List Fld) : Prop := fs.Pairwise fun a b => a.lo + a.width ≤ b.lo

/-- Each field lies within a word, and its rule answers values that fit the field. -/
abbrev Fits (fs : List Fld) : Prop := ∀ x ∈ fs, x.lo + x.width ≤ 32 ∧ ∀ n, n < 2 ^ x.width → x.fix n < 2 ^ x.width

theorem fldGet_lt (x : Fld) (n : Nat) : x.get n < 2 ^ x.width := Nat.mod_lt _ (Nat.two_pow_pos _)

theorem testBit_fldGet (x : Fld) (n j : Nat) : (x.get n).testBit j = (decide (j < x.width) && n.testBit (j + x.lo)) := by
  rw [Fld.get, Nat.testBit_mod_two_pow, Nat.testBit_div_two_pow]

/-- A bit that a number below 2 ^ k has lies below k. -/
theorem lt_of_testBit_of_lt {n k j : Nat} (hn : n < 2 ^ k) (hj : n.testBit j = true) : j < k :=
  (Nat.pow_lt_pow_iff_right (by decide)).mp ((Nat.ge_two_pow_of_testBit hj).trans_lt hn)

/-- Fields of one layout that cover the same bit are the same field. -/
theorem eq_of_covers {fs : List Fld} (hd : Ascending fs) {x y : Fld} (hx : x ∈ fs) (hy : y ∈ fs) {i : Nat} (hxi : Covers x i)
    (hyi : Covers y i) : x = y := by
  refine List.Pairwise.forall_of_forall_of_flip (R := fun a b => Covers a i → Covers b i → a = b) (fun _ _ _ _ => rfl)
    (hd.imp fun hab ha hb => ?_) (hd.imp fun hab hb ha => ?_) hx hy hxi hyi
  · exact absurd (ha.2.trans_le hab) (Nat.not_lt.mpr hb.1)
  · exact absurd (ha.2.trans_le hab) (Nat.not_lt.mpr hb.1)

/-- A value put above a number that ends below its place takes the bits from its place on. -/
theorem testBit_add_mul_two_pow {a b k : Nat} (ha : a < 2 ^ k) (i : Nat) :
    (a + b * 2 ^ k).testBit i = true ↔ a.testBit i = true ∨ (k ≤ i ∧ b.testBit (i - k) = true) := by
  rw [Nat.add_comm, Nat.mul_comm, Nat.testBit_two_pow_mul_add _ ha]
  rcases Nat.lt_or_ge i k with h | h
  · simp [h, Nat.not_le.mpr h]
  · have hlow : a.testBit i = false := Nat.testBit_lt_two_pow (ha.trans_le (Nat.pow_le_pow_right (by decide) h))
    simp [h, Nat.not_lt.mpr h, hlow]

/-- Fields added one above the other: each bit of the sum is a bit of the start or of the one field that covers it. -/
theorem testBit_foldl_fields (g : Fld → Nat) (fs : List Fld) (hd : Ascending fs) (hg : ∀ x ∈ fs, g x < 2 ^ x.width) (a : Nat)
    (ha : ∀ x ∈ fs, a < 2 ^ x.lo) (i : Nat) :
    (fs.foldl (fun n x => n + g x * 2 ^ x.lo) a).testBit i = true ↔
      a.testBit i = true ∨ ∃ x ∈ fs, x.lo ≤ i ∧ (g x).testBit (i - x.lo) = true := by
  induction fs generalizing a with
  | nil => simp
  | cons x xs ih =>
    obtain ⟨hx, hxs⟩ := List.pairwise_cons.mp hd
    have hax := ha x List.mem_cons_self
    have hsum : a + g x * 2 ^ x.lo < 2 ^ (x.lo + x.width) := calc
      a + g x * 2 ^ x.lo < (g x + 1) * 2 ^ x.lo := by rw [Nat.succ_mul]; omega
      _ ≤ 2 ^ x.width * 2 ^ x.lo := Nat.mul_le_mul_right _ (hg x List.mem_cons_self)
      _ = 2 ^ (x.lo + x.width) := by rw [Nat.pow_add, Nat.mul_comm]
    have hnext : ∀ y ∈ xs, a + g x * 2 ^ x.lo < 2 ^ y.lo := fun y hy =>
      hsum.trans_le (Nat.pow_le_pow_right (by decide) (hx y hy))
    rw [List.foldl_cons, ih hxs (fun y hy => hg y (List.mem_cons_of_mem x hy)) _ hnext, testBit_add_mul_two_pow hax]
    simp [or_assoc]

/-- The bits of a stored word are those of its fields' stored values. -/
theorem getLsbD_storeFields {fs : List Fld} (hd : Ascending fs) (hf : Fits fs) (v : Word) (i : Nat) :
    (storeFields fs v).getLsbD i = true ↔ ∃ x ∈ fs, Covers x i ∧ (x.fix (x.get v.toNat)).testBit (i - x.lo) = true := by
  have hg : ∀ x ∈ fs, x.fix (x.get v.toNat) < 2 ^ x.width := fun x hx => (hf x hx).2 _ (fldGet_lt x _)
  rw [storeFields, w32, BitVec.getLsbD_ofNat, Bool.and_eq_true, decide_eq_true_eq,
    testBit_foldl_fields (fun x => x.fix (x.get v.toNat)) fs hd hg 0 fun _ _ => Nat.two_pow_pos _]
  simp only [Nat.zero_testBit, Bool.false_eq_true, false_or]
  constructor
  · rintro ⟨-, x, hx, hlo, hbit⟩
    have := lt_of_testBit_of_lt (hg x hx) hbit
    exact ⟨x, hx, ⟨hlo, by omega⟩, hbit⟩
  · rintro ⟨x, hx, ⟨hlo, hhi⟩, hbit⟩
    exact ⟨hhi.trans_le (hf x hx).1, x, hx, hlo, hbit⟩

/-- Each field of a stored word is its rule's value of the written field. -/
theorem get_storeFields {fs : List Fld} (hd : Ascending fs) (hf : Fits fs) (v : Word) {x : Fld} (hx : x ∈ fs) :
    x.get (storeFields fs v).toNat = x.fix (x.get v.toNat) := by
  refine Nat.eq_of_testBit_eq fun j => Bool.eq_iff_iff.mpr ?_
  rw [testBit_fldGet, BitVec.testBit_toNat, Bool.and_eq_true, decide_eq_true_eq, getLsbD_storeFields hd hf]
  constructor
  · rintro ⟨hj, y, hy, hcov, hbit⟩
    obtain rfl := eq_of_covers hd hy hx hcov ⟨by omega, by omega⟩
    rwa [Nat.add_sub_cancel] at hbit
  · intro hbit
    have hj := lt_of_testBit_of_lt ((hf x hx).2 _ (fldGet_lt x _)) hbit
    exact ⟨hj, x, hx, ⟨by omega, by omega⟩, by rwa [Nat.add_sub_cancel]⟩

/-- A stored word has no bit outside its fields. -/
theorem getLsbD_storeFields_outside {fs : List Fld} (hd : Ascending fs) (hf : Fits fs) (v : Word) {i : Nat}
    (hi : ∀ x ∈ fs, i < x.lo ∨ x.lo + x.width ≤ i) : (storeFields fs v).getLsbD i = false := by
  refine Bool.eq_false_iff.mpr fun hbit => ?_
  obtain ⟨x, hx, ⟨hlo, hhi⟩, -⟩ := (getLsbD_storeFields hd hf v i).mp hbit
  have := hi x hx
  omega

/-- A value held between two limits, as the rules of the ranges state it (R496). -/
theorem max_min_eq_ite {α : Type} [LinearOrder α] {a b : α} (hab : a ≤ b) (n : α) :
    max a (min b n) = if n < a then a else if b < n then b else n := by
  split
  · next h => rw [min_eq_right (h.le.trans hab), max_eq_left h.le]
  · next h =>
    split
    · next h' => rw [min_eq_left h'.le, max_eq_right hab]
    · next h' => rw [min_eq_right (not_lt.mp h'), max_eq_right (not_lt.mp h)]

/-- Settles O20: the bits of a stored word are those of its fields' stored values, and a range rule holds a value between
its limits. -/
theorem storedFieldsAreHeldToTheirRange : Obligations.StoredFieldsAreHeldToTheirRange := by
  refine ⟨fun fs v hd hf => ⟨fun x hx => get_storeFields hd hf v hx, fun i hi => getLsbD_storeFields_outside hd hf v hi⟩,
    fun _ _ a b n hab => max_min_eq_ite hab n, fun _ _ a b n hab => ?_, fun _ width a b n hab => ?_⟩
  · exact congrArg (fun m => if n = 0 then 0 else m) (max_min_eq_ite hab n)
  · exact congrArg (ofSgn width) (max_min_eq_ite hab (sgnOf width n))

end Sys2Proof.Proofs
end

section
/-! PROOFS. Writes of registers that have no rule but their fields' (R14, R156, R201). -/

namespace Sys2Proof.Proofs

open Sys2Proof Sys2Proof.Machine Sys2Proof.Safety Sys2Proof.Laws

/-- Registers that a host write only stores: PWC_ALARM_W0 and W1 (Table 14-11), DIAG_COMMIT_CFG (Table 13-7), those of MTR from
MTR_CGAIN_VA to MTR_START_I_C (Table 5-2), PQ_CFG and PQ_UDIN (Table 6-4). -/
def StoredOnly (off : Nat) : Prop :=
  off = 0x0824 ∨ off = 0x0828 ∨ off = 0xF200 ∨ (0x1120 ≤ off ∧ off ≤ 0x1238) ∨ off = 0x2800 ∨ off = 0x2804

/-- A write of such a register stores its fields; no other rule of a chapter applies. -/
theorem regWrite_storedOnly {off : Nat} (h : StoredOnly off) {r : RegSpec} (hr : specOf off = some r) (f : Nat) (p : Port) (v : Word)
    (s : State) : regWrite f p off v s = { s with cfg := cfgSet s.cfg off (storeFields r.flds v) } := by
  unfold StoredOnly at h
  have hfs : ¬ within off 0x1100 0x111C = true := by rw [within_iff]; omega
  have hcfg : cfgWrite off r v s = { s with cfg := cfgSet s.cfg off (storeFields r.flds v) } := by
    rw [cfgWrite, if_neg (by omega), if_neg (by omega), if_neg (by omega), if_neg hfs]
    simp (disch := omega) only [if_neg]
  simp (disch := omega) only [regWrite, if_neg, hr, hcfg]

/-- A row that answers OK and apart from what every accepted request may change stores one register: that register holds the
value, every other keeps its own, and the state is otherwise as it was. -/
theorem stores_of_rowDone {s t : State} {w : RegWr} {off : Nat} {v : Word}
    (h : rowDone s t w { s with cfg := cfgSet s.cfg off v }) :
    cfgV t off = v ∧ (∀ o, o ≠ off → cfgV t o = cfgV s o) ∧ rowDone s t w { s with cfg := t.cfg } := by
  have hcfg : t.cfg = cfgSet s.cfg off v := congrArg State.cfg h.2
  have hval : ∀ o, cfgV t o = cfgV { s with cfg := cfgSet s.cfg off v } o := fun o => by rw [cfgV, cfgV, hcfg]
  exact ⟨by rw [hval, cfgV_cfgSet], fun o ho => by rw [hval, cfgV_cfgSet_ne s v ho], by rw [hcfg]; exact h⟩

/-- An accepted one-word write of such a register. -/
theorem hostWord_storedOnly {off : Nat} (h : StoredOnly off) {f : Facet} {w : RegWr} {s : State} {r : RegSpec}
    (ha : accepted s f off w = true) (hr : specOf off = some r) :
    rowDone s (hostWord off w.val w s) w { s with cfg := cfgSet s.cfg off (storeFields r.flds w.val) } := by
  have hplace : inFrameMem off = false ∧ inAreaData off = false ∧ off ≠ 0x0018 := by
    unfold StoredOnly at h
    simp only [inFrameMem, inAreaData, Bool.and_eq_false_iff, decide_eq_false_iff_not]
    omega
  obtain ⟨hfm, har, hreset⟩ := hplace
  have hdone : ∀ u : State, wordDone f w.port off w.val u = { u with cfg := cfgSet u.cfg off (storeFields r.flds w.val) } := fun u => by
    rw [wordDone, hfm, if_neg Bool.false_ne_true, regWrite_storedOnly h hr]
  refine rowDone_accepted f off w.val w s _ ha har (.inl hreset) ?_ ?_
  · rw [hdone]
  · rw [hdone]; rfl

/-- A row that is a one-word write of such a register, accepted. -/
theorem row_storedOnly {c : Instr} {off : Nat} {w : RegWr} (hx : ∀ s, exec c s = .next (hostWord off w.val w s)) (h : StoredOnly off)
    (f : Facet) (r : RegSpec) (s : State) (ha : accepted s f off w = true) (hr : specOf off = some r) :
    ∃ t, exec c s = .next t ∧ cfgV t off = storeFields r.flds w.val ∧ (∀ o, o ≠ off → cfgV t o = cfgV s o) ∧
      rowDone s t w { s with cfg := t.cfg } :=
  ⟨_, hx s, stores_of_rowDone (hostWord_storedOnly h ha hr)⟩

/-- Settles O19: each of these rows is a one-word write of a register that is only stored. -/
theorem plainRegistersStoreTheirFields : Obligations.PlainRegistersStoreTheirFields := by
  refine ⟨fun off w h => row_storedOnly (fun _ => rfl) ?_, fun off w h => row_storedOnly (fun _ => rfl) ?_,
    fun w => row_storedOnly (fun _ => rfl) ?_, fun w => row_storedOnly (fun _ => rfl) ?_⟩
  · rcases h with rfl | rfl | rfl <;> simp [StoredOnly]
  · obtain ⟨hlo, hhi, -⟩ := (within_iff _ _ _).mp h
    exact .inr (.inr (.inr (.inl ⟨hlo, hhi⟩)))
  · simp [StoredOnly]
  · simp [StoredOnly]

end Sys2Proof.Proofs
end

section
/-! PROOFS. The real-time clock, its alarm, and the clock of AON (R415, R417, R418). -/

namespace Sys2Proof.Proofs

open Sys2Proof Sys2Proof.Machine Sys2Proof.Safety Sys2Proof.Laws

/-! ### The registers of the clock -/

/-- A field that fills the word and takes every value stores the written word. -/
theorem storeFields_word (v : Word) : storeFields [fAny 0 32] v = v := by
  apply BitVec.eq_of_toNat_eq
  simpa [storeFields, fAny, Fld.get, w32] using v.isLt

theorem bits_storeFields_half (v : Word) : bits (storeFields [fAny 0 16] v) 15 0 = bits v 15 0 := by
  simp [storeFields, fAny, Fld.get, w32, bits]

theorem wordDone_rtcStage (f : Facet) (p : Port) (v : Word) (s : State) : wordDone f p 0x0818 v s = rtcStage v s := by
  show rtcStage (storeFields [fAny 0 32] v) s = _
  rw [storeFields_word]

theorem wordDone_rtcSet (f : Facet) (p : Port) (v : Word) (s : State) : wordDone f p 0x081C v s = rtcSet v s := by
  show rtcSet (storeFields [fAny 0 16] v) s = _
  rw [rtcSet, rtcSet, bits_storeFields_half]

theorem wordDone_epoch (f : Facet) (p : Port) (v : Word) (s : State) : wordDone f p 0x0820 v s = epochWrite v s := by
  show epochWrite (storeFields [fAny 0 32] v) s = _
  rw [storeFields_word]

theorem aside_rtcStage (v : Word) (s t : State) : aside s (rtcStage v t) = rtcStage v (aside s t) := rfl

theorem aside_rtcSet (v : Word) (s t : State) : aside s (rtcSet v t) = rtcSet v (aside s t) := aside_emit _ s _

theorem aside_epochWrite (v : Word) (s t : State) : aside s (epochWrite v t) = epochWrite v (aside s t) := aside_emit _ s _

/-- RTC_SET with its words written out (Table 14-14). -/
theorem rtcSetEv_eq (s : State) (old new : Nat) (epoch : Word) : rtcSetEv s old new epoch =
    ⟨0x0E05, 0, 1, everyone s, w32 old, w32 new, w32 (old / 2 ^ 32 % 65536 + new / 2 ^ 32 % 65536 * 65536), epoch, false⟩ := by
  simp [rtcSetEv, pack]

/-- PWC_RTC_W0 stages its word (R417). -/
theorem rtcStage_row : rowDoes .rtcStage 0x0818 id always fun _ v s => { s with pwc := { s.pwc with rtcStage := v } } :=
  rowDoes_of (fun _ _ => rfl) rfl (.inl (by decide)) fun f w s _ _ h hh => by
    rw [wordDone_rtcStage, aside_rtcStage, hh, aside_heardWord]
    exact ⟨rfl, rfl⟩

/-- PWC_RTC_W1 sets the count and reports it (R417). -/
theorem rtcSet_row : rowDoes .rtcSet 0x081C id always fun _ v s =>
    emit (rtcSetEv s (rtcNow s) (bits v 15 0 * 2 ^ 32 + s.pwc.rtcStage.toNat) (cfgV s 0x0820))
      { s with pwc := { s.pwc with rtcNext := some (bits v 15 0 * 2 ^ 32 + s.pwc.rtcStage.toNat), rtcValid := true } } :=
  rowDoes_of (fun _ _ => rfl) rfl (.inl (by decide)) fun f w s _ _ h hh => by
    rw [wordDone_rtcSet, aside_rtcSet, hh, aside_heardWord]
    exact ⟨emit_port _ _, rfl⟩

/-- PWC_EPOCH stores the offset and reports it (R417). -/
theorem epoch_row : rowDoes .epochWrite 0x0820 id always fun _ v s =>
    emit (rtcSetEv s (rtcNow s) (rtcNow s) v) { s with cfg := cfgSet s.cfg 0x0820 v, pwc := { s.pwc with rtcValid := true } } :=
  rowDoes_of (fun _ _ => rfl) rfl (.inl (by decide)) fun f w s _ _ h hh => by
    rw [wordDone_epoch, aside_epochWrite, hh, aside_heardWord]
    exact ⟨emit_port _ _, rfl⟩

/-! ### The clock of AON -/

theorem emitAll_setQueues (es : List Ev) (s : State) (fac : Vector FacetSt 5) (sto : Sto) :
    { emitAll es s with fac := fac, sto := sto } = { s with fac := fac, sto := sto } := by
  induction es generalizing s with
  | nil => rfl
  | cons e es ih =>
    refine (ih (emit e s)).trans ?_
    unfold emit
    split <;> rfl

/-- Held in reset or not, an event of the AON clock changes the power manager alike; only its events are not queued in reset
(R406, R415). -/
theorem eventsAside_aonEvent {f : State → State} {s : State} {g : Pwc → Pwc} (es : List Ev) (h : f s = emitAll es (setPwc g s)) :
    eventsAside s (aonEvent f s) = setPwc g s := by
  unfold aonEvent
  split
  · rw [h, emitAll_setQueues]; rfl
  · rw [h, eventsAside_emitAll]; rfl

theorem aonEvent_setPwc {f : State → State} {s : State} {g : Pwc → Pwc} (h : f s = setPwc g s) : aonEvent f s = setPwc g s := by
  unfold aonEvent
  split
  · rw [h]; rfl
  · exact h

theorem aonEvent_idle {f : State → State} {s : State} (h : f s = s) : aonEvent f s = s := aonEvent_setPwc (g := id) h

/-- AON goes to its RC with XTAL32_FAIL, and the crystal is tried again 64 s later (R415). -/
theorem eventsAside_aonFails {f : State → State} {s : State} (st : Nat) (h : f s = aonFails st s) :
    eventsAside s (aonEvent f s) = { s with pwc := { s.pwc with
      aonRc := true, xtalFail := true, xtalRestartAt := some (s.aon + 64 * 32768) } } :=
  eventsAside_aonEvent [aonFaultEv s st] h

theorem xtalTakeover_rc {s : State} (h : s.pwc.aonRc = true) : xtalTakeover s = emitAll (evIf s.pwc.xtalFail (aonFaultEv s 4))
    (setPwc (fun p => { p with aonRc := false, xtalFail := false, xtalRestartAt := none }) s) := by
  simp [xtalTakeover, h]

theorem xtalTakeover_row {s : State} (h : s.pwc.aonRc = true) :
    (s.pwc.xtalFail = false → (aonEvent xtalTakeover s).sto = s.sto) ∧ eventsAside s (aonEvent xtalTakeover s) =
      { s with pwc := { s.pwc with aonRc := false, xtalFail := false, xtalRestartAt := none } } := by
  refine ⟨fun hfail => ?_, eventsAside_aonEvent _ (xtalTakeover_rc h)⟩
  have hquiet : xtalTakeover s = setPwc (fun p => { p with aonRc := false, xtalFail := false, xtalRestartAt := none }) s := by
    rw [xtalTakeover_rc h, hfail]; rfl
  rw [aonEvent_setPwc hquiet, setPwc_sto]

theorem xtalTakeover_idle {s : State} (h : s.pwc.aonRc = false) : xtalTakeover s = s := by simp [xtalTakeover, h]

theorem xtalStop_fails {s : State} (h : s.pwc.aonRc = false) : xtalStop s = aonFails 1 s := by simp [xtalStop, h]

theorem xtalStop_idle {s : State} (h : s.pwc.aonRc = true) : xtalStop s = s := by simp [xtalStop, h]

theorem xtalTimeout_fails {s : State} (hrc : s.pwc.aonRc = true) (hok : s.pwc.xtalFail = false)
    (hpor : nbit s.pwc.resetCause 0 = true) (hdue : s.pwc.startAt + 32768 ≤ s.aon) : xtalTimeout s = aonFails 2 s := by
  simp [xtalTimeout, hrc, hok, hpor, hdue]

theorem xtalTimeout_idle {s : State} (h : s.pwc.aonRc = false ∨ s.pwc.xtalFail = true ∨ nbit s.pwc.resetCause 0 = false ∨
    s.aon < s.pwc.startAt + 32768) : xtalTimeout s = s := by
  rw [xtalTimeout, if_neg]
  rcases h with h | h | h | h
  · simp [h]
  · simp [h]
  · simp [h]
  · simp [Nat.not_le.mpr h]

theorem xtalRestart_due {s : State} {a : Nat} (h : s.pwc.xtalRestartAt = some a) (ha : a ≤ s.aon) :
    xtalRestart s = setPwc (fun p => { p with xtalRestartAt := some (s.aon + 64 * 32768) }) s := by
  simp [xtalRestart, h, ha]

theorem xtalRestart_waits {s : State} {a : Nat} (h : s.pwc.xtalRestartAt = some a) (ha : s.aon < a) : xtalRestart s = s := by
  simp [xtalRestart, h, ha]

theorem xtalRestart_none {s : State} (h : s.pwc.xtalRestartAt = none) : xtalRestart s = s := by simp [xtalRestart, h]

/-! ### The trim of the RC -/

/-- While HFX runs the RC takes the trim. -/
theorem rcTrim_taken (ppm : Int) {s : State} (hrc : s.pwc.aonRc = true) (hx : s.pwc.hfxOk = true) :
    rcTrim ppm s = setPwc (fun p => { p with aonTrim := clamp32 ppm, trimAt := s.aon, dem := { p.dem with trim := false } }) s := by
  simp [rcTrim, hrc, hx]

/-- On battery without HFX a trim that is due becomes a demand. -/
theorem rcTrim_demand (ppm : Int) {s : State} (hrc : s.pwc.aonRc = true) (hx : s.pwc.hfxOk = false) (hv : s.pwc.vmainOk = false)
    (hdue : s.pwc.trimAt + 64 * 32768 ≤ s.aon) :
    rcTrim ppm s = wake (setPwc (fun p => { p with dem := { p.dem with trim := true } }) s) := by
  simp [rcTrim, hrc, hx, hv, Nat.not_lt.mpr hdue]

theorem rcTrim_idle (ppm : Int) {s : State} (h : s.pwc.aonRc = false ∨
    (s.pwc.hfxOk = false ∧ (s.pwc.vmainOk = true ∨ s.aon < s.pwc.trimAt + 64 * 32768))) : rcTrim ppm s = s := by
  rcases h with h | ⟨hx, hnot⟩
  · simp [rcTrim, h]
  · simp [rcTrim, hx, hnot]

theorem needsHfx_trim {s : State} (h : s.pwc.dem.trim = true) : needsHfx s = true := by simp [needsHfx, h]

theorem exec_rcTrim (ppm : Int) {s : State} (hl : live s = true) : exec (.rcTrim ppm) s = .next (react s (rcTrim ppm s)) :=
  congrArg Host.Outcome.next (if_pos hl)

/-- A trim that is taken sets the trim and ends its demand. -/
theorem react_rcTrim_taken (ppm : Int) {s : State} (hrc : s.pwc.aonRc = true) (hx : s.pwc.hfxOk = true) :
    hfxAside s (react s (rcTrim ppm s)) = { s with pwc := { s.pwc with
      aonTrim := clamp32 ppm, trimAt := s.aon, dem := { s.pwc.dem with trim := false } } } := by
  rw [rcTrim_taken ppm hrc hx, hfxAside_react (setPwc_chd _ s)]; rfl

/-- A trim that becomes a demand starts HFX where a structure is applied (R408, R415). -/
theorem react_rcTrim_demand (ppm : Int) {s : State} (hl : live s = true) (hrc : s.pwc.aonRc = true) (hx : s.pwc.hfxOk = false)
    (hv : s.pwc.vmainOk = false) (hdue : s.pwc.trimAt + 64 * 32768 ≤ s.aon) :
    (s.str.isSome = true → (react s (rcTrim ppm s)).pwc.clk.hfx = true) ∧
      hfxAside s (react s (rcTrim ppm s)) = { s with pwc := { s.pwc with dem := { s.pwc.dem with trim := true } } } := by
  have hchd : (rcTrim ppm s).chd = s.chd := by rw [rcTrim_demand ppm hrc hx hv hdue, wake_chd, setPwc_chd]
  refine ⟨fun hstr => react_hfx hchd ?_, ?_⟩
  · rw [rcTrim_demand ppm hrc hx hv hdue]
    exact wake_hfx hl hstr hv (needsHfx_trim rfl)
  · rw [hfxAside_react hchd, rcTrim_demand ppm hrc hx hv hdue, wake_hfxAside]; rfl

theorem react_rcTrim_idle (ppm : Int) {s : State} (h : s.pwc.aonRc = false ∨
    (s.pwc.hfxOk = false ∧ (s.pwc.vmainOk = true ∨ s.aon < s.pwc.trimAt + 64 * 32768))) :
    hfxAside s (react s (rcTrim ppm s)) = s := by
  rw [rcTrim_idle ppm h, hfxAside_react rfl, hfxAside_of_pwc rfl]

/-! ### The alarm -/

theorem exec_rtcAlarm {s : State} (hl : live s = true) : exec .rtcAlarm s = .next (react s (rtcAlarm s)) :=
  congrArg Host.Outcome.next (if_pos hl)

/-- The alarm, its condition written out (R418). -/
theorem rtcAlarm_eq (s : State) : rtcAlarm s =
    if bit (cfgV s 0x0828) 31 = true ∧ rtcNow s = bits (cfgV s 0x0828) 15 0 * 2 ^ 32 + (cfgV s 0x0824).toNat then
      emit ⟨0x0E06, 0, 1, blockAndF0 s 2, w32 (rtcNow s), w32 (rtcNow s / 2 ^ 32), 0, 0, false⟩ s
    else s := by
  simp only [rtcAlarm, Bool.and_eq_true, decide_eq_true_eq]

/-- The alarm changes neither the link nor the power manager, so what follows it may only start HFX. -/
theorem react_rtcAlarm (s : State) : hfxAside s (react s (rtcAlarm s)) = rtcAlarm s := by
  have hkeeps : (rtcAlarm s).chd = s.chd ∧ (rtcAlarm s).pwc = s.pwc := by
    rw [rtcAlarm_eq]
    split
    · exact ⟨emit_chd _ s, emit_pwc _ s⟩
    · exact ⟨rfl, rfl⟩
  rw [hfxAside_react hkeeps.1, hfxAside_of_pwc hkeeps.2]

/-- Settles O35: the three writes on the host path, the events of the AON clock, the trim, and the alarm, each by the equation
of its operation; what follows an event may only start HFX. -/
theorem realTimeClockRows : Obligations.RealTimeClockRows := by
  unfold Obligations.RealTimeClockRows
  simp only [← rtcSetEv_eq]
  refine ⟨rtcStage_row, rtcSet_row, epoch_row, fun s => ?xtal, fun ppm s hl => ?trim, fun s hl => ?alarm⟩
  case xtal =>
    have next {a b : State} (h : a = b) : (.next a : Result) = .next b := congrArg Host.Outcome.next h
    exact ⟨fun h => ⟨_, rfl, xtalTakeover_row h⟩, fun h => next (aonEvent_idle (xtalTakeover_idle h)),
      fun h => ⟨_, rfl, eventsAside_aonFails 1 (xtalStop_fails h)⟩, fun h => next (aonEvent_idle (xtalStop_idle h)),
      fun hrc hok hpor hdue => ⟨_, rfl, eventsAside_aonFails 2 (xtalTimeout_fails hrc hok hpor hdue)⟩,
      fun h => next (aonEvent_idle (xtalTimeout_idle h)), fun a h ha => next (aonEvent_setPwc (xtalRestart_due h ha)),
      fun a h ha => next (aonEvent_idle (xtalRestart_waits h ha)), fun h => next (aonEvent_idle (xtalRestart_none h))⟩
  case trim =>
    exact ⟨fun hrc hx => ⟨_, exec_rcTrim ppm hl, react_rcTrim_taken ppm hrc hx⟩,
      fun hrc hx hv hdue => ⟨_, exec_rcTrim ppm hl, react_rcTrim_demand ppm hl hrc hx hv hdue⟩,
      fun h => ⟨_, exec_rcTrim ppm hl, react_rcTrim_idle ppm h⟩⟩
  case alarm => exact ⟨_, exec_rtcAlarm hl, (react_rtcAlarm s).trans (rtcAlarm_eq s)⟩

end Sys2Proof.Proofs
end

section
/-! PROOFS. What every command keeps: SEALED, programmed keys, the height of the anti-rollback counters, and at most one ACTIVE
bank (R36, R47, R49, R63). -/

namespace Sys2Proof.Proofs

open Sys2Proof Sys2Proof.Machine Sys2Proof.Safety Sys2Proof.Laws

/-- The outcome of a command is a next state that keeps what the loader must keep. -/
abbrev KeepsLoader (s : State) (o : Result) : Prop := ∃ t, o = .next t ∧ LoaderKeeps s t

theorem keepsLoader_next {s t : State} (h : LoaderKeeps s t) : KeepsLoader s (.next t) := ⟨t, rfl, h⟩

/-- An operation that leaves security store, banks and queue alone. -/
theorem keepsLoader_of_part {s t : State} (h : t.loaderPart = s.loaderPart) : KeepsLoader s (.next t) :=
  keepsLoader_next (loaderKeeps_of_eq h)

/-- An event of the hardware whose operation leaves security store, banks and queue alone. -/
theorem keepsLoader_event {c : Bool} {f : State → State} {s : State} (h : (f s).loaderPart = s.loaderPart) :
    KeepsLoader s (.next (event c f s)) :=
  keepsLoader_next (event_keeps c f s (loaderKeeps_of_eq h))

theorem keepsLoader_frame (cmd : Nat) (fr : Frame) (s : State) : KeepsLoader s (.next (hostFrame cmd fr s)) :=
  keepsLoader_next (hostFrame_keeps cmd fr s)

theorem keepsLoader_word (off : Nat) (v : Word) (w : RegWr) (s : State) : KeepsLoader s (.next (hostWord off v w s)) :=
  keepsLoader_next (hostWord_keeps off v w s)

@[simp] theorem pairWake_loaderPart (p : Nat) (b s : State) : (pairWake p b s).loaderPart = s.loaderPart := by
  unfold pairWake
  split <;> simp

theorem gaugeEvent_keeps (f : State → State) (s : State) (h : ∀ a, (f a).loaderPart = a.loaderPart) :
    LoaderKeeps s (gaugeEvent (gaugeStep f) s) := by
  refine event_keeps _ _ s (loaderKeeps_of_eq ?_)
  dsimp only
  split <;> simp [gaugeStep_loaderPart f h]

theorem aonEvent_keeps {f : State → State} {s : State} (h : (f s).loaderPart = s.loaderPart) : LoaderKeeps s (aonEvent f s) := by
  refine loaderKeeps_of_eq ?_
  unfold aonEvent
  split
  · exact h
  · exact h

/-- Every command answers a next state that keeps the security store, the one ACTIVE bank and the queue. -/
theorem exec_keepsLoader (c : Instr) (s : State) : KeepsLoader s (exec c s) := by
  cases c with
  | write f | read f | readCoherent f | status f | imageChunk f | eventPop f | frameMemoryWrite f => exact keepsLoader_frame _ f s
  | imgBegin w | verify w | imgAbort w | activate w | facetReset w | clrCounters w | fctWdtWrite w | iopBrightReqWrite w
  | iopPumpReqWrite w | iopSafeAck w | mtrRestart w | pqClrCounters w | pqThrWrite w | zero w | learn w | flwRestart w | flwAbort w
  | swap w | chdRestart w | chdCycleWrite w | query w | ack w | ident w | newCell w | batRestart w | glance w | dspRestart w
  | dspClrCounters w | dspRailWrite w | clear w | nvuSelWrite w | evtLogSelect w | reset w | shelf w | rtcStage w | rtcSet w
  | epochWrite w | dspCfgWrite w => exact keepsLoader_word _ _ w s
  | registerWrite x w | iopGpReqWrite x w | mtrCalWrite x w | pqCfgWrite x w | flwConfigWrite x w | flwRefcrcWrite x w
  | batConfigWrite x w | dspGreyWrite x w | dspTileWrite x w | safWrite x w => exact keepsLoader_word _ _ w s
  | cfCfgWrite n x w | sdiSlotConfigWrite n x w => exact keepsLoader_word _ _ w s
  | fetch p mode3 => exact keepsLoader_of_part (by simp)
  | frameWaitStart p => exact keepsLoader_next (frameWaitStart_keeps p s)
  | replyTaken p => exact keepsLoader_of_part (by simp)
  | spiCsRise p inRequest => exact keepsLoader_of_part (by simp)
  | uartBreak busy => exact keepsLoader_of_part (by simp)
  | uartGapAbandon | i2cStopAbandon => exact keepsLoader_of_part (by simp)
  | verificationComplete => exact keepsLoader_next (event_keeps _ _ s (verificationComplete_keeps s))
  | keySlotsProgrammed failed => exact keepsLoader_next (event_keeps _ _ s (keySlots_keeps _ s))
  | structureApply =>
    exact keepsLoader_next (event_keeps _ _ s ((structureApply_keeps s).trans (loaderKeeps_of_eq (resetCommit_loaderPart _))))
  | portWatchdogExpiry p => exact keepsLoader_next (event_keeps _ _ s (watchdogExpiry_keeps _ s))
  | commitClosed rb => exact keepsLoader_next (event_keeps _ _ s (commitEnds_keeps _ s))
  | keyPress => exact keepsLoader_next (keyPressed_keeps s)
  | gaugeFrame i => exact keepsLoader_next (gaugeEvent_keeps (gaugeFrame i) s fun _ => by simp)
  | gaugeIntervalSample i => exact keepsLoader_next (gaugeEvent_keeps (gaugeSample i) s fun _ => by simp)
  | nrst => exact keepsLoader_next ((nrst_keeps s).trans (loaderKeeps_of_eq (demandWake_loaderPart _)))
  | safWdt => exact keepsLoader_next (event_keeps _ _ s (safWatchdog_keeps s))
  | startSequence i => exact keepsLoader_next (startSequence_keeps i s)
  | startCandidateVerified => exact keepsLoader_next (candidateVerified_keeps s)
  | clockMonitorCheck i =>
    refine keepsLoader_of_part ?_
    split <;> simp
  | hfxFail cause =>
    refine keepsLoader_of_part ?_
    split <;> simp
  | xtal32Takeover => exact keepsLoader_next (aonEvent_keeps (xtalTakeover_loaderPart s))
  | xtal32Timeout => exact keepsLoader_next (aonEvent_keeps (xtalTimeout_loaderPart s))
  | xtal32Stop => exact keepsLoader_next (aonEvent_keeps (xtalStop_loaderPart s))
  | xtal32Restart => exact keepsLoader_next (aonEvent_keeps (xtalRestart_loaderPart s))
  | vmainLost | vmainQualified | por | pfRestart | deviceReset | shelfAutoEntry | vioLost | vioRestored =>
    exact keepsLoader_of_part (by simp)
  | tripfbChange level => exact keepsLoader_of_part (by simp)
  | powerFail i => exact keepsLoader_of_part (by simp)
  | finalCommitClosed e => exact keepsLoader_of_part (by simp)
  | shotEvaluated p up x => exact keepsLoader_event (inRound_loaderPart _ (fun _ => by simp) s)
  | pairOutcome p => exact keepsLoader_event (inRound_loaderPart _ (fun _ => by simp) s)
  | linkFrameReceived i => exact keepsLoader_event (inRound_loaderPart _ (fun _ => by simp) s)
  | bankPairOutcome => exact keepsLoader_event (inRound_loaderPart _ (fun _ => by simp) s)
  | linkFrameMissing typ =>
    refine keepsLoader_event ?_
    split
    · exact inRound_loaderPart _ (fun _ => by simp) s
    · simp
  | calibrationTimeout | userAreaClearDone | userAreaWriteDone | rtcAlarm | freq10sInterval | captureClose | linkArriveSend
  | roleSwapRevert | sdiTransactionStart | sdpPowerSettled | quietComparatorTrip | gaugeConversionTimeout | glanceExpiry
  | displayDischarged | frameStart | emsPeriodStart | railStopStep | legalItemDwellEnd | legalTileRender | watcherPilotWindow
  | watcherCrosscheckWindow | wdtTokenTimeout | safeCauseTimer | contactor | commitBatMaxTimer | hfxQualified | pllLock | hfxRetry
  | tripOutputEdge | chdHoldExpiry | linkCycleWake => exact keepsLoader_event (by simp)
  | frameMemoryWordLand x | sectorStart x | sectorOverrun x | roundClose x | unitFaultReturn x | pilotUpdate x | refCompare x
  | pairAttempt x | upShotDue x | shotFire x | linkCycleStart x | linkReplySend x | bankShot x | slotDue x | sdiResponse x
  | sdiResponseTimeout x | sdiServiceRequest x | sdiDataPhaseDue x | railGood x | tileCrcCheck x | fastSample x | fastSequenceStall x
  | watcherComparatorTest x | imageScanPass x | tripReadback x | demandEnd x | rcTrim x => exact keepsLoader_event (by simp)
  | cfPulseEvent x y | cfPulseBacklogStart x y | cfPulseEnd x y | railFault x y | sdiValueStale x y => exact keepsLoader_event (by simp)

/-- Settles O6: SEALED is part of what every command keeps of the security store. -/
theorem sealedIsFinal : Obligations.SealedIsFinal := fun c s h =>
  (exec_keepsLoader c s).imp fun _ ⟨ht, hk⟩ => ⟨ht, hk.sec.1 h⟩

/-- Settles O7: a programmed slot is part of what every command keeps of the security store. -/
theorem programmedKeysNeverChange : Obligations.ProgrammedKeysNeverChange := fun c s k key h =>
  (exec_keepsLoader c s).imp fun _ ⟨ht, hk⟩ => ⟨ht, hk.sec.2.1 k key h⟩

/-- Settles O8: no command lowers a counter of the security store. -/
theorem countersNeverDecrease : Obligations.CountersNeverDecrease := fun c s i =>
  (exec_keepsLoader c s).imp fun _ ⟨ht, hk⟩ => ⟨ht, hk.sec.2.2 i⟩

/-- Settles O9: a tick leaves the banks alone, and no command makes a second bank ACTIVE. -/
theorem atMostOneBankActive : Obligations.AtMostOneBankActive := by
  intro s t h hstep
  cases hp : s.pending with
  | nil =>
    obtain rfl : idle s = t := by simpa [step, hp] using hstep
    exact h
  | cons c rest =>
    obtain ⟨u, hu, hk⟩ := exec_keepsLoader c { s with pending := rest }
    obtain rfl : u = t := by simpa [step, hp, hu] using hstep
    exact hk.one h

end Sys2Proof.Proofs
end

section
/-! PROOFS. IMAGE-CHUNK: the words of a chunk in the loading bank, the marks of what was received, and its refusals (R51, R53,
R441). -/

namespace Sys2Proof.Proofs

open Sys2Proof Sys2Proof.Machine Sys2Proof.Safety Sys2Proof.Laws

/-! ### Words in a memory -/

/-- Each of the words just written reads back at its place. -/
theorem memWord_memPutWords (ws : List Word) {m : List Host.Cell} (h : memWf m = true) (a k : Nat) (hk : k < ws.length) :
    memWord (memPutWords m a ws) (a + 4 * k) = ws.getD k 0 := by
  induction ws generalizing m a k with
  | nil => simp at hk
  | cons w ws ih =>
    cases k with
    | zero =>
      have hrest : memWord (memPutWords (memPutWord m a w) (a + 4) ws) a = memWord (memPutWord m a w) a := by
        simp (disch := omega) only [memWord, memGet_memPutWords_ne]
      exact hrest.trans (memWord_memPutWord h a w)
    | succ k =>
      have := ih (memPutWord_wf h a w) (a + 4) k (by simpa using hk)
      rwa [show a + 4 * (k + 1) = a + 4 + 4 * k by omega, memPutWords]

/-- A chunk marks its own words as received, besides those marked before. -/
theorem getLsbD_markReceived (m : BitVec 6144) (a n k : Nat) (hk : k < 6144) :
    (markReceived m a n).getLsbD k = (m.getLsbD k || decide (a ≤ k ∧ k < a + n)) := by
  simp only [markReceived, BitVec.getLsbD_or, BitVec.getLsbD_shiftLeft, BitVec.getLsbD_ofNat, Nat.testBit_two_pow_sub_one, hk,
    decide_true, Bool.true_and]
  congr 1
  rw [Bool.eq_iff_iff]
  simp
  omega

/-! ### The loading bank -/

theorem sessionBank_lt (s : State) : sessionBank s < 2 := by
  unfold sessionBank
  split <;> omega

/-- The loading bank stays the loading bank under a change that does not make it ACTIVE. -/
theorem sessionBank_of_banks {s t : State} {f : Bank → Bank} (ht : t.img.banks = vmod s.img.banks (sessionBank s) f)
    (hf : ∀ b, (f b).state = .active → b.state = .active) : sessionBank t = sessionBank s := by
  have hstate : bankState t 0 = .active ↔ bankState s 0 = .active := by
    by_cases h : bankState s 0 = .active
    · have hne : 0 ≠ sessionBank s := by simp [sessionBank, h]
      rw [bankState, ht, vget_vmod_ne _ _ _ _ _ hne, bankState]
    · have hse : sessionBank s = 0 := by simp [sessionBank, h]
      refine iff_of_false (fun ha => h (hf _ ?_)) h
      rwa [bankState, ht, hse, vget_vmod _ _ _ _ (by omega)] at ha
  simp only [sessionBank, hstate]

theorem loadingBank_of_banks {s t : State} {f : Bank → Bank} (ht : t.img.banks = vmod s.img.banks (sessionBank s) f)
    (hf : ∀ b, (f b).state = .active → b.state = .active) : loadingBank t = f (loadingBank s) := by
  rw [loadingBank, sessionBank_of_banks ht hf, ht, vget_vmod _ _ _ _ (sessionBank_lt s)]
  rfl

/-! ### A chunk by the loader's state -/

/-- The loader after a chunk of words from word offset a. -/
def chunkImg (a : Nat) (ws : List Word) (s : State) : Img :=
  { s.img with
    received := markReceived s.img.received a ws.length
    banks := vmod s.img.banks (sessionBank s) fun b => { b with mem := memPutWords b.mem (4 * a) ws } }

theorem imageChunk_receiving {p : Port} {a : Nat} {ws : List Word} {s : State} (hl : s.img.loader = .receiving)
    (hp : p = s.img.sessionPort) (ha : a + ws.length ≤ 6144) : imageChunk p a ws s = ({ s with img := chunkImg a ws s }, stOk) := by
  have hin : ¬ 6144 < a + ws.length := Nat.not_lt.mpr ha
  simp [imageChunk, hl, hp, hin, setBank, setImg, chunkImg]

theorem imageChunk_unmapped {p : Port} {a : Nat} {ws : List Word} {s : State} (hp : s.img.loader = .idle ∨ p = s.img.sessionPort)
    (hv : s.img.loader ≠ .verifying) (hw : s.img.loader ≠ .switchPending) (hr : s.img.loader ≠ .receiving ∨ 6144 < a + ws.length) :
    imageChunk p a ws s = (s, stUnmapped) := by
  have hmine : ¬ (s.img.loader ≠ .idle ∧ p ≠ s.img.sessionPort) := by tauto
  rw [imageChunk, if_neg hmine, if_neg (by tauto), if_pos hr]

theorem imageChunk_busy {p : Port} {a : Nat} {ws : List Word} {s : State}
    (h : (s.img.loader ≠ .idle ∧ p ≠ s.img.sessionPort) ∨ s.img.loader = .verifying ∨ s.img.loader = .switchPending) :
    imageChunk p a ws s = (s, stBusy) := by
  rw [imageChunk]
  split
  · rfl
  · next hmine => rw [if_pos (h.resolve_left hmine)]

/-- A chunk of F0 that can execute is answered as the loader says. -/
theorem execFrame_chunk {fr : Frame} {s : State} (h : ready cmdChunk 0 fr s) {r : State × Nat}
    (hr : imageChunk fr.port fr.addr.toNat fr.data (heard fr s) = r) :
    execFrame cmdChunk 0 fr.port fr (portWord s fr.port.val) (heard fr s) = .reply r.1 (mkReply r.2 cmdChunk []) := by
  show execChunk 0 fr.port fr (heard fr s) = _
  rw [execChunk, if_neg (by simp), heard_cyc h, if_neg Bool.false_ne_true, hr]

/-- A chunk that does not reach the bank is answered with a status, and nothing else happens. -/
theorem frameDone_chunk_refused {fr : Frame} {s : State} {st : Nat} (h : ready cmdChunk 0 fr s)
    (hr : imageChunk fr.port fr.addr.toNat fr.data (heard fr s) = (heard fr s, st)) :
    ∃ t, exec (.imageChunk fr) s = .next t ∧ frameDone s t fr (mkReply st cmdChunk []) s :=
  ⟨_, rfl, frameDone_of (heard fr s) h (execFrame_chunk h hr) rfl (aside_heard fr s)⟩

/-- A chunk that reaches the bank. -/
theorem frameDone_chunk_received {fr : Frame} {s : State} (h : ready cmdChunk 0 fr s) (hl : s.img.loader = .receiving)
    (hp : fr.port = s.img.sessionPort) (ha : fr.addr.toNat + fr.data.length ≤ 6144) :
    frameDone s (hostFrame cmdChunk fr s) fr (mkReply stOk cmdChunk []) { s with img := chunkImg fr.addr.toNat fr.data s } := by
  have hr : imageChunk fr.port fr.addr.toNat fr.data (heard fr s) =
      ({ heard fr s with img := chunkImg fr.addr.toNat fr.data s }, stOk) := imageChunk_receiving hl hp ha
  exact frameDone_of _ h (execFrame_chunk h hr) rfl rfl

/-! ### A chunk of another facet -/

/-- Denied words count in their facet and may raise events for that facet; nothing else changes. -/
structure CountsDenied (f n : Nat) (s t : State) : Prop where
  port : t.port = s.port
  denied : (facet t f).deniedWr = Nat.repeat satInc n (facet s f).deniedWr
  others : ∀ g, g ≠ f → facet t g = facet s g
  rest : eventsAside s t = s

theorem eventsAside_trans {s t u : State} (h : eventsAside s t = s) (g : eventsAside t u = t) : eventsAside s u = s := by
  have hset : eventsAside s (eventsAside t u) = eventsAside s u := rfl
  rw [← hset, g, h]

theorem emitAll_port (es : List Ev) (s : State) : (emitAll es s).port = s.port := by
  induction es generalizing s with
  | nil => rfl
  | cons e es ih => exact (ih (emit e s)).trans (emit_port e s)

theorem facet_setFacet (f : Nat) (g : FacetSt → FacetSt) (s : State) (hf : f < 5) : facet (setFacet f g s) f = g (facet s f) :=
  vget_vmod s.fac f g FacetSt.zero hf

theorem facet_setFacet_ne (f k : Nat) (g : FacetSt → FacetSt) (s : State) (h : k ≠ f) : facet (setFacet f g s) k = facet s k :=
  vget_vmod_ne s.fac f k g FacetSt.zero h

/-- An event leaves the counter of denied writes alone. -/
theorem deniedWr_emitAll (es : List Ev) (s : State) (f : Nat) : (facet (emitAll es s) f).deniedWr = (facet s f).deniedWr :=
  have hquiet : (quietFacet (facet (emitAll es s) f)).deniedWr = (quietFacet (facet s f)).deniedWr := by rw [facet_emitAll]
  hquiet

theorem mem_evIf {c : Bool} {e x : Ev} (h : x ∈ evIf c e) : x = e := by
  cases c with
  | true => exact List.mem_singleton.mp h
  | false => cases h

/-- One denied word of a write. -/
theorem countsDenied_countDenied (f p off : Nat) (s : State) (hf : f < 5) : CountsDenied f 1 s (countDenied f p off true s) where
  port := emitAll_port _ _
  denied := by
    rw [countDenied, deniedWr_emitAll, facet_setFacet _ _ _ hf]
    rfl
  others g hg := by
    have hother : ∀ {c : Bool} {e x : Ev}, e.who = 2 ^ f → x ∈ evIf c e → nbit x.who g = false := fun he hx => by
      rw [mem_evIf hx, he]
      exact Nat.testBit_two_pow_of_ne hg.symm
    rw [countDenied, facet_emitAll_other _ _ _ fun x hx => hother rfl hx, facet_setFacet_ne _ _ _ _ hg]
  rest := eventsAside_emitAll _ _ _

/-- Every word of the chunk counts. -/
theorem countsDenied_words (f p : Nat) (off : Nat → Nat) (n : Nat) (s : State) (hf : f < 5) :
    CountsDenied f n s ((List.range n).foldl (fun a k => countDenied f p (off k) true a) s) := by
  induction n with
  | zero => exact ⟨rfl, rfl, fun _ _ => rfl, rfl⟩
  | succ n ih =>
    rw [List.range_succ, List.foldl_append]
    have hone := countsDenied_countDenied f p (off n) ((List.range n).foldl (fun a k => countDenied f p (off k) true a) s) hf
    exact ⟨hone.port.trans ih.port, hone.denied.trans (congrArg satInc ih.denied),
      fun g hg => (hone.others g hg).trans (ih.others g hg), eventsAside_trans ih.rest hone.rest⟩

theorem fac_of_aside {s t u : State} (h : aside s t = aside s u) : t.fac = u.fac := by
  have hfac : (aside s t).fac = (aside s u).fac := by rw [h]
  exact hfac

/-- A chunk of another facet is answered Denied, and its words count. -/
theorem chunk_denied {f : Facet} {fr : Frame} {s : State} (hf : f ≠ 0) (h : ready cmdChunk f fr s) :
    ∃ t, exec (.imageChunk fr) s = .next t ∧ answered s t fr.port fr.mode3 (mkReply stDenied cmdChunk []) ∧
      (facet t f.val).deniedWr = Nat.repeat satInc fr.count.toNat (facet s f.val).deniedWr ∧
      (∀ g, g ≠ f.val → facet t g = facet s g) ∧ eventsAside s (aside s t) = s := by
  have hcount := countsDenied_words f.val fr.port.val (fr.addr.toNat + ·) fr.count.toNat (heard fr s) f.isLt
  generalize hu : (List.range fr.count.toNat).foldl (fun a k => countDenied f.val fr.port.val (fr.addr.toNat + k) true a)
    (heard fr s) = u at hcount
  have he : execFrame cmdChunk f fr.port fr (portWord s fr.port.val) (heard fr s) = .reply u (mkReply stDenied cmdChunk []) := by
    show execChunk f fr.port fr (heard fr s) = _
    rw [execChunk, if_pos hf, hu]
  obtain ⟨hans, haside⟩ := frameDone_of u h he hcount.port rfl
  have hfac : ∀ g, facet (hostFrame cmdChunk fr s) g = facet u g := fun g => by
    rw [facet, fac_of_aside haside, facet]
  refine ⟨_, rfl, hans, ?_, fun g hg => ?_, ?_⟩
  · rw [hfac, hcount.denied]; rfl
  · rw [hfac, hcount.others g hg]; rfl
  · rw [haside]
    exact congrArg (aside s) hcount.rest

/-- Settles O15: a received chunk is written and marked, a chunk out of place is refused, and one of another facet is denied. -/
theorem imageChunksFillTheBank : Obligations.ImageChunksFillTheBank := by
  refine ⟨fun fr s h hl hp ha hwf => ?_, fun fr s h hp hv hw hr => frameDone_chunk_refused h (imageChunk_unmapped hp hv hw hr),
    fun fr s h hb => frameDone_chunk_refused h (imageChunk_busy hb), fun f fr s hf h => chunk_denied hf h⟩
  have hdone := frameDone_chunk_received h hl hp ha
  have himg : (hostFrame cmdChunk fr s).img = chunkImg fr.addr.toNat fr.data s := congrArg State.img hdone.2
  have hbank : loadingBank (hostFrame cmdChunk fr s) =
      { loadingBank s with mem := memPutWords (loadingBank s).mem (4 * fr.addr.toNat) fr.data } :=
    loadingBank_of_banks (f := fun b => { b with mem := memPutWords b.mem (4 * fr.addr.toNat) fr.data })
      (congrArg Img.banks himg) fun _ hb => hb
  have hrec : (hostFrame cmdChunk fr s).img.received = markReceived s.img.received fr.addr.toNat fr.data.length :=
    congrArg Img.received himg
  refine ⟨_, rfl, fun k hk => ?_, fun a ha' => ?_, fun k hk => ?_, ?_⟩
  · rw [hbank, Nat.mul_add]
    exact memWord_memPutWords _ hwf _ _ hk
  · rw [hbank]
    exact memGet_memPutWords_ne _ _ _ _ (by omega)
  · rw [hrec, getLsbD_markReceived _ _ _ _ hk]
  · have hput : vmod s.img.banks (sessionBank s) (fun b => { b with mem := memPutWords b.mem (4 * fr.addr.toNat) fr.data }) =
        vmod s.img.banks (sessionBank s) fun b => { b with mem := memPutWords (loadingBank s).mem (4 * fr.addr.toNat) fr.data } :=
      (vmod_own s.img.banks (sessionBank s)
        (fun a b => { b with mem := memPutWords a.mem (4 * fr.addr.toNat) fr.data }) Bank.empty).symm
    rw [hrec, hbank]
    refine ⟨hdone.1, hdone.2.trans ?_⟩
    rw [chunkImg, hput]

end Sys2Proof.Proofs
end

section
/-! PROOFS. The commands of the image loader: what an accepted write of IMG_CTRL does, and where it is Busy (R51, R52, R54, R55,
R57, Tables 1-17 and 1-20). -/

namespace Sys2Proof.Proofs

open Sys2Proof Sys2Proof.Machine Sys2Proof.Safety Sys2Proof.Laws

/-! ### Words of a command -/

theorem bit_eq_bits (v : Word) (i : Nat) : bit v i = decide (bits v i i = 1) := by
  rw [bit, bits, ← BitVec.testBit_toNat, Nat.testBit_eq_decide_div_mod_eq, Nat.add_sub_cancel_left, Nat.pow_one]

/-- A command code leaves every bit above it. -/
theorem bit_withCmd (v : Word) (c i : Nat) (h : c < 256) (hi : 8 ≤ i) : bit (withCmd v c) i = bit v i := by
  rw [bit_eq_bits, bit_eq_bits, bits_withCmd v c i i h hi]

/-! ### IMG_CTRL by its command -/

section
variable {p : Port} {v : Word} {s : State}

theorem imgCtrl_begin (hc : bits v 7 0 = 1) (h : (imgCtrl p v s).2 ≠ stBusy) : (imgCtrl p v s).1 = begin_ p s := by
  simp only [imgCtrl, hc, reduceIte] at h ⊢
  split at h
  · exact absurd rfl h
  · split at h
    · exact absurd rfl h
    · next hmine hfree => rw [if_neg hmine, if_neg hfree]

theorem imgCtrl_verify (hc : bits v 7 0 = 2) (h : (imgCtrl p v s).2 ≠ stBusy) : s.img.loader = .receiving ∧
    (imgCtrl p v s).1 = setImg (fun m => { m with loader := .verifying, hold := bit v 8 }) s := by
  simp only [imgCtrl, hc, reduceIte, Nat.reduceEqDiff] at h ⊢
  split at h
  · exact absurd rfl h
  · split at h
    · next hmine hrec => rw [if_neg hmine, if_pos hrec]; exact ⟨hrec, rfl⟩
    · exact absurd rfl h

theorem imgCtrl_abort (hc : bits v 7 0 = 3) (h : (imgCtrl p v s).2 ≠ stBusy) :
    (imgCtrl p v s).1 = if s.img.loader = .idle then s else dropSession s := by
  simp only [imgCtrl, hc, reduceIte, Nat.reduceEqDiff] at h ⊢
  split at h
  · exact absurd rfl h
  · next hmine =>
    rw [if_neg hmine]
    split
    · rfl
    · next hidle =>
      rw [if_neg hidle] at h
      split at h
      · next hstep => rw [if_pos hstep]
      · exact absurd rfl h

theorem imgCtrl_activate (hc : bits v 7 0 = 4) (h : (imgCtrl p v s).2 ≠ stBusy) : (imgCtrl p v s).1 = startSwitch s := by
  simp only [imgCtrl, hc, reduceIte, Nat.reduceEqDiff] at h ⊢
  split at h
  · exact absurd rfl h
  · split at h
    · next hmine hwait => rw [if_neg hmine, if_pos hwait]
    · exact absurd rfl h

/-- Where Table 1-20 does not allow a command, IMG_CTRL is Busy. -/
theorem imgCtrl_busy (h : (s.img.loader ≠ .idle ∧ p ≠ s.img.sessionPort) ∨
      (bits v 7 0 = 1 ∧ (s.img.loader = .verifying ∨ s.img.loader = .switchPending)) ∨
      (bits v 7 0 = 2 ∧ s.img.loader ≠ .receiving) ∨ (bits v 7 0 = 3 ∧ s.img.loader ≠ .idle ∧ s.img.step ≠ .none) ∨
      (bits v 7 0 = 4 ∧ (s.img.loader ≠ .switchPending ∨ s.img.step ≠ .none))) : (imgCtrl p v s).2 = stBusy := by
  rw [imgCtrl]
  split
  · rfl
  · next hmine =>
    rcases h.resolve_left hmine with ⟨hc, hl⟩ | ⟨hc, hl⟩ | ⟨hc, hl, hs⟩ | ⟨hc, hl⟩
    · rw [if_pos hc, if_pos hl]
    · rw [if_neg (by omega), if_pos hc, if_neg hl]
    · rw [if_neg (by omega), if_neg (by omega), if_pos hc, if_neg hl, if_neg hs]
    · rw [if_neg (by omega), if_neg (by omega), if_neg (by omega), if_pos hc, if_neg (by tauto)]

end

/-! ### An accepted command -/

theorem accepted_imgCtrl {f : Facet} {w : RegWr} {s : State} {v : Word} (h : accepted s f 0x0404 { w with val := v } = true) :
    (imgCtrl w.port v s).2 ≠ stBusy := by
  simp only [accepted, Bool.and_eq_true, Bool.not_eq_true'] at h
  have hb : wordBusy s f.val w.port 0x0404 v = false := h.1.1.2
  simpa [wordBusy] using hb

/-- An accepted write of IMG_CTRL does what `g` does, where the command does so on the state that has heard it. -/
theorem rowDone_imgCtrl {f : Facet} {w : RegWr} {s : State} {v : Word} {g : State → State}
    (h : accepted s f 0x0404 { w with val := v } = true) (hp : ∀ a, (g a).port = a.port) (ha : ∀ a, aside s (g a) = g (aside s a))
    (hg : ∀ a, a = heardWord f 0x0404 { w with val := v } s → (imgCtrl w.port v a).2 ≠ stBusy → (imgCtrl w.port v a).1 = g a) :
    rowDone s (hostWord 0x0404 v w s) w (g s) := by
  have hfree : (imgCtrl w.port v (heardWord f 0x0404 { w with val := v } s)).2 ≠ stBusy := by
    rw [heardWord, imgCtrl_heard]
    exact accepted_imgCtrl h
  have hdone : wordDone f w.port 0x0404 v (heardWord f 0x0404 { w with val := v } s) = g (heardWord f 0x0404 { w with val := v } s) :=
    hg _ rfl hfree
  exact rowDone_accepted f 0x0404 v w s _ h rfl (.inl (by decide)) (by rw [hdone, hp]) (by rw [hdone, ha, aside_heardWord])

/-! ### The switch commit -/

theorem getLast_queueCommit (k : CommitKind) (s : State) : (queueCommit k s).sto.cqueue.getLast?.map Queued.kind = some k := by
  simp only [queueCommit, List.getLast?_concat, Option.map_some]
  split
  · rfl
  · rfl

/-- The switch has started: the HELD mark is cleared, and the queue of commits is `q` (Table 1-11). -/
def switchStarted (q : List Queued) (s : State) : State :=
  { s with
    img := { s.img with
      loader := .switchPending, hold := false, step := .commit
      banks := vmod s.img.banks (sessionBank s) fun b => { b with held := false } }
    sto := { s.sto with cqueue := q, lastQueued := some s.aon, maxS := 0, maxPipe := 0, maxChan := 0 }
    whl := { s.whl with commitMerged := if 2 ≤ s.sto.cqueue.length then satInc s.whl.commitMerged else s.whl.commitMerged } }

/-- A SWITCH commit leaves a deferred commit due, its kind code being above those of deferred commits (R382). -/
theorem startSwitch_eq (s : State) : startSwitch s = switchStarted (startSwitch s).sto.cqueue s := by
  simp only [startSwitch, queueCommit, decide_eq_true_eq]
  rfl

theorem sto_of_aside {s t u : State} (h : aside s t = u) : t.sto = u.sto := by
  have hsto : (aside s t).sto = u.sto := by rw [h]
  exact hsto

/-- An accepted ACTIVATE starts the switch, its SWITCH commit the last of the queue. -/
theorem rowDone_activate {f : Facet} {w : RegWr} {s : State} {v : Word} (h : accepted s f 0x0404 { w with val := v } = true)
    (hc : bits v 7 0 = 4) :
    ∃ q, q.getLast?.map Queued.kind = some .switch ∧ rowDone s (hostWord 0x0404 v w s) w (switchStarted q s) :=
  ⟨(startSwitch (heardWord f 0x0404 { w with val := v } s)).sto.cqueue, getLast_queueCommit _ _,
    rowDone_imgCtrl h (fun _ => rfl) (fun _ => rfl) fun a hi ha => by
      rw [← hi, ← startSwitch_eq]
      exact imgCtrl_activate hc ha⟩

/-! ### A command that is Busy -/

/-- The registers of IMG are F0's to write. -/
theorem writeOut_imgCtrl (s : State) (v : Word) : writeOut s 0 (0x0404, v) = .ok := by
  have hout : outcomeOf s 0 0x0404 true = .ok := by
    have hblock : blockOf 0x0404 = some 1 := by decide
    have hreg : hasReg 0x0404 = true := by decide
    simp [outcomeOf, hblock, hreg, wordHold, ownsBlock]
  simp [writeOut, hout, valueDenied]

theorem wordLocked_imgCtrl (s : State) (v : Word) : wordLocked s 0x0404 v = false := by
  have hspec : specOf 0x0404 = none := by decide
  simp [wordLocked, requestLocked, hspec, within]

/-- A one-word WRITE of a word that is neither denied nor locked, to a command register that is Busy. -/
theorem execWriteFrame_busy {f : Facet} {p : Port} {off : Nat} {v : Word} {fr : Frame} {s : State}
    (hx : (frameOffs fr.addr.toNat fr.count.toNat).zip fr.data = [(off, v)]) (ho : writeOut s f.val (off, v) = .ok)
    (hl : wordLocked s off v = false) (hb : wordBusy s f.val p off v = true) :
    execWriteFrame f p fr s = .reply s (mkReply stBusy cmdWrite []) := by
  have hst : wordsStatus [WordOut.ok] = none := by decide
  simp [execWriteFrame, hx, ho, hl, hb, hst]

theorem frameDone_imgCtrl_busy {w : RegWr} {s : State} {v : Word} (h : ready cmdWrite 0 (rowFrame s 0x0404 v w) s)
    (hb : (imgCtrl w.port v s).2 = stBusy) :
    frameDone s (hostWord 0x0404 v w s) (rowFrame s 0x0404 v w) (mkReply stBusy cmdWrite []) s := by
  have hx : (frameOffs (rowFrame s 0x0404 v w).addr.toNat (rowFrame s 0x0404 v w).count.toNat).zip (rowFrame s 0x0404 v w).data =
      [(0x0404, v)] := by
    rw [rowFrame, addr_wordFrame _ _ _ _ (by decide)]
    simp [wordFrame, frameOffs]
  have hbusy : wordBusy (heard (rowFrame s 0x0404 v w) s) 0 w.port 0x0404 v = true := by
    have hi : (imgCtrl w.port v (heard (rowFrame s 0x0404 v w) s)).2 = stBusy := (imgCtrl_heard _ _ s w.port v).trans hb
    simp [wordBusy, hi]
  exact frameDone_of _ h (execWriteFrame_busy hx (writeOut_imgCtrl _ v) (wordLocked_imgCtrl _ v) hbusy) rfl (aside_heard _ s)

/-! ### The rows -/

/-- Settles O39: each command by what IMG_CTRL does where it is not Busy, and the Busy ones by Table 1-20. -/
theorem loaderCommands : Obligations.LoaderCommands := by
  have code : ∀ (w : RegWr) (c : Nat), c < 256 → bits (withCmd w.val c) 7 0 = c := fun w c hc => bits_withCmd_code w.val c hc
  refine ⟨fun f w s h => ⟨_, rfl, ?begin⟩, fun f w s h => ⟨_, rfl, ?verify⟩, fun f w s h => ⟨_, rfl, ?abort⟩,
    fun f w s h => ⟨_, rfl, ?activate⟩, fun c w s h1 h4 hready _ hb => ?busy⟩
  case begin =>
    exact rowDone_imgCtrl (g := begin_ w.port) h (fun _ => rfl) (fun _ => rfl) fun a _ ha => imgCtrl_begin (code w 1 (by decide)) ha
  case verify =>
    refine ⟨(imgCtrl_verify (code w 2 (by decide)) (accepted_imgCtrl h)).1, ?_⟩
    rw [← bit_withCmd w.val 2 8 (by decide) (by decide)]
    exact rowDone_imgCtrl (g := setImg fun m => { m with loader := .verifying, hold := bit (withCmd w.val 2) 8 }) h (fun _ => rfl)
      (fun _ => rfl) fun a _ ha => (imgCtrl_verify (code w 2 (by decide)) ha).2
  case abort =>
    split
    · next hidle =>
      exact rowDone_imgCtrl (g := id) h (fun _ => rfl) (fun _ => rfl) fun a hi ha => by
        rw [imgCtrl_abort (code w 3 (by decide)) ha, show a.img = s.img by rw [hi]; rfl, if_pos hidle, id]
    · next hidle =>
      exact rowDone_imgCtrl (g := dropSession) h (fun _ => rfl) (fun _ => rfl) fun a hi ha => by
        rw [imgCtrl_abort (code w 3 (by decide)) ha, show a.img = s.img by rw [hi]; rfl, if_neg hidle]
  case activate =>
    obtain ⟨q, hq, hdone⟩ := rowDone_activate h (code w 4 (by decide))
    rw [sto_of_aside hdone.2]
    exact ⟨hq, hdone⟩
  case busy =>
    have hc := code w c (by omega)
    have hbusy : (imgCtrl w.port (withCmd w.val c) s).2 = stBusy := imgCtrl_busy (by simpa only [hc] using hb)
    refine ⟨_, ?_, frameDone_imgCtrl_busy hready hbusy⟩
    obtain rfl | rfl | rfl | rfl : c = 1 ∨ c = 2 ∨ c = 3 ∨ c = 4 := by omega
    · rfl
    · rfl
    · rfl
    · rfl

end Sys2Proof.Proofs
end

section
/-! PROOFS. The end of a verification at run time: refused, or ARMED with the switch waiting or started (R40, R44, R54, R57). -/

namespace Sys2Proof.Proofs

open Sys2Proof Sys2Proof.Machine Sys2Proof.Safety Sys2Proof.Laws

theorem event_pos {c : Bool} {f : State → State} {s : State} (h : c = true) : event c f s = react s (f s) := if_pos h

/-- An event that leaves link and power manager alone: apart from HFX it does what its operation does. -/
theorem hfxAside_event {c : Bool} {f : State → State} {s : State} (h : c = true) (hchd : (f s).chd = s.chd) (hpwc : (f s).pwc = s.pwc) :
    hfxAside s (event c f s) = f s := by
  rw [event_pos h, hfxAside_react hchd, hfxAside_of_pwc hpwc]

theorem img_of_hfxAside {s t u : State} (h : hfxAside s t = u) : t.img = u.img := by
  have himg : (hfxAside s t).img = u.img := by rw [h]
  exact himg

theorem sto_of_hfxAside {s t u : State} (h : hfxAside s t = u) : t.sto = u.sto := by
  have hsto : (hfxAside s t).sto = u.sto := by rw [h]
  exact hsto

theorem whl_of_hfxAside {s t u : State} (h : hfxAside s t = u) : t.whl = u.whl := by
  have hwhl : (hfxAside s t).whl = u.whl := by rw [h]
  exact hwhl

/-- The loaded image is refused: its IMAGE_SEQ is known, the loader REFUSED (Table 1-16). -/
def verRefused (r : RefuseReg) (s : State) : State :=
  refuse r (seqKnown (loadingBank s) (some r))
    { s with img := { s.img with loader := .refused, hold := false, pendingSeq := seqKnown (loadingBank s) (some r) } }

/-- The loaded bank is ARMED, with or without the HELD mark, and its switch waits (R54). -/
def verArmed (held : Bool) (s : State) : State :=
  { s with img := { s.img with
    loader := .switchPending, refuse := ⟨0, 0, 0, 0, 0, false⟩, pendingSeq := seqKnown (loadingBank s) none
    banks := vmod s.img.banks (sessionBank s) fun b => { b with state := .armed, held := held } } }

section
variable {s : State}

theorem verificationComplete_refused {r : RefuseReg} (hl : s.img.loader = .verifying)
    (hv : verify s (runCtx s) (loadingBank s) = some r) : verificationComplete s = verRefused r s := by
  simp only [verificationComplete, hl, hv, ne_eq, not_true_eq_false, ite_false]
  rfl

theorem verificationComplete_held (hl : s.img.loader = .verifying) (hv : verify s (runCtx s) (loadingBank s) = none)
    (hh : s.img.hold = true) : verificationComplete s = verArmed true s := by
  simp only [verificationComplete, hl, hv, hh, ne_eq, not_true_eq_false, ite_false, ite_true]
  rfl

theorem verificationComplete_starts (hl : s.img.loader = .verifying) (hv : verify s (runCtx s) (loadingBank s) = none)
    (hh : s.img.hold = false) : verificationComplete s = startSwitch (verArmed false s) := by
  simp only [verificationComplete, hl, hv, hh, ne_eq, not_true_eq_false, ite_false, Bool.false_eq_true]
  rfl

theorem verificationComplete_idle (hl : s.img.loader ≠ .verifying) : verificationComplete s = s := if_pos hl

end

/-- The loaded bank is ARMED and its switch has started, the queue of commits being `q`. -/
def verSwitched (q : List Queued) (s : State) : State :=
  { s with
    img := { s.img with
      loader := .switchPending, step := .commit, refuse := ⟨0, 0, 0, 0, 0, false⟩, pendingSeq := seqKnown (loadingBank s) none
      banks := vmod s.img.banks (sessionBank s) fun b => { b with state := .armed, held := false } }
    sto := { s.sto with cqueue := q, lastQueued := some s.aon, maxS := 0, maxPipe := 0, maxChan := 0 }
    whl := { s.whl with commitMerged := if 2 ≤ s.sto.cqueue.length then satInc s.whl.commitMerged else s.whl.commitMerged } }

/-- The loading bank stays the one just verified when it is ARMED. -/
theorem switchStarted_verArmed (q : List Queued) {s : State} (hh : s.img.hold = false) :
    switchStarted q (verArmed false s) = verSwitched q s := by
  have hbank : sessionBank (verArmed false s) = sessionBank s :=
    sessionBank_of_banks (f := fun b => { b with state := .armed, held := false }) rfl fun _ hb => by cases hb
  rw [switchStarted, hbank]
  simp only [verArmed, vmod_vmod, verSwitched, hh]

/-- Without HOLD the switch starts, its SWITCH commit the last of the queue. -/
theorem verificationComplete_switches {s : State} (hl : s.img.loader = .verifying) (hv : verify s (runCtx s) (loadingBank s) = none)
    (hh : s.img.hold = false) : ∃ q, q.getLast?.map Queued.kind = some .switch ∧ verificationComplete s = verSwitched q s := by
  refine ⟨(startSwitch (verArmed false s)).sto.cqueue, getLast_queueCommit _ _, ?_⟩
  rw [verificationComplete_starts hl hv hh, ← switchStarted_verArmed _ hh, ← startSwitch_eq]

/-- Settles O40: the end of a verification by the refusal of its stages and the HOLD of its session. -/
theorem verificationEndsOrRefuses : Obligations.VerificationEndsOrRefuses := by
  refine ⟨fun r s hl hv hr => ⟨_, rfl, ?refused⟩, fun s hl hv hr => ⟨fun hh => ⟨_, rfl, ?held⟩, fun hh => ?starts⟩,
    fun s hl hv => ⟨_, rfl, ?idle⟩⟩
  case refused =>
    have hdone := verificationComplete_refused hv hr
    rw [hfxAside_event hl (by rw [hdone]; exact emit_chd _ _) (by rw [hdone]; exact emit_pwc _ _), hdone]
    rfl
  case held =>
    have hdone := verificationComplete_held hv hr hh
    rw [hfxAside_event hl (by rw [hdone]; rfl) (by rw [hdone]; rfl), hdone]
    rfl
  case starts =>
    obtain ⟨q, hq, hdone⟩ := verificationComplete_switches hv hr hh
    have hside := (hfxAside_event hl (by rw [hdone]; rfl) (by rw [hdone]; rfl)).trans hdone
    refine ⟨_, rfl, ?_, img_of_hfxAside hside, ?_⟩
    · rw [sto_of_hfxAside hside]
      exact hq
    · rw [img_of_hfxAside hside, sto_of_hfxAside hside, whl_of_hfxAside hside]
      exact hside
  case idle =>
    have hdone := verificationComplete_idle hv
    rw [hfxAside_event hl (by rw [hdone]) (by rw [hdone]), hdone]

end Sys2Proof.Proofs
end

section
/-! PROOFS. Key slots, and what follows their programming: the bank ACTIVE with its APPLY mark, or the switch abandoned with STORE (R36,
R37, R39, R47, R49, R57, R63, R65). -/

namespace Sys2Proof.Proofs

open Sys2Proof Sys2Proof.Machine Sys2Proof.Safety Sys2Proof.Laws

/-! ### Programming a list of slots -/

/-- The key slots with a list of keys put into them. -/
def putKeys (l : List (Nat × List Byte)) (ks : Vector (Option (List Byte)) 6) : Vector (Option (List Byte)) 6 :=
  l.foldl (fun ks x => vmod ks x.1 fun _ => some x.2) ks

/-- A slot that the list leaves out keeps what it holds. -/
theorem vget_putKeys_other (l : List (Nat × List Byte)) (ks : Vector (Option (List Byte)) 6) (k : Nat) (h : k ∉ l.map Prod.fst) :
    vget (putKeys l ks) k none = vget ks k none := by
  induction l generalizing ks with
  | nil => rfl
  | cons x xs ih =>
    rw [List.map_cons, List.mem_cons, not_or] at h
    exact (ih _ h.2).trans (vget_vmod_ne _ _ _ _ _ h.1)

/-- A slot that the list names once holds its key. -/
theorem vget_putKeys_mem (l : List (Nat × List Byte)) (ks : Vector (Option (List Byte)) 6) (hd : (l.map Prod.fst).Nodup)
    {x : Nat × List Byte} (hx : x ∈ l) (h6 : x.1 < 6) : vget (putKeys l ks) x.1 none = some x.2 := by
  induction l generalizing ks with
  | nil => cases hx
  | cons y ys ih =>
    obtain ⟨hy, hys⟩ := List.nodup_cons.mp hd
    rcases List.mem_cons.mp hx with rfl | hx
    · exact (vget_putKeys_other ys _ _ hy).trans (vget_vmod _ _ _ _ h6)
    · exact ih _ hys hx

/-- Every slot reads back: all hold their keys. -/
theorem programSlots_ok {failed : List Nat} (l : List (Nat × List Byte)) (s : State) (h : ∀ x ∈ l, x.1 ∉ failed) :
    programSlots failed l s = ({ s with sec := { s.sec with keys := putKeys l s.sec.keys } }, true) := by
  induction l generalizing s with
  | nil => rfl
  | cons x xs ih =>
    have hx : failed.contains x.1 = false := by simpa using h x List.mem_cons_self
    rw [programSlots, hx, if_neg Bool.false_ne_true]
    exact ih _ fun y hy => h y (List.mem_cons_of_mem _ hy)

/-- A slot that does not read back is marked defective, and programming ends there (R39). -/
theorem programSlots_fails {failed : List Nat} (l : List (Nat × List Byte)) (s : State) (h : ∃ x ∈ l, x.1 ∈ failed) :
    ∃ x ∈ l, x.1 ∈ failed ∧ ∃ ks, programSlots failed l s =
      ({ s with sec := { s.sec with keys := ks, defective := vmod s.sec.defective x.1 fun _ => true } }, false) := by
  induction l generalizing s with
  | nil =>
    obtain ⟨x, hx, -⟩ := h
    cases hx
  | cons y ys ih =>
    by_cases hy : y.1 ∈ failed
    · refine ⟨y, List.mem_cons_self, hy, s.sec.keys, ?_⟩
      rw [programSlots, if_pos (by simpa using hy)]
      rfl
    · obtain ⟨x, hx, hf⟩ := h
      have hxs : x ∈ ys := (List.mem_cons.mp hx).resolve_left fun he => hy (he ▸ hf)
      obtain ⟨z, hz, hzf, ks, hks⟩ := ih (setSec (fun c => { c with keys := vmod c.keys y.1 fun _ => some y.2 }) s) ⟨x, hxs, hf⟩
      refine ⟨z, List.mem_cons_of_mem _ hz, hzf, ks, ?_⟩
      rw [programSlots, if_neg (by simpa using hy), hks]
      rfl

/-! ### The slots that an image enrols -/

theorem slotsToProgram_lt {s : State} {im : Image} {x : Nat × List Byte} (h : x ∈ slotsToProgram s im) : x.1 < 6 := by
  simp only [slotsToProgram, List.mem_filterMap, List.mem_range] at h
  obtain ⟨j, hj, hx⟩ := h
  split at hx
  · obtain ⟨key, -, rfl⟩ := Option.map_eq_some_iff.mp hx
    exact Nat.succ_lt_succ hj
  · cases hx

theorem slotsToProgram_nodup (s : State) (im : Image) : ((slotsToProgram s im).map Prod.fst).Nodup := by
  refine List.pairwise_map.mpr (List.Pairwise.filterMap _ (fun i j hij x hx y hy => ?_) (List.nodup_range (n := 5)))
  have slot : ∀ {k : Nat} {z : Nat × List Byte}, (if (slotKey s (k + 1)).isNone && needsSlot im (k + 1) then
      (enrolKey im (k + 1)).map fun key => (k + 1, key) else none) = some z → z.1 = k + 1 := fun hz => by
    split at hz
    · obtain ⟨key, -, rfl⟩ := Option.map_eq_some_iff.mp hz
      rfl
    · cases hz
  rw [slot hx, slot hy]
  omega

/-! ### What follows an event of the hardware -/

theorem react_img (b s : State) : (react b s).img = s.img := by
  have hwake : ∀ a : State, (demandWake a).img = a.img := fun a => by
    rw [demandWake]
    split
    · rfl
    · exact img_of_hfxAside (wake_hfxAside a a)
  rw [react, hwake, roleCommit]
  split <;> rfl

theorem react_sec (b s : State) : (react b s).sec = s.sec := congrArg Prod.fst (react_loaderPart b s)

/-- A reset that nobody asked for has no commit. -/
theorem resetCommit_unasked {s : State} (h : resetAsked s = false) : resetCommit s = s := by simp [resetCommit, h]

/-- A reset waits while a switch is under way (R421). -/
theorem resetCommit_switching {s : State} (h : s.img.step ≠ .none) : resetCommit s = s := by simp [resetCommit, h]

/-- What every event leaves alone, a list of events leaves alone. -/
theorem emitAll_keeps {α : Type} (π : State → α) (h : ∀ e s, π (emit e s) = π s) (es : List Ev) (s : State) : π (emitAll es s) = π s := by
  induction es generalizing s with
  | nil => rfl
  | cons e es ih => exact (ih (emit e s)).trans (h e s)

/-! ### All slots read back at run time -/

/-- Steps 3 and 4 after the slots `l` took their keys. -/
def slotsActivated (l : List (Nat × List Byte)) (s : State) : State :=
  switchActivate { s with sec := { s.sec with keys := putKeys l s.sec.keys } }

theorem keySlots_activates {failed : List Nat} {s : State} (hstart : s.pwc.start ≠ .candidates) (hstep : s.img.step = .slots)
    (h : ∀ x ∈ slotsToProgram s (bankImage (loadingBank s)), x.1 ∉ failed) :
    keySlots failed s = slotsActivated (slotsToProgram s (bankImage (loadingBank s))) s := by
  rw [keySlots, if_neg (not_not.mpr hstep), if_neg hstart, slotsProgrammed, if_neg (not_not.mpr hstep)]
  simp only [programSlots_ok _ _ h, ite_true]
  exact resetCommit_switching nofun

/-- What steps 3 and 4 do to the security store and the loader (R47, R49, R63, R65). -/
theorem slotsActivated_eq (l : List (Nat × List Byte)) (s : State) : slotsActivated l s = { s with
    img := { s.img with step := .apply, banks := vmap s.img.banks fun j b =>
      if j = sessionBank s then { b with state := .active, held := false, apply := true }
      else if b.state = .active then { b with state := .armed, held := false, apply := false } else b }
    sec := { securityStep s.str (bankImage (loadingBank s)) { s.sec with keys := putKeys l s.sec.keys } with
      owed := stepSix (sessionBank s) s.str (bankImage (loadingBank s)) { s.sec with keys := putKeys l s.sec.keys }
        (securityStep s.str (bankImage (loadingBank s)) { s.sec with keys := putKeys l s.sec.keys }) } } := rfl

/-! ### A slot fails at run time -/

/-- The switch is abandoned: the failed slot is defective, the session dropped, STORE refused (R39). -/
def slotsAbandoned (ks : Vector (Option (List Byte)) 6) (k : Nat) (s : State) : State :=
  refuse (plainRefusal 0x1C false) s.img.pendingSeq
    (dropSession { s with sec := { s.sec with keys := ks, defective := vmod s.sec.defective k fun _ => true } })

theorem keySlots_abandons {failed : List Nat} {s : State} (hstart : s.pwc.start ≠ .candidates) (hstep : s.img.step = .slots)
    (hask : resetAsked s = false) (h : ∃ x ∈ slotsToProgram s (bankImage (loadingBank s)), x.1 ∈ failed) :
    ∃ x ∈ slotsToProgram s (bankImage (loadingBank s)), x.1 ∈ failed ∧ ∃ ks, keySlots failed s = slotsAbandoned ks x.1 s := by
  obtain ⟨x, hx, hf, ks, hks⟩ := programSlots_fails _ s h
  refine ⟨x, hx, hf, ks, ?_⟩
  have hask' : resetAsked (slotsAbandoned ks x.1 s) = false := by
    rw [resetAsked, slotsAbandoned, refuse, emit_pwc]
    exact hask
  rw [keySlots, if_neg (not_not.mpr hstep), if_neg hstart, slotsProgrammed, if_neg (not_not.mpr hstep)]
  simp only [hks, Bool.false_eq_true, ite_false]
  exact resetCommit_unasked hask'

/-- Apart from its event, the abandoned switch changes the loader, the slots, the failed slot's mark and the count of refusals. -/
theorem eventsAside_slotsAbandoned (ks : Vector (Option (List Byte)) 6) (k : Nat) (s : State) :
    eventsAside s (slotsAbandoned ks k s) = { s with
      img := { s.img with
        loader := .idle, hold := false, step := .none, pendingSeq := 0, refuse := ⟨0x1C, 0, 0, 0, 0, false⟩
        banks := vmod s.img.banks (sessionBank s) fun b => { b with state := .empty, held := false, apply := false } }
      sec := { s.sec with
        keys := ks, defective := vmod s.sec.defective k fun _ => true, refuseCount := satInc s.sec.refuseCount } } := by
  rw [slotsAbandoned, refuse, eventsAside_emit]
  rfl

/-! ### A slot fails at a start -/

theorem startShipping_img (s : State) : (startShipping s).img = s.img := emitAll_keeps State.img emit_img _ _

theorem startGoesOn_img (s : State) : (startGoesOn s).img = s.img := by
  unfold startGoesOn
  split
  · exact startShipping_img s
  · rfl

theorem startGoesOn_sec (s : State) : (startGoesOn s).sec = s.sec := congrArg Prod.fst (startGoesOn_loaderPart s)

theorem keySlots_start {failed : List Nat} {i : Nat} {s : State} (hstart : s.pwc.start = .candidates) (hstep : s.img.step = .slots)
    (htried : s.pwc.tried.getLast? = some i)
    (h : ∃ x ∈ slotsToProgram s (bankImage (vget s.img.banks i Bank.empty)), x.1 ∈ failed) :
    ∃ ks d seq, keySlots failed s = candidateFails i (plainRefusal 0x1C true) seq
      { s with img := { s.img with step := .none }, sec := { s.sec with keys := ks, defective := d } } := by
  obtain ⟨x, -, -, ks, hks⟩ := programSlots_fails _ (setImg (fun m => { m with step := .none }) s) h
  refine ⟨ks, vmod s.sec.defective x.1 fun _ => true, (bankImage (vget s.img.banks i Bank.empty)).seq, ?_⟩
  rw [keySlots, if_neg (not_not.mpr hstep), if_pos hstart, startSlots, htried]
  simp only [hks, Bool.false_eq_true, ite_false]
  rfl

theorem candidateFails_img (i : Nat) (r : RefuseReg) (seq : Nat) (s : State) : (candidateFails i r seq s).img = { s.img with
    refuse := r, banks := vmod s.img.banks i fun b => { b with state := .empty, held := false, apply := false } } :=
  startGoesOn_img _

theorem candidateFails_sec (i : Nat) (r : RefuseReg) (seq : Nat) (s : State) :
    (candidateFails i r seq s).sec = { s.sec with refuseCount := satInc s.sec.refuseCount } := startGoesOn_sec _

/-- A bank that has just become EMPTY. -/
theorem bankState_emptied {s t : State} {i : Nat} (hi : i < 2)
    (h : t.img.banks = vmod s.img.banks i fun b => { b with state := .empty, held := false, apply := false }) :
    bankState t i = .empty := by
  rw [bankState, h, vget_vmod _ _ _ _ hi]

theorem sec_of_hfxAside {s t u : State} (h : hfxAside s t = u) : t.sec = u.sec := by
  have hsec : (hfxAside s t).sec = u.sec := by rw [h]
  exact hsec

theorem img_of_sides {s t u : State} (h : eventsAside s (hfxAside s t) = u) : t.img = u.img := by
  have himg : (eventsAside s (hfxAside s t)).img = u.img := by rw [h]
  exact himg

theorem sec_of_sides {s t u : State} (h : eventsAside s (hfxAside s t) = u) : t.sec = u.sec := by
  have hsec : (eventsAside s (hfxAside s t)).sec = u.sec := by rw [h]
  exact hsec

/-- Settles O41: slots that read back and the activation after them, and a slot that fails at run time and at a start. -/
theorem keySlotsThenActivation : Obligations.KeySlotsThenActivation := by
  refine ⟨fun failed s hstart hpf hstep h => ⟨_, rfl, ?activated⟩, fun failed s hstart hpf hstep hask h => ⟨_, rfl, ?abandoned⟩,
    fun failed i s hstart hpf hstep hi htried h => ⟨_, rfl, ?start⟩⟩
  case activated =>
    have hdone := keySlots_activates (by simp [hstart]) hstep h
    have hside := (hfxAside_event (c := decide (s.pwc.pf = .none)) (decide_eq_true hpf) (by rw [hdone]; rfl) (by rw [hdone]; rfl)).trans
      (hdone.trans (slotsActivated_eq _ s))
    have himg := img_of_hfxAside hside
    have hsec := sec_of_hfxAside hside
    rw [himg, hsec]
    refine ⟨fun x hx => vget_putKeys_mem _ _ (slotsToProgram_nodup s _) hx (slotsToProgram_lt hx),
      fun k hk => vget_putKeys_other _ _ k hk, rfl, ?_, ?_, rfl, hside⟩
    · simp only [securityStep, decide_eq_true_eq]
    · simp only [securityStep, decide_eq_true_eq]
  case abandoned =>
    obtain ⟨x, hx, hf, ks, hdone⟩ := keySlots_abandons (by simp [hstart]) hstep hask h
    have hside := (hfxAside_event (c := decide (s.pwc.pf = .none)) (decide_eq_true hpf) (by rw [hdone]; exact emit_chd _ _)
      (by rw [hdone]; exact emit_pwc _ _)).trans hdone
    have hrest := (congrArg (eventsAside s) hside).trans (eventsAside_slotsAbandoned ks x.1 s)
    have himg := img_of_sides hrest
    have hsec := sec_of_sides hrest
    rw [himg, hsec]
    exact ⟨rfl, rfl, bankState_emptied (s := s) (sessionBank_lt s) (congrArg Img.banks himg), rfl,
      ⟨x, hx, hf, vget_vmod _ _ _ _ (slotsToProgram_lt hx)⟩, hrest⟩
  case start =>
    obtain ⟨ks, d, seq, hdone⟩ := keySlots_start hstart hstep htried h
    have hside := (event_pos (f := keySlots (failed.map Fin.val)) (decide_eq_true hpf)).trans (congrArg (react s) hdone)
    have himg := (congrArg State.img hside).trans ((react_img _ _).trans (candidateFails_img _ _ _ _))
    have hsec := (congrArg State.sec hside).trans ((react_sec _ _).trans (candidateFails_sec _ _ _ _))
    rw [himg, hsec]
    exact ⟨bankState_emptied (s := s) hi (congrArg Img.banks himg), rfl, rfl, rfl, rfl⟩

end Sys2Proof.Proofs
end

section
/-! PROOFS. What the units leave alone when a structure is applied: structure, registers, ports, loader, security store, causes, and the
accumulators, operation by operation (R58, R59, R361). -/

namespace Sys2Proof.Proofs

open Sys2Proof Sys2Proof.Machine Sys2Proof.Safety Sys2Proof.Laws

/-! ### The parts -/

/-- The parts of a state that the units of a structure leave alone. -/
structure Steady where
  /-- The structure, its registers, the ports, the FAB cycle and the AON count. -/
  frame : Option Image × List (Nat × Word) × Vector PortSt 3 × Cycle × Nat
  /-- The RTC, the phase of the start, and whether the shipping lattice runs. -/
  power : Nat × StartPhase × Bool
  /-- The loader and the security store. -/
  loader : Img × Sec
  /-- The safe state and its causes. -/
  causes : Bool × Nat
  /-- The accumulators of energy, those of volume, and the counts and durations of supply events. -/
  totals : Vector (Vector Nat 8) 8 × Vector (Nat × Nat) 4 × Vector Nat 12 × Vector Nat 3

/-- The steady parts of a state. -/
def steady (s : State) : Steady where
  frame := (s.str, s.cfg, s.port, s.cyc, s.aon)
  power := (s.pwc.rtc, s.pwc.start, s.pwc.shipping)
  loader := (s.img, s.sec)
  causes := (s.saf.safe, s.saf.cause)
  totals := (vmap s.nrg.sets fun _ e => e.acc, vmap s.flw.vol fun _ v => (v.fwd, v.rev), s.pq.counts, s.pq.durs)

@[simp] theorem steady_mk (aon cfg cfgR str img sec fac port cyc pwc sto whl met nrg pq flw sdi chd bat dsp saf pub pending) :
    steady ⟨aon, cfg, cfgR, str, img, sec, fac, port, cyc, pwc, sto, whl, met, nrg, pq, flw, sdi, chd, bat, dsp, saf, pub, pending⟩ =
      ⟨(str, cfg, port, cyc, aon), (pwc.rtc, pwc.start, pwc.shipping), (img, sec), (saf.safe, saf.cause),
        (vmap nrg.sets fun _ e => e.acc, vmap flw.vol fun _ v => (v.fwd, v.rev), pq.counts, pq.durs)⟩ := rfl

@[simp] theorem steady_frame_fold (s : State) : (s.str, s.cfg, s.port, s.cyc, s.aon) = (steady s).frame := rfl
@[simp] theorem steady_power_fold (s : State) : (s.pwc.rtc, s.pwc.start, s.pwc.shipping) = (steady s).power := rfl
@[simp] theorem steady_loader_fold (s : State) : (s.img, s.sec) = (steady s).loader := rfl
@[simp] theorem steady_causes_fold (s : State) : (s.saf.safe, s.saf.cause) = (steady s).causes := rfl
@[simp] theorem steady_totals_fold (s : State) :
    (vmap s.nrg.sets fun _ e => e.acc, vmap s.flw.vol fun _ v => (v.fwd, v.rev), s.pq.counts, s.pq.durs) = (steady s).totals := rfl
@[simp] theorem steady_fold (x : Steady) : (⟨x.frame, x.power, x.loader, x.causes, x.totals⟩ : Steady) = x := rfl

theorem foldl_steady {α β : Type} (π : Steady → α) (l : List β) (g : State → β → State)
    (h : ∀ a x, π (steady (g a x)) = π (steady a)) (s : State) : π (steady (l.foldl g s)) = π (steady s) := by
  induction l generalizing s with
  | nil => rfl
  | cons x xs ih => exact (ih (g s x)).trans (h s x)

/-- A change of elements that keeps what is read of each keeps the readings. -/
theorem vmap_vmap_of {α β : Type} {n : Nat} (v : Vector α n) (g : Nat → α → α) (r : Nat → α → β) (h : ∀ i x, r i (g i x) = r i x) :
    vmap (vmap v g) r = vmap v r := by
  ext j hj
  simp [vmap, h]

theorem vmap_vmod_of {α β : Type} {n : Nat} (v : Vector α n) (k : Nat) (g : α → α) (r : Nat → α → β) (h : ∀ x, r k (g x) = r k x) :
    vmap (vmod v k g) r = vmap v r := by
  ext j hj
  by_cases hk : j = k
  · simp [vmap, vmod, hk, h]
  · simp [vmap, vmod, hk]

/-! ### Setters and events -/

@[simp] theorem setWhl_steady (f : Whl → Whl) (s : State) : steady (setWhl f s) = steady s := rfl
@[simp] theorem setBat_steady (f : Bat → Bat) (s : State) : steady (setBat f s) = steady s := rfl
@[simp] theorem setDsp_steady (f : Dsp → Dsp) (s : State) : steady (setDsp f s) = steady s := rfl
@[simp] theorem setChd_steady (f : Chd → Chd) (s : State) : steady (setChd f s) = steady s := rfl
@[simp] theorem setSto_steady (f : Sto → Sto) (s : State) : steady (setSto f s) = steady s := rfl
@[simp] theorem setSlot_steady (k : Nat) (f : SdiSlot → SdiSlot) (s : State) : steady (setSlot k f s) = steady s := rfl
@[simp] theorem setPath_steady (p : Nat) (f : FPath → FPath) (s : State) : steady (setPath p f s) = steady s := rfl
@[simp] theorem clearFaults_steady (u : Nat) (s : State) : steady (clearFaults u s) = steady s := rfl
@[simp] theorem commitDue_steady (k : CommitKind) (s : State) : steady (commitDue k s) = steady s := rfl
@[simp] theorem queueCommit_steady (k : CommitKind) (s : State) : steady (queueCommit k s) = steady s := rfl
@[simp] theorem setSaf_steady_of (f : Saf → Saf) (s : State) (h : (f s.saf).safe = s.saf.safe ∧ (f s.saf).cause = s.saf.cause) :
    steady (setSaf f s) = steady s := by simp [setSaf, h]

@[simp] theorem emit_steady (e : Ev) (s : State) : steady (emit e s) = steady s := by
  unfold emit
  split <;> rfl
@[simp] theorem emitAll_steady (es : List Ev) (s : State) : steady (emitAll es s) = steady s := emitAll_keeps steady emit_steady es s
@[simp] theorem publishBank_steady (s : State) : steady (publishBank s) = steady s := by simp [publishBank, flushEvents]

/-! ### Pipe flow and the bank path -/

@[simp] theorem dropShots_vol (p : Nat) (w : Flw) : (dropShots p w).vol = w.vol := rfl
@[simp] theorem calEnd_steady (st : Nat) (v : Word) (s : State) : steady (calEnd st v s) = steady s := by simp [calEnd]
@[simp] theorem calLeft_steady (p : Nat) (s : State) : steady (calLeft p s) = steady s := by
  unfold calLeft
  split <;> simp
@[simp] theorem pathStart_steady (p : Nat) (s : State) : steady (pathStart p s) = steady s := by simp [pathStart]
@[simp] theorem pathStop_steady (p : Nat) (m : Mgmt) (s : State) : steady (pathStop p m s) = steady s := by
  unfold pathStop
  dsimp only
  split <;> simp
@[simp] theorem refCheck_steady (p : Nat) (s : State) : steady (refCheck p s) = steady s := by
  unfold refCheck
  dsimp only
  (repeat' split) <;> simp
@[simp] theorem pendInc_steady (i : VolInc) (s : State) : steady (pendInc i s) = steady s := by
  unfold pendInc
  split <;> simp
@[simp] theorem pairDue_steady (s : State) : steady (pairDue s) = steady s := by
  unfold pairDue
  split <;> simp
@[simp] theorem outcome_steady (p at_ : Nat) (a : Bool) (f : FlowCfg) (c : Nat) (r : Option (Vals × Nat × Word)) (s : State) :
    steady (outcome p at_ a f c r s) = steady s := by simp [outcome]
@[simp] theorem combine_steady (p at_ : Nat) (b : FPath) (parts : Parts) (s : State) : steady (combine p at_ b parts s) = steady s := by
  unfold combine
  dsimp only
  split <;> simp
@[simp] theorem levelStale_steady (st : Bool) (s : State) : steady (levelStale st s) = steady s := by
  unfold levelStale
  split <;> simp
@[simp] theorem publishAcoustic_steady (v : Vals) (s : State) : steady (publishAcoustic v s) = steady s := rfl

/-- An outcome that is not valid completes no calibration, so no register is written (R233). -/
@[simp] theorem calOutcome_invalid_steady (p : Nat) (a : Bool) (corr : Rat) (w : List Rat) (s : State) :
    steady (calOutcome p false a corr w s) = steady s := by
  unfold calOutcome
  dsimp only
  split <;> simp

/-- A pair that is cut off has failed, whatever else its shots say (R216). -/
theorem pairOutcome_aborted_steady (p : Nat) (s : State) (h : ∀ q, (flowPath s p).pair = some q → q.abort = true) :
    steady (pairOutcome p s) = steady s := by
  unfold pairOutcome
  dsimp only
  split
  · rfl
  · next q hq => simp [h q hq]

theorem flowPath_setPath (p : Nat) (f : FPath → FPath) (s : State) (hp : p < 3) : flowPath (setPath p f s) p = f (flowPath s p) :=
  vget_vmod s.flw.path p f FPath.off hp

theorem abortPair_steady (p : Nat) (s : State) (hp : p < 3) : steady (abortPair p s) = steady s := by
  unfold abortPair
  split
  · refine pairOutcome_aborted_steady p _ fun q hq => ?_
    rw [flowPath_setPath p _ s hp] at hq
    obtain ⟨q', -, rfl⟩ := Option.map_eq_some_iff.mp hq
    rfl
  · rfl

theorem bankCause_aborted (s : State) (q : PairSt) (h : q.abort = true) : bankCause s q ≠ 0 := by
  have hbit : 262144 * b2n q.abort = 262144 := by rw [h]; rfl
  unfold bankCause
  dsimp only
  omega

theorem bankOutcome_aborted_steady (s : State) (h : ∀ q, (flowPath s 2).pair = some q → q.abort = true) :
    steady (bankOutcome s) = steady s := by
  have hcut : ∀ q, (flowPath (if s.chd.firstA && s.chd.leader then setPath 2 (fun x => { x with from_ := s.aon }) s else s) 2).pair =
      some q → q.abort = true := fun q hq => by
    split at hq
    · rw [flowPath_setPath 2 _ s (by decide)] at hq
      exact h q hq
    · exact h q hq
  unfold bankOutcome
  dsimp only
  generalize hs : (if s.chd.firstA && s.chd.leader then setPath 2 (fun x => { x with from_ := s.aon }) s else s) = t at hcut
  have ht : steady t = steady s := by
    rw [← hs]
    split <;> simp
  split
  · exact ht
  · next q hq =>
    have hcause := bankCause_aborted t q (hcut q hq)
    split
    · exact ht
    · split <;> simp [ht]

@[simp] theorem abortBank_steady (s : State) : steady (abortBank s) = steady s := by
  unfold abortBank
  split
  · refine (bankOutcome_aborted_steady _ fun q hq => ?_).trans (setPath_steady _ _ s)
    rw [flowPath_setPath 2 _ s (by decide)] at hq
    obtain ⟨q', -, rfl⟩ := Option.map_eq_some_iff.mp hq
    rfl
  · simp

@[simp] theorem abortAll_steady (s : State) : steady (abortAll s) = steady s := by
  simp [abortAll, abortPair_steady]

@[simp] theorem sealCal_steady (s : State) : steady (sealCal s) = steady s := by
  unfold sealCal
  split <;> simp

end Sys2Proof.Proofs
end

section
/-! PROOFS. What the units leave alone when a structure is applied, continued: power quality, flow, the link, the display, SDI-12, the
channels and the safe state (R58, R59, R361). -/

namespace Sys2Proof.Proofs

open Sys2Proof Sys2Proof.Machine Sys2Proof.Safety Sys2Proof.Laws

/-- The steady parts but the accumulators. -/
def Steady.core (x : Steady) : (Option Image × List (Nat × Word) × Vector PortSt 3 × Cycle × Nat) × (Nat × StartPhase × Bool) × (Img × Sec) × Bool × Nat :=
  (x.frame, x.power, x.loader, x.causes)

/-- The steady parts but the safe state and its causes. -/
def Steady.calm (x : Steady) : (Option Image × List (Nat × Word) × Vector PortSt 3 × Cycle × Nat) × (Nat × StartPhase × Bool) × (Img × Sec) ×
    Vector (Vector Nat 8) 8 × Vector (Nat × Nat) 4 × Vector Nat 12 × Vector Nat 3 :=
  (x.frame, x.power, x.loader, x.totals)

@[simp] theorem core_mk (f p l c t) : Steady.core ⟨f, p, l, c, t⟩ = (f, p, l, c) := rfl
@[simp] theorem core_fold (x : Steady) : (x.frame, x.power, x.loader, x.causes) = x.core := rfl
@[simp] theorem calm_mk (f p l c t) : Steady.calm ⟨f, p, l, c, t⟩ = (f, p, l, t) := rfl
@[simp] theorem calm_fold (x : Steady) : (x.frame, x.power, x.loader, x.totals) = x.calm := rfl

theorem core_of_steady {s t : State} (h : steady t = steady s) : (steady t).core = (steady s).core := congrArg _ h

/-! ### Accumulators, energy and power quality -/

@[simp] theorem setPq_core (s : State) (q : Pq) : (steady (setPq s q)).core = (steady s).core := rfl
@[simp] theorem endSupply_core (t j a : Nat) (x y : Bool) (s : State) : (steady (endSupply t j a x y s)).core = (steady s).core := by
  unfold endSupply
  dsimp only
  (repeat' split) <;> simp
@[simp] theorem truncateSupply_core (s : State) : (steady (truncateSupply s)).core = (steady s).core :=
  foldl_steady Steady.core _ _ (fun _ _ => endSupply_core ..) s
@[simp] theorem pqConfigTakes_core (s : State) : (steady (pqConfigTakes s)).core = (steady s).core := by
  unfold pqConfigTakes
  dsimp only
  split <;> simp
@[simp] theorem lastSupply_core (s : State) : (steady (lastSupply s)).core = (steady s).core := by
  unfold lastSupply
  split <;> simp
@[simp] theorem volSwap_core (old : Option Image) (im : Image) (s : State) : (steady (volSwap old im s)).core = (steady s).core := by
  unfold volSwap
  dsimp only
  (repeat' split) <;> rfl
@[simp] theorem accClear_core (s : State) : (steady (accClear s)).core = (steady s).core := rfl
theorem zeroBlock_core (j : Nat) (i : InstRec) (s : State) : (steady (zeroBlock j i s)).core = (steady s).core := by
  unfold zeroBlock
  extract_lets
  repeat refine iteInduction (motive := fun t : State => (steady t).core = (steady s).core) (fun _ => rfl) fun _ => ?_
  rfl
@[simp] theorem zeroBlocks_core (old : Option Image) (im : Image) (s : State) : (steady (zeroBlocks old im s)).core = (steady s).core :=
  foldl_steady Steady.core _ _ (fun _ _ => zeroBlock_core ..) s

@[simp] theorem cfSwitch_steady (b s : State) : steady (cfSwitch b s) = steady s := rfl
@[simp] theorem thetaSwitch_steady (b s : State) : steady (thetaSwitch b s) = steady s := by
  unfold thetaSwitch
  split <;> rfl
@[simp] theorem gatesSet_steady (s : State) : steady (gatesSet s) = steady s := by simp [gatesSet, vmap_vmap_of]
@[simp] theorem gatesStart_steady (r : Bool) (s : State) : steady (gatesStart r s) = steady s := by simp [gatesStart]
@[simp] theorem switchTiles_steady (old : Option Image) (im : Image) (s : State) : steady (switchTiles old im s) = steady s := rfl

/-! ### Pipe flow, link and gauge -/

@[simp] theorem switchPath_steady (old : Option Image) (im : Image) (b : State) (p : Nat) (s : State) :
    steady (switchPath old im b p s) = steady s := by
  unfold switchPath
  extract_lets lo tab new common s1
  split
  · split <;> simp
  · rw [refCheck_steady]
    simp only [s1]
    split <;> simp

@[simp] theorem volUnmeasured_steady (v x : Nat) (s : State) : steady (volUnmeasured v x s) = steady s := by
  unfold volUnmeasured
  split <;> simp [vmap_vmod_of]
@[simp] theorem closeBankInterval_steady (s : State) : steady (closeBankInterval s) = steady s := by simp [closeBankInterval]
@[simp] theorem linkState_steady (m : Mgmt) (c : Nat) (s : State) : steady (linkState m c s) = steady s := by
  unfold linkState
  split <;> simp
@[simp] theorem linkEnter_steady (c : Nat) (s : State) : steady (linkEnter c s) = steady s := by simp [linkEnter]
@[simp] theorem restoreRole_steady (s : State) : steady (restoreRole s) = steady s := by
  unfold restoreRole
  (repeat' split) <;> simp
@[simp] theorem switchLink_steady (old : Option Image) (im : Image) (r : Bool) (b s : State) :
    steady (switchLink old im r b s) = steady s := by
  unfold switchLink
  dsimp only
  (repeat' split) <;> simp
@[simp] theorem batEnter_steady (s : State) : steady (batEnter s) = steady s := rfl
@[simp] theorem switchGauge_steady (old : Option Image) (im : Image) (b s : State) : steady (switchGauge old im b s) = steady s := by
  unfold switchGauge
  (repeat' split) <;> simp

/-! ### Display and SDI-12 -/

@[simp] theorem dspStart_steady (c : Nat) (s : State) : steady (dspStart c s) = steady s := by simp [dspStart]
@[simp] theorem dspStop_steady (c : Nat) (s : State) : steady (dspStop c s) = steady s := by
  unfold dspStop
  dsimp only
  split <;> simp
@[simp] theorem dspEval_steady (a o : Nat) (s : State) : steady (dspEval a o s) = steady s := by
  unfold dspEval
  (repeat' split) <;> simp
@[simp] theorem dspReturn_steady (s : State) : steady (dspReturn s) = steady s := by
  unfold dspReturn
  split <;> simp
@[simp] theorem switchDisplay_steady (old : Option Image) (im : Image) (b s : State) : steady (switchDisplay old im b s) = steady s := by
  unfold switchDisplay
  dsimp only
  (repeat' split) <;> simp

@[simp] theorem sdiRelease_steady (s : State) : steady (sdiRelease s) = steady s := rfl
@[simp] theorem shotEnd_steady (r : Nat) (l : List Byte) (s : State) : steady (shotEnd r l s) = steady s := rfl
@[simp] theorem sdiFail_steady (k r : Nat) (s : State) : steady (sdiFail k r s) = steady s := by simp [sdiFail]
theorem sdiFails_steady (l : List Nat) (s : State) :
    steady (l.foldl (fun a k => if (sdiSlot a k).pendN.isSome then sdiFail k 4 a else a) s) = steady s :=
  foldl_steady id _ _ (fun a k => by split <;> simp) s
@[simp] theorem switchSdi_steady (old : Option Image) (im : Image) (r : Bool) (b s : State) :
    steady (switchSdi old im r b s) = steady s := by
  unfold switchSdi
  dsimp only
  simp only [steady_mk, steady_frame_fold, steady_power_fold, steady_loader_fold, steady_causes_fold, steady_totals_fold, steady_fold,
    sdiFails_steady]
  split
  · rfl
  · split <;> simp

/-! ### The channels -/

@[simp] theorem modStart_steady (s : State) : steady (modStart s) = steady s := rfl
@[simp] theorem enterRunning_steady (s : State) : steady (enterRunning s) = steady s := by
  unfold enterRunning
  split <;> simp
@[simp] theorem setPq_steady_of (s : State) (q : Pq) (h : q.counts = s.pq.counts ∧ q.durs = s.pq.durs) :
    steady (setPq s q) = steady s := by simp [setPq, h]
@[simp] theorem enterFallback_steady (c : Nat) (s : State) : steady (enterFallback c s) = steady s := by
  unfold enterFallback
  dsimp only
  split <;> simp
@[simp] theorem sourceRound_steady (s : State) : steady (sourceRound s) = steady s := by
  unfold sourceRound
  extract_lets n q s1 s2 run
  have h1 : steady s1 = steady s := by
    simp only [s1]
    split
    · rfl
    · exact setPq_steady_of _ _ ⟨rfl, rfl⟩
  have h2 : steady s2 = steady s := by
    simp only [s2]
    split <;> simpa using h1
  exact (setPq_steady_of _ _ ⟨rfl, rfl⟩).trans h2
@[simp] theorem leaveRunning_core (s : State) : (steady (leaveRunning s)).core = (steady s).core := by simp [leaveRunning]

/-- MOD stops with the last routed channel (R150, R424). -/
def modStops (s : State) : State :=
  let s1 := leaveRunning s
  sourceRound { s1 with pwc := { s1.pwc with clk := { s1.pwc.clk with mod := false } } }

@[simp] theorem modStops_core (s : State) : (steady (modStops s)).core = (steady s).core := by simp [modStops]

/-- No supply event is in progress. -/
def SupplyQuiet (s : State) : Prop := ∀ i, i < 12 → (supEv s (i / 4) (i % 4)).on = false

theorem truncateSupply_of_quiet (s : State) (h : SupplyQuiet s) : truncateSupply s = s := by
  unfold truncateSupply
  refine List.foldlRecOn (motive := fun t => t = s) _ _ rfl fun t ht i hi => ?_
  subst ht
  simp [endSupply, h i (List.mem_range.mp hi)]

theorem modStops_of_quiet (s : State) (h : SupplyQuiet s) : steady (modStops s) = steady s := by
  simp [modStops, leaveRunning, truncateSupply_of_quiet s h]

theorem clearFaultsWhere_steady (c : Nat → Bool) (l : List Nat) (s : State) :
    steady (l.foldl (fun a k => if c k then clearFaults (k + 1) a else a) s) = steady s :=
  foldl_steady id _ _ (fun a k => by split <;> rfl) s

/-- The channels switch, and then MOD stops with the last routed channel, starts with the first, or the source is found anew. -/
theorem switchChans_cases (old : Option Image) (im : Image) (b s : State) :
    ∃ s2, steady s2 = steady s ∧ s2.pq = s.pq ∧ s2.whl.state = s.whl.state ∧
      ((s2.whl.state = .running ∧ routesAny s2 = false ∧ switchChans old im b s = modStops s2) ∨
        switchChans old im b s = enterRunning s2 ∨ switchChans old im b s = sourceRound s2) := by
  have hpq : ∀ (c : Nat → Bool) (t : State),
      ((List.range 8).foldl (fun a k => if c k then clearFaults (k + 1) a else a) t).pq = t.pq ∧
      ((List.range 8).foldl (fun a k => if c k then clearFaults (k + 1) a else a) t).whl.state = t.whl.state := fun c t => by
    refine List.foldlRecOn (motive := fun a : State => a.pq = t.pq ∧ a.whl.state = t.whl.state) _ _ ⟨rfl, rfl⟩ fun a ha k _ => ?_
    split
    · exact ha
    · exact ha
  unfold switchChans
  extract_lets +onlyGivenNames oldR changed idle keep run one met nrg s1 m1 s2
  have h1 : steady s1 = steady s := (clearFaultsWhere_steady changed _ _).trans rfl
  have h2 : steady s2 = steady s ∧ s2.pq = s.pq ∧ s2.whl.state = s.whl.state := by
    simp only [s2]
    split
    · exact ⟨h1, hpq changed _⟩
    · exact ⟨h1, hpq changed _⟩
  clear_value s2
  obtain ⟨hs, hq, hw⟩ := h2
  refine ⟨s2, hs, hq, hw, ?_⟩
  split
  · next h => exact Or.inl ⟨h.1, h.2, rfl⟩
  · split
    · exact Or.inr (Or.inl rfl)
    · exact Or.inr (Or.inr rfl)

@[simp] theorem switchChans_core (old : Option Image) (im : Image) (b s : State) :
    (steady (switchChans old im b s)).core = (steady s).core := by
  obtain ⟨s2, hs, -, -, ⟨-, -, h⟩ | h | h⟩ := switchChans_cases old im b s <;> simp [h, hs]

/-- MOD that stops truncates no event that is over, so every accumulator stays. -/
theorem switchChans_of_quiet (old : Option Image) (im : Image) (b s : State)
    (h : s.whl.state = .running → routesAny s = false → SupplyQuiet s) : steady (switchChans old im b s) = steady s := by
  obtain ⟨s2, hs, hq, hw, ⟨hr, hn, he⟩ | he | he⟩ := switchChans_cases old im b s
  · have hstr : s2.str = s.str := congrArg (·.frame.1) hs
    have hquiet : SupplyQuiet s2 := by
      have := h (hw ▸ hr) (by simpa [routesAny, routed, routeOf, hstr] using hn)
      simpa [SupplyQuiet, supEv, hq] using this
    rw [he, modStops_of_quiet s2 hquiet, hs]
  · simp [he, hs]
  · simp [he, hs]

@[simp] theorem applyUnits_core (r : Bool) (old : Option Image) (im : Image) (b s : State) :
    (steady (applyUnits r old im b s)).core = (steady s).core := by
  have hpaths : ∀ t : State, (steady ((List.range 3).foldl (fun a p => switchPath old im b p a) t)).core = (steady t).core := fun t =>
    foldl_steady Steady.core _ _ (fun _ _ => by simp) t
  simp [applyUnits, hpaths]

/-! ### Safe state and power manager -/

@[simp] theorem prunFollow_steady (s : State) : steady (prunFollow s) = steady s := by
  unfold prunFollow
  dsimp only
  split <;> rfl
@[simp] theorem armAnew_steady (c : Bool) (s : State) : steady (armAnew c s) = steady s := by
  unfold armAnew
  dsimp only
  split <;> rfl
@[simp] theorem dangerous_steady (b d : Nat) (s : State) : steady (dangerous b d s) = steady s := by simp [dangerous]
@[simp] theorem clearRequests_steady (s : State) : steady (clearRequests s) = steady s := by simp [clearRequests]

@[simp] theorem evalMode_steady (s : State) : steady (evalMode s) = steady s := rfl
@[simp] theorem hfxStart_steady (s : State) : steady (hfxStart s) = steady s := by
  unfold hfxStart
  split <;> rfl
@[simp] theorem wake_steady (s : State) : steady (wake s) = steady s := by
  unfold wake
  split <;> simp
@[simp] theorem hfxOff_steady (s : State) : steady (hfxOff s) = steady s := by simp [hfxOff, setPwc]
@[simp] theorem powerSettle_steady (s : State) : steady (powerSettle s) = steady s := by
  unfold powerSettle
  split <;> simp
@[simp] theorem resetCommit_steady (s : State) : steady (resetCommit s) = steady s := by
  unfold resetCommit
  split <;> simp
@[simp] theorem react_steady (b s : State) : steady (react b s) = steady s := by
  unfold react demandWake roleCommit
  (repeat' split) <;> simp
@[simp] theorem reportUnclosed_steady (s : State) : steady (reportUnclosed s) = steady s := by
  unfold reportUnclosed
  split <;> simp

end Sys2Proof.Proofs
end

section
/-! PROOFS. The structure in force: O42 (R57 to R59, R91, R361). -/

namespace Sys2Proof.Proofs

open Sys2Proof Sys2Proof.Machine Sys2Proof.Safety Sys2Proof.Laws

/-! ### Supply events -/

theorem endSupply_ev (t j a : Nat) (x y : Bool) (s : State) :
    (endSupply t j a x y s).pq.ev = if (supEv s t j).on then vmod s.pq.ev (4 * t + j) fun _ => SupEv.none else s.pq.ev := by
  unfold endSupply
  dsimp only
  split
  · split
    · rfl
    · rw [emit_pq]
      rfl
  · rfl

/-- Ending one event ends no other, and starts none. -/
theorem endSupply_on (i k a : Nat) (x y : Bool) (s : State) (hk : k < 12) :
    (supEv (endSupply (i / 4) (i % 4) a x y s) (k / 4) (k % 4)).on = (decide (k ≠ i) && (supEv s (k / 4) (k % 4)).on) := by
  have hindex : ∀ n : Nat, 4 * (n / 4) + n % 4 = n := fun n => Nat.div_add_mod n 4
  simp only [supEv, endSupply_ev, hindex]
  by_cases hki : k = i
  · subst hki
    split
    · next h => simp [vget_vmod _ _ _ _ hk, SupEv.none]
    · next h => simpa using h
  · split
    · simp [vget_vmod_ne _ _ _ _ _ hki, hki]
    · simp [hki]

/-- After the truncation no event is in progress (R199). -/
theorem truncateSupply_quiet (s : State) : SupplyQuiet (truncateSupply s) := by
  have hends : ∀ (l : List Nat) (t : State) (k : Nat), k < 12 → (k ∈ l ∨ (supEv t (k / 4) (k % 4)).on = false) →
      (supEv (l.foldl (fun a i => endSupply (i / 4) (i % 4) a.pq.lastHalf true false a) t) (k / 4) (k % 4)).on = false := by
    intro l
    induction l with
    | nil => simp
    | cons i l ih =>
      intro t k hk h
      refine ih _ k hk ?_
      rw [endSupply_on i k _ true false t hk]
      rcases h with h | h
      · rcases List.mem_cons.mp h with rfl | h
        · exact Or.inr (by simp)
        · exact Or.inl h
      · exact Or.inr (by simp [h])
  exact fun k hk => hends _ s k hk (Or.inl (List.mem_range.mpr hk))

/-- Where MOD has lost its last channel, the events in progress have ended. -/
def SupplySettled (s : State) : Prop := s.whl.state = .running → routesAny s = false → SupplyQuiet s

/-- What a supply event and the channels' end depend on. -/
def supplyView (s : State) : Vector SupEv 12 × WheelState × Option Image := (s.pq.ev, s.whl.state, s.str)

theorem supplySettled_of_view {s t : State} (h : supplyView t = supplyView s) (hs : SupplySettled s) : SupplySettled t := by
  have hev : t.pq.ev = s.pq.ev := congrArg Prod.fst h
  have hwhl : t.whl.state = s.whl.state := congrArg (·.2.1) h
  have hstr : t.str = s.str := congrArg (·.2.2) h
  intro hrun hroutes
  have hquiet := hs (hwhl ▸ hrun) (by simpa [routesAny, routed, routeOf, hstr] using hroutes)
  simpa [SupplyQuiet, supEv, hev] using hquiet

theorem emit_supplyView (e : Ev) (s : State) : supplyView (emit e s) = supplyView s := by simp [supplyView]

theorem lastSupply_settled (s : State) : SupplySettled (lastSupply s) := by
  unfold lastSupply
  split
  · exact fun _ _ => truncateSupply_quiet s
  · next h => exact fun hrun hroutes => absurd ⟨hrun, hroutes⟩ h

theorem gatesStart_supplyView (r : Bool) (s : State) : supplyView (gatesStart r s) = supplyView s :=
  emitAll_keeps supplyView emit_supplyView _ _

theorem switchTiles_supplyView (old : Option Image) (im : Image) (s : State) : supplyView (switchTiles old im s) = supplyView s := rfl

theorem accClear_supplyView (s : State) : supplyView (accClear s) = supplyView s := rfl

/-! ### The accumulators -/

/-- Every accumulator, count and duration is zero (R59). -/
def Steady.cleared (x : Steady) : Prop :=
  x.totals = (Vector.replicate 8 (Vector.replicate 8 0), Vector.replicate 4 (0, 0), Vector.replicate 12 0, Vector.replicate 3 0)

theorem vmap_vmap {α β γ : Type} {n : Nat} (v : Vector α n) (g : Nat → α → β) (r : Nat → β → γ) :
    vmap (vmap v g) r = vmap v fun i x => r i (g i x) := by
  ext j hj
  simp [vmap]

theorem vmap_const {α β : Type} {n : Nat} (v : Vector α n) (c : β) : (vmap v fun _ _ => c) = Vector.replicate n c := by
  ext j hj
  simp [vmap]

theorem vget_of_vmap_const {α β : Type} {n : Nat} {v : Vector α n} {r : Nat → α → β} {c : β} (h : vmap v r = Vector.replicate n c)
    (k : Nat) (d : α) (hk : k < n) : r k (vget v k d) = c := by
  have hget : vget (vmap v r) k c = vget (Vector.replicate n c) k c := congrArg (fun w => vget w k c) h
  rw [vget_vmap v r k d c hk] at hget
  rw [hget]
  simp [vget, hk]

theorem accClear_totals (s : State) : (steady (accClear s)).totals =
    (vmap (vmap s.nrg.sets fun _ e => { e with acc := Vector.replicate 8 0, disc := 0, setl := 0 }) fun _ e => e.acc,
      vmap (vmap s.flw.vol fun _ v => { v with fwd := 0, rev := 0, held := 0, unmeas := 0, holdT := 0 }) fun _ v => (v.fwd, v.rev),
      Vector.replicate 12 0, Vector.replicate 3 0) := rfl

theorem accClear_cleared (s : State) : (steady (accClear s)).cleared := by
  simp only [Steady.cleared, accClear_totals, vmap_vmap, vmap_const]

theorem enSet_acc_of_cleared (s : State) (h : (steady s).cleared) (k : Nat) (hk : k < 8) : (enSet s k).acc = Vector.replicate 8 0 :=
  vget_of_vmap_const (v := s.nrg.sets) (r := fun _ e => e.acc) (congrArg Prod.fst h) k EnSet.zero hk

theorem volSet_of_cleared (s : State) (h : (steady s).cleared) (v : Nat) (hv : v < 4) : (volSet s v).fwd = 0 ∧ (volSet s v).rev = 0 :=
  Prod.mk.inj (vget_of_vmap_const (v := s.flw.vol) (r := fun _ x => (x.fwd, x.rev)) (congrArg (·.2.1) h) v _ hv)

theorem applyUnits_of_settled (r : Bool) (old : Option Image) (im : Image) (b s : State) (h : SupplySettled s) :
    steady (applyUnits r old im b s) = steady s := by
  have hpaths : ∀ t : State, steady ((List.range 3).foldl (fun a p => switchPath old im b p a) t) = steady t :=
    foldl_steady id _ _ fun _ _ => switchPath_steady ..
  simp [applyUnits, hpaths, switchChans_of_quiet old im b s h]

/-! ### Applying the structure -/

/-- The data of the new structure, before its gates, tiles and units start. -/
def structureData (old : Option Image) (im : Image) (s0 : State) : State :=
  let s2 := pqConfigTakes (applyData true old im s0)
  thetaSwitch s0 (cfSwitch s0 (volSwap old im
    (zeroBlocks old im { s2 with cfgR := s2.cfg, sto := { s2.sto with areas := clearAreas old im s2.sto.areas } })))

/-- The gates and tiles of the new structure, over accumulators that ACC_CLEAR has zeroed where the image asks for it. -/
def structureGates (old : Option Image) (im : Image) (s : State) : State :=
  switchTiles old im (gatesStart true (if im.accClear then accClear (lastSupply s) else s))

/-- The state that the round before leaves, its calibrations and pairs cut off. -/
def roundLeft (s : State) : State := sealCal (abortAll (publishBank s))

/-- The new structure with its units, before safety judges the change. -/
def structured (old : Option Image) (im : Image) (s : State) : State :=
  applyUnits true old im (roundLeft s) (structureGates old im (structureData old im (roundLeft s)))

theorem applyStructure_eq (old : Option Image) (im : Image) (s : State) : applyStructure old im s =
    prunFollow (if safetyChanged old im then raiseCauses [(26, 0)] (structured old im s) else structured old im s) := by
  simp only [applyStructure, structured, structureGates, structureData, roundLeft]

/-- Structure, registers, ports, FAB cycle and AON count of the new structure. -/
def newFrame (old : Option Image) (im : Image) (s : State) : Option Image × List (Nat × Word) × Vector PortSt 3 × Cycle × Nat :=
  (some im, switchRegs old im s.cfg, vmap s.port fun p x => rebind (boundTo (some im) p) x,
    { Cycle.fresh with applied := true, left := leftBalls old im }, s.aon)

theorem newFrame_of_steady (old : Option Image) (im : Image) {s t : State} (h : steady t = steady s) : newFrame old im t = newFrame old im s := by
  have hcfg : t.cfg = s.cfg := congrArg (·.frame.2.1) h
  have hport : t.port = s.port := congrArg (·.frame.2.2.1) h
  have haon : t.aon = s.aon := congrArg (·.frame.2.2.2.2) h
  rw [newFrame, hcfg, hport, haon]
  rfl

theorem applyData_core (old : Option Image) (im : Image) (s : State) : (steady (applyData true old im s)).core =
    (newFrame old im s, (steady s).power, (steady s).loader, (steady s).causes) := rfl

theorem structureData_core (old : Option Image) (im : Image) (s : State) : (steady (structureData old im s)).core =
    (newFrame old im s, (steady s).power, (steady s).loader, (steady s).causes) := by
  have hkept : ∀ (t : State) (c : List (Nat × Word)) (x : Sto), (steady { t with cfgR := c, sto := x }).core = (steady t).core :=
    fun _ _ _ => rfl
  simp only [structureData, thetaSwitch_steady, cfSwitch_steady, volSwap_core, zeroBlocks_core]
  exact (hkept (pqConfigTakes (applyData true old im s)) _ _).trans ((pqConfigTakes_core _).trans (applyData_core old im s))

@[simp] theorem structureGates_core (old : Option Image) (im : Image) (s : State) : (steady (structureGates old im s)).core = (steady s).core := by
  simp only [structureGates, switchTiles_steady, gatesStart_steady]
  split <;> simp

@[simp] theorem roundLeft_steady (s : State) : steady (roundLeft s) = steady s := by simp [roundLeft]

theorem structured_core (old : Option Image) (im : Image) (s : State) : (steady (structured old im s)).core =
    (newFrame old im s, (steady s).power, (steady s).loader, (steady s).causes) := by
  rw [structured, applyUnits_core, structureGates_core, structureData_core, newFrame_of_steady old im (roundLeft_steady s), roundLeft_steady]

theorem structureGates_settled (old : Option Image) (im : Image) (s : State) (h : im.accClear = true) : SupplySettled (structureGates old im s) := by
  have hview : supplyView (structureGates old im s) = supplyView (lastSupply s) := by
    rw [structureGates, if_pos h, switchTiles_supplyView, gatesStart_supplyView, accClear_supplyView]
  exact supplySettled_of_view hview (lastSupply_settled s)

theorem structured_cleared (old : Option Image) (im : Image) (s : State) (h : im.accClear = true) : (steady (structured old im s)).cleared := by
  rw [structured, applyUnits_of_settled _ _ _ _ _ (structureGates_settled old im _ h), structureGates, if_pos h, switchTiles_steady,
    gatesStart_steady]
  exact accClear_cleared _

/-! ### The cause of a changed safety section -/

theorem causes_of_steady {s t : State} (h : steady t = steady s) : (t.saf.safe, t.saf.cause) = (s.saf.safe, s.saf.cause) :=
  congrArg Steady.causes h

@[simp] theorem raiseCauses_calm (cs : List (Nat × Nat)) (s : State) : (steady (raiseCauses cs s)).calm = (steady s).calm := by
  have hdf : ∀ (l : List (Nat × Nat)) (t : State), steady (l.foldl (fun a c => dangerous c.1 c.2 a) t) = steady t :=
    fun l t => foldl_steady id _ _ (fun _ _ => dangerous_steady ..) t
  have hsaf : ∀ (f : Saf → Saf) (t : State), (steady (setSaf f t)).calm = (steady t).calm := fun _ _ => rfl
  unfold raiseCauses
  dsimp only
  split
  · rfl
  · split <;> simp [hdf, hsaf]

/-- RECONFIG arises unless it stands already, and the device is then in the safe state (R355, R361). -/
theorem raiseCauses_reconfig (s : State) : (steady (raiseCauses [(26, 0)] s)).causes =
    if nbit s.saf.cause 26 then (s.saf.safe, s.saf.cause) else (true, s.saf.cause ||| 2 ^ 26) := by
  by_cases h : nbit s.saf.cause 26 = true
  · simp [raiseCauses, freshCauses, h, ← steady_causes_fold]
  · have hmask : causeMask [(26, 0)] = 2 ^ 26 := by decide
    have hsaf : ∀ c, (armAnew c s).saf.safe = s.saf.safe ∧ (armAnew c s).saf.cause = s.saf.cause := fun c =>
      Prod.mk.inj (causes_of_steady (armAnew_steady c s))
    have hfresh : freshCauses s [(26, 0)] = [(26, 0)] := by simp [freshCauses, h]
    have hdf : List.filter (fun c : Nat × Nat => decide (8 ≤ c.1 ∧ c.1 ≤ 18)) [(26, 0)] = [] := rfl
    rw [raiseCauses]
    simp only [hfresh, hmask, hdf, List.foldl_nil]
    rw [if_neg h]
    by_cases hs : s.saf.safe = true
    · simp [hs, setSaf, hsaf]
    · simp [hs, setSaf, hsaf]

/-! ### The register file -/

/-- A register whose section is kept has its old value, any other what the presets say (R58). -/
theorem cfgFind_presets (keep : Nat → Bool) (ps : List Preset) (off : Nat) (v : Option Word) (c d : List (Nat × Word))
    (h : cfgFind c off = if keep off then v else cfgFind d off) :
    cfgFind (ps.foldl (fun c p => if keep p.off then c else cfgSet c p.off p.val) c) off =
      if keep off then v else cfgFind (ps.foldl (fun c p => cfgSet c p.off p.val) d) off := by
  induction ps generalizing c d with
  | nil => exact h
  | cons p ps ih =>
    refine ih _ _ ?_
    by_cases hp : off = p.off
    · subst hp
      by_cases hk : keep p.off = true
      · simpa [hk] using h
      · simp [hk]
    · rw [cfgFind_cfgSet_ne d p.off off p.val hp]
      dsimp only
      split
      · exact h
      · rw [cfgFind_cfgSet_ne c p.off off p.val hp, h]

theorem cfgFind_filter (keep : Nat → Bool) (c : List (Nat × Word)) (off : Nat) :
    cfgFind (c.filter fun x => keep x.1) off = if keep off then cfgFind c off else none := by
  induction c with
  | nil => simp [cfgFind]
  | cons x c ih =>
    obtain ⟨k, v⟩ := x
    by_cases hk : keep k = true
    · by_cases ho : k = off
      · subst ho
        simp [cfgFind, hk]
      · simpa [cfgFind, hk, ho] using ih
    · by_cases ho : k = off
      · subst ho
        simpa [cfgFind, hk] using ih
      · simpa [cfgFind, hk, ho] using ih

theorem cfgFind_switchRegs (old : Option Image) (im : Image) (c : List (Nat × Word)) (off : Nat) :
    cfgFind (switchRegs old im c) off =
      if keepsReg old im off then cfgFind c off else cfgFind (im.presets.foldl (fun c p => cfgSet c p.off p.val) []) off :=
  cfgFind_presets (keepsReg old im) im.presets off (cfgFind c off) _ [] (cfgFind_filter (keepsReg old im) c off)

/-! ### STRUCTURE_APPLY -/

/-- What follows step 6: the mode, and HFX on mains or on demand. -/
def switchSettled (s : State) : State :=
  if (evalMode s).pwc.vmainOk then hfxStart (evalMode s) else powerSettle (wake (evalMode s))

@[simp] theorem switchSettled_steady (s : State) : steady (switchSettled s) = steady s := by
  unfold switchSettled
  split <;> simp

theorem structureApply_eq (i : Nat) (old : Image) (s : State) (hstep : s.img.step = .apply) (hbank : applyBank s = some i)
    (hstr : s.str = some old) (hstop : s.whl.state = .stopped ∨ s.whl.sector = 0) :
    structureApply s = switchSettled (finishSwitch (applyStructure (some old) (bankImage (vget s.img.banks i Bank.empty)) s)) := by
  have hgo : ¬ (s.img.step ≠ .apply ∨ (s.whl.state ≠ .stopped ∧ s.whl.sector ≠ 0)) := by
    rintro (h | ⟨h, h'⟩)
    · exact h hstep
    · exact hstop.elim h h'
  rw [structureApply, if_neg hgo]
  simp only [hbank, hstr, Option.isNone_some, Bool.false_eq_true, if_false, switchSettled]

/-- The loader after step 6 (R49, Table 1-11). -/
def loaderDone (m : Img) : Img :=
  { m with loader := .idle, hold := false, step := .none, pendingSeq := 0, banks := vmap m.banks fun _ b => { b with apply := false } }

/-- Step 6 changes the loader, and owes no event any more. -/
theorem finishSwitch_steady (s : State) :
    steady (finishSwitch s) = { steady s with loader := (loaderDone s.img, { s.sec with owed := [] }) } := by
  have h := emitAll_steady s.sec.owed s
  have himg : (emitAll s.sec.owed s).img = s.img := congrArg (·.loader.1) h
  have hsec : (emitAll s.sec.owed s).sec = s.sec := congrArg (·.loader.2) h
  simp [finishSwitch, loaderIdle, setSec, setImg, himg, hsec, loaderDone]

/-- The safe state and its causes once safety has judged the change of structure (R361). -/
def judged (old : Option Image) (im : Image) (s : State) : Bool × Nat :=
  if safetyChanged old im && !nbit s.saf.cause 26 then (true, s.saf.cause ||| 2 ^ 26) else (s.saf.safe, s.saf.cause)

theorem judged_reconfig (old : Option Image) (im : Image) (s : State) (h : safetyChanged old im = true) :
    nbit (judged old im s).2 26 = true ∧ (s.saf.cause = 0 → (judged old im s).1 = true) := by
  by_cases hc : nbit s.saf.cause 26 = true
  · have hj : judged old im s = (s.saf.safe, s.saf.cause) := if_neg (by simp [hc])
    rw [hj]
    refine ⟨hc, fun h0 => ?_⟩
    simp [h0, nbit] at hc
  · have hj : judged old im s = (true, s.saf.cause ||| 2 ^ 26) := if_pos (by simp [h, hc])
    rw [hj]
    exact ⟨by simp only [nbit, Nat.testBit_or, Nat.testBit_two_pow_self, Bool.or_true], fun _ => rfl⟩

theorem parts_of_core {x : Steady} {f p l c} (h : x.core = (f, p, l, c)) : x.frame = f ∧ x.power = p ∧ x.loader = l ∧ x.causes = c := by
  obtain ⟨⟩ := x
  simpa using h

theorem parts_of_calm {x y : Steady} (h : x.calm = y.calm) :
    x.frame = y.frame ∧ x.power = y.power ∧ x.loader = y.loader ∧ x.totals = y.totals := by
  obtain ⟨⟩ := x
  obtain ⟨⟩ := y
  simpa using h

theorem applyStructure_steady (old : Option Image) (im : Image) (s : State) : steady (applyStructure old im s) =
    ⟨newFrame old im s, (steady s).power, (steady s).loader, judged old im s, (steady (structured old im s)).totals⟩ := by
  obtain ⟨hframe, hpower, hloader, hcauses⟩ := parts_of_core (structured_core old im s)
  obtain ⟨hsafe, hcause⟩ := Prod.mk.inj hcauses
  rw [applyStructure_eq, prunFollow_steady]
  by_cases h : safetyChanged old im = true
  · obtain ⟨hf, hp, hl, ht⟩ := parts_of_calm (raiseCauses_calm [(26, 0)] (structured old im s))
    rw [if_pos h, ← steady_fold (steady (raiseCauses _ _)), raiseCauses_reconfig, hsafe, hcause, hf, hp, hl, ht, hframe, hpower, hloader]
    by_cases hc : nbit s.saf.cause 26 = true
    · rw [if_pos hc, judged, if_neg (by simp [hc])]
    · rw [if_neg hc, judged, if_pos (by simp [h, hc])]
  · rw [if_neg h, judged, if_neg (by simp [h])]
    refine (steady_fold _).symm.trans ?_
    rw [hframe, hpower, hloader, hcauses]
    rfl

/-- What stands in the steady parts once STRUCTURE_APPLY has been answered. -/
theorem structureApplied_steady (i : Nat) (old : Image) (s : State) (hstep : s.img.step = .apply) (hbank : applyBank s = some i)
    (hstr : s.str = some old) (hstop : s.whl.state = .stopped ∨ s.whl.sector = 0) :
    steady (react s (resetCommit (structureApply s))) =
      (let im := bankImage (vget s.img.banks i Bank.empty)
       ⟨newFrame (some old) im s, (steady s).power, (loaderDone s.img, { s.sec with owed := [] }), judged (some old) im s,
        (steady (structured (some old) im s)).totals⟩) := by
  have happlied := applyStructure_steady (some old) (bankImage (vget s.img.banks i Bank.empty)) s
  have hloader := congrArg Steady.loader happlied
  have himg : (applyStructure (some old) (bankImage (vget s.img.banks i Bank.empty)) s).img = s.img := congrArg Prod.fst hloader
  have hsec : (applyStructure (some old) (bankImage (vget s.img.banks i Bank.empty)) s).sec = s.sec := congrArg Prod.snd hloader
  rw [react_steady, resetCommit_steady, structureApply_eq i old s hstep hbank hstr hstop, switchSettled_steady, finishSwitch_steady,
    himg, hsec, happlied]

/-- A port after a structure is applied has the new structure's facet, and starts afresh where that is another (R453). -/
theorem rebind_facet (b : Option Facet) (x : PortSt) : (rebind b x).facet = b := by
  unfold rebind
  split
  · assumption
  · rfl

theorem rebind_changed (b : Option Facet) (x : PortSt) (h : x.facet ≠ b) :
    (rebind b x).held = none ∧ (rebind b x).executing = none ∧ (rebind b x).waiting = none ∧ (rebind b x).snap = none ∧
      (rebind b x).wdtAt = none := by
  rw [rebind, if_neg h]
  exact ⟨rfl, rfl, rfl, rfl, rfl⟩

/-- Settles O42, by the steady parts that each operation of the switch leaves alone. -/
theorem structureApplies : Obligations.StructureApplies := by
  unfold Obligations.StructureApplies
  intro i old s hlive hstep hbank hstr hstop
  have h := structureApplied_steady i old s hstep hbank hstr hstop
  rw [← event_pos (f := fun a => resetCommit (structureApply a)) hlive] at h
  refine ⟨event (live s) (fun a => resetCommit (structureApply a)) s, rfl, ?_⟩
  generalize event (live s) (fun a => resetCommit (structureApply a)) s = t at h
  generalize bankImage (vget s.img.banks i Bank.empty) = im at h
  have hframe := congrArg Steady.frame h
  have himg : t.img = loaderDone s.img := congrArg (·.loader.1) h
  have hcauses : (t.saf.safe, t.saf.cause) = judged (some old) im s := congrArg Steady.causes h
  have hport : ∀ p, p < 3 → port t p = rebind (boundTo (some im) p) (port s p) := fun p hp => by
    have hports : t.port = vmap s.port fun p x => rebind (boundTo (some im) p) x := congrArg (·.2.2.1) hframe
    rw [port, hports, vget_vmap s.port _ p PortSt.zero PortSt.zero hp]
    rfl
  refine ⟨congrArg Prod.fst hframe, by rw [himg]; rfl, by rw [himg]; rfl, fun j hj => ?_, fun off => ?_, fun p hp => ?_,
    congrArg (·.2.2.2.1) hframe, congrArg (·.loader.2) h, congrArg (·.2.2.2.2) hframe, congrArg (·.power.1) h, fun hclear => ?_,
    fun hsafety => ?_⟩
  · rw [bankState, himg, loaderDone, vget_vmap s.img.banks _ j Bank.empty Bank.empty hj]
    exact ⟨rfl, rfl, rfl⟩
  · have hcfg : t.cfg = switchRegs (some old) im s.cfg := congrArg (·.2.1) hframe
    rw [cfgV, hcfg, cfgFind_switchRegs]
    split <;> rfl
  · rw [hport p hp]
    exact ⟨rebind_facet _ _, rebind_changed _ _⟩
  · have hzero : (steady t).cleared := (congrArg Steady.totals h).trans (structured_cleared (some old) im s hclear)
    exact ⟨enSet_acc_of_cleared t hzero, volSet_of_cleared t hzero, congrArg (·.2.2.1) hzero, congrArg (·.2.2.2) hzero⟩
  · obtain ⟨hbit, hsafe⟩ := judged_reconfig (some old) im s hsafety
    rw [← hcauses] at hbit hsafe
    exact ⟨hbit, hsafe⟩

end Sys2Proof.Proofs
end

section
/-! PROOFS. The start sequence: what it recovers, the candidates, and the shipping lattice (R38, R50, R60, R423). -/

namespace Sys2Proof.Proofs

open Sys2Proof Sys2Proof.Machine Sys2Proof.Safety Sys2Proof.Laws

/-! ### What a recovery finds and leaves alone -/

/-- What a recovery leaves alone: structure, loader, keys, lifecycle and user areas. -/
def durable (s : State) : Option Image × Img × (Vector (Option (List Byte)) 6 × Lifecycle) × List Host.Cell :=
  (s.str, s.img, (s.sec.keys, s.sec.lifecycle), s.sto.areas)

/-- The numbers of corrected and of uncorrectable words that the start met. -/
def eccMet (s : State) : Nat × Nat := (s.sto.eccCorr, s.sto.eccUncorr)

theorem takeMedian_durable (s : State) (c : Nat × Nat × Nat × Nat) : durable (takeMedian s c) = durable s := by
  unfold takeMedian setSto
  dsimp only
  (repeat' split) <;> rfl

theorem takeMedians_durable (l : List (Nat × Nat × Nat × Nat)) (s : State) : durable (l.foldl takeMedian s) = durable s :=
  List.foldlRecOn (motive := fun t => durable t = durable s) l _ rfl fun t ht c _ => (takeMedian_durable t c).trans ht

theorem spoilCopies_keys (l : List (Nat × Nat × Nat)) (c : Sec) :
    (spoilCopies l c).keys = c.keys ∧ (spoilCopies l c).lifecycle = c.lifecycle := by
  refine List.foldlRecOn (motive := fun d : Sec => d.keys = c.keys ∧ d.lifecycle = c.lifecycle) l _ ⟨rfl, rfl⟩ fun d hd x _ => ?_
  split
  · exact hd
  · exact hd

theorem recover_durable (s : State) : durable (recover s) = durable s := by
  unfold recover
  dsimp only
  (repeat' split) <;> rfl

theorem recover_eccMet (s : State) : eccMet (recover s) = eccMet s := by
  unfold recover
  dsimp only
  (repeat' split) <;> rfl

/-- Before the commit area is recovered: the counters and the words met (R380, R397). -/
def startCounters (i : StartIn) (s : State) : State :=
  let s1 := setSec (spoilCopies i.spoiled) (i.copies.foldl takeMedian s)
  let s2 := setSto (fun t => { t with
    slots := vmap t.slots fun j r => spoil i.uncorr j r
    markers := vmap t.markers fun j m => spoilMarker i.uncorr j m
    eccCorr := i.corrected, eccUncorr := i.uncorr.length, evtSeq := t.evtMark }) s1
  setPwc (fun p => { p with
    startEvents := p.startEvents ++ i.uncorr.map (storeFault 2) ++ (i.copies.filter copiesDiffer).map fun c => storeFault 3 (Config.counterAddr c.1) }) s2

theorem startCounters_durable (i : StartIn) (s : State) : durable (startCounters i s) = durable s := by
  obtain ⟨hkeys, hlife⟩ := spoilCopies_keys i.spoiled (i.copies.foldl takeMedian s).sec
  have h := takeMedians_durable i.copies s
  rw [← h]
  simp only [durable, startCounters, setPwc, setSto, setSec, hkeys, hlife]

theorem startRecover_eq (i : StartIn) (s : State) : startRecover i s = recover (
    if nbit s.pwc.resetCause 0 then
      let n := latestAon (startCounters i s) + (s.aon - s.pwc.startAt)
      setPwc (fun p => { p with rtc := n, startAt := latestAon (startCounters i s) }) { startCounters i s with aon := n }
    else startCounters i s) := rfl

theorem startRecover_durable (i : StartIn) (s : State) : durable (startRecover i s) = durable s := by
  rw [startRecover_eq, recover_durable, ← startCounters_durable i s]
  split <;> rfl

theorem startRecover_eccMet (i : StartIn) (s : State) : eccMet (startRecover i s) = (i.corrected, i.uncorr.length) := by
  rw [startRecover_eq, recover_eccMet]
  split <;> rfl

/-! ### The shipping lattice -/

theorem startShipping_steady (s : State) : steady (startShipping s) = { steady s with
    frame := (none, s.cfg, vmap s.port fun p x => rebind (boundTo none p) x, s.cyc, s.aon)
    power := (s.pwc.rtc, .served, true) } := by
  simp [startShipping, setPwc]

/-- An event changes neither the areas nor the words met. -/
theorem emit_areas (e : Ev) (s : State) : ((emit e s).sto.areas, eccMet (emit e s)) = (s.sto.areas, eccMet s) := by
  unfold emit
  split <;> rfl

theorem startShipping_areas (s : State) :
    ((startShipping s).sto.areas, eccMet (startShipping s)) = (s.sto.areas, eccMet s) :=
  (emitAll_keeps (fun a : State => (a.sto.areas, eccMet a)) emit_areas _ _).trans rfl

/-- The device runs the shipping lattice, F0 on port A (R60). -/
def Ships (t : State) : Prop :=
  t.str = none ∧ t.pwc.start = .served ∧ t.pwc.shipping = true ∧ (port t 0).facet = some 0 ∧ (port t 1).facet = none ∧ (port t 2).facet = none

theorem startShipping_ships (s : State) : Ships (startShipping s) := by
  have h := startShipping_steady s
  have hstr : (startShipping s).str = none := congrArg (·.frame.1) h
  have hstart : (startShipping s).pwc.start = .served := congrArg (·.power.2.1) h
  have hship : (startShipping s).pwc.shipping = true := congrArg (·.power.2.2) h
  have hports : (startShipping s).port = vmap s.port fun p x => rebind (boundTo none p) x := congrArg (·.frame.2.2.1) h
  have hport : ∀ p, p < 3 → (port (startShipping s) p).facet = boundTo none p := fun p hp => by
    rw [port, hports, vget_vmap s.port _ p PortSt.zero PortSt.zero hp, rebind_facet]
  exact ⟨hstr, hstart, hship, hport 0 (by decide), hport 1 (by decide), hport 2 (by decide)⟩

/-! ### The candidates -/

/-- Bank i is a candidate not yet tried (R50). -/
def Startable (s : State) (i : Nat) : Prop := i ∉ s.pwc.tried ∧ (bankState s i = .active ∨ bankState s i = .armed)

theorem nextCandidate_some {s : State} {i : Nat} (h : nextCandidate s = some i) : i < 2 ∧ Startable s i := by
  have hok : ∀ k, (!s.pwc.tried.contains k && decide (bankState s k = .active ∨ bankState s k = .armed)) = true → Startable s k :=
    fun k hk => by simpa [Startable] using hk
  unfold nextCandidate at h
  dsimp only at h
  split at h
  · next hboth =>
    rw [Bool.and_eq_true] at hboth
    split at h <;> cases h
    · exact ⟨by decide, hok 1 hboth.2⟩
    · exact ⟨by decide, hok 0 hboth.1⟩
  · split at h
    · next h0 =>
      cases h
      exact ⟨by decide, hok 0 h0⟩
    · split at h
      · next h1 =>
        cases h
        exact ⟨by decide, hok 1 h1⟩
      · cases h

theorem nextCandidate_isNone (s : State) : (nextCandidate s).isNone = true ↔ ¬ Startable s 0 ∧ ¬ Startable s 1 := by
  have hok : ∀ k, Startable s k ↔ (!s.pwc.tried.contains k && decide (bankState s k = .active ∨ bankState s k = .armed)) = true :=
    fun k => by simp [Startable]
  rw [hok 0, hok 1]
  unfold nextCandidate
  dsimp only
  split
  · next h =>
    rw [Bool.and_eq_true] at h
    exact iff_of_false (by split <;> simp) fun hn => hn.1 h.1
  · split
    · next h0 => exact iff_of_false (by simp) fun hn => hn.1 h0
    · next h0 =>
      split
      · next h1 => exact iff_of_false (by simp) fun hn => hn.2 h1
      · next h1 => exact iff_of_true rfl ⟨h0, h1⟩

theorem startGoesOn_ships {s : State} (h0 : ¬ Startable s 0) (h1 : ¬ Startable s 1) : startGoesOn s = startShipping s :=
  if_pos ((nextCandidate_isNone s).mpr ⟨h0, h1⟩)

theorem startGoesOn_waits {s : State} (h : Startable s 0 ∨ Startable s 1) : startGoesOn s = s :=
  if_neg fun hn => by
    obtain ⟨h0, h1⟩ := (nextCandidate_isNone s).mp hn
    exact h.elim h0 h1

theorem startGoesOn_areas (s : State) : ((startGoesOn s).sto.areas, eccMet (startGoesOn s)) = (s.sto.areas, eccMet s) := by
  unfold startGoesOn
  split
  · exact startShipping_areas s
  · rfl

/-! ### Images that their hosts held back -/

theorem startRefuse_rest (r : RefuseReg) (seq : Nat) (s : State) : (startRefuse r seq s).sto = s.sto ∧
    (startRefuse r seq s).sec.keys = s.sec.keys ∧ (startRefuse r seq s).sec.lifecycle = s.sec.lifecycle := ⟨rfl, rfl, rfl⟩

/-- A held image is dropped, STORE shown (R38). -/
def heldDropped (s : State) (k : Nat) : State := startRefuse (plainRefusal 0x1D true) 0 (emptyBank k s)

theorem heldDropped_all_rest (l : List Nat) (s : State) :
    let t := l.foldl heldDropped s
    t.str = s.str ∧ t.sto = s.sto ∧ t.sec.keys = s.sec.keys ∧ t.sec.lifecycle = s.sec.lifecycle ∧ t.pwc.start = s.pwc.start ∧
      t.pwc.tried = s.pwc.tried := by
  refine List.foldlRecOn (motive := fun t : State => t.str = s.str ∧ t.sto = s.sto ∧ t.sec.keys = s.sec.keys ∧
    t.sec.lifecycle = s.sec.lifecycle ∧ t.pwc.start = s.pwc.start ∧ t.pwc.tried = s.pwc.tried) l _ ⟨rfl, rfl, rfl, rfl, rfl, rfl⟩
    fun t ht _ _ => ht

theorem heldDropped_bankState (k j : Nat) (s : State) (hj : j < 2) :
    bankState (heldDropped s k) j = if j = k then .empty else bankState s j := by
  by_cases h : j = k
  · subst h
    rw [if_pos rfl]
    exact bankState_emptied (s := s) hj rfl
  · rw [if_neg h]
    exact congrArg Bank.state (vget_vmod_ne s.img.banks k j _ Bank.empty h)

theorem heldDropped_all_bankState (l : List Nat) (j : Nat) (s : State) (hj : j < 2) :
    bankState (l.foldl heldDropped s) j = if j ∈ l then .empty else bankState s j := by
  induction l generalizing s with
  | nil => rfl
  | cons k l ih =>
    rw [List.foldl_cons, ih, heldDropped_bankState k j s hj]
    by_cases hl : j ∈ l
    · simp [hl]
    · by_cases hk : j = k <;> simp [hl, hk]

theorem heldDropped_all_refuse (l : List Nat) (s : State) (h : l ≠ []) : (l.foldl heldDropped s).img.refuse = plainRefusal 0x1D true := by
  have hstays : ∀ (l : List Nat) (t : State), t.img.refuse = plainRefusal 0x1D true →
      (l.foldl heldDropped t).img.refuse = plainRefusal 0x1D true := fun l t ht =>
    List.foldlRecOn (motive := fun t : State => t.img.refuse = plainRefusal 0x1D true) l _ ht fun _ _ _ _ => rfl
  obtain ⟨k, l, rfl⟩ := List.exists_cons_of_ne_nil h
  exact hstays l (heldDropped s k) rfl

/-! ### START_SEQUENCE -/

/-- Steps 0 to 3: what is recovered, no candidate tried yet. -/
def startOpened (i : StartIn) (s : State) : State :=
  setPwc (fun p => { p with
    start := .candidates, tried := []
    wasActive := (List.range 2).find? fun k => decide (bankState s k = .active) }) (startRecover i s)

/-- The banks that hold an ARMED image with HELD mark. -/
def heldBanks (s : State) : List Nat :=
  (List.range 2).filter fun k => decide (bankState s k = .armed) && (vget s.img.banks k Bank.empty).held

theorem mem_heldBanks (s : State) (k : Nat) (hk : k < 2) :
    k ∈ heldBanks s ↔ bankState s k = .armed ∧ (vget s.img.banks k Bank.empty).held = true := by
  simp [heldBanks, hk]

/-- The factory data verify, and slot 0 holds the device key (R38). -/
def FactoryGood (i : StartIn) (s : State) : Prop := i.factoryOk = true ∧ s.sto.factoryOk = true ∧ (slotKey s 0).isSome = true

theorem startSequence_bad {i : StartIn} {s : State} (hstart : s.pwc.start = .released) (hpf : s.pwc.pf = .none) (h : ¬ FactoryGood i s) :
    startSequence i s = startShipping (startRefuse (plainRefusal 0x1E true) 0 (startOpened i s)) := by
  have hgo : ¬ (s.pwc.start ≠ .released ∨ s.pwc.pf ≠ .none) := by simp [hstart, hpf]
  have hbad : (!(i.factoryOk && s.sto.factoryOk && (slotKey s 0).isSome)) = true := by
    simpa [FactoryGood, imp_iff_not_or, or_assoc] using h
  rw [startSequence, if_neg hgo]
  simp only [hbad, if_true]
  rfl

theorem startSequence_good {i : StartIn} {s : State} (hstart : s.pwc.start = .released) (hpf : s.pwc.pf = .none) (h : FactoryGood i s) :
    startSequence i s = startGoesOn ((heldBanks s).foldl heldDropped (startOpened i s)) := by
  have hgo : ¬ (s.pwc.start ≠ .released ∨ s.pwc.pf ≠ .none) := by simp [hstart, hpf]
  obtain ⟨h1, h2, h3⟩ := h
  rw [startSequence, if_neg hgo]
  simp only [h1, h2, h3, Bool.and_self, Bool.not_true, Bool.false_eq_true, if_false]
  rfl

/-- What every start keeps and counts, whatever follows. -/
theorem startSequence_kept (i : StartIn) (s : State) (hstart : s.pwc.start = .released) (hpf : s.pwc.pf = .none) :
    eccMet (startSequence i s) = (i.corrected, i.uncorr.length) ∧ (startSequence i s).sec.keys = s.sec.keys ∧
      (startSequence i s).sec.lifecycle = s.sec.lifecycle ∧ (startSequence i s).sto.areas = s.sto.areas := by
  have hopen : durable (startOpened i s) = durable s := startRecover_durable i s
  have hecc : eccMet (startOpened i s) = (i.corrected, i.uncorr.length) := startRecover_eccMet i s
  have hkeys : (startOpened i s).sec.keys = s.sec.keys := congrArg (·.2.2.1.1) hopen
  have hlife : (startOpened i s).sec.lifecycle = s.sec.lifecycle := congrArg (·.2.2.1.2) hopen
  have hareas : (startOpened i s).sto.areas = s.sto.areas := congrArg (·.2.2.2) hopen
  by_cases hgood : FactoryGood i s
  · rw [startSequence_good hstart hpf hgood]
    obtain ⟨-, hsto, hk, hl, -, -⟩ := heldDropped_all_rest (heldBanks s) (startOpened i s)
    obtain ⟨ha, he⟩ := Prod.mk.inj (startGoesOn_areas ((heldBanks s).foldl heldDropped (startOpened i s)))
    rw [startGoesOn_sec, ha, he, eccMet, hsto, hk, hl]
    exact ⟨hecc, hkeys, hlife, hareas⟩
  · rw [startSequence_bad hstart hpf hgood]
    obtain ⟨ha, he⟩ := Prod.mk.inj (startShipping_areas (startRefuse (plainRefusal 0x1E true) 0 (startOpened i s)))
    have hsec : (startShipping (startRefuse (plainRefusal 0x1E true) 0 (startOpened i s))).sec =
        (startRefuse (plainRefusal 0x1E true) 0 (startOpened i s)).sec := congrArg Prod.fst (startShipping_loaderPart _)
    obtain ⟨hsto, hk, hl⟩ := startRefuse_rest (plainRefusal 0x1E true) 0 (startOpened i s)
    rw [hsec, ha, he, eccMet, hsto, hk, hl]
    exact ⟨hecc, hkeys, hlife, hareas⟩

end Sys2Proof.Proofs
end

section
/-! PROOFS. A start's candidate that passes is applied, and O44 (R50, R58, R60, R360, R423). -/

namespace Sys2Proof.Proofs

open Sys2Proof Sys2Proof.Machine Sys2Proof.Safety Sys2Proof.Laws

/-! ### Restored values -/

@[simp] theorem restoreSafety_core (r : CommitRec) (s : State) : (steady (restoreSafety r s)).core = (steady s).core := rfl

@[simp] theorem restoreGauge_core (r : CommitBody) (g : Bool) (s : State) : (steady (restoreGauge r g s)).core = (steady s).core := by
  unfold restoreGauge
  dsimp only
  split <;> rfl

@[simp] theorem restoreVolume_core (r : CommitBody) (s : State) : (steady (restoreVolume r s)).core = (steady s).core :=
  foldl_steady Steady.core _ _ (fun a p => by dsimp only; split <;> rfl) s

@[simp] theorem restoreEnergy_core (r : CommitBody) (s : State) : (steady (restoreEnergy r s)).core = (steady s).core := rfl

@[simp] theorem restoreAll_core (s : State) : (steady (restoreAll s)).core = (steady s).core := by
  unfold restoreAll
  split
  · rfl
  · simp

/-! ### The stages of step 8 -/

/-- The image that is chosen. -/
def chosenImage (i : Nat) (s : State) : Image := bankImage (vget s.img.banks i Bank.empty)

/-- The image whose areas and memories the chosen one takes over. -/
def chosenOld (i : Nat) (s : State) : Option Image :=
  if (vget s.img.banks i Bank.empty).apply then replacedBy s i else some (chosenImage i s)

/-- The structure's data with the restored values, cleared where a completed activation asks for it (R58, R59, R393). -/
def startRestored (i : Nat) (s : State) : State :=
  let b := vget s.img.banks i Bank.empty
  let old := chosenOld i s
  let s1 := applyData false old (chosenImage i s) s
  let s3 := restoreAll { s1 with cfgR := s1.cfg, sto := { s1.sto with
    areas := if b.apply then clearAreas old (chosenImage i s) s1.sto.areas else s1.sto.areas, periodAt := s.aon } }
  if b.apply then (if (chosenImage i s).accClear then accClear (volSwap old (chosenImage i s) s3) else volSwap old (chosenImage i s) s3) else s3

/-- The structure is served. -/
def startServed (i : Nat) (s : State) : State :=
  setPwc (fun p => { p with
    start := .served, shipping := false, startT8 := min 65535 (((s.aon - p.startAt) * 10000 + 16384) / 32768), toData := p.vmainOk })
    (switchTiles (chosenOld i s) (chosenImage i s) (gatesStart false (startRestored i s)))

/-- DEVICE_START, the recovery events and the refusals are queued (R386, R393, R423). -/
def startReported (i : Nat) (s : State) : State :=
  let p := (startServed i s).pwc
  let ev : Ev := { code := 0x0E01, sev := 1, who := 31, w4 := w32 (p.resetCause + 256 * b2n p.afterPf), w5 := w32 p.downMs,
                   w6 := w32 p.startT8, w7 := w32 (chosenImage i s).seq }
  emitAll (p.startRefusals.map fun r => refusedEv r.1 r.2) (reportUnclosed (emitAll (ev :: p.startEvents) (startServed i s)))

/-- A completed activation takes its step 6 (R49). -/
def startFinished (i : Nat) (s : State) : State :=
  if (vget s.img.banks i Bank.empty).apply then finishSwitch (startReported i s) else startReported i s

/-- The units start in the mode that the supply allows. -/
def startRuns (i : Nat) (s : State) : State :=
  setPwc (fun p => { p with mode := if p.vmainOk then .meter else .idle, clk := { p.clk with saf := p.vmainOk } })
    (applyUnits false none (chosenImage i s) s
      (startEntry (setPwc (fun p => { p with startEvents := [], startRefusals := [] }) (startFinished i s))))

theorem startApply_eq (i : Nat) (s : State) :
    startApply i s = if (startRuns i s).pwc.vmainOk then hfxStart (startRuns i s) else wake (startRuns i s) := by
  unfold startApply startRuns startFinished startReported startServed startRestored chosenOld chosenImage
  dsimp only

/-! ### What each stage sets -/

/-- Structure, registers and ports of the chosen image. -/
def chosenFrame (i : Nat) (s : State) : Option Image × List (Nat × Word) × Vector PortSt 3 × Cycle × Nat :=
  (steady (applyData false (chosenOld i s) (chosenImage i s) s)).frame

theorem chosenFrame_str (i : Nat) (s : State) : (chosenFrame i s).1 = some (chosenImage i s) := rfl
theorem chosenFrame_port (i : Nat) (s : State) :
    (chosenFrame i s).2.2.1 = vmap s.port fun p x => rebind (boundTo (some (chosenImage i s)) p) x := rfl

theorem startRestored_core (i : Nat) (s : State) :
    (steady (startRestored i s)).core = (chosenFrame i s, (steady s).power, (steady s).loader, (steady s).causes) := by
  have hkept : ∀ (t : State) (c : List (Nat × Word)) (x : Sto), (steady { t with cfgR := c, sto := x }).core = (steady t).core :=
    fun _ _ _ => rfl
  have hdata : (steady (applyData false (chosenOld i s) (chosenImage i s) s)).core =
      (chosenFrame i s, (steady s).power, (steady s).loader, (steady s).causes) := rfl
  rw [← hdata]
  unfold startRestored
  dsimp only
  split
  · split
    · rw [accClear_core, volSwap_core, restoreAll_core, hkept]
    · rw [volSwap_core, restoreAll_core, hkept]
  · rw [restoreAll_core, hkept]

theorem startServed_core (i : Nat) (s : State) : (steady (startServed i s)).core =
    (chosenFrame i s, (s.pwc.rtc, .served, false), (steady s).loader, (steady s).causes) := by
  have hgates : steady (switchTiles (chosenOld i s) (chosenImage i s) (gatesStart false (startRestored i s))) = steady (startRestored i s) := by
    simp
  obtain ⟨hframe, hpower, hloader, hcauses⟩ := parts_of_core ((core_of_steady hgates).trans (startRestored_core i s))
  have hserved : ∀ (f : Pwc → Pwc) (t : State), (steady (setPwc f t)).core =
      ((steady t).frame, ((f t.pwc).rtc, (f t.pwc).start, (f t.pwc).shipping), (steady t).loader, (steady t).causes) := fun _ _ => rfl
  rw [startServed, hserved, hframe, hloader, hcauses]
  exact congrArg (fun r => (chosenFrame i s, (r, StartPhase.served, false), (steady s).loader, (steady s).causes)) (congrArg Prod.fst hpower)

theorem startReported_steady (i : Nat) (s : State) : steady (startReported i s) = steady (startServed i s) := by simp [startReported]

/-- The loader once a start has applied a bank. -/
def chosenLoader (i : Nat) (s : State) : Img × Sec :=
  if (vget s.img.banks i Bank.empty).apply then (loaderDone s.img, { s.sec with owed := [] }) else (s.img, s.sec)

theorem startFinished_core (i : Nat) (s : State) : (steady (startFinished i s)).core =
    (chosenFrame i s, (s.pwc.rtc, .served, false), chosenLoader i s, (steady s).causes) := by
  have hrep := (core_of_steady (startReported_steady i s)).trans (startServed_core i s)
  unfold startFinished chosenLoader
  split
  · obtain ⟨hf, hp, hl, hc⟩ := parts_of_core hrep
    have himg : (startReported i s).img = s.img := congrArg Prod.fst hl
    have hsec : (startReported i s).sec = s.sec := congrArg Prod.snd hl
    rw [finishSwitch_steady, himg, hsec]
    rw [core_mk, hf, hp, hc]
  · exact hrep

/-- The device enters the safe state with cause START (R360). -/
theorem startEntry_steady (s : State) : steady (startEntry s) =
    { steady s with causes := (true, 2 ^ 24 + (if anyFn s then 0 else 2 ^ 27)) } := by
  simp [startEntry, setSaf]

theorem startCause_bit (b : Bool) : nbit (2 ^ 24 + (if b then 0 else 2 ^ 27)) 24 = true := by
  cases b <;> decide

theorem startEventsTaken_steady (s : State) : steady (setPwc (fun p => { p with startEvents := [], startRefusals := [] }) s) = steady s := rfl

theorem startMode_steady (s : State) :
    steady (setPwc (fun p => { p with mode := if p.vmainOk then .meter else .idle, clk := { p.clk with saf := p.vmainOk } }) s) = steady s := rfl

/-- What stands in the steady parts once a start has applied bank i. -/
theorem startApply_core (i : Nat) (s : State) : ∃ b : Bool, (steady (startApply i s)).core =
    (chosenFrame i s, (s.pwc.rtc, .served, false), chosenLoader i s, true, 2 ^ 24 + (if b then 0 else 2 ^ 27)) := by
  obtain ⟨hf, hp, hl, -⟩ := parts_of_core (startFinished_core i s)
  refine ⟨anyFn (setPwc (fun p => { p with startEvents := [], startRefusals := [] }) (startFinished i s)), ?_⟩
  have hruns : (steady (startRuns i s)).core = (chosenFrame i s, (s.pwc.rtc, .served, false), chosenLoader i s, true,
      2 ^ 24 + (if anyFn (setPwc (fun p => { p with startEvents := [], startRefusals := [] }) (startFinished i s)) then 0 else 2 ^ 27)) := by
    rw [startRuns, startMode_steady, applyUnits_core, startEntry_steady, core_mk, startEventsTaken_steady, hf, hp, hl]
  rw [startApply_eq]
  split
  · rw [hfxStart_steady]
    exact hruns
  · rw [wake_steady]
    exact hruns

end Sys2Proof.Proofs
end

section
/-! PROOFS. The start's sequence as a whole: O44 (R38, R50, R60, R360, R423). -/

namespace Sys2Proof.Proofs

open Sys2Proof Sys2Proof.Machine Sys2Proof.Safety Sys2Proof.Laws

/-! ### START_SEQUENCE -/

/-- Bank k is a candidate of a start: ACTIVE, or ARMED without HELD mark (R50). -/
def Candidate (s : State) (k : Nat) : Prop :=
  bankState s k = .active ∨ (bankState s k = .armed ∧ (vget s.img.banks k Bank.empty).held = false)

theorem startOpened_img (i : StartIn) (s : State) : (startOpened i s).img = s.img :=
  congrArg (·.2.1) (startRecover_durable i s)

theorem startOpened_str (i : StartIn) (s : State) : (startOpened i s).str = s.str :=
  congrArg Prod.fst (startRecover_durable i s)

theorem bankState_of_img {s t : State} (h : t.img = s.img) (k : Nat) : bankState t k = bankState s k := by
  rw [bankState, bankState, h]

/-- A start's state once the held images are dropped. -/
theorem heldsDropped_bankState (i : StartIn) (s : State) (k : Nat) (hk : k < 2) :
    bankState ((heldBanks s).foldl heldDropped (startOpened i s)) k = if k ∈ heldBanks s then .empty else bankState s k := by
  rw [heldDropped_all_bankState _ k _ hk, bankState_of_img (startOpened_img i s)]

theorem heldsDropped_startable (i : StartIn) (s : State) (k : Nat) (hk : k < 2) :
    Startable ((heldBanks s).foldl heldDropped (startOpened i s)) k ↔ Candidate s k := by
  obtain ⟨-, -, -, -, -, htried⟩ := heldDropped_all_rest (heldBanks s) (startOpened i s)
  have hnone : k ∉ ((heldBanks s).foldl heldDropped (startOpened i s)).pwc.tried := by
    rw [htried]
    exact List.not_mem_nil
  rw [Startable, heldsDropped_bankState i s k hk, Candidate]
  by_cases hheld : k ∈ heldBanks s
  · obtain ⟨harmed, hmark⟩ := (mem_heldBanks s k hk).mp hheld
    simp [hheld, harmed, hmark]
  · have hmark : bankState s k = .armed → (vget s.img.banks k Bank.empty).held = false := fun harmed => by
      simpa [mem_heldBanks s k hk, harmed] using hheld
    rw [if_neg hheld]
    exact ⟨fun h => h.2.imp_right fun ha => ⟨ha, hmark ha⟩, fun h => ⟨hnone, h.imp_right And.left⟩⟩

theorem startRefuse_img (r : RefuseReg) (seq : Nat) (s : State) : (startRefuse r seq s).img = { s.img with refuse := r } := rfl

theorem startSequence_refusesFactory {i : StartIn} {s : State} (hstart : s.pwc.start = .released) (hpf : s.pwc.pf = .none)
    (h : ¬ FactoryGood i s) : Ships (startSequence i s) ∧ (startSequence i s).img.refuse = plainRefusal 0x1E true ∧
      (startSequence i s).img.banks = s.img.banks := by
  rw [startSequence_bad hstart hpf h, startShipping_img, startRefuse_img, startOpened_img]
  exact ⟨startShipping_ships _, rfl, rfl⟩

theorem startSequence_ships {i : StartIn} {s : State} (hstart : s.pwc.start = .released) (hpf : s.pwc.pf = .none)
    (h : FactoryGood i s) (h0 : ¬ Candidate s 0) (h1 : ¬ Candidate s 1) : Ships (startSequence i s) := by
  rw [← heldsDropped_startable i s _ (by decide)] at h0 h1
  rw [startSequence_good hstart hpf h, startGoesOn_ships h0 h1]
  exact startShipping_ships _

theorem startSequence_candidates {i : StartIn} {s : State} (hstart : s.pwc.start = .released) (hpf : s.pwc.pf = .none)
    (h : FactoryGood i s) (hc : Candidate s 0 ∨ Candidate s 1) :
    (startSequence i s).pwc.start = .candidates ∧ (startSequence i s).str = s.str := by
  rw [← heldsDropped_startable i s 0 (by decide), ← heldsDropped_startable i s 1 (by decide)] at hc
  obtain ⟨hstr, -, -, -, hphase, -⟩ := heldDropped_all_rest (heldBanks s) (startOpened i s)
  rw [startSequence_good hstart hpf h, startGoesOn_waits hc, hphase, hstr, startOpened_str]
  exact ⟨rfl, rfl⟩

theorem startSequence_bankState {i : StartIn} {s : State} (hstart : s.pwc.start = .released) (hpf : s.pwc.pf = .none)
    (h : FactoryGood i s) (k : Nat) (hk : k < 2) :
    bankState (startSequence i s) k = if k ∈ heldBanks s then .empty else bankState s k := by
  rw [startSequence_good hstart hpf h, bankState_of_img (startGoesOn_img _), heldsDropped_bankState i s k hk]

theorem startSequence_refusesHeld {i : StartIn} {s : State} (hstart : s.pwc.start = .released) (hpf : s.pwc.pf = .none)
    (h : FactoryGood i s) (hne : heldBanks s ≠ []) : (startSequence i s).img.refuse = plainRefusal 0x1D true := by
  rw [startSequence_good hstart hpf h, startGoesOn_img]
  exact heldDropped_all_refuse _ _ hne

/-! ### A candidate -/

/-- The candidate has been tried. -/
def candidateTried (i : Nat) (s : State) : State := setPwc (fun p => { p with tried := p.tried ++ [i] }) s

/-- A start's verification of bank i (R50, Table 1-13). -/
def startCtx (i : Nat) (s : State) : VerCtx :=
  ⟨true, none, imageOf s s.pwc.wasActive, decide (s.pwc.wasActive = some i), s.pwc.wasActive.isNone⟩

section
variable {i : Nat} {s : State} (hstart : s.pwc.start = .candidates) (hpf : s.pwc.pf = .none) (hstep : s.img.step = .none)
  (hnext : nextCandidate s = some i)
include hstart hpf hstep hnext

theorem candidateVerified_refused {r : RefuseReg} (hv : verify s (startCtx i s) (vget s.img.banks i Bank.empty) = some r) :
    ∃ seq, candidateVerified s = candidateFails i r seq (candidateTried i s) := by
  have hgo : ¬ (s.pwc.start ≠ .candidates ∨ s.pwc.pf ≠ .none ∨ s.img.step ≠ .none) := by simp [hstart, hpf, hstep]
  refine ⟨seqKnown (vget s.img.banks i Bank.empty) (some r), ?_⟩
  rw [startCtx] at hv
  rw [candidateVerified, if_neg hgo]
  simp only [hnext, hv]
  rfl

theorem candidateVerified_passes (hv : verify s (startCtx i s) (vget s.img.banks i Bank.empty) = none) :
    candidateVerified s = if bankState s i = .armed ∧ slotsToProgram s (chosenImage i s) ≠ [] then
      setImg (fun m => { m with step := .slots }) (candidateTried i s) else startChosen i (candidateTried i s) := by
  have hgo : ¬ (s.pwc.start ≠ .candidates ∨ s.pwc.pf ≠ .none ∨ s.img.step ≠ .none) := by simp [hstart, hpf, hstep]
  rw [startCtx] at hv
  rw [candidateVerified, if_neg hgo]
  simp only [hnext, hv]
  refine if_congr ?_ rfl rfl
  rw [Bool.and_eq_true, decide_eq_true_eq, Bool.not_eq_true', List.isEmpty_eq_false_iff]
  rfl

end

theorem other_ne {i : Nat} (hi : i < 2) : 1 - i ≠ i := by omega

theorem candidateFails_ships (i : Nat) (r : RefuseReg) (seq : Nat) (s : State) (hi : i < 2)
    (h : 1 - i ∈ s.pwc.tried ∨ (bankState s (1 - i) ≠ .active ∧ bankState s (1 - i) ≠ .armed)) :
    Ships (candidateFails i r seq (candidateTried i s)) := by
  have hmine : ¬ Startable (startRefuse r seq (emptyBank i (candidateTried i s))) i := fun hs =>
    hs.1 (List.mem_append_right s.pwc.tried (List.mem_singleton_self i))
  have hbank : bankState (startRefuse r seq (emptyBank i (candidateTried i s))) (1 - i) = bankState s (1 - i) :=
    congrArg Bank.state (vget_vmod_ne s.img.banks i (1 - i) _ Bank.empty (other_ne hi))
  have hother : ¬ Startable (startRefuse r seq (emptyBank i (candidateTried i s))) (1 - i) := fun hs => by
    obtain ⟨htried, hstate⟩ := hs
    rw [hbank] at hstate
    rcases h with h | ⟨hna, hnr⟩
    · exact htried (List.mem_append_left [i] h)
    · exact hstate.elim hna hnr
  have hnone : ∀ k, k < 2 → ¬ Startable (startRefuse r seq (emptyBank i (candidateTried i s))) k := fun k hk => by
    have hk' : k = i ∨ k = 1 - i := by omega
    rcases hk' with rfl | rfl
    · exact hmine
    · exact hother
  rw [candidateFails, startGoesOn_ships (hnone 0 (by decide)) (hnone 1 (by decide))]
  exact startShipping_ships _

/-! ### The chosen candidate -/

/-- The state in which a chosen candidate's structure is applied: an ARMED one has been activated (R49). -/
def chosenState (i : Nat) (s : State) : State :=
  if bankState s i = .armed then activateBank i (imageOf s s.pwc.wasActive) (chosenImage i s) s
  else setImg (fun m => { m with
    banks := vmap m.banks fun j b => if j ≠ i ∧ b.state = .active then { b with state := .armed } else b }) s

theorem startChosen_eq (i : Nat) (s : State) : startChosen i s = startApply i (chosenState i s) := by
  unfold startChosen chosenState
  split <;> rfl

/-- The chosen bank is ACTIVE with its image, the other is not, and no key has changed. -/
theorem chosenState_banks (i : Nat) (s : State) (hi : i < 2) (h : bankState s i = .active ∨ bankState s i = .armed) :
    bankState (chosenState i s) i = .active ∧ bankState (chosenState i s) (1 - i) ≠ .active ∧
      chosenImage i (chosenState i s) = chosenImage i s ∧ (chosenState i s).sec.keys = s.sec.keys := by
  have hother : 1 - i < 2 := by omega
  have hne := other_ne hi
  unfold chosenState
  split
  · simp only [bankState, chosenImage, activateBank, setSec, setImg, bankImage, vget_vmap s.img.banks _ _ Bank.empty Bank.empty hi,
      vget_vmap s.img.banks _ _ Bank.empty Bank.empty hother, if_neg hne, if_true, securityStep]
    refine ⟨trivial, ?_, trivial, trivial⟩
    split
    · simp
    · assumption
  · next harmed =>
    have hactive : (vget s.img.banks i Bank.empty).state = .active := h.resolve_right harmed
    simp only [bankState, chosenImage, setImg, bankImage, vget_vmap s.img.banks _ _ Bank.empty Bank.empty hi,
      vget_vmap s.img.banks _ _ Bank.empty Bank.empty hother, hne, ne_eq, not_true_eq_false, not_false_eq_true, false_and, true_and,
      if_false]
    refine ⟨hactive, ?_, trivial⟩
    split
    · simp
    · assumption

/-- A bank keeps its state and a key slot its key when the start ends the switch. -/
theorem chosenLoader_keeps (i : Nat) (s : State) :
    (∀ k, k < 2 → (vget (chosenLoader i s).1.banks k Bank.empty).state = bankState s k) ∧ (chosenLoader i s).2.keys = s.sec.keys := by
  unfold chosenLoader
  split
  · refine ⟨fun k hk => ?_, rfl⟩
    dsimp only [loaderDone]
    rw [vget_vmap s.img.banks _ k Bank.empty Bank.empty hk]
    rfl
  · exact ⟨fun _ _ => rfl, rfl⟩

/-- A chosen candidate runs: its image is the structure, its ports are bound, and START holds the device safe (R50, R360). -/
theorem startChosen_runs (i : Nat) (s : State) (hi : i < 2) (h : bankState s i = .active ∨ bankState s i = .armed) :
    let t := startChosen i s
    t.str = some (chosenImage i s) ∧ t.pwc.start = .served ∧ t.pwc.shipping = false ∧ bankState t i = .active ∧
      bankState t (1 - i) ≠ .active ∧ (∀ p, p < 3 → (port t p).facet = boundTo (some (chosenImage i s)) p) ∧
      t.saf.safe = true ∧ nbit t.saf.cause 24 = true ∧ t.sec.keys = s.sec.keys := by
  obtain ⟨hactive, hother, himage, hkeys⟩ := chosenState_banks i s hi h
  obtain ⟨b, hcore⟩ := startApply_core i (chosenState i s)
  obtain ⟨hframe, hpower, hloader, hcauses⟩ := parts_of_core hcore
  rw [startChosen_eq]
  generalize startApply i (chosenState i s) = t at hframe hpower hloader hcauses
  generalize chosenState i s = c at hactive hother himage hkeys hframe hpower hloader
  obtain ⟨hbanks, hslots⟩ := chosenLoader_keeps i c
  have himg : t.img = (chosenLoader i c).1 := congrArg Prod.fst hloader
  have hsec : t.sec = (chosenLoader i c).2 := congrArg Prod.snd hloader
  have hstate : ∀ k, k < 2 → bankState t k = bankState c k := fun k hk => by rw [bankState, himg, hbanks k hk]
  have hports : t.port = vmap c.port fun p x => rebind (boundTo (some (chosenImage i c)) p) x :=
    (congrArg (·.2.2.1) hframe).trans (chosenFrame_port i c)
  have hcause : t.saf.cause = 2 ^ 24 + (if b then 0 else 2 ^ 27) := congrArg Prod.snd hcauses
  refine ⟨(congrArg Prod.fst hframe).trans ((chosenFrame_str i c).trans (congrArg some himage)), congrArg (·.2.1) hpower,
    congrArg (·.2.2) hpower, (hstate i hi).trans hactive, ?_, fun p hp => ?_, congrArg Prod.fst hcauses, ?_, ?_⟩
  · rw [hstate (1 - i) (by omega)]
    exact hother
  · rw [port, hports, vget_vmap c.port _ p PortSt.zero PortSt.zero hp, rebind_facet, himage]
  · rw [hcause]
    exact startCause_bit b
  · rw [hsec, hslots, hkeys]

/-- Settles O44: what a start recovers, and what becomes of each candidate. -/
theorem startsRunTheirSequence : Obligations.StartsRunTheirSequence := by
  refine ⟨fun i s hstart hpf => ⟨_, rfl, ?opens⟩, fun i s hstart => ?elsewhere, fun i r s hstart hpf hstep hnext hv => ⟨_, rfl, ?refused⟩,
    fun i s hstart hpf hstep hnext hv => ⟨_, rfl, ?passes⟩⟩
  case opens =>
    obtain ⟨hecc, hkeys, hlife, hareas⟩ := startSequence_kept i s hstart hpf
    obtain ⟨hcorr, huncorr⟩ := Prod.mk.inj hecc
    refine ⟨hcorr, huncorr, hkeys, hlife, hareas, fun h => startSequence_refusesFactory hstart hpf h,
      fun h h0 h1 => startSequence_ships hstart hpf h h0 h1, fun h hc => startSequence_candidates hstart hpf h hc,
      fun h k hk harmed hheld => ?_, fun h k hk hnot => ?_⟩
    · have hmem := (mem_heldBanks s k hk).mpr ⟨harmed, hheld⟩
      exact ⟨(startSequence_bankState hstart hpf h k hk).trans (if_pos hmem),
        startSequence_refusesHeld hstart hpf h (List.ne_nil_of_mem hmem)⟩
    · exact (startSequence_bankState hstart hpf h k hk).trans (if_neg fun hmem => hnot ((mem_heldBanks s k hk).mp hmem))
  case elsewhere => exact congrArg _ (if_pos (Or.inl hstart))
  case refused =>
    obtain ⟨hi, -⟩ := nextCandidate_some hnext
    obtain ⟨seq, hfails⟩ := candidateVerified_refused hstart hpf hstep hnext hv
    rw [hfails]
    have himg := candidateFails_img i r seq (candidateTried i s)
    have hsec := candidateFails_sec i r seq (candidateTried i s)
    refine ⟨bankState_emptied (s := s) hi (congrArg Img.banks himg), ?_, by rw [himg], by rw [hsec]; rfl, by rw [hsec]; rfl,
      by rw [hsec]; rfl, candidateFails_ships i r seq s hi⟩
    rw [bankState, himg]
    exact congrArg Bank.state (vget_vmod_ne s.img.banks i (1 - i) _ Bank.empty (other_ne hi))
  case passes =>
    obtain ⟨hi, -, hstate⟩ := nextCandidate_some hnext
    rw [candidateVerified_passes hstart hpf hstep hnext hv]
    refine ⟨fun harmed hslots => if_pos ⟨harmed, hslots⟩, fun h => ?_⟩
    rw [if_neg fun hboth => ?_]
    · exact startChosen_runs i (candidateTried i s) hi hstate
    · obtain ⟨harmed, hslots⟩ := hboth
      rcases h with h | h
      · rw [h] at harmed
        cases harmed
      · exact hslots h

end Sys2Proof.Proofs
end

section
/-! PROOFS. Shared actuators: what a policy makes of the standing requests (R89, R93). -/

namespace Sys2Proof.Proofs

open Sys2Proof Sys2Proof.Machine Sys2Proof.Safety Sys2Proof.Laws

/-! ### Requests for on and off -/

theorem resolve_unruled (owners : List Nat) (req : Nat → Nat) : resolve none owners req = true ↔ ∃ f ∈ owners, req f = 2 := by
  simp [resolve]

theorem resolve_stopWins {p : PolicyRec} (hp : p.pol = 1) (owners : List Nat) (req : Nat → Nat) :
    resolve (some p) owners req = true ↔ (∀ f ∈ owners, req f ≠ 1) ∧ ∃ f ∈ owners, req f = 2 := by
  simp [resolve, hp]

theorem resolve_priority {p : PolicyRec} (hp : p.pol ≠ 1) (owners : List Nat) (req : Nat → Nat) :
    resolve (some p) owners req = true ↔
      ∃ f, ((orderList p.order).find? fun g => owners.contains g && decide (req g ≠ 0)) = some f ∧ req f = 2 := by
  simp only [resolve, hp, if_false]
  cases (orderList p.order).find? fun g => owners.contains g && decide (req g ≠ 0) with
  | none => simp
  | some f => simp

/-- The policy result is on exactly as the actuator's policy says. -/
theorem resolve_iff (q : Option PolicyRec) (owners : List Nat) (req : Nat → Nat) : resolve q owners req = true ↔
    (∀ p, q = some p → p.pol = 1 → ((∀ f ∈ owners, req f ≠ 1) ∧ ∃ f ∈ owners, req f = 2)) ∧
    (∀ p, q = some p → p.pol ≠ 1 → ∃ f, ((orderList p.order).find? fun g => owners.contains g && decide (req g ≠ 0)) = some f ∧
      req f = 2) ∧
    (q = none → ∃ f ∈ owners, req f = 2) := by
  cases q with
  | none => simp [resolve_unruled]
  | some p =>
    by_cases hp : p.pol = 1
    · simp [resolve_stopWins hp, hp]
    · simp [resolve_priority hp, hp]

/-! ### Levels -/

theorem leastLevel_eq (l : List Nat) : leastLevel l = l.min?.getD 0x80 := by
  cases l with
  | nil => rfl
  | cons x xs => rfl

theorem leastLevel_le {l : List Nat} {x : Nat} (h : x ∈ l) : leastLevel l ≤ x := by
  obtain ⟨m, hm⟩ := Option.isSome_iff_exists.mp (List.isSome_min?_of_mem h)
  rw [leastLevel_eq, hm]
  exact (List.min?_eq_some_iff.mp hm).2 x h

theorem leastLevel_mem {l : List Nat} (h : l ≠ []) : leastLevel l ∈ l := by
  obtain ⟨x, hx⟩ := List.exists_mem_of_ne_nil l h
  obtain ⟨m, hm⟩ := Option.isSome_iff_exists.mp (List.isSome_min?_of_mem hx)
  rw [leastLevel_eq, hm]
  exact (List.min?_eq_some_iff.mp hm).1

/-- The owners of the display's brightness whose level is valid. -/
def brightOwners (s : State) : List Nat := (ownersOf s 8 0).filter fun f => (facet s f).brightValid

theorem mem_brightOwners {s : State} {f : Nat} : f ∈ brightOwners s ↔ f ∈ ownersOf s 8 0 ∧ (facet s f).brightValid = true :=
  List.mem_filter

theorem brightLevel_minWins {s : State} {p : PolicyRec} (hp : policyOf s 6 = some p) (h2 : p.pol = 2) :
    brightLevel s = leastLevel ((brightOwners s).map fun f => (facet s f).brightLevel) := by
  simp only [brightLevel, hp, h2, if_true, brightOwners]

/-- Settles O38: each policy by its clause, and MIN-WINS by the least of the valid levels. -/
theorem sharedActuatorsFollowTheirPolicy : Obligations.SharedActuatorsFollowTheirPolicy := by
  refine ⟨fun s n => ?gp, fun s => ?pump, fun s p hp h2 => ?bright⟩
  case gp =>
    rw [gpOn, Bool.and_eq_true, gpResult, resolve_iff, Bool.not_eq_true', ← Bool.not_eq_true, Bool.and_eq_true]
    rfl
  case pump =>
    rw [pumpRun, Bool.and_eq_true, pumpResult, resolve_iff, Bool.not_eq_true']
  case bright =>
    rw [brightLevel_minWins hp h2]
    refine ⟨fun f hf hv => leastLevel_le (List.mem_map.mpr ⟨f, mem_brightOwners.mpr ⟨hf, hv⟩, rfl⟩), ?_⟩
    by_cases hnone : brightOwners s = []
    · refine .inr ⟨fun f hf => Bool.eq_false_iff.mpr fun hv => ?_, by rw [hnone]; rfl⟩
      exact List.ne_nil_of_mem (mem_brightOwners.mpr ⟨hf, hv⟩) hnone
    · have hlevels : (brightOwners s).map (fun f => (facet s f).brightLevel) ≠ [] := mt List.map_eq_nil_iff.mp hnone
      obtain ⟨f, hf, hlevel⟩ := List.mem_map.mp (leastLevel_mem hlevels)
      obtain ⟨hown, hv⟩ := mem_brightOwners.mp hf
      exact .inl ⟨f, hown, hv, hlevel.symm⟩

end Sys2Proof.Proofs
end

section
/-! PROOFS. The commands that clear counters (R83, R201, Table 11-11). -/

namespace Sys2Proof.Proofs

open Sys2Proof Sys2Proof.Machine Sys2Proof.Safety Sys2Proof.Laws

/-! ### The word of a command -/

theorem keyed_of_withKey {v : Word} (h : bits v 15 8 = 0x5A) : keyed v = true := decide_eq_true h

theorem keyed_of_withoutKey {v : Word} (h : bits v 15 8 ≠ 0x5A) : keyed v = false := decide_eq_false h

theorem keyed_fctWord (v : Word) {b : Nat} (h : b < 8) : keyed (fctWord v b) = keyed v :=
  keyed_withCmd v (2 ^ b) (Nat.pow_lt_pow_right (by decide) h)

/-- A command bit of FCT_CTRL stands alone in the word. -/
theorem bit_fctWord (v : Word) {b i : Nat} (hb : b < 8) (hi : i < 8) : bit (fctWord v b) i = decide (b = i) := by
  have hcode : 2 ^ b < 2 ^ 8 := Nat.pow_lt_pow_right (by decide) hb
  rw [bit, ← BitVec.testBit_toNat, fctWord, withCmd_toNat v _ hcode, show (256 : Nat) = 2 ^ 8 from rfl, Nat.mul_comm,
    Nat.testBit_two_pow_mul_add _ hcode, if_pos hi, Nat.testBit_two_pow]

theorem keyed_or_one (v : Word) : keyed (v ||| 1) = keyed v := by
  have hbits : bits (v ||| 1) 15 8 = bits v 15 8 := by
    simp only [bits, BitVec.toNat_or]
    rw [← Nat.shiftRight_eq_div_pow, ← Nat.shiftRight_eq_div_pow, Nat.shiftRight_or_distrib]
    simp
  rw [keyed, keyed, hbits]

theorem bit_or_one (v : Word) : bit (v ||| 1) 0 = true := by simp [bit]

/-! ### What the commands do -/

/-- A word that leaves the state that heard it does nothing. -/
theorem word_idle {f : Facet} {off : Nat} {w : RegWr} {s a b : State} (ha : a = heardWord f off w s) (hb : b = a) :
    b.port = a.port ∧ aside s b = s := by
  rw [hb, ha]
  exact ⟨rfl, aside_heardWord f off w s⟩

/-- CLR_COUNTERS of FCT_CTRL, with its key. -/
theorem wordDone_fctClear (f : Facet) (p : Port) {v : Word} (hk : keyed v = true) (s : State) :
    wordDone f p 0x0018 (fctWord v 1) s = fctClear f.val s := by
  have hkey : keyed (fctWord v 1) = true := (keyed_fctWord v (by decide)).trans hk
  have h0 : bit (fctWord v 1) 0 = false := bit_fctWord v (by decide) (by decide)
  have h1 : bit (fctWord v 1) 1 = true := bit_fctWord v (by decide) (by decide)
  show (if !keyed (fctWord v 1) then s else if bit (fctWord v 1) 0 then facetReset f 1 p.val s
    else if bit (fctWord v 1) 1 then fctClear f s else s) = _
  simp only [hkey, h0, h1, Bool.not_true, Bool.false_eq_true, if_false, if_true]

/-- FCT_CTRL without its key does nothing. -/
theorem wordDone_fctCtrl_unkeyed (f : Facet) (p : Port) {v : Word} (hk : keyed v = false) (s : State) :
    wordDone f p 0x0018 v s = s := by
  show (if !keyed v then s else _) = s
  rw [hk]
  rfl

theorem wordDone_pqCtrl (f : Facet) (p : Port) (v : Word) (s : State) :
    wordDone f p 0x28B0 (v ||| 1) s = if keyed v then pqClear s else s := by
  show (if keyed (v ||| 1) && bit (v ||| 1) 0 then pqClear s else s) = _
  rw [keyed_or_one, bit_or_one, Bool.and_true]

theorem wordDone_dspClear (f : Facet) (p : Port) (v : Word) (s : State) :
    wordDone f p 0x480C (withCmd v 3) s = if keyed v then dspClear s else s := by
  show dspCtrl (withCmd v 3) s = _
  rw [dspCtrl, keyed_withCmd v 3 (by decide), bits_withCmd_code v 3 (by decide)]
  cases keyed v with
  | false => rfl
  | true => rfl

theorem aside_fctClear (f : Nat) (s t : State) : aside s (fctClear f t) = fctClear f (aside s t) := rfl

theorem aside_pqClear (s t : State) : aside s (pqClear t) = pqClear (aside s t) := rfl

theorem aside_dspClear (s t : State) : aside s (dspClear t) = dspClear (aside s t) := rfl

/-! ### The rows -/

theorem fctClear_bit (v : Word) : keyed (fctWord v 1) = false ∨ bit (fctWord v 1) 0 = false :=
  .inr (bit_fctWord v (by decide) (by decide))

/-- Settles O24: each register's command by its key. -/
theorem counterClears : Obligations.CounterClears := by
  refine ⟨rowDoes_of (fun _ _ => rfl) rfl (.inr fctClear_bit) fun f w s _ hk a ha => ?fct,
    rowDoes_of (fun _ _ => rfl) rfl (.inr fctClear_bit) fun f w s _ hk a ha => ?fctIdle,
    rowDoes_of (fun _ _ => rfl) rfl (.inl (by decide)) fun f w s _ hk a ha => ?pq,
    rowDoes_of (fun _ _ => rfl) rfl (.inl (by decide)) fun f w s _ hk a ha => ?pqIdle,
    rowDoes_of (fun _ _ => rfl) rfl (.inl (by decide)) fun f w s _ hk a ha => ?dsp,
    rowDoes_of (fun _ _ => rfl) rfl (.inl (by decide)) fun f w s _ hk a ha => ?dspIdle⟩
  case fct =>
    rw [wordDone_fctClear f w.port (keyed_of_withKey hk), aside_fctClear, ha, aside_heardWord]
    exact ⟨rfl, rfl⟩
  case fctIdle =>
    exact word_idle ha (wordDone_fctCtrl_unkeyed f w.port ((keyed_fctWord w.val (by decide)).trans (keyed_of_withoutKey hk)) a)
  case pq =>
    rw [wordDone_pqCtrl, keyed_of_withKey hk, if_pos rfl, aside_pqClear, ha, aside_heardWord]
    exact ⟨rfl, rfl⟩
  case pqIdle =>
    exact word_idle ha (by rw [wordDone_pqCtrl, keyed_of_withoutKey hk, if_neg Bool.false_ne_true])
  case dsp =>
    rw [wordDone_dspClear, keyed_of_withKey hk, if_pos rfl, aside_dspClear, ha, aside_heardWord]
    exact ⟨rfl, rfl⟩
  case dspIdle =>
    exact word_idle ha (by rw [wordDone_dspClear, keyed_of_withoutKey hk, if_neg Bool.false_ne_true])

end Sys2Proof.Proofs
end

section
/-! PROOFS. WRITE frames: denied and unmapped words, and the words that are applied (R77 to R79, R84, R90, R437, R438). -/

namespace Sys2Proof.Proofs

open Sys2Proof Sys2Proof.Machine Sys2Proof.Safety Sys2Proof.Laws

/-! ### Places in the register window -/

theorem inFrameMem_iff {off : Nat} : inFrameMem off = true ↔ 0x5000 ≤ off ∧ off < 0x6000 := by simp [inFrameMem]

theorem inFrameMem_eq_false {off : Nat} (h : off < 0x5000 ∨ 0x6000 ≤ off) : inFrameMem off = false := by
  rw [← Bool.not_eq_true, inFrameMem_iff]
  omega

theorem inAreaData_eq_false {off : Nat} (h : off < 0x8000 ∨ 0xA000 ≤ off) : inAreaData off = false := by
  simp only [inAreaData, Bool.and_eq_false_iff, decide_eq_false_iff_not]
  omega

/-- A word that is no stored register, request, gauge table or calibration command is never locked (R14, R94, R233, R291). -/
theorem wordLocked_of_specOf_none {off : Nat} (hspec : specOf off = none) (hrequest : off < 0x7800 ∨ 0x781C < off)
    (htable : off < 0x4040 ∨ 0x4168 < off) (hflow : off ≠ 0x300C) (s : State) (v : Word) : wordLocked s off v = false := by
  have hpump : off ≠ 0x781C := by omega
  have hgp : ¬(0x7800 ≤ off ∧ off ≤ 0x7814) := by omega
  have hin : within off 0x4040 0x4168 = false := by
    rw [← Bool.not_eq_true, within_iff]
    omega
  have hreq : requestLocked s off v = false := by
    simp only [requestLocked, ← Bool.decide_and, hgp, hpump, decide_false, Bool.false_and, Bool.or_self, Bool.and_false]
  simp [wordLocked, hreq, hspec, hin, hflow]

/-! ### The reply of a WRITE -/

/-- The ports after a request that is answered at once. -/
theorem port_hostFrame {cmd : Nat} {f : Facet} {fr : Frame} {s s2 : State} {r : Reply} (h : ready cmd f fr s)
    (he : execFrame cmd f fr.port fr (portWord s fr.port.val) (heard fr s) = .reply s2 r) (q : Nat) :
    port (hostFrame cmd fr s) q = port (answer fr.port.val r s2) q := by
  rw [hostFrame_done h he, port, wake_port, port]

theorem held_hostFrame {cmd : Nat} {f : Facet} {fr : Frame} {s s2 : State} {r : Reply} (h : ready cmd f fr s)
    (he : execFrame cmd f fr.port fr (portWord s fr.port.val) (heard fr s) = .reply s2 r) :
    (port (hostFrame cmd fr s) fr.port.val).held = some r := by
  rw [port_hostFrame h he, answer, port_setPort _ _ _ fr.port.isLt]

theorem wordsStatus_some {os : List WordOut} (h : wordsStatus os ≠ none) :
    wordsStatus os = some (if os.contains .denied then stDenied else stUnmapped) := by
  unfold wordsStatus at h ⊢
  split
  · rfl
  · next hd =>
    rw [if_neg hd] at h
    split
    · rfl
    · next hu => exact absurd (if_neg hu) h

theorem wordsStatus_of_ok {os : List WordOut} (h : ∀ o ∈ os, o = .ok) : wordsStatus os = none := by
  have absent : ∀ o : WordOut, o ≠ .ok → os.contains o = false := fun o ho =>
    Bool.eq_false_iff.mpr fun hc => ho (h o (List.contains_iff_mem.mp hc))
  rw [wordsStatus, absent .denied (by decide), absent .unmapped (by decide)]
  rfl

/-- A WRITE with a word that is not OK: its words are counted, in order, and it is answered by R77. -/
theorem execWriteFrame_counts {f : Facet} {p : Port} {fr : Frame} {s : State}
    (h : wordsStatus ((written fr).map (writeOut s f.val)) ≠ none) :
    execWriteFrame f p fr s = .reply ((written fr).foldl (fun a x => countWord f.val p.val x.1 true (writeOut s f.val x) a) s)
      (mkReply (if ((written fr).map (writeOut s f.val)).contains .denied then stDenied else stUnmapped) cmdWrite []) := by
  have hst := wordsStatus_some h
  simp only [written, offsets] at hst
  rw [execWriteFrame]
  simp only [hst, ← List.map_prod_left_eq_zip, List.foldl_map]
  rfl

/-- The words of a frame reset their facet: one is FCT_CTRL with its key and FACET_RESET (R84). -/
def resetsFacet (xs : List (Nat × Word)) : Bool := xs.any fun x => decide (x.1 = 0x0018) && keyed x.2 && bit x.2 0

theorem resetsFacet_eq_false {xs : List (Nat × Word)} (h : ∀ x ∈ xs, ¬(x.1 = 0x0018 ∧ keyed x.2 = true ∧ bit x.2 0 = true)) :
    resetsFacet xs = false :=
  List.any_eq_false.mpr fun x hx => by simpa only [Bool.and_eq_true, decide_eq_true_eq, and_assoc] using h x hx

/-- The state in which the words of a WRITE are applied: the FAB cycle notes them (R90). -/
def noted (f : Facet) (xs : List (Nat × Word)) (s : State) : State :=
  { s with cyc := { s.cyc with writes := s.cyc.writes ++ xs.map fun x => (f, x.1) } }

theorem aside_noted (f : Facet) (xs : List (Nat × Word)) (s t : State) : aside s (noted f xs t) = aside s t := rfl

/-- A WRITE whose words are all OK and can be taken, outside the user areas: its words are applied, and it is answered Locked
where one is locked, or not at all where it resets its facet. -/
theorem execWriteFrame_taken {f : Facet} {p : Port} {fr : Frame} {s : State}
    (hok : wordsStatus ((written fr).map (writeOut s f.val)) = none) (happ : s.cyc.applied = false)
    (hclash : ∀ x ∈ written fr, s.cyc.writes.contains (f, x.1) = false)
    (hroom : ∀ x ∈ written fr, inFrameMem x.1 = true → s.dsp.queue.length + ((written fr).filter fun y => inFrameMem y.1).length ≤ 64)
    (hbusy : (∀ x ∈ written fr, wordBusy s f.val p x.1 x.2 = false) ∨ ∃ x ∈ written fr, wordLocked s x.1 x.2 = true)
    (harea : ∀ x ∈ written fr, inAreaData x.1 = false) :
    execWriteFrame f p fr s =
      if resetsFacet (written fr) then .silent (prunFollow (applyWords f p (written fr) (noted f (written fr) s)))
      else .reply (prunFollow (applyWords f p (written fr) (noted f (written fr) s)))
        (mkReply (if (written fr).any fun x => wordLocked s x.1 x.2 then stLocked else stOk) cmdWrite []) := by
  have hclash' : ((written fr).any fun x => s.cyc.writes.contains (f, x.1)) = false := by
    simpa only [List.any_eq_false, Bool.not_eq_true] using hclash
  have hfull : (decide (0 < ((written fr).filter fun x => inFrameMem x.1).length) &&
      decide (64 < s.dsp.queue.length + ((written fr).filter fun x => inFrameMem x.1).length)) = false := by
    rw [Bool.and_eq_false_iff, decide_eq_false_iff_not, decide_eq_false_iff_not, or_iff_not_imp_left, not_not]
    intro hpos
    obtain ⟨x, hx⟩ := List.exists_mem_of_length_pos hpos
    obtain ⟨hmem, hfm⟩ := List.mem_filter.mp hx
    exact Nat.not_lt.mpr (hroom x hmem hfm)
  have hfree : (((written fr).any fun x => wordBusy s f.val p x.1 x.2) && !((written fr).any fun x => wordLocked s x.1 x.2)) = false := by
    rcases hbusy with hb | hl
    · rw [List.any_eq_false.mpr fun x hx => by rw [hb x hx]; exact Bool.false_ne_true, Bool.false_and]
    · rw [List.any_eq_true.mpr hl, Bool.not_true, Bool.and_false]
  have hnoarea : ((written fr).any fun x => inAreaData x.1) = false :=
    List.any_eq_false.mpr fun x hx => by rw [harea x hx]; exact Bool.false_ne_true
  unfold written offsets at *
  rw [execWriteFrame]
  simp only [hok, happ, hclash', hfull, hfree, hnoarea, Bool.or_self, Bool.and_false, Bool.false_eq_true, if_false, resetsFacet, noted]

/-! ### Denied and unmapped words -/

/-- A facet's own registers after one word of a WRITE through port p has been counted by its outcome (R79). -/
def countedWord (p off : Nat) (o : WordOut) (x : FacetSt) : FacetSt :=
  match o with
  | .ok => x
  | .denied => { x with deniedWr := satInc x.deniedWr, lastDenied := w32 (off % 65536 + p * 2 ^ 16 + 2 ^ 18) }
  | .unmapped => { x with unmapped := satInc x.unmapped }

/-- A facet's own registers after the words of a WRITE through port p have been counted by their outcomes (R79). -/
def countedWords (p : Nat) (out : Nat × Word → WordOut) (xs : List (Nat × Word)) (x : FacetSt) : FacetSt :=
  { x with
    deniedWr := (xs.map out).foldl (fun n o => if o = .denied then satInc n else n) x.deniedWr
    unmapped := (xs.map out).foldl (fun n o => if o = .unmapped then satInc n else n) x.unmapped
    lastDenied := ((xs.filter fun y => decide (out y = .denied)).getLast?.map fun y =>
      w32 (y.1 % 65536 + p * 2 ^ 16 + 2 ^ 18)).getD x.lastDenied }

theorem countedWords_concat (p : Nat) (out : Nat × Word → WordOut) (xs : List (Nat × Word)) (y : Nat × Word) (x : FacetSt) :
    countedWords p out (xs ++ [y]) x = countedWord p y.1 (out y) (countedWords p out xs x) := by
  cases h : out y with
  | ok => simp [countedWords, countedWord, h]
  | denied => simp [countedWords, countedWord, h]
  | unmapped => simp [countedWords, countedWord, h]

/-- A facet's own registers but those that a report of ACCESS_DENIED changes: its queue, EVT_LOST and the time of the latest. -/
def unreported (x : FacetSt) : FacetSt := { quietFacet x with lastDeniedAt := none }

theorem unreported_countedWord (p off : Nat) (o : WordOut) (x : FacetSt) :
    unreported (countedWord p off o x) = countedWord p off o (unreported x) := by
  cases o with
  | ok => rfl
  | denied => rfl
  | unmapped => rfl

theorem unreported_emitAll (es : List Ev) (s : State) (f : Nat) : unreported (facet (emitAll es s) f) = unreported (facet s f) := by
  rw [unreported, facet_emitAll, unreported]

theorem quietFacet_of_unreported {x y : FacetSt} (h : unreported x = unreported y) :
    quietFacet x = { quietFacet y with lastDeniedAt := x.lastDeniedAt } := by
  have hset : { unreported x with lastDeniedAt := x.lastDeniedAt } = { unreported y with lastDeniedAt := x.lastDeniedAt } := by rw [h]
  exact hset

/-- Facet f's own registers become `g` of those before, but for reports of ACCESS_DENIED, and only the event log changes besides. -/
structure CountsWords (f : Nat) (g : FacetSt → FacetSt) (s t : State) : Prop where
  port : t.port = s.port
  counts : unreported (facet t f) = unreported (g (facet s f))
  others : ∀ k, k ≠ f → facet t k = facet s k
  rest : eventsAside s t = s

theorem countsWords_denied (f p off : Nat) (s : State) (hf : f < 5) :
    CountsWords f (countedWord p off .denied) s (countDenied f p off true s) where
  port := (countsDenied_countDenied f p off s hf).port
  counts := by
    have hlast : pack [(0, off % 65536), (16, p), (18, b2n true)] = w32 (off % 65536 + p * 2 ^ 16 + 2 ^ 18) := by simp [pack, b2n]
    rw [countDenied, unreported_emitAll, facet_setFacet _ _ _ hf, hlast]
    rfl
  others := (countsDenied_countDenied f p off s hf).others
  rest := (countsDenied_countDenied f p off s hf).rest

theorem countsWords_unmapped (f p off : Nat) (s : State) (hf : f < 5) :
    CountsWords f (countedWord p off .unmapped) s (countUnmapped f 1 s) where
  port := rfl
  counts := by
    rw [countUnmapped, facet_setFacet _ _ _ hf]
    rfl
  others k hk := facet_setFacet_ne f k _ s hk
  rest := rfl

theorem countsWords_word (f p off : Nat) (o : WordOut) (s : State) (hf : f < 5) :
    CountsWords f (countedWord p off o) s (countWord f p off true o s) := by
  cases o with
  | ok => exact ⟨rfl, rfl, fun _ _ => rfl, rfl⟩
  | denied => exact countsWords_denied f p off s hf
  | unmapped => exact countsWords_unmapped f p off s hf

/-- Every word of the frame counts, by its outcome before the frame. -/
theorem countsWords_words (f p : Nat) (out : Nat × Word → WordOut) (xs : List (Nat × Word)) (s : State) (hf : f < 5) :
    CountsWords f (countedWords p out xs) s (xs.foldl (fun a x => countWord f p x.1 true (out x) a) s) := by
  induction xs using List.reverseRecOn with
  | nil => exact ⟨rfl, rfl, fun _ _ => rfl, rfl⟩
  | append_singleton xs y ih =>
    rw [List.foldl_append]
    have hone := countsWords_word f p y.1 (out y) (xs.foldl (fun a x => countWord f p x.1 true (out x) a) s) hf
    refine ⟨hone.port.trans ih.port, hone.counts.trans ?_, fun k hk => (hone.others k hk).trans (ih.others k hk),
      eventsAside_trans ih.rest hone.rest⟩
    rw [unreported_countedWord, ih.counts, ← unreported_countedWord, countedWords_concat]

/-- Settles O12: the frame is answered by R77, and each of its words counts by its outcome. -/
theorem deniedFramesWriteNothing : Obligations.DeniedFramesWriteNothing := by
  intro f fr s h hst
  have hcount := countsWords_words f.val fr.port.val (writeOut s f.val) (written fr) (heard fr s) f.isLt
  generalize hu : (written fr).foldl (fun a x => countWord f.val fr.port.val x.1 true (writeOut s f.val x) a) (heard fr s) = u at hcount
  have he : execFrame cmdWrite f fr.port fr (portWord s fr.port.val) (heard fr s) = .reply u (mkReply
      (if ((written fr).map (writeOut s f.val)).contains .denied then stDenied else stUnmapped) cmdWrite []) := by
    rw [← hu]
    exact execWriteFrame_counts hst
  obtain ⟨hans, haside⟩ := frameDone_of u h he hcount.port rfl
  have hfac : ∀ g, facet (hostFrame cmdWrite fr s) g = facet u g := fun g => by
    rw [facet, fac_of_aside haside, facet]
  refine ⟨_, rfl, hans, ?_, fun g hg => ?_, ?_⟩
  · rw [hfac]
    exact quietFacet_of_unreported hcount.counts
  · rw [hfac, hcount.others g hg]
    rfl
  · rw [haside]
    exact congrArg (aside s) hcount.rest

/-! ### The words of a WRITE -/

/-- What one word of a WRITE outside the user areas does: a frame memory word joins the display write queue, a locked or busy
word does nothing, and any other writes its register. -/
def wordApplied (f : Facet) (p : Port) (a : State) (x : Nat × Word) : State :=
  if inFrameMem x.1 then { a with dsp := { a.dsp with queue := a.dsp.queue ++ [(f, x.1 - 0x5000, x.2)] } }
  else if wordLocked a x.1 x.2 || wordBusy a f.val p x.1 x.2 then a
  else regWrite f.val p x.1 x.2 a

theorem applyWords_outside_areas (f : Facet) (p : Port) {xs : List (Nat × Word)} (s : State)
    (h : ∀ x ∈ xs, inAreaData x.1 = false) : applyWords f p xs s = xs.foldl (wordApplied f p) s := by
  have hnone : xs.filter (fun x => inAreaData x.1) = [] := List.filter_eq_nil_iff.mpr fun x hx => by rw [h x hx]; exact Bool.false_ne_true
  simp only [applyWords, hnone, List.isEmpty_nil, if_true]
  refine List.foldl_ext _ _ _ fun a x hx => ?_
  rw [h x hx, Bool.false_or]
  rfl

/-- A frame that is heard begins a FAB cycle in which its words stand alone, where none of the cycle before stands against them
(R90). -/
theorem heard_writes {cmd : Nat} {f : Facet} {fr : Frame} {s : State} (h : ready cmd f fr s) {off : Nat}
    (hsame : fr.same = true → s.cyc.writes.contains (f, off) = false) : (heard fr s).cyc.writes.contains (f, off) = false := by
  obtain ⟨-, -, -, hfresh⟩ := h
  exact (fabCycle_clear fr s (f, off) fun hs => ⟨hfresh hs, hsame hs⟩).2

/-- The words of a WRITE of facet f are taken: each is OK and none lies in a user area, no write of their FAB cycle stands
against them (R90), frame memory words fit in the display write queue (R315), and no command register is Busy, unless a word is
locked (R437). -/
structure Takes (f : Facet) (fr : Frame) (s : State) : Prop where
  ok : wordsStatus ((written fr).map (writeOut s f.val)) = none
  alone : ∀ x ∈ written fr, fr.same = true → s.cyc.writes.contains (f, x.1) = false
  room : ∀ x ∈ written fr, inFrameMem x.1 = true → s.dsp.queue.length + ((written fr).filter fun y => inFrameMem y.1).length ≤ 64
  free : (∀ x ∈ written fr, wordBusy s f.val fr.port x.1 x.2 = false) ∨ ∃ x ∈ written fr, wordLocked s x.1 x.2 = true
  outside : ∀ x ∈ written fr, inAreaData x.1 = false

section
variable {f : Facet} {fr : Frame} {s : State} (h : ready cmdWrite f fr s) (ht : Takes f fr s)
include h ht

/-- A WRITE whose words are taken, on a port that can execute it: the frame is heard, and its words are applied. -/
theorem execFrame_write_taken : execFrame cmdWrite f fr.port fr (portWord s fr.port.val) (heard fr s) =
      if resetsFacet (written fr) then
        .silent (prunFollow ((written fr).foldl (wordApplied f fr.port) (noted f (written fr) (heard fr s))))
      else .reply (prunFollow ((written fr).foldl (wordApplied f fr.port) (noted f (written fr) (heard fr s))))
        (mkReply (if (written fr).any fun x => wordLocked s x.1 x.2 then stLocked else stOk) cmdWrite []) := by
  have hfree : (∀ x ∈ written fr, wordBusy (heard fr s) f.val fr.port x.1 x.2 = false) ∨
      ∃ x ∈ written fr, wordLocked (heard fr s) x.1 x.2 = true :=
    ht.free.imp_left fun hb x hx => (wordBusy_heard fr (heard fr s).cyc s f.val fr.port x.1 x.2).trans (hb x hx)
  have hrun := execWriteFrame_taken (p := fr.port) (s := heard fr s) ht.ok (heard_cyc h) (fun x hx => heard_writes h (ht.alone x hx))
    ht.room hfree ht.outside
  rw [applyWords_outside_areas f fr.port _ ht.outside] at hrun
  exact hrun

/-- Such a WRITE that does not reset its facet is answered. -/
theorem execFrame_write_applies (hreset : resetsFacet (written fr) = false) :
    execFrame cmdWrite f fr.port fr (portWord s fr.port.val) (heard fr s) = .reply
      (prunFollow ((written fr).foldl (wordApplied f fr.port) (noted f (written fr) (heard fr s))))
      (mkReply (if (written fr).any fun x => wordLocked s x.1 x.2 then stLocked else stOk) cmdWrite []) := by
  rw [execFrame_write_taken h ht, hreset, if_neg Bool.false_ne_true]

/-- Such a WRITE that resets its facet is not answered (R84). -/
theorem hostFrame_write_resets (hreset : resetsFacet (written fr) = true) : hostFrame cmdWrite fr s =
    wake (prunFollow ((written fr).foldl (wordApplied f fr.port) (noted f (written fr) (heard fr s)))) := by
  have hrun := execFrame_write_taken h ht
  rw [hreset, if_pos rfl] at hrun
  obtain ⟨hfree, hcrc, hformat, -⟩ := h
  rw [hostFrame_free cmdWrite f fr s hfree hcrc hformat, hrun]

end

/-- The words of a row that names a register. -/
theorem written_rowFrame (s : State) {off : Nat} (h : off < 65536) (v : Word) (w : RegWr) :
    written (rowFrame s off v w) = [(off, v)] := by
  rw [written, offsets, rowFrame, addr_wordFrame _ _ _ _ h]
  simp [wordFrame, frameOffs]

theorem takes_word {f : Facet} {off : Nat} {v : Word} {w : RegWr} {s : State} (hoff : off < 65536) (hout : writeOut s f.val (off, v) = .ok)
    (halone : w.same = true → s.cyc.writes.contains (f, off) = false) (hfm : inFrameMem off = false)
    (hfree : wordBusy s f.val w.port off v = false ∨ wordLocked s off v = true) (harea : inAreaData off = false) :
    Takes f (rowFrame s off v w) s := by
  have hone : ∀ x ∈ written (rowFrame s off v w), x = (off, v) := fun x hx => by
    rw [written_rowFrame s hoff] at hx
    exact List.mem_singleton.mp hx
  have hmem : (off, v) ∈ written (rowFrame s off v w) := by
    rw [written_rowFrame s hoff]
    exact List.mem_singleton_self _
  constructor
  case ok => rw [written_rowFrame s hoff, List.map_singleton, hout]; rfl
  case alone => exact fun x hx => by rw [hone x hx]; exact halone
  case room => exact fun x hx h => by rw [hone x hx, hfm] at h; cases h
  case free => exact hfree.imp (fun hb x hx => by rw [hone x hx]; exact hb) fun hl => ⟨_, hmem, hl⟩
  case outside => exact fun x hx => by rw [hone x hx, harea]

/-- Settles O13: the frame is heard, its words are applied one after the other, and PRUN follows. -/
theorem writeAppliesItsWords : Obligations.WriteAppliesItsWords := by
  intro f fr s h hok hx hroom hbusy
  have harea : ∀ x ∈ written fr, inAreaData x.1 = false := fun x hm => (hx x hm).1
  have hreset : resetsFacet (written fr) = false := resetsFacet_eq_false fun x hm => (hx x hm).2.1
  have hsame : ∀ x ∈ written fr, fr.same = true → s.cyc.writes.contains (f, x.1) = false := fun x hm => (hx x hm).2.2
  have he := execFrame_write_applies h ⟨hok, hsame, hroom, hbusy, harea⟩ hreset
  refine ⟨_, rfl, held_hostFrame h he, ?_⟩
  rw [hostFrame_done h he, wake_aside, answer_aside, prunFollow_aside]
  rfl

end Sys2Proof.Proofs
end

section
/-! PROOFS. Writes to frame memory: the display write queue, and the landing of the word at its head (R82, R315, R317). -/

namespace Sys2Proof.Proofs

open Sys2Proof Sys2Proof.Machine Sys2Proof.Safety Sys2Proof.Laws

/-! ### Words of frame memory on the host path -/

/-- Frame memory holds no register. -/
theorem specOf_frameMem {off : Nat} (h : inFrameMem off = true) : specOf off = none := by
  obtain ⟨hlo, hhi⟩ := inFrameMem_iff.mp h
  have hwithin : ∀ {a b : Nat}, b < 0x5000 → ¬ within off a b = true := fun hb hw => by
    rw [within_iff] at hw
    omega
  simp (disch := omega) [specOf, specPwc, specMtr, specPq, specCf, specDiag, specFlw, specBank, specChd, specSdi, specBat, specDsp,
    specSaf, hwithin, if_neg]

theorem wordLocked_frameMem {off : Nat} (h : inFrameMem off = true) (s : State) (v : Word) : wordLocked s off v = false := by
  obtain ⟨hlo, hhi⟩ := inFrameMem_iff.mp h
  exact wordLocked_of_specOf_none (specOf_frameMem h) (by omega) (by omega) (by omega) s v

theorem wordBusy_frameMem {off : Nat} (h : inFrameMem off = true) (s : State) (f : Nat) (p : Port) (v : Word) :
    wordBusy s f p off v = false := by
  obtain ⟨hlo, hhi⟩ := inFrameMem_iff.mp h
  simp (disch := omega) only [wordBusy, if_neg]

theorem inAreaData_frameMem {off : Nat} (h : inFrameMem off = true) : inAreaData off = false := by
  obtain ⟨hlo, hhi⟩ := inFrameMem_iff.mp h
  exact inAreaData_eq_false (by omega)

theorem ne_fctCtrl_of_frameMem {off : Nat} (h : inFrameMem off = true) : off ≠ 0x0018 := by
  obtain ⟨hlo, hhi⟩ := inFrameMem_iff.mp h
  omega

/-! ### Frames of such words -/

/-- A WRITE that can execute writes one word for each of its data words (R432, R433). -/
theorem length_written {f : Facet} {fr : Frame} {s : State} (h : ready cmdWrite f fr s) : (written fr).length = fr.data.length := by
  obtain ⟨-, hcrc, -, -⟩ := h
  have hlen : fr.data.length = fr.count.toNat := by
    simpa [carriesData] using (Bool.and_eq_true_iff.mp hcrc).2
  simp [written, offsets, frameOffs, hlen]

/-- The display write queue after words of facet f have joined it. -/
def displayQueued (f : Facet) (xs : List (Nat × Word)) (s : State) : State :=
  { s with dsp := { s.dsp with queue := s.dsp.queue ++ xs.map fun x => (f, x.1 - 0x5000, x.2) } }

theorem wordsApplied_frameMem (f : Facet) (p : Port) (xs : List (Nat × Word)) (s : State) (h : ∀ x ∈ xs, inFrameMem x.1 = true) :
    xs.foldl (wordApplied f p) s = displayQueued f xs s := by
  induction xs generalizing s with
  | nil => simp [displayQueued]
  | cons x xs ih =>
    have hx : wordApplied f p s x = displayQueued f [x] s := if_pos (h x List.mem_cons_self)
    rw [List.foldl_cons, ih _ fun y hy => h y (List.mem_cons_of_mem x hy), hx]
    simp [displayQueued]

section
variable {f : Facet} {fr : Frame} {s : State} (hx : ∀ x ∈ written fr, inFrameMem x.1 = true ∧ writeOut s f.val x = .ok)
include hx

theorem wordsStatus_frameMem : wordsStatus ((written fr).map (writeOut s f.val)) = none :=
  wordsStatus_of_ok fun o ho => by
    obtain ⟨x, hm, rfl⟩ := List.mem_map.mp ho
    exact (hx x hm).2

variable (h : ready cmdWrite f fr s)
include h

theorem length_frameMem : ((written fr).filter fun x => inFrameMem x.1).length = fr.data.length := by
  rw [List.filter_eq_self.mpr fun x hm => (hx x hm).1, length_written h]

/-- Words that fit join the queue, and OK is answered. -/
theorem frameDone_displayQueued (hsame : ∀ x ∈ written fr, fr.same = true → s.cyc.writes.contains (f, x.1) = false)
    (hroom : s.dsp.queue.length + fr.data.length ≤ 64) :
    frameDone s (hostFrame cmdWrite fr s) fr okWrite (displayQueued f (written fr) s) := by
  have hfm : ∀ x ∈ written fr, inFrameMem x.1 = true := fun x hm => (hx x hm).1
  have hunlocked : ((written fr).any fun x => wordLocked s x.1 x.2) = false :=
    List.any_eq_false.mpr fun x hm => by
      rw [wordLocked_frameMem (hfm x hm)]
      exact Bool.false_ne_true
  have ht : Takes f fr s := ⟨wordsStatus_frameMem hx, hsame, fun _ _ _ => by rwa [length_frameMem hx h],
    .inl fun x hm => wordBusy_frameMem (hfm x hm) s f.val fr.port x.2, fun x hm => inAreaData_frameMem (hfm x hm)⟩
  have he := execFrame_write_applies h ht (resetsFacet_eq_false fun x hm hr => ne_fctCtrl_of_frameMem (hfm x hm) hr.1)
  rw [hunlocked, wordsApplied_frameMem f fr.port _ _ hfm] at he
  refine frameDone_of _ h he (prunFollow_port _) ?_
  rw [prunFollow_aside]
  rfl

/-- Words that do not fit are answered Busy. -/
theorem frameDone_displayFull (hne : fr.data ≠ []) (hfull : 64 < s.dsp.queue.length + fr.data.length) :
    frameDone s (hostFrame cmdWrite fr s) fr (mkReply stBusy cmdWrite []) s := by
  have hpos : 0 < fr.data.length := List.length_pos_of_ne_nil hne
  have hst := wordsStatus_frameMem hx
  have hlen := length_frameMem hx h
  have he : execWriteFrame f fr.port fr (heard fr s) = .reply (heard fr s) (mkReply stBusy cmdWrite []) := by
    unfold written offsets at hst hlen
    have hst' : wordsStatus (((frameOffs fr.addr.toNat fr.count.toNat).zip fr.data).map (writeOut (heard fr s) f.val)) = none := hst
    have hq : (heard fr s).dsp.queue = s.dsp.queue := rfl
    rw [execWriteFrame]
    simp only [hst', hlen, hq, hpos, hfull, decide_true, Bool.and_true, Bool.or_true, Bool.true_or, if_true]
  exact frameDone_of _ h he rfl (aside_heard fr s)

end

/-! ### A word lands -/

/-- The two pixel groups of a word. -/
theorem bits_groups {a b : Nat} (ha : a < 65536) (hb : b < 65536) :
    bits (pack [(0, a), (16, b)]) 15 0 = a ∧ bits (pack [(0, a), (16, b)]) 31 16 = b := by
  have hsum : (pack [(0, a), (16, b)]).toNat = a + b * 65536 := by
    simp only [pack, w32, List.foldl_cons, List.foldl_nil, BitVec.toNat_ofNat]
    omega
  simp only [bits, hsum]
  omega

theorem bits_half_lt (w : Word) (lo : Nat) : bits w (lo + 15) lo < 65536 := by
  rw [bits, show lo + 15 + 1 - lo = 16 by omega]
  exact Nat.mod_lt _ (by decide)

/-- The word that facet f's write of w leaves at offset o: each pixel group where the facet owns its tile, else the old one (R82). -/
def landedWord (s : State) (f o : Nat) (w : Word) : Word :=
  pack [(0, if groupWrites s f o 0 then bits w 15 0 else bits (memWord s.dsp.mem o) 15 0),
    (16, if groupWrites s f o 1 then bits w 31 16 else bits (memWord s.dsp.mem o) 31 16)]

theorem bits_landedWord (s : State) (f o : Nat) (w : Word) :
    bits (landedWord s f o w) 15 0 = (if groupWrites s f o 0 then bits w 15 0 else bits (memWord s.dsp.mem o) 15 0) ∧
      bits (landedWord s f o w) 31 16 = (if groupWrites s f o 1 then bits w 31 16 else bits (memWord s.dsp.mem o) 31 16) := by
  refine bits_groups ?_ ?_
  · split
    · exact bits_half_lt w 0
    · exact bits_half_lt _ 0
  · split
    · exact bits_half_lt w 16
    · exact bits_half_lt _ 16

theorem fmLand_cons (passed : Bool) {f : Facet} {o : Nat} {w : Word} {rest : List (Facet × Nat × Word)} {s : State}
    (h : s.dsp.queue = (f, o, w) :: rest) : fmLand passed s = { s with dsp := { s.dsp with
      mem := memPutWord s.dsp.mem o (landedWord s f.val o w), queue := rest
      tiles := expAfter s (memPutWord s.dsp.mem o (landedWord s f.val o w)) passed } } := by
  simp only [fmLand, h]
  rfl

theorem dsp_of_hfxAside {s t u : State} (h : hfxAside s t = u) : t.dsp = u.dsp := by
  have hdsp : (hfxAside s t).dsp = u.dsp := by rw [h]
  exact hdsp

/-- Settles O31: words that fit join the queue and others are refused, and a landing is one word's write to the memory. -/
theorem frameMemoryWritesQueueAndLand : Obligations.FrameMemoryWritesQueueAndLand := by
  refine ⟨fun f fr s h hne hx hsame => ⟨fun hroom => ⟨_, rfl, frameDone_displayQueued hx h hsame hroom⟩,
    fun hfull => ⟨_, rfl, frameDone_displayFull hx h hne hfull⟩⟩, fun passed f o w rest s hl hq hwf => ?_⟩
  have hland := fmLand_cons passed hq
  have hside : hfxAside s (event (live s) (fmLand passed) s) = fmLand passed s :=
    hfxAside_event hl (by rw [hland]) (by rw [hland])
  have hdsp := dsp_of_hfxAside (hside.trans hland)
  obtain ⟨hlow, hhigh⟩ := bits_landedWord s f.val o w
  refine ⟨_, rfl, by rw [hdsp], by rw [hdsp]; exact memPutWord_wf hwf o _, ?_, ?_, fun a ha => ?_, ?_⟩
  · rw [hdsp, memWord_memPutWord hwf, hlow]
  · rw [hdsp, memWord_memPutWord hwf, hhigh]
  · rw [hdsp]
    exact memGet_memPutWord_ne _ _ _ _ ha
  · rw [hside, hland, hdsp]

end Sys2Proof.Proofs
end

section
/-! PROOFS. Requests to shared actuators and the acknowledgement of the safe state (R89, R93, R94, R353, R357, R358). -/

namespace Sys2Proof.Proofs

open Sys2Proof Sys2Proof.Machine Sys2Proof.Safety Sys2Proof.Laws

/-! ### PRUN follows the requests -/

/-- PRUN shows the effective pump-run request (R353). -/
def PrunFollows (s : State) : Prop := s.saf.prun = pumpRun s

/-- The start of HFX changes the power manager alone. -/
theorem wake_eq (s : State) : wake s = { s with pwc := (wake s).pwc } := by
  unfold wake hfxStart
  split
  · split
    · rfl
    · rfl
  · rfl

theorem wake_saf (s : State) : (wake s).saf = s.saf := by rw [wake_eq]

theorem prunFollow_follows (s : State) : PrunFollows (prunFollow s) := by
  unfold prunFollow
  dsimp only
  split
  · next h => exact h.symm
  · rfl

theorem prunFollow_of_follows {s : State} (h : PrunFollows s) : prunFollow s = s := if_pos (Eq.symm h)

theorem wake_follows {s : State} (h : PrunFollows s) : PrunFollows (wake s) := by
  rw [wake_eq]
  exact h

theorem replied_follows (p : Port) (r : Reply) (s : State) : PrunFollows (replied p r s) :=
  wake_follows (s := answer p.val r (prunFollow s)) (prunFollow_follows s)

/-! ### Request registers -/

/-- The request and effect registers have a rule of their own (R89, R92). -/
theorem wordDone_iop (f : Facet) (p : Port) {off : Nat} (hlo : 0x7800 ≤ off) (hhi : off ≤ 0x7828) (v : Word) (s : State) :
    wordDone f p off v s = iopWrite f.val off v s := by
  have hfm : inFrameMem off = false := inFrameMem_eq_false (by omega)
  have hin : 0x7800 ≤ off ∧ off ≤ 0x7828 := ⟨hlo, hhi⟩
  rw [wordDone, hfm, if_neg Bool.false_ne_true]
  simp (disch := omega) only [regWrite, if_neg, hin, and_self, if_true]

theorem iopWrite_gp (f : Nat) (n : Fin 6) (v : Word) (s : State) : iopWrite f (0x7800 + 4 * n.val) v s =
    setFacet f (fun x => { x with gpReq := vmod x.gpReq n.val fun _ => reqStored v }) s := by
  have hn := n.isLt
  have hin : 0x7800 + 4 * n.val ≤ 0x7814 := by omega
  have hidx : (0x7800 + 4 * n.val - 0x7800) / 4 = n.val := by omega
  rw [iopWrite, if_pos hin, hidx]

theorem iopWrite_bright (f : Nat) (v : Word) (s : State) :
    iopWrite f 0x7818 v s = setFacet f (fun x => { x with brightLevel := bits v 7 0, brightValid := bit v 8 }) s := rfl

theorem iopWrite_pump (f : Nat) (v : Word) (s : State) :
    iopWrite f 0x781C v s = setFacet f (fun x => { x with pumpReq := reqStored v }) s := rfl

theorem aside_setFacet (f : Nat) (g : FacetSt → FacetSt) (s t : State) : aside s (setFacet f g t) = setFacet f g (aside s t) := rfl

/-- A row that writes a request register changes its facet's request. -/
theorem rowDoes_request {row : RegWr → Instr} {off : Nat} {g : Word → FacetSt → FacetSt}
    (hx : ∀ w s, exec (row w) s = .next (hostWord off w.val w s)) (hlo : 0x7800 ≤ off) (hhi : off ≤ 0x7828)
    (hg : ∀ f v s, iopWrite f off v s = setFacet f (g v) s) :
    rowDoes row off id always fun f v s => { s with fac := vmod s.fac f.val (g v) } := by
  refine rowDoes_of hx (inAreaData_eq_false (by omega)) (.inl (by omega)) fun f w s _ _ a ha => ?_
  rw [wordDone_iop f w.port hlo hhi, hg, aside_setFacet, ha, aside_heardWord]
  exact ⟨rfl, rfl⟩

/-! ### Rows that are answered Locked -/

/-- A one-word WRITE of a locked register changes nothing but the port. -/
theorem frameDone_locked {f : Facet} {off : Nat} {w : RegWr} {s : State} (hoff : off < 65536)
    (hready : ready cmdWrite f (rowFrame s off w.val w) s) (hsame : w.same = true → s.cyc.writes.contains (f, off) = false)
    (hout : writeOut s f.val (off, w.val) = .ok) (hlocked : wordLocked s off w.val = true) (hfm : inFrameMem off = false)
    (harea : inAreaData off = false) (hctrl : off ≠ 0x0018) (hprun : PrunFollows s) :
    frameDone s (hostWord off w.val w s) (rowFrame s off w.val w) (mkReply stLocked cmdWrite []) s ∧
      (hostWord off w.val w s).saf = s.saf := by
  have hreset : resetsFacet (written (rowFrame s off w.val w)) = false := resetsFacet_eq_false fun x hx h => hctrl (by
    rw [written_rowFrame s hoff] at hx
    rw [← h.1, List.mem_singleton.mp hx])
  have he := execFrame_write_applies hready (takes_word hoff hout hsame hfm (.inr hlocked) harea) hreset
  have hlocked' : wordLocked (heardWord f off w s) off w.val = true :=
    (wordLocked_heard (rowFrame s off w.val w) _ s off w.val).trans hlocked
  have hword : wordApplied f (rowFrame s off w.val w).port (heardWord f off w s) (off, w.val) = heardWord f off w s := by
    rw [wordApplied, hfm, if_neg Bool.false_ne_true, hlocked', Bool.true_or, if_pos rfl]
  have hnoted : noted f [(off, w.val)] (heard (rowFrame s off w.val w) s) = heardWord f off w s := rfl
  have hfollows : PrunFollows (heardWord f off w s) := hprun
  simp only [written_rowFrame s hoff, List.foldl_cons, List.foldl_nil, hnoted, hword, List.any_cons, List.any_nil, hlocked,
    Bool.or_false, if_true, prunFollow_of_follows hfollows] at he
  refine ⟨frameDone_of _ hready he rfl (aside_heardWord f off w s), ?_⟩
  rw [hostWord, show hostFrame cmdWrite (wordFrame off w.val w (port s w.port.val).spiMode3) s = _ from hostFrame_done hready he, wake_saf]
  rfl

/-- In the safe state RUN, and ON of a trip-linked output, are locked (R94). -/
theorem wordLocked_request {s : State} {off : Nat} {v : Word} (hsafe : s.saf.safe = true) (hv : bits v 1 0 = 2)
    (h : off = 0x781C ∨ ∃ n : Fin 6, off = 0x7800 + 4 * n.val ∧ tripLinked s n.val = true) : wordLocked s off v = true := by
  have hrequest : requestLocked s off v = true := by
    rw [requestLocked, hsafe, hv]
    rcases h with rfl | ⟨n, rfl, hlinked⟩
    · simp
    · have hn := n.isLt
      have hin : 0x7800 + 4 * n.val ≤ 0x7814 := by omega
      have hidx : (0x7800 + 4 * n.val - 0x7800) / 4 = n.val := by omega
      simp [hin, hlinked]
  rw [wordLocked, hrequest, Bool.true_or, Bool.true_or, Bool.true_or]

/-! ### The acknowledgement -/

theorem wordDone_safeAck (f : Facet) (p : Port) (v : Word) (s : State) :
    wordDone f p 0x7830 (withCmd v 1) s = if keyed v && ackReady s then safeExit (some f.val) s else s := by
  show safeAck f.val (withCmd v 1) s = _
  rw [safeAck, keyed_withCmd v 1 (by decide), bits_withCmd_code v 1 (by decide), decide_eq_true rfl, Bool.and_true]

theorem wordBusy_safeAck (s : State) (f : Nat) (p : Port) (v : Word) :
    wordBusy s f p 0x7830 (withCmd v 1) = (keyed v && s.saf.safe && !ackReady s) := by
  show (keyed (withCmd v 1) && decide (bits (withCmd v 1) 7 0 = 1) && s.saf.safe && !ackReady s) = _
  rw [keyed_withCmd v 1 (by decide), bits_withCmd_code v 1 (by decide), decide_eq_true rfl, Bool.and_true]

theorem wordBusy_of_accepted {s : State} {f : Facet} {off : Nat} {w : RegWr} (h : accepted s f off w = true) :
    wordBusy s f.val w.port off w.val = false := by
  simp only [accepted, Bool.and_eq_true, Bool.not_eq_true'] at h
  obtain ⟨⟨⟨_, hbusy⟩, _⟩, _⟩ := h
  exact hbusy

theorem wordLocked_safeAck (s : State) (v : Word) : wordLocked s 0x7830 v = false :=
  wordLocked_of_specOf_none (by decide) (by decide) (by decide) (by decide) s v

/-- SAFE_STATE_EXIT by the acknowledging facet f (R357). -/
def ackExitEv (s : State) (f : Nat) : Ev :=
  ⟨0x0C02, 0, 2, everyone s, w32 s.saf.entry, w32 (min max32 (msUp (s.aon - s.saf.enteredAt))), w32 (2 + 256 * f), 0, false⟩

theorem safeExit_ack (f : Nat) (s : State) : safeExit (some f) s =
    commitDue .state (emit (ackExitEv s f) (prunFollow { s with saf := { s.saf with safe := false } })) := rfl

theorem commitDue_deferred (k : CommitKind) (s : State) : (commitDue k s).sto.deferred.isSome = true := by
  unfold commitDue
  dsimp only
  split
  · rfl
  · rfl

/-- The safe state left by an acknowledgement, apart from what every accepted request may change. -/
theorem aside_safeExit (f : Nat) (s t : State) :
    aside s (safeExit (some f) t) =
      commitDue .state (emit (ackExitEv t f) { aside s t with saf := { (aside s t).saf with safe := false } }) := by
  have hcommit : ∀ a : State, aside s (commitDue .state a) = commitDue .state (aside s a) := fun _ => rfl
  rw [safeExit_ack, hcommit, aside_emit, prunFollow_aside]
  rfl

/-- An acknowledgement with ACK_READY is taken. -/
theorem hostWord_safeAck {f : Facet} {w : RegWr} {s : State} (h : accepted s f 0x7830 { w with val := withCmd w.val 1 } = true)
    (hk : keyed w.val = true) (hsafe : s.saf.safe = true) :
    rowDone s (hostWord 0x7830 (withCmd w.val 1) w s) w
      (commitDue .state (emit (ackExitEv s f.val) { s with saf := { s.saf with safe := false } })) := by
  have hready : ackReady s = true := by
    have hb := wordBusy_of_accepted h
    rw [wordBusy_safeAck, hk, hsafe, Bool.true_and, Bool.true_and, Bool.not_eq_false'] at hb
    exact hb
  have hdone : wordDone f w.port 0x7830 (withCmd w.val 1) (heardWord f 0x7830 { w with val := withCmd w.val 1 } s) =
      safeExit (some f.val) (heardWord f 0x7830 { w with val := withCmd w.val 1 } s) := by
    have hheard : ackReady (heardWord f 0x7830 { w with val := withCmd w.val 1 } s) = true := hready
    rw [wordDone_safeAck, hk, hheard, Bool.and_self, if_pos rfl]
  refine rowDone_accepted f 0x7830 (withCmd w.val 1) w s _ h rfl (.inl (by decide)) ?_ ?_
  · rw [hdone, safeExit_ack, commitDue_port, emit_port, prunFollow_port]
  · rw [hdone, aside_safeExit, aside_heardWord]
    rfl

/-- An acknowledgement without ACK_READY is Busy. -/
theorem frameDone_safeAck_busy {f : Facet} {w : RegWr} {s : State} (hready : ready cmdWrite f (rowFrame s 0x7830 (withCmd w.val 1) w) s)
    (hout : writeOut s f.val (0x7830, withCmd w.val 1) = .ok) (hk : keyed w.val = true) (hsafe : s.saf.safe = true)
    (hcause : s.saf.cause ≠ 0) : frameDone s (hostWord 0x7830 (withCmd w.val 1) w s) (rowFrame s 0x7830 (withCmd w.val 1) w)
      (mkReply stBusy cmdWrite []) s := by
  have hbusy : wordBusy s f.val w.port 0x7830 (withCmd w.val 1) = true := by
    rw [wordBusy_safeAck, hk, hsafe, ackReady, decide_eq_false hcause, Bool.and_false]
    rfl
  have hbusy' : wordBusy (heard (rowFrame s 0x7830 (withCmd w.val 1) w) s) f.val w.port 0x7830 (withCmd w.val 1) = true :=
    (wordBusy_heard _ (heard (rowFrame s 0x7830 (withCmd w.val 1) w) s).cyc s f.val w.port _ _).trans hbusy
  exact frameDone_of _ hready (execWriteFrame_busy (written_rowFrame s (by decide) (withCmd w.val 1) w) hout (wordLocked_safeAck _ _) hbusy')
    rfl (aside_heard _ s)

/-- Settles O37: each request register by its rule, PRUN by the last step of a write, and the acknowledgement by ACK_READY. -/
theorem requestsToSharedActuators : Obligations.RequestsToSharedActuators := by
  refine ⟨fun n => ?gp, ?bright, ?pump, fun f w s h => ?prun, fun off row f w s hrow hready hsame hout hsafe hprun hv => ?locked,
    fun f w s h hk hsafe => ?ack, ?idle, fun f w s hready _ hout hk hsafe hcause => ?busy⟩
  case gp =>
    exact rowDoes_request (fun _ _ => rfl) (by omega) (by have := n.isLt; omega) fun f v s => iopWrite_gp f n v s
  case bright => exact rowDoes_request (fun _ _ => rfl) (by decide) (by decide) iopWrite_bright
  case pump => exact rowDoes_request (fun _ _ => rfl) (by decide) (by decide) iopWrite_pump
  case prun =>
    refine ⟨_, rfl, ?_⟩
    rw [hostWord_accepted f 0x781C w.val w s h rfl (.inl (by decide))]
    exact replied_follows _ _ _
  case locked =>
    have hoff : off = 0x781C ∨ ∃ n : Fin 6, off = 0x7800 + 4 * n.val ∧ tripLinked s n.val = true :=
      hrow.imp And.left fun ⟨n, hn, _, hlinked⟩ => ⟨n, hn, hlinked⟩
    have hin : 0x7800 ≤ off ∧ off ≤ 0x781C := by
      rcases hoff with rfl | ⟨n, rfl, -⟩
      · decide
      · have := n.isLt
        omega
    have hdone := frameDone_locked (by omega) hready hsame hout (wordLocked_request hsafe hv hoff) (inFrameMem_eq_false (by omega))
      (inAreaData_eq_false (by omega)) (by omega) hprun
    rcases hrow with ⟨rfl, rfl⟩ | ⟨n, rfl, rfl, -⟩
    · exact ⟨_, rfl, hdone⟩
    · exact ⟨_, rfl, hdone⟩
  case ack =>
    obtain ⟨hans, haside⟩ := hostWord_safeAck h (keyed_of_withKey hk) hsafe
    have hsto := sto_of_aside haside
    refine ⟨_, rfl, hans, ?_, ?_⟩
    · rw [hsto]
      exact commitDue_deferred _ _
    · rw [haside, hsto]
      rfl
  case idle =>
    refine rowDoes_of (fun _ _ => rfl) rfl (.inl (by decide)) fun f w s _ hidle a ha => word_idle ha ?_
    rw [wordDone_safeAck, if_neg]
    rw [ha]
    rcases hidle with hk | hsafe
    · simp [keyed_of_withoutKey hk]
    · have hnot : ackReady (heardWord f 0x7830 { w with val := withCmd w.val 1 } s) = false := by
        show (s.saf.safe && decide (s.saf.cause = 0)) = false
        rw [hsafe, Bool.false_and]
      simp [hnot]
  case busy => exact ⟨_, rfl, frameDone_safeAck_busy hready hout (keyed_of_withKey hk) hsafe hcause⟩

end Sys2Proof.Proofs
end

section
/-! PROOFS. READs of one word of an accumulator: the snapshot of the port (R81, R439). -/

namespace Sys2Proof.Proofs

open Sys2Proof Sys2Proof.Machine Sys2Proof.Safety Sys2Proof.Laws

/-! ### Words of an accumulator -/

/-- The offsets of accumulators and pairs lie outside frame memory and user areas, and none is a stamp. -/
theorem accumulator_place {off base i : Nat} (h : snapKey off = some (base, i)) : off < 0x5000 ∧ stampSet off = none := by
  unfold snapKey at h
  split at h
  · next hin =>
    split at h
    · next hword =>
      have hset : ¬ off % 0x80 = 0x0C := by omega
      have hvol : ¬ off % 0x40 = 0x0C := by omega
      exact ⟨by omega, by simp [stampSet, hset, hvol]⟩
    · cases h
  · next hout =>
    have hset : ¬(0x2000 ≤ off ∧ off < 0x2400 ∧ off % 0x80 = 0x0C) := by omega
    have hvol : ¬(0x2400 ≤ off ∧ off < 0x2500 ∧ off % 0x40 = 0x0C) := by omega
    refine ⟨?_, by rw [stampSet, if_neg hset, if_neg hvol]⟩
    split at h
    · next hlow =>
      have : ∀ x ∈ [0x0810, 0x0818, 0x3824, 0x4210, 0x4218], x < 0x5000 := by decide
      exact this off (List.contains_iff_mem.mp hlow)
    · split at h
      · next hhigh =>
        have : ∀ x ∈ [0x0814, 0x081C, 0x3828, 0x4214, 0x421C], x < 0x5000 := by decide
        exact this off (List.contains_iff_mem.mp hhigh)
      · cases h

section
variable {off base i : Nat} (h : snapKey off = some (base, i)) (s : State) (f p : Nat)
include h

/-- Without a snapshot, and for word 0, a word reads live. -/
theorem wordValue_live {coh : Bool} (hlive : coh = true ∨ i = 0) : wordValue s f p off coh = liveRead s f p off := by
  obtain ⟨hlow, hstamp⟩ := accumulator_place h
  have hfm : ¬(0x5000 ≤ off ∧ off < 0x6000) := by omega
  have harea : ¬(0x8000 ≤ off ∧ off < 0xA000) := by omega
  rw [wordValue, if_neg hfm, if_neg harea, regValue, hstamp, h]
  rcases hlive with rfl | rfl
  · rfl
  · cases (if coh then none else (port s p).snap) with
    | none => rfl
    | some n => simp

/-- A READ of a word above word 0 comes from a snapshot of its accumulator. -/
theorem wordValue_snapshot (hi : i ≠ 0) : wordValue s f p off false = ((port s p).snap.bind fun n =>
    if n.base = base then some (n.words.getD i 0) else none).getD (liveRead s f p off) := by
  obtain ⟨hlow, hstamp⟩ := accumulator_place h
  have hfm : ¬(0x5000 ≤ off ∧ off < 0x6000) := by omega
  have harea : ¬(0x8000 ≤ off ∧ off < 0xA000) := by omega
  rw [wordValue, if_neg hfm, if_neg harea, regValue, hstamp, h, if_neg Bool.false_ne_true]
  cases (port s p).snap with
  | none => rfl
  | some n =>
    by_cases hb : n.base = base
    · simp [hi, hb]
    · simp [hb]

theorem regTouch_word0 (hi : i = 0) (hc : off ≠ 0x3820) :
    regTouch f p off false s = setPort p (fun x => { x with snap := some (takeSnap s f p base) }) s := by
  subst hi
  simp [regTouch, h, hc]

theorem regTouch_upper (hi : i ≠ 0) (hc : off ≠ 0x3820) (coh : Bool) : regTouch f p off coh s = s := by
  obtain ⟨k, rfl⟩ := Nat.exists_eq_succ_of_ne_zero hi
  simp [regTouch, h, hc]

theorem regTouch_coherent (hc : off ≠ 0x3820) : regTouch f p off true s = s := by
  cases i with
  | zero => simp [regTouch, h, hc]
  | succ k => simp [regTouch, h, hc]

end

/-! ### A frame of one word -/

/-- A READ or READ-COHERENT of one OK word outside frame memory returns its value, and then the word's reading takes effect. -/
theorem execReadFrame_one {coh : Bool} {f : Facet} {p : Port} {fr : Frame} {s : State} (hn : fr.count = 1) (hc : s.cyc.applied = false)
    (ho : outcomeOf s f.val fr.addr.toNat false = .ok) (hfm : inFrameMem fr.addr.toNat = false) :
    execReadFrame coh f p fr s = .reply (regTouch f.val p.val fr.addr.toNat coh s)
      (mkReply stOk (if coh then cmdCoherent else cmdRead) [wordValue s f.val p.val fr.addr.toNat coh]) := by
  have hoffs : frameOffs fr.addr.toNat fr.count.toNat = [fr.addr.toNat] := by simp [frameOffs, hn]
  have hst : wordsStatus [WordOut.ok] = none := by decide
  rw [execReadFrame, hoffs]
  cases coh with
  | false => simp [readWords, hfm, ho, hc, hst]
  | true => simp [coherentWords, hfm, ho, hc, hst]

section
variable {f : Facet} {fr : Frame} {s : State} (hn : fr.count = 1) (ho : outcomeOf s f.val fr.addr.toNat false = .ok)
  (hfm : inFrameMem fr.addr.toNat = false)
include hn ho hfm

theorem execFrame_readOne (h : ready cmdRead f fr s) : execFrame cmdRead f fr.port fr (portWord s fr.port.val) (heard fr s) =
    .reply (regTouch f.val fr.port.val fr.addr.toNat false (heard fr s))
      (mkReply stOk cmdRead [wordValue (heard fr s) f.val fr.port.val fr.addr.toNat false]) :=
  execReadFrame_one hn (heard_cyc h) ho hfm

theorem execFrame_coherentOne (h : ready cmdCoherent f fr s) :
    execFrame cmdCoherent f fr.port fr (portWord s fr.port.val) (heard fr s) =
    .reply (regTouch f.val fr.port.val fr.addr.toNat true (heard fr s))
      (mkReply stOk cmdCoherent [wordValue (heard fr s) f.val fr.port.val fr.addr.toNat true]) :=
  execReadFrame_one hn (heard_cyc h) ho hfm

end

theorem snap_heard (fr : Frame) (s : State) : (port (heard fr s) fr.port.val).snap = (port s fr.port.val).snap := by rw [port_heard]

/-- Settles O11: word 0 takes the snapshot, a word above comes from it, and READ-COHERENT ignores it. -/
theorem snapshotsBelongToTheirPort : Obligations.SnapshotsBelongToTheirPort := by
  intro f fr s base i hn hc ho hkey
  have hfm : inFrameMem fr.addr.toNat = false := by
    obtain ⟨hlow, -⟩ := accumulator_place hkey
    exact inFrameMem_eq_false (.inl hlow)
  refine ⟨fun h => ?read, fun h => ?coherent⟩
  case read =>
    have he := execFrame_readOne hn ho hfm h
    by_cases hi : i = 0
    · rw [regTouch_word0 hkey _ _ _ hi hc, wordValue_live hkey _ _ _ (.inr hi)] at he
      refine ⟨_, rfl, ?_, fun q hq => ?_, fun _ => ⟨?_, held_hostFrame h he⟩, fun hpos => absurd hi hpos.ne'⟩
      · rw [hostFrame_done h he, wake_aside, answer_aside]
        rfl
      · rw [port_hostFrame h he, answer, port_setPort_ne _ _ _ _ hq, port_setPort_ne _ _ _ _ hq]
        exact vget_vmod_ne _ _ _ _ _ hq
      · rw [port_hostFrame h he, answer, port_setPort _ _ _ fr.port.isLt, port_setPort _ _ _ fr.port.isLt]
    · rw [regTouch_upper hkey _ _ _ hi hc, wordValue_snapshot hkey _ _ _ hi, snap_heard] at he
      obtain ⟨⟨hport, hothers⟩, haside⟩ := frameDone_of _ h he rfl (aside_heard fr s)
      exact ⟨_, rfl, haside, hothers, fun h0 => absurd h0 hi, fun _ => ⟨by rw [hport], by rw [hport]⟩⟩
  case coherent =>
    have he := execFrame_coherentOne hn ho hfm h
    rw [regTouch_coherent hkey _ _ _ hc, wordValue_live hkey _ _ _ (.inl rfl)] at he
    exact ⟨_, rfl, frameDone_of _ h he rfl (aside_heard fr s)⟩

end Sys2Proof.Proofs
end

section
/-! PROOFS. What a facet reset does to its facet, its ports and its load session (R84, R86, R56). -/

namespace Sys2Proof.Proofs

open Sys2Proof Sys2Proof.Machine Sys2Proof.Safety Sys2Proof.Laws

/-! ### Events to one facet -/

/-- From a to b events were raised to facet f: its queue may have grown, and of the facets nothing else changed but EVT_LOST of f. -/
structure FacetReports (f : Nat) (a b : State) : Prop where
  quiet : quietFacet (facet b f) = quietFacet (facet a f)
  queue : (facet a f).queue <+: (facet b f).queue
  others : ∀ g, g ≠ f → facet b g = facet a g

theorem FacetReports.trans {f : Nat} {a b c : State} (h : FacetReports f a b) (g : FacetReports f b c) : FacetReports f a c :=
  ⟨g.quiet.trans h.quiet, h.queue.trans g.queue, fun k hk => (g.others k hk).trans (h.others k hk)⟩

theorem facetReports_of_fac {f : Nat} {a b : State} (h : b.fac = a.fac) : FacetReports f a b := by
  have hfacet : ∀ g, facet b g = facet a g := fun g => by rw [facet, h, facet]
  exact ⟨congrArg quietFacet (hfacet f), by rw [hfacet], fun g _ => hfacet g⟩

theorem queue_queueRec (s : State) (m : Nat) (r : EvRec) (f : Nat) :
    (vget s.fac f FacetSt.zero).queue <+: (vget (queueRec s m r) f FacetSt.zero).queue := by
  by_cases hf : f < 5
  · rw [queueRec, vget_vmap _ _ _ FacetSt.zero _ hf]
    split
    · split
      · exact List.prefix_append _ _
      · exact List.prefix_refl _
    · exact List.prefix_refl _
  · rw [vget_out _ _ _ hf, vget_out _ _ _ hf]

/-- An event only adds to a queue (R124). -/
theorem queue_emit (e : Ev) (s : State) (f : Nat) : (facet s f).queue <+: (facet (emit e s) f).queue := by
  unfold emit
  split
  · exact List.prefix_refl _
  · unfold facet queueEv
    dsimp only
    split
    · exact queue_queueRec s _ _ f
    · exact List.prefix_refl _

theorem facetReports_emit {f : Nat} {e : Ev} (h : e.who = 2 ^ f) (s : State) : FacetReports f s (emit e s) :=
  ⟨facet_emit e s f, queue_emit e s f, fun g hg => facet_emit_other e s g (by rw [h]; exact Nat.testBit_two_pow_of_ne hg.symm)⟩

/-! ### The parts of a facet reset -/

/-- Facet f's own registers and its words for a user area after a facet reset; the ports apart. -/
def facetCleared (f cause : Nat) (s : State) : State :=
  { s with
    fac := vmod s.fac f (facetAfterReset s f cause)
    sto := { s.sto with areaWrites := s.sto.areaWrites.filter fun w => !boundPort s f w.port.val } }

/-- A load session ends with the facet reset of F0 (R56). -/
def sessionEnded (f : Nat) (s : State) : State := if f = 0 then sessionLost s else s

/-- FACET_RESET (Table 2-12). -/
def facetResetEv (s : State) (f cause p : Nat) : Ev :=
  { code := 0x0201, sev := 1, who := 2 ^ f, w4 := w32 cause, w5 := w32 p
    w6 := w32 (requestsChanged (facet s f) (facetAfterReset s f cause (facet s f))) }

/-- The ports of facet f are reinitialised. -/
def portsReset (f : Nat) (s : State) : State :=
  { s with port := vmap s.port fun q z => if boundPort s f q then portAfterReset z else z }

theorem facetReset_eq (f cause p : Nat) (s : State) : facetReset f cause p s =
    prunFollow (emit (facetResetEv s f cause p) (sessionEnded f { facetCleared f cause s with port := (portsReset f s).port })) := by
  have hown : vmod s.fac f (fun _ => facetAfterReset s f cause (facet s f)) = vmod s.fac f (facetAfterReset s f cause) :=
    vmod_own s.fac f (fun a _ => facetAfterReset s f cause a) FacetSt.zero
  rw [facetCleared, ← hown]
  rfl

/-! ### The ports -/

theorem sessionLost_port (s : State) : (sessionLost s).port = s.port := by
  unfold sessionLost
  split
  · exact emit_port _ _
  · rfl

theorem sessionEnded_port (f : Nat) (s : State) : (sessionEnded f s).port = s.port := by
  unfold sessionEnded
  split
  · exact sessionLost_port s
  · rfl

theorem facetReset_port (f cause p : Nat) (s : State) : (facetReset f cause p s).port = (portsReset f s).port := by
  rw [facetReset_eq, prunFollow_port, emit_port, sessionEnded_port]

theorem boundPort_lt {s : State} {f q : Nat} (h : boundPort s f q = true) : q < 3 := by
  by_contra hq
  rw [boundPort, port, vget_out _ _ _ hq] at h
  cases h

theorem port_portsReset (f : Nat) (s : State) (q : Nat) :
    port (portsReset f s) q = if boundPort s f q then portAfterReset (port s q) else port s q := by
  by_cases hq : q < 3
  · exact vget_vmap _ _ _ PortSt.zero _ hq
  · have hnot : boundPort s f q = false := Bool.eq_false_iff.mpr fun h => hq (boundPort_lt h)
    rw [hnot, if_neg Bool.false_ne_true, port, vget_out _ _ _ hq, port, vget_out _ _ _ hq]

/-! ### The session -/

theorem aside_sessionEnded (f : Nat) (s t : State) : aside s (sessionEnded f t) = sessionEnded f (aside s t) := by
  have hlost : aside s (sessionLost t) = sessionLost (aside s t) := by
    have hopen : sessionOpen (aside s t) = sessionOpen t := rfl
    rw [sessionLost, sessionLost, hopen]
    split
    · exact aside_emit _ s _
    · rfl
  unfold sessionEnded
  split
  · exact hlost
  · rfl

theorem sessionEnded_idle {f : Nat} {s : State} (h : f ≠ 0 ∨ sessionOpen s = false) : sessionEnded f s = s := by
  rw [sessionEnded]
  split
  · next hf =>
    rw [sessionLost, h.resolve_left (not_not.mpr hf), if_neg Bool.false_ne_true]
  · rfl

/-- The end of a session is reported to F0, refused with code 0x1D (R44). -/
theorem sessionEnded_lost {s : State} (h : sessionOpen s = true) :
    sessionEnded 0 s = emit (refusedEv (plainRefusal 0x1D false) s.img.pendingSeq) (noteRefusal (plainRefusal 0x1D false) (dropSession s)) := by
  rw [sessionEnded, if_pos rfl, sessionLost, if_pos h]
  rfl

theorem facetReports_sessionEnded (f : Nat) (s : State) : FacetReports f s (sessionEnded f s) := by
  by_cases h : f ≠ 0 ∨ sessionOpen s = false
  · rw [sessionEnded_idle h]
    exact facetReports_of_fac rfl
  · obtain ⟨hf, hopen⟩ : f = 0 ∧ sessionOpen s = true := by simpa using h
    subst hf
    have hwho : (refusedEv (plainRefusal 0x1D false) s.img.pendingSeq).who = 2 ^ 0 := rfl
    rw [sessionEnded_lost hopen]
    exact (facetReports_of_fac (a := s) (b := noteRefusal (plainRefusal 0x1D false) (dropSession s)) rfl).trans (facetReports_emit hwho _)

/-- Of the store the end of a session changes only the log of events, and of the security store only the count of refusals. -/
theorem eventsAside_sessionEnded (f : Nat) (s t : State) : eventsAside s (sessionEnded f t) =
    { eventsAside s t with
      img := (sessionEnded f t).img, sec := { t.sec with refuseCount := (sessionEnded f t).sec.refuseCount } } := by
  by_cases h : f ≠ 0 ∨ sessionOpen t = false
  · rw [sessionEnded_idle h]
    rfl
  · obtain ⟨hf, hopen⟩ : f = 0 ∧ sessionOpen t = true := by simpa using h
    subst hf
    rw [sessionEnded_lost hopen, eventsAside_emit, emit_img, emit_sec]
    rfl

/-! ### The whole reset -/

/-- What a facet reset leaves, apart from what every accepted request may change and from the ports. -/
def facetWasReset (f cause p : Nat) (s : State) : State :=
  emit (facetResetEv s f cause p) (sessionEnded f (facetCleared f cause s))

/-- State h is s after a request of facet f has been heard on one of its ports, or s itself. -/
structure HeardFor (f : Nat) (s h : State) : Prop where
  rest : aside s h = s
  bound : ∀ q, boundPort h f q = boundPort s f q
  others : ∀ q, boundPort s f q = false → port h q = port s q

theorem heardFor_self (f : Nat) (s : State) : HeardFor f s s := ⟨rfl, fun _ => rfl, fun _ _ => rfl⟩

theorem aside_facetReset {f : Nat} {s h : State} (hh : HeardFor f s h) (cause p : Nat) :
    aside s (facetReset f cause p h) = facetWasReset f cause p s := by
  have hafter : ∀ x, facetAfterReset h f cause x = facetAfterReset s f cause x := fun x => by
    have haon : (aside s h).aon = s.aon := by rw [hh.rest]
    have hstr : (aside s h).str = s.str := by rw [hh.rest]
    rw [facetAfterReset, show h.aon = s.aon from haon, show h.str = s.str from hstr, facetAfterReset]
  have hfac : h.fac = s.fac := fac_of_aside hh.rest
  have hev : facetResetEv h f cause p = facetResetEv s f cause p := by
    simp only [facetResetEv, facet, hfac, hafter]
  have hcleared : aside s { facetCleared f cause h with port := (portsReset f h).port } = facetCleared f cause s := by
    have hset : aside s { facetCleared f cause h with port := (portsReset f h).port } =
        { aside s h with
          fac := vmod h.fac f (facetAfterReset h f cause)
          sto := { (aside s h).sto with areaWrites := (aside s h).sto.areaWrites.filter fun w => !boundPort h f w.port.val } } := rfl
    rw [hset, hh.rest, hfac, funext hafter]
    simp only [hh.bound]
    rfl
  rw [facetReset_eq, prunFollow_aside, aside_emit, aside_sessionEnded, hcleared, hev, facetWasReset]

/-- A state t reached by a facet reset of s. -/
structure ResetReached (f : Facet) (cause p : Nat) (s t : State) : Prop where
  rest : aside s t = facetWasReset f.val cause p s
  bound : ∀ q, boundPort s f.val q = true → (port t q).facet = some f ∧ ∃ z, port t q = portAfterReset z
  others : ∀ q, boundPort s f.val q = false → port t q = port s q

theorem resetReached {f : Facet} {s h t : State} (hh : HeardFor f.val s h) (cause p : Nat)
    (hport : t.port = (facetReset f.val cause p h).port) (hrest : aside s t = aside s (facetReset f.val cause p h)) :
    ResetReached f cause p s t := by
  have hports : ∀ q, port t q = if boundPort s f.val q then portAfterReset (port h q) else port h q := fun q => by
    rw [← hh.bound, ← port_portsReset, port, hport, facetReset_port, port]
  refine ⟨hrest.trans (aside_facetReset hh cause p), fun q hq => ?_, fun q hq => ?_⟩
  · have hfacet : (port h q).facet.map Fin.val = some f.val := by
      have := (hh.bound q).trans hq
      exact of_decide_eq_true this
    rw [hports, hq, if_pos rfl]
    refine ⟨?_, _, rfl⟩
    obtain ⟨g, hg, hval⟩ := Option.map_eq_some_iff.mp hfacet
    rw [← Fin.ext hval]
    exact hg
  · rw [hports, hq, if_neg Bool.false_ne_true, hh.others q hq]

end Sys2Proof.Proofs
end

section
/-! PROOFS. Facet resets by command and by watchdog, and the watchdog's time (R83 to R86). -/

namespace Sys2Proof.Proofs

open Sys2Proof Sys2Proof.Machine Sys2Proof.Safety Sys2Proof.Laws

/-! ### What a facet reset leaves -/

section
variable {f : Facet} {cause p : Nat} {s : State}

theorem facetReports_facetWasReset : FacetReports f.val (facetCleared f.val cause s) (facetWasReset f.val cause p s) :=
  (facetReports_sessionEnded f.val _).trans (facetReports_emit rfl _)

theorem facet_facetCleared : facet (facetCleared f.val cause s) f.val = facetAfterReset s f.val cause (facet s f.val) :=
  vget_vmod _ _ _ _ f.isLt

theorem facet_facetCleared_ne {g : Nat} (h : g ≠ f.val) : facet (facetCleared f.val cause s) g = facet s g :=
  vget_vmod_ne _ _ _ _ _ h

theorem eventsAside_facetWasReset : eventsAside s (facetWasReset f.val cause p s) = { s with
    img := (facetWasReset f.val cause p s).img, sec := { s.sec with refuseCount := (facetWasReset f.val cause p s).sec.refuseCount }
    sto := { s.sto with areaWrites := s.sto.areaWrites.filter fun w => !boundPort s f.val w.port.val } } := by
  rw [facetWasReset, eventsAside_emit, emit_img, emit_sec, eventsAside_sessionEnded]
  rfl

theorem areaWrites_facetWasReset : (facetWasReset f.val cause p s).sto.areaWrites =
    s.sto.areaWrites.filter fun w => !boundPort s f.val w.port.val := by
  have hwrites : (eventsAside s (facetWasReset f.val cause p s)).sto.areaWrites =
      s.sto.areaWrites.filter fun w => !boundPort s f.val w.port.val := by rw [eventsAside_facetWasReset]
  exact hwrites

/-- Without an open session of F0 a facet reset touches no image. -/
theorem facetWasReset_plain (h : f.val ≠ 0 ∨ sessionOpen s = false) :
    facetWasReset f.val cause p s = emit (facetResetEv s f.val cause p) (facetCleared f.val cause s) := by
  have hidle : sessionEnded f.val (facetCleared f.val cause s) = facetCleared f.val cause s := sessionEnded_idle h
  rw [facetWasReset, hidle]

/-- An open session ends with the facet reset of F0. -/
theorem facetWasReset_session (h : sessionOpen s = true) : (facetWasReset 0 cause p s).img.loader = .idle ∧
    bankState (facetWasReset 0 cause p s) (sessionBank s) = .empty ∧ (facetWasReset 0 cause p s).img.refuse.code = 0x1D := by
  have himg : (facetWasReset 0 cause p s).img = { (dropSession s).img with refuse := plainRefusal 0x1D false } := by
    have hopen : sessionOpen (facetCleared 0 cause s) = true := h
    rw [facetWasReset, emit_img, sessionEnded_lost hopen, emit_img]
    rfl
  refine ⟨by rw [himg]; rfl, ?_, by rw [himg]; rfl⟩
  rw [bankState, himg]
  exact congrArg Bank.state (vget_vmod s.img.banks (sessionBank s) _ Bank.empty (sessionBank_lt s))

end

theorem img_of_aside {s t u : State} (h : aside s t = u) : t.img = u.img := by
  have himg : (aside s t).img = u.img := by rw [h]
  exact himg

theorem sec_of_aside {s t u : State} (h : aside s t = u) : t.sec = u.sec := by
  have hsec : (aside s t).sec = u.sec := by rw [h]
  exact hsec

section
variable {f : Facet} {cause p : Nat} {s t : State}

theorem ResetReached.facet_eq (h : ResetReached f cause p s t) (g : Nat) : facet t g = facet (facetWasReset f.val cause p s) g := by
  have hfac : (aside s t).fac = (facetWasReset f.val cause p s).fac := by rw [h.rest]
  rw [facet, show t.fac = _ from hfac, facet]

theorem ResetReached.quiet (h : ResetReached f cause p s t) :
    quietFacet (facet t f.val) = quietFacet (facetAfterReset s f.val cause (facet s f.val)) := by
  rw [h.facet_eq, facetReports_facetWasReset.quiet, facet_facetCleared]

/-- A facet reset keeps the queue. -/
theorem ResetReached.queue (h : ResetReached f cause p s t) : (facet s f.val).queue <+: (facet t f.val).queue := by
  have hreports := (facetReports_facetWasReset (f := f) (cause := cause) (p := p) (s := s)).queue
  rw [facet_facetCleared] at hreports
  rw [h.facet_eq]
  exact hreports

theorem ResetReached.facets (h : ResetReached f cause p s t) (g : Nat) (hg : g ≠ f.val) : facet t g = facet s g := by
  rw [h.facet_eq, facetReports_facetWasReset.others g hg, facet_facetCleared_ne hg]

theorem ResetReached.session (h : ResetReached f cause p s t) (hf : f = 0) (hopen : sessionOpen s = true) :
    t.img.loader = .idle ∧ bankState t (sessionBank s) = .empty ∧ t.img.refuse.code = 0x1D := by
  subst hf
  have himg := img_of_aside h.rest
  rw [bankState, himg]
  exact facetWasReset_session hopen

theorem ResetReached.areaWrites (h : ResetReached f cause p s t) :
    t.sto.areaWrites = s.sto.areaWrites.filter fun w => !boundPort s f.val w.port.val := by
  rw [sto_of_aside h.rest, areaWrites_facetWasReset]

/-- Without an open session of F0 a facet reset changes only its facet, and queues FACET_RESET to it. -/
theorem ResetReached.plain (h : ResetReached f cause p s t) (hplain : f ≠ 0 ∨ sessionOpen s = false) :
    t.sec = s.sec ∧ t.img = s.img ∧ aside s t = aside s (emit (facetResetEv s f.val cause p)
      { s with fac := vmod s.fac f.val (facetAfterReset s f.val cause), sto := { s.sto with areaWrites := t.sto.areaWrites } }) := by
  have hside := h.rest.trans (facetWasReset_plain (hplain.imp_left Fin.val_ne_of_ne))
  rw [h.areaWrites, aside_emit, hside, sec_of_aside hside, img_of_aside hside, emit_sec, emit_img]
  exact ⟨rfl, rfl, rfl⟩

theorem ResetReached.events (h : ResetReached f cause p s t) : eventsAside s (aside s t) = { s with
    img := t.img, sec := { s.sec with refuseCount := t.sec.refuseCount }, sto := { s.sto with areaWrites := t.sto.areaWrites } } := by
  rw [h.areaWrites, img_of_aside h.rest, sec_of_aside h.rest, h.rest, eventsAside_facetWasReset]

/-- A port of the facet is reinitialised, with no reply sent (Table 2-7). -/
theorem ResetReached.ports (h : ResetReached f cause p s t) (q : Nat) (hq : boundPort s f.val q = true) :
    (port t q).facet = some f ∧ (port t q).held = none ∧ (port t q).executing = none ∧ (port t q).waiting = none ∧
      (port t q).snap = none ∧ (port t q).wdtAt = none ∧ (port t q).transient = none := by
  obtain ⟨hf, z, hz⟩ := h.bound q hq
  refine ⟨hf, ?_⟩
  rw [hz]
  exact ⟨rfl, rfl, rfl, rfl, rfl, rfl⟩

end

/-- FACET_RESET shows the requests that the reset changed (Table 2-12). -/
theorem facetResetEv_eq (s : State) (f cause p : Nat) : facetResetEv s f cause p = ⟨0x0201, 0, 1, 2 ^ f, w32 cause, w32 p,
    w32 (maskOf 8 fun n =>
      if n < 6 then decide (vget (facet s f).gpReq n 0 ≠ vget (facetAfterReset s f cause (facet s f)).gpReq n 0)
      else if n = 6 then decide ((facet s f).brightLevel ≠ (facetAfterReset s f cause (facet s f)).brightLevel ∨
        (facet s f).brightValid ≠ (facetAfterReset s f cause (facet s f)).brightValid)
      else decide ((facet s f).pumpReq ≠ (facetAfterReset s f cause (facet s f)).pumpReq)), 0, false⟩ := by
  simp only [facetResetEv, requestsChanged, Bool.decide_or]

/-! ### By command -/

theorem boundPort_iff {s : State} {f : Facet} {q : Nat} : boundPort s f.val q = true ↔ (port s q).facet = some f := by
  rw [boundPort, decide_eq_true_iff, Option.map_eq_some_iff]
  constructor
  · rintro ⟨g, hg, hval⟩
    rw [hg, Fin.ext hval]
  · exact fun h => ⟨f, h, rfl⟩

/-- A frame heard on a port of facet f. -/
theorem heardFor_noted {f : Facet} {fr : Frame} {s : State} (xs : List (Nat × Word)) (h : (port s fr.port.val).facet = some f) :
    HeardFor f.val s (noted f xs (heard fr s)) := by
  have hne : ∀ q, q ≠ fr.port.val → port (noted f xs (heard fr s)) q = port s q := fun q hq => vget_vmod_ne _ _ _ _ _ hq
  have hport : (port (noted f xs (heard fr s)) fr.port.val).facet = (port s fr.port.val).facet := by
    rw [show port (noted f xs (heard fr s)) = port (heard fr s) from rfl, port_heard]
  refine ⟨(aside_noted f xs s _).trans (aside_heard fr s), fun q => ?_, fun q hq => hne q ?_⟩
  · by_cases hq : q = fr.port.val
    · rw [hq, boundPort, hport, boundPort]
    · rw [boundPort, hne q hq, boundPort]
  · rintro rfl
    rw [boundPort_iff.mpr h] at hq
    cases hq

/-- The word of an accepted one-word write is taken. -/
theorem takes_of_accepted {f : Facet} {off : Nat} {v : Word} {w : RegWr} {s : State} (h : accepted s f off { w with val := v } = true)
    (hfm : inFrameMem off = false) (harea : inAreaData off = false) :
    off < 65536 ∧ (port s w.port.val).facet = some f ∧ ready cmdWrite f (rowFrame s off v w) s ∧ Takes f (rowFrame s off v w) s := by
  simp only [accepted, Bool.and_eq_true, decide_eq_true_eq, Bool.not_eq_true', Bool.or_eq_true] at h
  obtain ⟨⟨⟨⟨⟨⟨⟨hfree, hoff⟩, h4⟩, hout⟩, -⟩, hbusy⟩, -⟩, hsame⟩ := h
  have hcycle : w.same = true → s.cyc.applied = false ∧ s.cyc.writes.contains (f, off) = false := fun hs =>
    hsame.resolve_left (by rw [hs]; exact Bool.noConfusion)
  have hfacet : (port s w.port.val).facet = some f := by
    simp only [portFree, Bool.and_eq_true, decide_eq_true_eq] at hfree
    obtain ⟨⟨⟨⟨_, hf⟩, _⟩, _⟩, _⟩ := hfree
    exact hf
  exact ⟨hoff, hfacet, ⟨hfree, crcOk_wordFrame off v w _, formatOk_wordFrame off v w _ hoff h4, fun hs => (hcycle hs).1⟩,
    takes_word hoff hout (fun hs => (hcycle hs).2) hfm (.inl hbusy) harea⟩

theorem wordLocked_fctCtrl (s : State) (v : Word) : wordLocked s 0x0018 v = false :=
  wordLocked_of_specOf_none (by decide) (by decide) (by decide) (by decide) s v

/-- FACET_RESET with its key, accepted. -/
theorem resetReached_command {f : Facet} {w : RegWr} {s : State} (h : accepted s f 0x0018 { w with val := fctWord w.val 0 } = true)
    (hk : keyed w.val = true) : ResetReached f 1 w.port.val s (hostWord 0x0018 (fctWord w.val 0) w s) := by
  obtain ⟨hoff, hfacet, hready, ht⟩ := takes_of_accepted h rfl rfl
  have hkey : keyed (fctWord w.val 0) = true := (keyed_fctWord w.val (by decide)).trans hk
  have hbit : bit (fctWord w.val 0) 0 = true := bit_fctWord w.val (by decide) (by decide)
  have hwritten := written_rowFrame s hoff (fctWord w.val 0) w
  have hresets : resetsFacet (written (rowFrame s 0x0018 (fctWord w.val 0) w)) = true := by
    rw [hwritten]
    simp [resetsFacet, hkey, hbit]
  have hword : ∀ a : State, wordApplied f w.port a (0x0018, fctWord w.val 0) = facetReset f.val 1 w.port.val a := fun a => by
    have hl : wordLocked a 0x0018 (fctWord w.val 0) = false := wordLocked_fctCtrl a _
    have hb : wordBusy a f.val w.port 0x0018 (fctWord w.val 0) = false := rfl
    have hreg : regWrite f.val w.port 0x0018 (fctWord w.val 0) a = (if !keyed (fctWord w.val 0) then a
      else if bit (fctWord w.val 0) 0 then facetReset f.val 1 w.port.val a
      else if bit (fctWord w.val 0) 1 then fctClear f.val a else a) := rfl
    simp only [wordApplied, hl, hb, hreg, hkey, hbit, Bool.not_true, Bool.or_self, Bool.false_eq_true, if_false, if_true]
    rfl
  have hrun := hostFrame_write_resets hready ht hresets
  rw [hwritten, List.foldl_cons, List.foldl_nil, show (rowFrame s 0x0018 (fctWord w.val 0) w).port = w.port from rfl, hword] at hrun
  have hpath : hostWord 0x0018 (fctWord w.val 0) w s = _ := hrun
  refine resetReached (heardFor_noted [(0x0018, fctWord w.val 0)] (fr := rowFrame s 0x0018 (fctWord w.val 0) w) hfacet) 1 w.port.val ?_ ?_
  · rw [hpath, wake_port, prunFollow_port]
  · rw [hpath, wake_aside, prunFollow_aside]

/-! ### By watchdog -/

theorem watchdogExpiry_due {p : Nat} {f : Facet} {a : Nat} {s : State} (hf : (port s p).facet = some f) (ha : (port s p).wdtAt = some a)
    (hms : (facet s f.val).timeoutMs ≠ 0) (hdue : (facet s f.val).timeoutMs * 32768 ≤ (s.aon - a) * 1000) (hpast : a ≤ s.aon) :
    watchdogExpiry p s = facetReset f.val 2 p s := by
  have helapsed : a + aonOfMs (facet s f.val).timeoutMs ≤ s.aon := by
    rw [aonOfMs]
    omega
  simp only [watchdogExpiry, hf, ha]
  rw [if_pos ⟨hms, helapsed⟩]

/-- What follows an event may only start HFX. -/
theorem aside_react {s t : State} (h : t.chd = s.chd) (u : State) : aside u (react s t) = aside u t := by
  rw [react_eq_demandWake h, demandWake]
  split
  · rfl
  · exact wake_aside u t

theorem react_port {s t : State} (h : t.chd = s.chd) : (react s t).port = t.port := by
  rw [react_eq_demandWake h, demandWake]
  split
  · rfl
  · exact wake_port t

theorem chd_of_aside {s t u : State} (h : aside s t = u) : t.chd = u.chd := by
  have hchd : (aside s t).chd = u.chd := by rw [h]
  exact hchd

theorem facetReset_chd (f : Facet) (cause p : Nat) (s : State) : (facetReset f.val cause p s).chd = s.chd := by
  rw [chd_of_aside (aside_facetReset (heardFor_self f.val s) cause p)]
  have hset : (eventsAside s (facetWasReset f.val cause p s)).chd = s.chd := by rw [eventsAside_facetWasReset]
  exact hset

theorem resetReached_watchdog {p : Port} {f : Facet} {a : Nat} {s : State} (hl : live s = true) (hf : (port s p.val).facet = some f)
    (ha : (port s p.val).wdtAt = some a) (hms : (facet s f.val).timeoutMs ≠ 0)
    (hdue : (facet s f.val).timeoutMs * 32768 ≤ (s.aon - a) * 1000) (hpast : a ≤ s.aon) :
    ResetReached f 2 p.val s (event (live s) (watchdogExpiry p.val) s) := by
  have hchd := facetReset_chd f 2 p.val s
  rw [event_pos hl, watchdogExpiry_due hf ha hms hdue hpast]
  exact resetReached (heardFor_self f.val s) 2 p.val (react_port hchd) (aside_react hchd s)

/-! ### The watchdog's time -/

theorem port_fctWdtWrite (f : Nat) (v : Word) (s : State) (q : Nat) : port (fctWdtWrite f v s) q =
    if boundPort s f q && (port s q).wdtAt.isSome then { port s q with wdtAt := some s.aon } else port s q := by
  by_cases hq : q < 3
  · exact vget_vmap _ _ _ PortSt.zero _ hq
  · have hnot : boundPort s f q = false := Bool.eq_false_iff.mpr fun h => hq (boundPort_lt h)
    rw [hnot, Bool.false_and, if_neg Bool.false_ne_true, port, vget_out _ _ _ hq, port, vget_out _ _ _ hq]

theorem wordDone_fctWdt (f : Facet) (p : Port) (v : Word) (s : State) : wordDone f p 0x001C v s = fctWdtWrite f.val v s := rfl

theorem aside_fctWdtWrite (f : Nat) (v : Word) (s t : State) : aside s (fctWdtWrite f v t) = { aside s t with
    fac := vmod (aside s t).fac f fun x => { x with timeoutMs := wdtStored (bits v 15 0) } } := rfl

/-- The ports after an accepted row: the row's own port holds the reply, and each is otherwise as its word left it. -/
theorem port_replied (p : Port) (r : Reply) (s : State) (q : Nat) : port (replied p r s) q = port (answer p.val r s) q := by
  rw [replied, port, wake_port, port, answer, answer, setPort_port, setPort_port, prunFollow_port]

theorem fctWdt_row {f : Facet} {w : RegWr} {s : State} (h : accepted s f 0x001C w = true) :
    (port (hostWord 0x001C w.val w s) w.port.val).held = some okWrite ∧ (port (hostWord 0x001C w.val w s) w.port.val).wdtAt = some s.aon ∧
      (∀ q, q ≠ w.port.val → port (hostWord 0x001C w.val w s) q =
        if boundPort s f.val q = true ∧ (port s q).wdtAt.isSome = true then { port s q with wdtAt := some s.aon } else port s q) ∧
      aside s (hostWord 0x001C w.val w s) = { s with fac := vmod s.fac f.val fun x => { x with timeoutMs := wdtStored (bits w.val 15 0) } } := by
  obtain ⟨-, hfacet, -, -⟩ := takes_of_accepted (v := w.val) h rfl rfl
  have hheard : HeardFor f.val s (heardWord f 0x001C w s) := heardFor_noted [(0x001C, w.val)] (fr := rowFrame s 0x001C w.val w) hfacet
  have hown : port (heardWord f 0x001C w s) w.port.val = _ := port_heard (rowFrame s 0x001C w.val w) s
  have hne : ∀ q, q ≠ w.port.val → port (heardWord f 0x001C w s) q = port s q := fun q hq => vget_vmod_ne _ _ _ _ _ hq
  rw [hostWord_accepted f 0x001C w.val w s h rfl (.inl (by decide)), wordDone_fctWdt]
  refine ⟨?_, ?_, fun q hq => ?_, ?_⟩
  · rw [port_replied, answer, port_setPort _ _ _ w.port.isLt]
  · rw [port_replied, answer, port_setPort _ _ _ w.port.isLt, port_fctWdtWrite, hheard.bound, boundPort_iff.mpr hfacet, hown]
    rfl
  · rw [port_replied, answer, port_setPort_ne _ _ _ _ hq, port_fctWdtWrite, hheard.bound, hne q hq]
    simp only [Bool.and_eq_true]
    rfl
  · rw [replied_aside, aside_fctWdtWrite, aside_heardWord]

/-! ### The rows -/

/-- FCT_CTRL without its key does nothing. -/
theorem facetReset_unkeyed : rowDoes .facetReset 0x0018 (fctWord · 0) withoutKey nothing := by
  intro f w s h hk
  have hkey : keyed (fctWord w.val 0) = false := (keyed_fctWord w.val (by decide)).trans (keyed_of_withoutKey hk)
  obtain ⟨hport, haside⟩ := word_idle (s := s) (w := { w with val := fctWord w.val 0 }) rfl
    (wordDone_fctCtrl_unkeyed f w.port hkey (heardWord f 0x0018 { w with val := fctWord w.val 0 } s))
  exact ⟨_, rfl, rowDone_accepted f 0x0018 (fctWord w.val 0) w s _ h rfl (.inr (.inl hkey)) hport haside⟩

/-- Settles O36: the reset by command and by watchdog reach the same state, and FCT_WDT restarts the armed watchdogs. -/
theorem facetResetsAndWatchdogs : Obligations.FacetResetsAndWatchdogs := by
  unfold Obligations.FacetResetsAndWatchdogs
  intro after requests done
  have reached : ∀ {f : Facet} {cause p : Nat} {s t : State}, ResetReached f cause p s t → done s t f cause p := fun h =>
    ⟨h.ports, h.others, h.quiet, h.queue, h.facets, h.session, fun hidle => by
      have hplain := h.plain hidle
      rwa [facetResetEv_eq] at hplain, h.areaWrites, h.events⟩
  refine ⟨fun f w s h hk => ⟨_, rfl, reached (resetReached_command h (keyed_of_withKey hk))⟩, facetReset_unkeyed,
    fun p f a s hl hf ha hms hdue hpast => ⟨_, rfl, reached (resetReached_watchdog hl hf ha hms hdue hpast)⟩,
    fun f w s h => ⟨_, rfl, fctWdt_row h⟩⟩

end Sys2Proof.Proofs
end

section
/-! PROOFS. RESTART commands: the record of forced faults a command clears, and what each unit starts with (R119, R152, R213, R243,
R302). -/

namespace Sys2Proof.Proofs

open Sys2Proof Sys2Proof.Machine Sys2Proof.Safety Sys2Proof.Laws

/-! ### The records of forced faults -/

/-- Clearing a unit's record leaves those of other units alone (R119). -/
theorem faultRec_clearFaults_ne {u v : Nat} (h : v ≠ u) (s : State) : faultRec (clearFaults u s) v = faultRec s v := by
  simp only [faultRec, clearFaults]
  rw [find_filter_ne h]

theorem faultRec_of_faults {s t : State} (h : t.whl.faults = s.whl.faults) (u : Nat) : faultRec t u = faultRec s u := by
  simp only [faultRec, h]

theorem aside_emitAll (es : List Ev) (s t : State) : aside s (emitAll es t) = emitAll es (aside s t) := by
  induction es generalizing t with
  | nil => rfl
  | cons e es ih => exact (ih (emit e t)).trans (congrArg (emitAll es) (aside_emit e s t))

/-! ### Channels -/

/-- A channel in FAULT starts again, its record cleared. -/
def chanRestarted (s : State) (k : Nat) : State :=
  clearFaults (k + 1) { s with met := { s.met with ch := vmod s.met.ch k (chanStart 12) } }

/-- The channels that MTR_AFE_CTRL RESTART names and that are in FAULT. -/
def restarting (mask : Nat) (s : State) : List Nat :=
  (List.range 8).filter fun k => nbit mask k && decide ((chan s k).state = .fault)

theorem afeRestart_eq (mask : Nat) (s : State) : afeRestart mask s = (restarting mask s).foldl chanRestarted s := rfl

theorem mem_restarting {mask : Nat} {s : State} {k : Nat} :
    k ∈ restarting mask s ↔ k < 8 ∧ nbit mask k = true ∧ (chan s k).state = .fault := by
  simp [restarting]

theorem nodup_restarting (mask : Nat) (s : State) : (restarting mask s).Nodup := List.nodup_range.filter _

theorem chan_chanRestarted {k : Nat} (hk : k < 8) (s : State) : chan (chanRestarted s k) k = chanStart 12 (chan s k) :=
  vget_vmod _ _ _ _ hk

theorem chan_chanRestarted_ne {j k : Nat} (h : j ≠ k) (s : State) : chan (chanRestarted s k) j = chan s j :=
  vget_vmod_ne _ _ _ _ _ h

/-- Each channel of a list without repetition starts again once, and the others stay. -/
theorem chan_restarted {l : List Nat} (hl : l.Nodup) (h8 : ∀ k ∈ l, k < 8) (s : State) (j : Nat) :
    chan (l.foldl chanRestarted s) j = if j ∈ l then chanStart 12 (chan s j) else chan s j := by
  induction l generalizing s with
  | nil => simp
  | cons k ks ih =>
    obtain ⟨hk, hks⟩ := List.nodup_cons.mp hl
    rw [List.foldl_cons, ih hks (fun x hx => h8 x (List.mem_cons_of_mem k hx))]
    by_cases hj : j = k
    · subst hj
      simp [hk, chan_chanRestarted (h8 j List.mem_cons_self)]
    · simp [hj, chan_chanRestarted_ne hj]

theorem faultRec_restarted (l : List Nat) (s : State) (u : Nat) :
    faultRec (l.foldl chanRestarted s) u = if u ∈ l.map (· + 1) then ⟨[], none, false⟩ else faultRec s u := by
  induction l generalizing s with
  | nil => simp
  | cons k ks ih =>
    rw [List.foldl_cons, ih]
    by_cases hu : u = k + 1
    · subst hu
      simp [chanRestarted, faultRec_clearFaults]
    · have hstep : faultRec (chanRestarted s k) u = faultRec s u := faultRec_clearFaults_ne hu _
      simp only [hstep, List.map_cons, List.mem_cons, hu, false_or]

theorem chanRestarted_frame (l : List Nat) (s : State) : l.foldl chanRestarted s = { s with
    met := { s.met with ch := (l.foldl chanRestarted s).met.ch }
    whl := { s.whl with faults := (l.foldl chanRestarted s).whl.faults } } := by
  induction l generalizing s with
  | nil => rfl
  | cons k ks ih => exact ih (chanRestarted s k)

theorem aside_afeRestart (mask : Nat) (s t : State) : aside s (afeRestart mask t) = afeRestart mask (aside s t) :=
  (List.foldl_hom (aside s) fun _ _ => rfl).symm

theorem nbit_bits_low (v : Word) {k : Nat} (hk : k < 8) : nbit (bits v 7 0) k = bit v k := by
  rw [nbit, bits, bit, ← BitVec.testBit_toNat, Nat.pow_zero, Nat.div_one, Nat.testBit_mod_two_pow, decide_eq_true hk, Bool.true_and]

theorem chan_afeRestart (v : Word) (s : State) {k : Nat} (hk : k < 8) :
    chan (afeRestart (bits v 7 0) s) k = if bit v k = true ∧ (chan s k).state = .fault then chanStart 12 (chan s k) else chan s k := by
  rw [afeRestart_eq, chan_restarted (nodup_restarting _ s) (fun j hj => (mem_restarting.mp hj).1)]
  refine if_congr ?_ rfl rfl
  rw [mem_restarting, nbit_bits_low v hk, and_iff_right hk]

theorem faultRec_afeRestart (v : Word) (s : State) (u : Nat) : faultRec (afeRestart (bits v 7 0) s) u =
    if 1 ≤ u ∧ u ≤ 8 ∧ bit v (u - 1) = true ∧ (chan s (u - 1)).state = .fault then ⟨[], none, false⟩ else faultRec s u := by
  rw [afeRestart_eq, faultRec_restarted]
  refine if_congr ⟨fun h => ?_, fun ⟨h1, h8, hbit, hst⟩ => ?_⟩ rfl rfl
  · obtain ⟨k, hk, rfl⟩ := List.mem_map.mp h
    obtain ⟨h8, hbit, hst⟩ := mem_restarting.mp hk
    rw [nbit_bits_low v h8] at hbit
    exact ⟨by omega, by omega, hbit, hst⟩
  · refine List.mem_map.mpr ⟨u - 1, mem_restarting.mpr ⟨by omega, ?_, hst⟩, by omega⟩
    rwa [nbit_bits_low v (by omega)]

/-! ### Link, gauge and display -/

theorem aside_clearFaults (u : Nat) (s t : State) : aside s (clearFaults u t) = clearFaults u (aside s t) := rfl

theorem eventsAside_clearFaults (u : Nat) (s t : State) : eventsAside s (clearFaults u t) = clearFaults u (eventsAside s t) := rfl

/-- The state of a link that has entered `m`. -/
def linkIn (m : Mgmt) (c : Chd) : Chd := { c with state := m, holdExp := false, complRun := 0 }

/-- A link changes its state with one event. -/
theorem linkState_form {m : Mgmt} (cause : Nat) {s : State} (h : s.chd.state ≠ m) :
    ∃ e, linkState m cause s = emit e (setChd (linkIn m) s) := by
  rw [linkState, if_neg h]
  exact ⟨_, rfl⟩

/-- A link that is not in STARTING enters it with an event. -/
theorem linkEnter_form (cause : Nat) {s : State} (h : s.chd.state ≠ .starting) :
    ∃ e c, c.state = .starting ∧ linkEnter cause s = emit e { s with chd := c } := by
  obtain ⟨e, he⟩ := linkState_form cause (s := setChd (fun c => { c with
    seed := 0, outRun := 0, discAt := [], discRun := 0, missRun := 0, ownReq := false, ownSent := false, partnerReq := false,
    committed := false, pred := none, t3 := none, t4 := none, syncAt := s.aon }) s) h
  exact ⟨e, linkIn .starting _, rfl, he⟩

theorem linkRestart_fault {s : State} (h : s.chd.state = .fault) :
    ∃ e c, c.state = .starting ∧ linkRestart s = clearFaults 0x18 (emit e { s with chd := c }) := by
  obtain ⟨e, c, hc, hrun⟩ := linkEnter_form 4 (s := s) (by simp [h])
  exact ⟨e, c, hc, by rw [linkRestart, if_pos h, hrun]⟩

/-- The display's start or stop raises events and leaves everything but the display alone; it does not enter FAULT. -/
theorem dspEval_form (a o : Nat) (s : State) :
    ∃ es d, (s.dsp.state ≠ .fault → d.state ≠ .fault) ∧ dspEval a o s = emitAll es { s with dsp := d } := by
  have stays : ∃ es d, (s.dsp.state ≠ .fault → d.state ≠ .fault) ∧ s = emitAll es { s with dsp := d } := ⟨[], s.dsp, id, rfl⟩
  have stops : s.dsp.state ≠ .fault → (if s.dsp.state = .fault then Mgmt.fault else .hold) ≠ .fault := fun h => by simp [h]
  unfold dspEval
  split
  · split
    · exact ⟨[_], _, fun _ => by simp, rfl⟩
    · exact stays
  · split
    · exact stays
    · unfold dspStop
      dsimp only
      split
      · exact ⟨[], _, stops, rfl⟩
      · exact ⟨[], _, stops, rfl⟩
      · exact ⟨[], _, stops, rfl⟩
      · exact stays

/-- A display that returns raises events and leaves everything but the display alone; it is not in FAULT. -/
theorem dspReturn_form (s : State) : ∃ es d, d.state ≠ .fault ∧ dspReturn s = emitAll es { s with dsp := d } := by
  unfold dspReturn
  split
  · obtain ⟨es, d, hd, hrun⟩ := dspEval_form (if s.dsp.glance.isSome then 2 else 1) 0
      (setDsp (fun d => { d with state := if d.seq = .off then .off else .hold }) s)
    exact ⟨es, d, hd (by simp only [setDsp]; split <;> simp), hrun⟩
  · exact ⟨[], s.dsp, ‹_›, rfl⟩

theorem dspRestart_fault {s : State} (h : s.dsp.state = .fault) :
    ∃ es d, d.state ≠ .fault ∧ dspRestart s = emitAll es (clearFaults 0x28 { s with dsp := d }) := by
  obtain ⟨es, d, hd, hrun⟩ := dspReturn_form (clearFaults 0x28 s)
  exact ⟨es, d, hd, by rw [dspRestart, if_pos h, hrun]; rfl⟩

theorem emitAll_dsp (es : List Ev) (s : State) : (emitAll es s).dsp = s.dsp :=
  emitAll_keeps State.dsp (fun e s => by unfold emit; split <;> rfl) es s

theorem emitAll_whl (es : List Ev) (s : State) : (emitAll es s).whl = s.whl :=
  emitAll_keeps State.whl (fun e s => by unfold emit; split <;> rfl) es s

theorem linkRestart_idle {s : State} (h : s.chd.state ≠ .fault) : linkRestart s = s := if_neg h

theorem batRestart_idle {s : State} (h : s.bat.state ≠ .fault) : batRestart s = s := if_neg h

theorem dspRestart_idle {s : State} (h : s.dsp.state ≠ .fault) : dspRestart s = s := if_neg h

/-! ### The rows -/

theorem wordDone_afe (f : Facet) (p : Port) (v : Word) (s : State) :
    wordDone f p 0x10D4 v s = if keyed v then afeRestart (bits v 7 0) s else s := rfl

theorem wordDone_flwRestart (f : Facet) (p : Port) (v : Word) (s : State) : wordDone f p 0x300C (withCmd v 3) s =
    if !keyed v || decide (bits v 25 24 = 0) then s else flowRestart (bits v 25 24) s := by
  show flwCtrl (withCmd v 3) s = _
  rw [flwCtrl, keyed_withCmd v 3 (by decide), bits_withCmd_code v 3 (by decide), bits_withCmd v 3 25 24 (by decide) (by decide)]
  rfl

theorem wordDone_chdRestart (f : Facet) (p : Port) (v : Word) (s : State) : wordDone f p 0x3814 (withCmd v 2) s =
    if keyed v then linkRestart s else s := by
  show chdCtrl (withCmd v 2) s = _
  rw [chdCtrl, keyed_withCmd v 2 (by decide), bits_withCmd_code v 2 (by decide)]
  cases keyed v <;> rfl

theorem wordDone_batRestart (f : Facet) (p : Port) (v : Word) (s : State) : wordDone f p 0x401C (withCmd v 2) s =
    if keyed v then batRestart s else s := by
  show batCtrl (withCmd v 2) s = _
  rw [batCtrl, keyed_withCmd v 2 (by decide), bits_withCmd_code v 2 (by decide)]
  cases keyed v <;> rfl

theorem wordDone_dspRestart (f : Facet) (p : Port) (v : Word) (s : State) : wordDone f p 0x480C (withCmd v 2) s =
    if keyed v then dspRestart s else s := by
  show dspCtrl (withCmd v 2) s = _
  rw [dspCtrl, keyed_withCmd v 2 (by decide), bits_withCmd_code v 2 (by decide)]
  cases keyed v <;> rfl

/-- A path in FAULT is no path that is OFF, so no combined interval begins with its restart. -/
theorem pathStart_fault {p : Nat} {s : State} (h : (flowPath s p).state = .fault) : pathStart p s =
    { s with flw := { dropShots p s.flw with path := vmod s.flw.path p (pathEnter s p) } } := by
  simp [pathStart, h, dropShots]

theorem flowRestart_fault {p : Nat} {s : State} (he : pathExists s (p - 1) = true) (hst : (flowPath s (p - 1)).state = .fault)
    (hm : (flowPath s (p - 1)).refMismatch = false) : flowRestart p s = clearFaults (0x10 + (p - 1))
      { s with flw := { dropShots (p - 1) s.flw with path := vmod s.flw.path (p - 1) (pathEnter s (p - 1)) } } := by
  rw [← pathStart_fault hst]
  simp [flowRestart, he, hst, hm]

theorem flowRestart_idle {p : Nat} {s : State} (h : pathExists s (p - 1) = false ∨ (flowPath s (p - 1)).state ≠ .fault) :
    flowRestart p s = s := by
  rcases h with h | h <;> simp [flowRestart, h]

theorem mtrRestart_row {f : Facet} {w : RegWr} {s : State} (hacc : accepted s f 0x10D4 w = true) (hk : bits w.val 15 8 = 0x5A) :
    rowDone s (hostWord 0x10D4 w.val w s) w (afeRestart (bits w.val 7 0) s) := by
  refine rowDone_accepted f 0x10D4 w.val w s _ hacc rfl (.inl (by decide)) ?_ ?_
  · rw [wordDone_afe, if_pos (keyed_of_withKey hk), afeRestart_eq, chanRestarted_frame]
  · rw [wordDone_afe, if_pos (keyed_of_withKey hk), aside_afeRestart, aside_heardWord]

theorem chdRestart_row {f : Facet} {w : RegWr} {s : State} (hacc : accepted s f 0x3814 { w with val := withCmd w.val 2 } = true)
    (hk : bits w.val 15 8 = 0x5A) (hst : s.chd.state = .fault) : ∃ e c, c.state = .starting ∧
      aside s (hostWord 0x3814 (withCmd w.val 2) w s) = clearFaults 0x18 (emit e { s with chd := c }) := by
  obtain ⟨e, c, hc, hrun⟩ := linkRestart_fault (s := heardWord f 0x3814 { w with val := withCmd w.val 2 } s) hst
  refine ⟨e, c, hc, (rowDone_accepted f 0x3814 (withCmd w.val 2) w s _ hacc rfl (.inl (by decide)) ?_ rfl).2.trans ?_⟩
  · rw [wordDone_chdRestart, if_pos (keyed_of_withKey hk), hrun]; exact emit_port e _
  · rw [wordDone_chdRestart, if_pos (keyed_of_withKey hk), hrun, aside_clearFaults, aside_emit]; rfl

theorem dspRestart_row {f : Facet} {w : RegWr} {s : State} (hacc : accepted s f 0x480C { w with val := withCmd w.val 2 } = true)
    (hk : bits w.val 15 8 = 0x5A) (hst : s.dsp.state = .fault) : ∃ es d, d.state ≠ .fault ∧
      aside s (hostWord 0x480C (withCmd w.val 2) w s) = emitAll es (clearFaults 0x28 { s with dsp := d }) := by
  obtain ⟨es, d, hd, hrun⟩ := dspRestart_fault (s := heardWord f 0x480C { w with val := withCmd w.val 2 } s) hst
  refine ⟨es, d, hd, (rowDone_accepted f 0x480C (withCmd w.val 2) w s _ hacc rfl (.inl (by decide)) ?_ rfl).2.trans ?_⟩
  · rw [wordDone_dspRestart, if_pos (keyed_of_withKey hk), hrun]; exact emitAll_port es _
  · rw [wordDone_dspRestart, if_pos (keyed_of_withKey hk), hrun, aside_emitAll]; rfl

theorem met_of_aside {s t u : State} (h : aside s t = u) : t.met = u.met := by
  have : (aside s t).met = u.met := by rw [h]
  exact this

theorem dsp_of_aside {s t u : State} (h : aside s t = u) : t.dsp = u.dsp := by
  have : (aside s t).dsp = u.dsp := by rw [h]
  exact this

theorem faults_of_aside {s t u : State} (h : aside s t = u) : t.whl.faults = u.whl.faults := by
  have : (aside s t).whl.faults = u.whl.faults := by rw [h]
  exact this

/-- Settles O23: each command by its key and its unit's state. -/
theorem restartsReleaseFaultedUnits : Obligations.RestartsReleaseFaultedUnits := by
  refine ⟨⟨rowDoes_of (fun _ _ => rfl) rfl (.inl (by decide)) fun f w s _ hk a ha => ?mtrIdle, fun f w s hacc hk => ?mtr⟩,
    ⟨rowDoes_of (fun _ _ => rfl) rfl (.inl (by decide)) fun f w s _ hc a ha => ?flwIdle,
      rowDoes_of (fun _ _ => rfl) rfl (.inl (by decide)) fun f w s _ hc a ha => ?flw⟩,
    ⟨rowDoes_of (fun _ _ => rfl) rfl (.inl (by decide)) fun f w s _ hc a ha => ?chdIdle, fun f w s hacc hk hst => ?chd⟩,
    ⟨rowDoes_of (fun _ _ => rfl) rfl (.inl (by decide)) fun f w s _ hc a ha => ?batIdle,
      rowDoes_of (fun _ _ => rfl) rfl (.inl (by decide)) fun f w s _ hc a ha => ?bat⟩,
    rowDoes_of (fun _ _ => rfl) rfl (.inl (by decide)) fun f w s _ hc a ha => ?dspIdle, fun f w s hacc hk hst => ?dsp⟩
  case mtrIdle => exact word_idle ha (by rw [id, wordDone_afe, keyed_of_withoutKey hk, if_neg Bool.false_ne_true])
  case mtr =>
    obtain ⟨-, hu⟩ := mtrRestart_row hacc hk
    have hmet := met_of_aside hu
    have hflt := faults_of_aside hu
    refine ⟨_, rfl, fun k hk8 => ?_, fun u => ?_, ?_⟩
    · rw [chan, hmet]; exact chan_afeRestart w.val s hk8
    · rw [faultRec_of_faults hflt]; exact faultRec_afeRestart w.val s u
    · rw [hmet, hflt, afeRestart_eq, ← chanRestarted_frame]; exact mtrRestart_row hacc hk
  case flwIdle =>
    refine word_idle ha ?_
    rw [wordDone_flwRestart]
    rcases hc with hk | hz | he | hst
    · rw [keyed_of_withoutKey hk]; rfl
    · rw [decide_eq_true hz, Bool.or_true, if_pos rfl]
    · rw [flowRestart_idle (.inl (by rw [ha]; exact he)), ite_self]
    · rw [flowRestart_idle (.inr (by rw [ha]; exact hst)), ite_self]
  case flw =>
    obtain ⟨hk, hz, he, hst, hm⟩ := hc
    have hunit : 0x10 + (bits w.val 25 24 - 1) = 0x0F + bits w.val 25 24 := by omega
    rw [wordDone_flwRestart, keyed_of_withKey hk, decide_eq_false hz, Bool.not_true, Bool.or_false, if_neg Bool.false_ne_true,
      flowRestart_fault (s := a) (by rw [ha]; exact he) (by rw [ha]; exact hst) (by rw [ha]; exact hm), hunit, ha]
    exact ⟨rfl, rfl⟩
  case chdIdle =>
    refine word_idle ha ?_
    rw [wordDone_chdRestart]
    rcases hc with hk | hst
    · rw [keyed_of_withoutKey hk, if_neg Bool.false_ne_true]
    · rw [linkRestart_idle (by rw [ha]; exact hst), ite_self]
  case chd =>
    obtain ⟨e, c, hc, hu⟩ := chdRestart_row hacc hk hst
    have hchd : (hostWord 0x3814 (withCmd w.val 2) w s).chd = c := (chd_of_aside hu).trans (emit_chd e _)
    have hflt := faults_of_aside hu
    rw [clearFaults, emit_whl] at hflt
    have hrec : ∀ u, faultRec (hostWord 0x3814 (withCmd w.val 2) w s) u = faultRec (clearFaults 0x18 s) u := faultRec_of_faults hflt
    refine ⟨_, rfl, by rw [hchd, hc], by rw [hrec, faultRec_clearFaults], fun u h => by rw [hrec, faultRec_clearFaults_ne h], ?_⟩
    rw [hu, eventsAside_clearFaults, eventsAside_emit, hchd, hflt]
    rfl
  case batIdle =>
    refine word_idle ha ?_
    rw [wordDone_batRestart]
    rcases hc with hk | hst
    · rw [keyed_of_withoutKey hk, if_neg Bool.false_ne_true]
    · rw [batRestart_idle (by rw [ha]; exact hst), ite_self]
  case bat =>
    obtain ⟨hk, hst⟩ := hc
    rw [wordDone_batRestart, if_pos (keyed_of_withKey hk), batRestart, if_pos (by rw [ha]; exact hst), ha]
    exact ⟨rfl, rfl⟩
  case dspIdle =>
    refine word_idle ha ?_
    rw [wordDone_dspRestart]
    rcases hc with hk | hst
    · rw [keyed_of_withoutKey hk, if_neg Bool.false_ne_true]
    · rw [dspRestart_idle (by rw [ha]; exact hst), ite_self]
  case dsp =>
    obtain ⟨es, d, hd, hu⟩ := dspRestart_row hacc hk hst
    have hdsp : (hostWord 0x480C (withCmd w.val 2) w s).dsp = d := (dsp_of_aside hu).trans (emitAll_dsp es _)
    have hflt := faults_of_aside hu
    rw [emitAll_whl] at hflt
    have hrec : ∀ u, faultRec (hostWord 0x480C (withCmd w.val 2) w s) u = faultRec (clearFaults 0x28 s) u := faultRec_of_faults hflt
    refine ⟨_, rfl, by rw [hdsp]; exact hd, by rw [hrec, faultRec_clearFaults], fun u h => by rw [hrec, faultRec_clearFaults_ne h], ?_⟩
    rw [hu, eventsAside_emitAll, hdsp, hflt]
    rfl

end Sys2Proof.Proofs
end

section
/-! PROOFS. The clocks and the supply: what starting HFX and the mode may change, a change of source, and the reports of VMAIN, HFX,
the PLL and VIO (R281, R283, R405 to R414, R471). -/

namespace Sys2Proof.Proofs

open Sys2Proof Sys2Proof.Machine Sys2Proof.Safety Sys2Proof.Laws

/-! ### The start of HFX and the mode -/

theorem hfxStart_running {s : State} (h : s.pwc.clk.hfx = true) : hfxStart s = s := if_pos h

/-- HFX that is off starts: it is not yet qualified, and its start counts (R413). -/
theorem hfxStart_off {s : State} (h : s.pwc.clk.hfx = false) : hfxStart s = evalMode (setPwc (fun p => { p with
    hfxStarting := true, hfxStartAt := s.aon, hfxOk := false, hfxStarts := satInc p.hfxStarts, clk := { p.clk with hfx := true } }) s) := by
  rw [hfxStart, h, if_neg Bool.false_ne_true]

theorem hfxStart_hfx (s : State) : (hfxStart s).pwc.clk.hfx = true := by
  unfold hfxStart
  split
  · assumption
  · rfl

/-- What a statement does not set back is read off what is left. -/
theorem part_of {α : Type} {A : State → State} {t u : State} (h : A t = u) (π : State → α) (hπ : ∀ t, π (A t) = π t) : π t = π u :=
  (hπ t).symm.trans (congrArg π h)

theorem hfxStart_eq (s : State) : hfxStart s = { s with pwc := (hfxStart s).pwc } := by
  unfold hfxStart
  split <;> rfl

theorem wake_running {s : State} (h : s.pwc.clk.hfx = true) : wake s = s := by simp [wake, h]

theorem wake_mains {s : State} (h : s.pwc.vmainOk = true) : wake s = s := by simp [wake, h]

/-- What a demand does to HFX: nothing, or it starts. -/
theorem wake_cases (s : State) : wake s = s ∨ wake s = hfxStart s := by
  unfold wake
  split
  · exact .inr rfl
  · exact .inl rfl

theorem demandWake_cases (s : State) : demandWake s = s ∨ demandWake s = hfxStart s := by
  unfold demandWake
  split
  · exact .inl rfl
  · exact wake_cases s

theorem demandWake_eq (s : State) : demandWake s = { s with pwc := (demandWake s).pwc } := by
  rcases demandWake_cases s with h | h
  · rw [h]
  · rw [h]; exact hfxStart_eq s

theorem demandWake_running {s : State} (h : s.pwc.clk.hfx = true) : demandWake s = s := by rw [demandWake, wake_running h, ite_self]

theorem demandWake_mains {s : State} (h : s.pwc.vmainOk = true) : demandWake s = s := by rw [demandWake, wake_mains h, ite_self]

/-- Where HFX runs an event may only let a commit fall due besides. -/
theorem react_running {s t : State} (h : t.pwc.clk.hfx = true) : react s t = roleCommit s t := by
  refine demandWake_running ?_
  rw [roleCommit]
  split
  · exact h
  · exact h

theorem react_mains {s t : State} (h : t.pwc.vmainOk = true) : react s t = roleCommit s t := by
  refine demandWake_mains ?_
  rw [roleCommit]
  split
  · exact h
  · exact h

theorem roleCommit_same {s t : State} (h : t.chd.leader = s.chd.leader) : roleCommit s t = t := if_neg (by simp [h])

theorem roleCommit_eq (s t : State) : roleCommit s t = { t with sto := (roleCommit s t).sto } := by
  rw [roleCommit]
  split <;> rfl

/-- What follows an event touches the store's due commit and the start of HFX alone. -/
theorem react_eq (s t : State) : react s t = { t with sto := (react s t).sto, pwc := (react s t).pwc } := by
  have hrole := roleCommit_eq s t
  have hwake : react s t = { roleCommit s t with pwc := (react s t).pwc } := by
    rcases demandWake_cases (roleCommit s t) with h | h
    · rw [react, h]
    · rw [react, h]; exact hfxStart_eq _
  rw [hrole] at hwake
  exact congrArg (fun x : State => { t with sto := x.sto, pwc := x.pwc }) hwake ▸ hwake

/-- The mode has been evaluated. -/
def ModeSet (s : State) : Prop := s.pwc.mode = modeNow s

theorem modeNow_shelf {s : State} : modeNow s = .shelf ↔ s.pwc.mode = .shelf := by
  unfold modeNow
  (repeat' split) <;> simp_all

/-- The mode hangs on the structure, VMAIN and HFX, and on whether the device is in SHELF. -/
theorem modeNow_congr {s t : State} (hm : t.pwc.mode = .shelf ↔ s.pwc.mode = .shelf) (hstr : t.str = s.str)
    (hv : t.pwc.vmainOk = s.pwc.vmainOk) (hx : t.pwc.clk.hfx = s.pwc.clk.hfx) : modeNow t = modeNow s := by
  simp only [modeNow, hm, hstr, hv, hx]

theorem modeSet_evalMode (s : State) : ModeSet (evalMode s) :=
  (modeNow_congr (s := s) (t := evalMode s) modeNow_shelf rfl rfl rfl).symm

theorem modeSet_hfxStart {s : State} (h : ModeSet s) : ModeSet (hfxStart s) := by
  unfold hfxStart
  split
  · exact h
  · exact modeSet_evalMode _

theorem modeSet_wake {s : State} (h : ModeSet s) : ModeSet (wake s) := by
  rcases wake_cases s with hw | hw
  · rwa [hw]
  · rw [hw]; exact modeSet_hfxStart h

theorem hfxStart_shelf (s : State) : (hfxStart s).pwc.mode = .shelf ↔ s.pwc.mode = .shelf := by
  unfold hfxStart
  split
  · rfl
  · exact modeNow_shelf

theorem wake_shelf (s : State) : (wake s).pwc.mode = .shelf ↔ s.pwc.mode = .shelf := by
  rcases wake_cases s with hw | hw
  · rw [hw]
  · rw [hw]; exact hfxStart_shelf s

theorem wake_str (s : State) : (wake s).str = s.str := by rw [wake_eq]

/-- On battery a running device with a structure is in SHOT while HFX runs (Table 14-2). -/
theorem modeNow_battery {s : State} (hm : s.pwc.mode ≠ .shelf) (hv : s.pwc.vmainOk = false) :
    modeNow s = if s.str.isSome = true ∧ s.pwc.clk.hfx = true then .shot else .idle := by
  simp only [modeNow, hm, hv, if_false]
  cases s.str <;> simp

theorem modeNow_mains {s : State} (hm : s.pwc.mode ≠ .shelf) (hv : s.pwc.vmainOk = true) (hstr : s.str.isSome = true) :
    modeNow s = .meter := by
  simp only [modeNow, hm, hv, if_false, if_true]
  cases h : s.str with
  | none => simp [h] at hstr
  | some im => rfl

/-- A part of the power manager that starting HFX and the mode do not touch is as before. -/
theorem hfxStart_pwc {α : Type} (π : Pwc → α) (h : ∀ (p : Pwc) m k c st ok n a,
      π { p with mode := m, wakes := k, clk := c, hfxStarting := st, hfxOk := ok, hfxStarts := n, hfxStartAt := a } = π p) (s : State) :
    π (hfxStart s).pwc = π s.pwc := by
  have := congrArg (fun x : State => π x.pwc) (hfxStart_aside s s)
  simp only [hfxAside] at this
  rw [h, h] at this
  exact this

theorem wake_pwc {α : Type} (π : Pwc → α) (h : ∀ (p : Pwc) m k c st ok n a,
      π { p with mode := m, wakes := k, clk := c, hfxStarting := st, hfxOk := ok, hfxStarts := n, hfxStartAt := a } = π p) (s : State) :
    π (wake s).pwc = π s.pwc := by
  rcases wake_cases s with hw | hw
  · rw [hw]
  · rw [hw]; exact hfxStart_pwc π h s

theorem demandWake_pwc {α : Type} (π : Pwc → α) (h : ∀ (p : Pwc) m k c st ok n a,
      π { p with mode := m, wakes := k, clk := c, hfxStarting := st, hfxOk := ok, hfxStarts := n, hfxStartAt := a } = π p) (s : State) :
    π (demandWake s).pwc = π s.pwc := by
  rcases demandWake_cases s with hw | hw
  · rw [hw]
  · rw [hw]; exact hfxStart_pwc π h s

/-- A demand starts no domain but HFX's own and SAF. -/
theorem demandWake_clk (s : State) : ∃ hfx saf, (demandWake s).pwc.clk = { s.pwc.clk with hfx := hfx, saf := saf } := by
  rcases demandWake_cases s with hw | hw
  · exact ⟨s.pwc.clk.hfx, s.pwc.clk.saf, by rw [hw]⟩
  · rw [hw]
    cases h : s.pwc.clk.hfx with
    | true => exact ⟨s.pwc.clk.hfx, s.pwc.clk.saf, by rw [hfxStart_running h]⟩
    | false => exact ⟨true, _, by rw [hfxStart_off h]; rfl⟩

theorem demandWake_hfxAside (s t : State) : hfxAside s (demandWake t) = hfxAside s t := by
  rcases demandWake_cases t with hw | hw
  · rw [hw]
  · rw [hw]; exact hfxStart_aside s t

/-! ### A change of source -/

/-- The gauge's note of a change of source. -/
def supplyNoted (src : Nat) (s : State) : Bat := (supplyCount src s).bat

theorem supplyCount_eq (src : Nat) (s : State) : supplyCount src s = { s with bat := supplyNoted src s } := rfl

theorem supplyNoted_eq (src : Nat) (s : State) : supplyNoted src s = { s.bat with
    switchCount := satInc s.bat.switchCount, supplyAt := (supplyNoted src s).supplyAt
    supplyChanges := (supplyNoted src s).supplyChanges } := rfl

theorem dspVmainLost_form (s : State) : ∃ es d, dspVmainLost s = emitAll es { s with dsp := d } := by
  unfold dspVmainLost
  split
  · exact ⟨[], s.dsp, rfl⟩
  · obtain ⟨es, d, -, h⟩ := dspEval_form 1 6 (setDsp (fun d => { d with
      glance := if bit (cfgV s 0x4800) 3 then (if batHolds s then d.glance else none)
        else if batAllows s then some (s.aon + glanceLen s) else none }) s)
    exact ⟨es, d, h⟩

/-! ### The reports of VMAIN -/

/-- VMAIN_OK falls, with its time. -/
def supplyLost (s : State) : State := setPwc (fun p => { p with vmainOk := false, vmainLostAt := some s.aon }) s

/-- VMAIN_OK rises. -/
def supplyBack (s : State) : State := setPwc (fun p => { p with vmainOk := true, vmainLostAt := none }) s

/-- VMAIN_OK falls in a running device. -/
theorem vmainLost_runs {s : State} (hs : s.pwc.start = .served) (hp : s.pwc.pf = .none) (hv : s.pwc.vmainOk = true) :
    vmainLost s = wake (evalMode (dspVmainLost (setSaf (fun f => { f with supply := true })
      (supplyChange 1 (supplyLost s))))) := by
  simp [vmainLost, supplyLost, hv, hs, hp]

/-- What a running device loses with VMAIN, before a demand starts HFX. -/
theorem vmainLost_form {s : State} (hs : s.pwc.start = .served) (hp : s.pwc.pf = .none) (hv : s.pwc.vmainOk = true) :
    ∃ u, vmainLost s = wake (evalMode u) ∧
      eventsAside s u = { s with
        bat := supplyNoted 1 s, dsp := u.dsp, saf := { s.saf with supply := true }
        pwc := { s.pwc with vmainOk := false, vmainLostAt := some s.aon } } := by
  rw [vmainLost_runs hs hp hv]
  obtain ⟨es, d, hd⟩ := dspVmainLost_form (setSaf (fun f => { f with supply := true })
    (supplyChange 1 (supplyLost s)))
  rw [hd]
  refine ⟨_, rfl, ?_⟩
  rw [eventsAside_emitAll, emitAll_dsp]
  exact congrArg (fun x : State => { x with dsp := d, saf := { x.saf with supply := true } })
    (eventsAside_emitAll _ s (supplyCount 1 (supplyLost s)))

theorem vmainReturns_runs {s : State} (hs : s.pwc.start = .served) (hp : s.pwc.pf = .none) (hv : s.pwc.vmainOk = false)
    (hm : vmainMay s = true) :
    vmainReturns s =
      let u := dspEval 1 0 (setSto (fun t => { t with periodAt := s.aon }) (supplyChange 0 (supplyBack s)))
      if u.str.isSome then hfxStart (evalMode u) else u := by
  simp only [vmainReturns, hv, hm, Bool.not_true, Bool.or_self, Bool.false_eq_true, if_false]
  exact if_neg (by simp [hs, hp])

/-- VMAIN_OK rises in a running device. -/
theorem vmainReturns_form {s : State} (hs : s.pwc.start = .served) (hp : s.pwc.pf = .none) (hv : s.pwc.vmainOk = false)
    (hm : vmainMay s = true) :
    ∃ u, vmainReturns s = (if u.str.isSome then hfxStart (evalMode u) else u) ∧
      eventsAside s u = { s with
        bat := supplyNoted 0 s, dsp := u.dsp, sto := { s.sto with periodAt := s.aon }
        pwc := { s.pwc with vmainOk := true, vmainLostAt := none } } := by
  obtain ⟨es, d, -, hd⟩ := dspEval_form 1 0 (setSto (fun t => { t with periodAt := s.aon })
    (supplyChange 0 (supplyBack s)))
  have hu := emitAll_dsp es { setSto (fun t => { t with periodAt := s.aon })
    (supplyChange 0 (supplyBack s)) with dsp := d }
  rw [← hd] at hu
  refine ⟨_, vmainReturns_runs hs hp hv hm, ?_⟩
  rw [hu, hd, eventsAside_emitAll]
  exact congrArg (fun x : State => { x with dsp := d, sto := { x.sto with periodAt := s.aon } })
    (eventsAside_emitAll _ s (supplyCount 0 (supplyBack s)))

/-- A report about VMAIN in a device whose power fails or that is held in reset: the source is noted, and nothing counts. -/
theorem countSupply_dead (src : Nat) {s : State} (h : s.pwc.start = .heldInReset ∨ s.pwc.pf ≠ .none) : countSupply src s = s := if_pos h

/-- During a start a change of source counts, and its event waits. -/
theorem countSupply_starts (src : Nat) {s : State} (hs : s.pwc.start ≠ .heldInReset) (hp : s.pwc.pf = .none) :
    countSupply src s = { s with
      bat := supplyNoted src s
      pwc := { s.pwc with startEvents := s.pwc.startEvents ++ (supplyEvs src s).map fun e => { e with who := 31 } } } :=
  if_neg (by simp [hs, hp])

theorem vmainLost_stopped {s : State} (h : s.pwc.start ≠ .served ∨ s.pwc.pf ≠ .none) (hv : s.pwc.vmainOk = true) :
    vmainLost s = countSupply 1 (supplyLost s) := by
  simp only [vmainLost, hv, Bool.not_true, Bool.false_eq_true, if_false]
  exact if_pos h

theorem vmainLost_repeated {s : State} (h : s.pwc.vmainOk = false) : vmainLost s = s := by simp [vmainLost, h]

theorem vmainReturns_stopped {s : State} (h : s.pwc.start ≠ .served ∨ s.pwc.pf ≠ .none) (hv : s.pwc.vmainOk = false)
    (hm : vmainMay s = true) :
    vmainReturns s = countSupply 0 (supplyBack s) := by
  simp only [vmainReturns, hv, hm, Bool.not_true, Bool.or_self, Bool.false_eq_true, if_false]
  exact if_pos h

theorem vmainReturns_repeated {s : State} (h : s.pwc.vmainOk = true ∨ vmainMay s = false) : vmainReturns s = s := by
  rcases h with h | h <;> simp [vmainReturns, h]

theorem vmainQualified_awake {s : State} (h : s.pwc.mode ≠ .shelf) : vmainQualified s = vmainReturns s := if_neg h

/-- Out of SHELF a qualified VMAIN resets the device (R406, R411). -/
theorem vmainQualified_shelf {s : State} (h : s.pwc.mode = .shelf) : vmainQualified s =
    coldState false 32 (supplyBack s) := by
  rw [vmainQualified, if_pos h]
  exact if_pos h

/-! ### HFX, the PLL and demands -/

/-- What paths, the link and the frequency source may change, set back to `s`: their own states, the events and the commit that
falls due. -/
def flowAside (s t : State) : State :=
  { eventsAside s t with
    pq := s.pq, flw := s.flw, chd := s.chd
    sto := { (eventsAside s t).sto with deferred := s.sto.deferred } }

theorem flowAside_self (s : State) : flowAside s s = s := rfl

theorem flowAside_emit (s : State) (e : Ev) (t : State) : flowAside s (emit e t) = flowAside s t := by
  unfold emit
  split <;> rfl

theorem flowAside_calLeft (s : State) (p : Nat) (t : State) : flowAside s (calLeft p t) = flowAside s t := by
  unfold calLeft
  split <;> rfl

theorem flowAside_pathBack (s : State) (p : Nat) (t : State) : flowAside s (pathBack p t) = flowAside s t := by
  unfold pathBack
  split
  · rfl
  · exact flowAside_calLeft s p _

theorem flowAside_linkState (s : State) (m : Mgmt) (c : Nat) (t : State) : flowAside s (linkState m c t) = flowAside s t := by
  by_cases h : t.chd.state = m
  · rw [linkState, if_pos h]
  · obtain ⟨e, he⟩ := linkState_form c h
    rw [he, flowAside_emit]; rfl

theorem flowAside_linkEnter (s : State) (c : Nat) (t : State) : flowAside s (linkEnter c t) = flowAside s t :=
  flowAside_linkState s .starting c _

/-- A path that a failure of HFX held starts again (R414). -/
def heldPathBack (p : Nat) (s : State) : State := if pathExists s p && hfxHeld s (0x10 + p) then pathBack p s else s

theorem flowAside_heldPathBack (s : State) (p : Nat) (t : State) : flowAside s (heldPathBack p t) = flowAside s t := by
  unfold heldPathBack
  split
  · exact flowAside_pathBack s p t
  · rfl

/-- The channels start on mains. -/
def chansBack (s : State) : State := if routesAny s && s.pwc.vmainOk then modStart s else s

/-- The paths of HFX start, then the link. -/
def flowsBack (s : State) : State := heldPathBack 2 (heldPathBack 1 (heldPathBack 0 s))

def linkBack (s : State) : State := if hfxHeld s 0x18 then linkEnter 4 s else s

def gaugeBack (s : State) : State := if hfxHeld s 0x20 then batEnter s else s

theorem hfxUnitsBack_eq (s : State) : hfxUnitsBack s = gaugeBack (linkBack (flowsBack (chansBack s))) := rfl

theorem flowAside_flowsBack (s t : State) : flowAside s (flowsBack t) = flowAside s t := by
  rw [flowsBack, flowAside_heldPathBack, flowAside_heldPathBack, flowAside_heldPathBack]

theorem flowAside_linkBack (s t : State) : flowAside s (linkBack t) = flowAside s t := by
  unfold linkBack
  split
  · exact flowAside_linkEnter s 4 t
  · rfl

theorem chansBack_eq (s : State) : chansBack s = { s with met := (chansBack s).met } := by
  unfold chansBack
  split <;> rfl

theorem gaugeBack_eq (s : State) : gaugeBack s = { s with bat := (gaugeBack s).bat } := by
  unfold gaugeBack
  split <;> rfl

/-- The units of HFX that start change their own states, with events. -/
theorem flowAside_hfxUnitsBack (s t : State) : ∃ m b, flowAside s (hfxUnitsBack t) = { flowAside s t with met := m, bat := b } := by
  refine ⟨(chansBack t).met, (gaugeBack (linkBack (flowsBack (chansBack t)))).bat, ?_⟩
  have hpaths : flowAside s (linkBack (flowsBack (chansBack t))) = flowAside s (chansBack t) := by
    rw [flowAside_linkBack, flowAside_flowsBack]
  rw [hfxUnitsBack_eq, gaugeBack_eq]
  exact (congrArg (fun x : State => { x with bat := (gaugeBack (linkBack (flowsBack (chansBack t)))).bat }) hpaths).trans
    (congrArg (fun x : State => { flowAside s x with bat := (gaugeBack (linkBack (flowsBack (chansBack t)))).bat }) (chansBack_eq t))

theorem hfxUnitsBack_pwc (s : State) : (hfxUnitsBack s).pwc = s.pwc := by
  obtain ⟨m, b, h⟩ := flowAside_hfxUnitsBack s s
  rw [part_of h State.pwc fun _ => rfl]
  rfl

theorem hfxQualified_starting {s : State} (h : s.pwc.hfxStarting = true) :
    (hfxQualified s).pwc = { s.pwc with hfxOk := true, hfxStarting := false, hfxFail := false } := by
  simp only [hfxQualified, h, Bool.not_true, Bool.false_eq_true, if_false]
  split
  · rw [hfxUnitsBack_pwc, emit_pwc]; rfl
  · rfl

theorem react_pwc_running {s t : State} (h : t.pwc.clk.hfx = true) : (react s t).pwc = t.pwc := by
  rw [react_running h, roleCommit_eq]

/-- The PLL locks (R101): its clocks run and the wheel begins. -/
theorem pllLocks_due {s : State} (hq : s.pwc.hfxOk = true) (hl : s.pwc.pllLock = false) : pllLocks s =
    (if s.pwc.vmainOk && s.str.isSome then enterRunning else setWhl fun w => { w with state := .burst })
      { s with
        pwc := { s.pwc with pllLock := true, clk := { s.pwc.clk with eng := true, usx := usesUsx s } }
        whl := { s.whl with rounds := 0, sector := 0, closedAt := s.aon } } := by
  rw [pllLocks, if_neg (by simp [hq, hl])]
  cases s.pwc.vmainOk && s.str.isSome <;> rfl

theorem enterRunning_metering {s : State} (h : routesAny s = true) : enterRunning s = modStart { s with
    whl := { s.whl with state := .running }, pwc := { s.pwc with clk := { s.pwc.clk with mod := true } } } := if_pos h

theorem enterRunning_idle {s : State} (h : routesAny s = false) : enterRunning s = setWhl (fun w => { w with state := .burst }) s :=
  if_neg (by simp [h])

/-- A lock: the wheel in a state at round 0, its clocks, and the channels. -/
def locked (st : WheelState) (m : Met) (md : Bool) (s : State) : State := { s with
  whl := { s.whl with state := st, rounds := 0, sector := 0, closedAt := s.aon }
  met := m
  pwc := { s.pwc with pllLock := true, clk := { s.pwc.clk with mod := md, eng := true, usx := usesUsx s } } }

/-- On mains with a routed channel a lock makes the wheel RUNNING and starts the channels (R101, R149). -/
theorem pllLocks_runs {s : State} (hq : s.pwc.hfxOk = true) (hl : s.pwc.pllLock = false) (hv : s.pwc.vmainOk = true)
    (hstr : s.str.isSome = true) (hr : routesAny s = true) : pllLocks s = locked .running (modStart s).met true s := by
  rw [pllLocks_due hq hl, hv, hstr, Bool.and_true, if_pos rfl]
  exact enterRunning_metering hr

/-- Otherwise the wheel is in BURST. -/
theorem pllLocks_bursts {s : State} (hq : s.pwc.hfxOk = true) (hl : s.pwc.pllLock = false)
    (h : ¬(s.pwc.vmainOk = true ∧ s.str.isSome = true ∧ routesAny s = true)) :
    pllLocks s = locked .burst s.met s.pwc.clk.mod s := by
  rw [pllLocks_due hq hl]
  split
  · next hc =>
    obtain ⟨hv, hstr⟩ := Bool.and_eq_true_iff.mp hc
    have hr : routesAny s = false := by simpa using fun hr => h ⟨hv, hstr, hr⟩
    refine enterRunning_idle ?_
    exact hr
  · rfl

/-- A lock begins the wheel at round 0; the clocks it starts and the channels are all it changes besides. -/
theorem pllLocks_form {s : State} (hq : s.pwc.hfxOk = true) (hl : s.pwc.pllLock = false) :
    ∃ st m md, st ≠ .stopped ∧ pllLocks s = locked st m md s := by
  by_cases h : s.pwc.vmainOk = true ∧ s.str.isSome = true ∧ routesAny s = true
  · exact ⟨_, _, _, by simp, pllLocks_runs hq hl h.1 h.2.1 h.2.2⟩
  · exact ⟨_, _, _, by simp, pllLocks_bursts hq hl h⟩

theorem hfxRetry_due {s : State} (hf : s.pwc.hfxFail = true) (hv : s.pwc.vmainOk = true) (hstr : s.str.isSome = true)
    (ha : s.pwc.hfxFailAt + 32768 ≤ s.aon) : hfxRetry s = hfxStart s := by
  simp [hfxRetry, hf, hv, hstr, ha]

/-- A demand that has ended is gone. -/
def demandGone (d : Nat) (s : State) : State :=
  setPwc (fun p => { p with dem :=
    { bank := p.dem.bank && decide (d ≠ 1), gauge := p.dem.gauge && decide (d ≠ 3), trim := p.dem.trim } }) s

theorem demandEnd_gone {d : Nat} {s : State} (h : demandActive s d = false) : demandEnd d s = powerSettle (demandGone d s) := by
  rw [demandEnd, h, if_neg Bool.false_ne_true]; rfl

/-- On mains a running structure keeps HFX whatever demand ends (R408). -/
theorem powerSettle_mains {s : State} (hv : s.pwc.vmainOk = true) (hstr : s.str.isSome = true) : powerSettle s = s := by
  simp [powerSettle, hv, hstr]

theorem demandEnd_mains {d : Nat} {s : State} (h : demandActive s d = false) (hv : s.pwc.vmainOk = true) (hstr : s.str.isSome = true) :
    react s (demandEnd d s) = demandGone d s := by
  rw [demandEnd_gone h, powerSettle_mains (s := demandGone d s) hv hstr, react_mains (t := demandGone d s) hv]
  exact roleCommit_same rfl

/-- Settles O55: the reports of the supply, each in a running device, in a start, in reset and in SHELF, and those of the clocks. -/
theorem supplySourceChanges : Obligations.SupplySourceChanges := by
  refine ⟨?lost, ?qualified, ?lostDead, ?qualifiedDead, ?lostStart, ?qualifiedStart, ?shelf, ?lostAgain, ?qualifiedAgain, ?hfx, ?pll,
    ?retry, ?demand, fun s => ⟨rfl, rfl⟩⟩
  case lost =>
    rintro s ⟨hs, hp, hm⟩ hv
    obtain ⟨u, hrun, hu⟩ := vmainLost_form hs hp hv
    have hupwc := part_of hu State.pwc fun _ => rfl
    have hustr := part_of hu State.str fun _ => rfl
    have hubat := part_of hu State.bat fun _ => rfl
    have husaf := part_of hu State.saf fun _ => rfl
    dsimp only at hupwc hustr hubat husaf
    have hok : (wake (evalMode u)).pwc.vmainOk = false := by
      rw [wake_pwc Pwc.vmainOk fun _ _ _ _ _ _ _ _ => rfl]; exact congrArg Pwc.vmainOk hupwc
    have hbat : (wake (evalMode u)).bat = supplyNoted 1 s := by rw [wake_eq]; exact hubat
    have hsaf : (wake (evalMode u)).saf = { s.saf with supply := true } := by rw [wake_eq]; exact husaf
    have hmode : (wake (evalMode u)).pwc.mode = _ := modeSet_wake (modeSet_evalMode u)
    have hawake : (wake (evalMode u)).pwc.mode ≠ .shelf := by
      rw [Ne, wake_shelf]
      exact mt modeNow_shelf.mp (by rw [hupwc]; exact hm)
    rw [modeNow_battery hawake hok, wake_str] at hmode
    refine ⟨_, rfl, ?_⟩
    rw [hrun]
    refine ⟨hok, ?_, congrArg Saf.supply hsaf, congrArg Bat.switchCount hbat, ?_, fun hx => ?_, ?_, ?_⟩
    · refine (wake_pwc Pwc.vmainLostAt (fun _ _ _ _ _ _ _ _ => rfl) _).trans ?_
      exact (congrArg Pwc.vmainLostAt hupwc :)
    · rw [← hustr]; exact hmode
    · have hux : (evalMode u).pwc.clk.hfx = true := by
        rw [show (evalMode u).pwc.clk.hfx = u.pwc.clk.hfx from rfl, hupwc]; exact hx
      rw [wake_running hux]; exact hux
    · refine (wake_pwc Pwc.rtc (fun _ _ _ _ _ _ _ _ => rfl) _).trans ?_
      exact (congrArg Pwc.rtc hupwc :)
    · have hset : ∀ P : Pwc, eventsAside s { u with pwc := P } = { s with
          bat := supplyNoted 1 s, dsp := u.dsp, saf := { s.saf with supply := true }, pwc := P } :=
        fun P => (congrArg (fun x : State => { x with pwc := P }) hu :)
      rw [wake_eq]
      refine (hset _).trans ?_
      simp only [setPwc, evalMode, hubat]
      rfl
  case qualified =>
    rintro s ⟨hs, hp, hm⟩ hv hmay
    obtain ⟨u, hrun, hu⟩ := vmainReturns_form hs hp hv hmay
    have hupwc := part_of hu State.pwc fun _ => rfl
    have hustr := part_of hu State.str fun _ => rfl
    have hubat := part_of hu State.bat fun _ => rfl
    have husto := part_of hu (fun x => x.sto.periodAt) fun _ => rfl
    dsimp only at hupwc hustr hubat husto
    have hset : ∀ P : Pwc, eventsAside s { u with pwc := P } = { s with
        bat := supplyNoted 0 s, dsp := u.dsp, sto := { s.sto with periodAt := s.aon }, pwc := P } :=
      fun P => (congrArg (fun x : State => { x with pwc := P }) hu :)
    refine ⟨_, rfl, ?_⟩
    rw [vmainQualified_awake hm, hrun, hustr]
    split
    case isTrue hstr =>
      have hmode : (hfxStart (evalMode u)).pwc.mode = _ := modeSet_hfxStart (modeSet_evalMode u)
      have hawake : (hfxStart (evalMode u)).pwc.mode ≠ .shelf := by
        rw [Ne, hfxStart_shelf]
        exact mt modeNow_shelf.mp (by rw [hupwc]; exact hm)
      have hok : (hfxStart (evalMode u)).pwc.vmainOk = true := by
        rw [hfxStart_pwc Pwc.vmainOk fun _ _ _ _ _ _ _ _ => rfl]; exact congrArg Pwc.vmainOk hupwc
      rw [modeNow_mains hawake hok (by rw [hfxStart_eq]; exact hustr ▸ hstr)] at hmode
      have hx := hfxStart_hfx (evalMode u)
      have hlost : (hfxStart (evalMode u)).pwc.vmainLostAt = none := by
        rw [hfxStart_pwc Pwc.vmainLostAt fun _ _ _ _ _ _ _ _ => rfl]; exact congrArg Pwc.vmainLostAt hupwc
      have hrtc : (hfxStart (evalMode u)).pwc.rtc = s.pwc.rtc := by
        rw [hfxStart_pwc Pwc.rtc fun _ _ _ _ _ _ _ _ => rfl]; exact (congrArg Pwc.rtc hupwc :)
      refine ⟨hok, hlost, ?_, ?_, fun _ => ⟨hmode, hx⟩, hrtc, ?_⟩
      · rw [hfxStart_eq]; exact congrArg Bat.switchCount hubat
      · rw [hfxStart_eq]; exact husto
      · rw [hfxStart_eq]
        refine (hset _).trans ?_
        simp only [evalMode, setPwc, hubat]
        rfl
    case isFalse hstr =>
      refine ⟨congrArg Pwc.vmainOk hupwc, congrArg Pwc.vmainLostAt hupwc, congrArg Bat.switchCount hubat, husto,
        fun h => absurd h hstr, (congrArg Pwc.rtc hupwc :), ?_⟩
      refine (hset u.pwc).trans ?_
      simp only [hubat]
      rfl
  case lostDead =>
    intro s hd hv
    refine congrArg Host.Outcome.next ?_
    rw [vmainLost_stopped (hd.imp_left fun h => by simp [h]) hv, countSupply_dead 1 (s := supplyLost s) hd]
    simp [setPwc, supplyLost]
  case qualifiedDead =>
    intro s hd hm hv hmay
    refine congrArg Host.Outcome.next ?_
    rw [vmainQualified_awake hm, vmainReturns_stopped (hd.imp_left fun h => by simp [h]) hv hmay, countSupply_dead 0 (s := supplyBack s) hd]
    rfl
  case lostStart =>
    rintro s ⟨hs, hr, hp⟩ hv
    refine ⟨_, rfl, ?_⟩
    rw [vmainLost_stopped (.inl hs) hv, countSupply_starts 1 (s := supplyLost s) hr hp]
    refine ⟨rfl, List.prefix_append _ _, ?_⟩
    simp only [setPwc, supplyLost, Bool.and_false]
    rfl
  case qualifiedStart =>
    rintro s ⟨hs, hr, hp⟩ hm hv hmay
    refine ⟨_, rfl, ?_⟩
    rw [vmainQualified_awake hm, vmainReturns_stopped (.inl hs) hv hmay, countSupply_starts 0 (s := supplyBack s) hr hp]
    exact ⟨rfl, List.prefix_append _ _, rfl⟩
  case shelf =>
    intro s hm
    refine ⟨_, rfl, ?_⟩
    rw [vmainQualified_shelf hm]
    exact ⟨rfl, rfl, rfl, rfl, rfl, rfl, rfl, rfl, rfl, rfl⟩
  case lostAgain =>
    intro s hv
    refine congrArg Host.Outcome.next ?_
    rw [vmainLost_repeated hv]
    simp [setPwc, hv]
  case qualifiedAgain =>
    intro s hm h
    refine congrArg Host.Outcome.next ?_
    rw [vmainQualified_awake hm, vmainReturns_repeated h]
  case hfx =>
    intro s hl hst hx
    refine ⟨_, rfl, ?_⟩
    have hq := hfxQualified_starting hst
    rw [event_pos hl, react_pwc_running (by rw [hq]; exact hx), hq]
    exact ⟨rfl, rfl⟩
  case pll =>
    intro s hl hq hlock
    refine ⟨_, rfl, ?_⟩
    obtain ⟨st, m, md, hst, hrun⟩ := pllLocks_form hq hlock
    rw [event_pos hl, hrun, react_eq_demandWake (s := s) (t := locked st m md s) rfl, demandWake_eq]
    exact ⟨demandWake_pwc Pwc.pllLock (fun _ _ _ _ _ _ _ _ => rfl) _, hst, rfl, demandWake_pwc Pwc.vmainOk (fun _ _ _ _ _ _ _ _ => rfl) _⟩
  case retry =>
    intro s hl hf hv hstr ha
    refine ⟨_, rfl, ?_⟩
    rw [event_pos hl, hfxRetry_due hf hv hstr ha, react_running (hfxStart_hfx s), roleCommit_same (by rw [hfxStart_eq])]
    exact ⟨hfxStart_hfx s, hfxStart_pwc Pwc.hfxFails (fun _ _ _ _ _ _ _ _ => rfl) s⟩
  case demand =>
    intro d s hl hd hv hstr
    refine ⟨_, rfl, ?_⟩
    rw [event_pos hl, demandEnd_mains hd hv hstr]
    refine ⟨rfl, rfl, fun h => ?_⟩
    simp [demandGone, setPwc, h]

end Sys2Proof.Proofs
end

section
/-! PROOFS. Attempts that a failure of HFX cuts off: what they may change, and that every path that was not OFF is not OFF after it
(R216, R226, R250, R414). -/

namespace Sys2Proof.Proofs

open Sys2Proof Sys2Proof.Machine Sys2Proof.Safety Sys2Proof.Laws

/-! ### What the paths may change -/

theorem flowAside_emitAll (s : State) (es : List Ev) (t : State) : flowAside s (emitAll es t) = flowAside s t :=
  emitAll_keeps (flowAside s) (fun e t => flowAside_emit s e t) es t

theorem flowAside_pendInc (s : State) (i : VolInc) (t : State) : flowAside s (pendInc i t) = flowAside s t := by
  unfold pendInc
  split <;> rfl

theorem flowAside_pairDue (s t : State) : flowAside s (pairDue t) = flowAside s t := by
  unfold pairDue
  split <;> rfl

theorem flowAside_outcome (s : State) (p at_ : Nat) (a : Bool) (f : FlowCfg) (c : Nat) (r : Option (Vals × Nat × Word)) (t : State) :
    flowAside s (outcome p at_ a f c r t) = flowAside s t :=
  (flowAside_emitAll s _ _).trans ((flowAside_pendInc s _ _).trans (flowAside_pairDue s _))

theorem flowAside_combine (s : State) (p at_ : Nat) (b : FPath) (parts : Parts) (t : State) :
    flowAside s (combine p at_ b parts t) = flowAside s t := by
  unfold combine
  dsimp only
  split
  · exact flowAside_pendInc s _ _
  · exact flowAside_pendInc s _ _

/-- An outcome that is not valid completes no calibration. -/
theorem calOutcome_invalid (p : Nat) (a : Bool) (corr : Rat) (w : List Rat) (t : State) :
    ∃ c, calOutcome p false a corr w t = { t with flw := { t.flw with cal := c } } := by
  unfold calOutcome
  dsimp only
  split
  · exact ⟨_, rfl⟩
  · exact ⟨t.flw.cal, rfl⟩

theorem flowAside_levelStale (s : State) (st : Bool) (t : State) : flowAside s (levelStale st t) = flowAside s t := by
  unfold levelStale
  split
  · rfl
  · exact flowAside_emit s _ _

theorem flowAside_volRound (s : State) (bad : List Nat) (t : State) : flowAside s (volRound bad t) = flowAside s t := by
  unfold volRound
  refine List.foldlRecOn (motive := fun u => flowAside s u = flowAside s t) _ _ rfl fun u hu i _ => ?_
  exact hu

theorem flowAside_endSupply (s : State) (k j a : Nat) (x y : Bool) (t : State) : flowAside s (endSupply k j a x y t) = flowAside s t := by
  unfold endSupply
  extract_lets e ms q s1
  split
  · split
    · rfl
    · exact flowAside_emit s _ s1
  · rfl

theorem flowAside_truncateSupply (s t : State) : flowAside s (truncateSupply t) = flowAside s t := by
  unfold truncateSupply
  exact List.foldlRecOn (motive := fun u => flowAside s u = flowAside s t) _ _ rfl
    fun u hu i _ => (flowAside_endSupply s _ _ _ _ _ u).trans hu

theorem flowAside_enterFallback (s : State) (c : Nat) (t : State) : flowAside s (enterFallback c t) = flowAside s t := by
  unfold enterFallback
  dsimp only
  split
  · rfl
  · exact flowAside_emit s _ _

theorem flowAside_sourceRound (s t : State) : flowAside s (sourceRound t) = flowAside s t := by
  unfold sourceRound
  extract_lets n q s1 s2 run
  have h1 : flowAside s s1 = flowAside s t := by
    simp only [s1]
    split <;> rfl
  have h2 : flowAside s s2 = flowAside s t := by
    simp only [s2]
    split
    · exact (flowAside_enterFallback s 4 s1).trans h1
    · exact h1
  exact h2

theorem flowAside_pathStop (s : State) (p : Nat) (m : Mgmt) (t : State) : flowAside s (pathStop p m t) = flowAside s t := by
  have hleft : flowAside s (calLeft p (setPath p (fun x => { x with state := m, tag := .invalid, ttag := .invalid }) t)) = flowAside s t :=
    flowAside_calLeft s p _
  unfold pathStop
  dsimp only
  split
  · exact hleft
  · exact hleft

/-! ### The paths themselves -/

theorem flowPath_vmod {p : Nat} (hp : p < 3) (q : Nat) (g : FPath → FPath) (s : State) :
    vget (vmod s.flw.path p g) q FPath.off = if q = p then g (flowPath s p) else flowPath s q := by
  by_cases h : q = p
  · rw [h, if_pos rfl]; exact vget_vmod _ _ _ _ hp
  · rw [if_neg h]; exact vget_vmod_ne _ _ _ _ _ h

theorem flowPath_of_flw {s t : State} (h : t.flw.path = s.flw.path) (q : Nat) : flowPath t q = flowPath s q := by
  rw [flowPath, h, flowPath]

/-- No path goes OFF, and a path without a pair in flight begins none. -/
structure PathsCut (s t : State) : Prop where
  on : ∀ q, (flowPath s q).state ≠ .off → (flowPath t q).state ≠ .off
  free : ∀ q, (flowPath s q).pair = none → (flowPath t q).pair = none

theorem PathsCut.refl (s : State) : PathsCut s s := ⟨fun _ h => h, fun _ h => h⟩

theorem PathsCut.trans {s t u : State} (h : PathsCut s t) (g : PathsCut t u) : PathsCut s u :=
  ⟨fun q hq => g.on q (h.on q hq), fun q hq => g.free q (h.free q hq)⟩

theorem pathsCut_of_path {s t : State} (h : t.flw.path = s.flw.path) : PathsCut s t :=
  ⟨fun q hq => by rwa [flowPath_of_flw h], fun q hq => by rwa [flowPath_of_flw h]⟩

theorem path_pendInc (i : VolInc) (s : State) : (pendInc i s).flw.path = s.flw.path := by
  unfold pendInc
  split <;> rfl

theorem flw_pairDue (s : State) : (pairDue s).flw = s.flw := by
  unfold pairDue
  split <;> rfl

theorem failPath_on {x : FPath} {f : FlowCfg} {hold at_ : Nat} {a : Bool} {c : Nat} (h : x.state ≠ .off) :
    (failPath x f hold at_ a c).state ≠ .off := by
  unfold failPath
  dsimp only
  split
  · exact Mgmt.noConfusion
  · exact h

theorem failPath_pair (x : FPath) (f : FlowCfg) (hold at_ : Nat) (a : Bool) (c : Nat) : (failPath x f hold at_ a c).pair = none := by
  unfold failPath
  dsimp only
  split <;> rfl

theorem path_outcome (p at_ : Nat) (a : Bool) (f : FlowCfg) (c : Nat) (s : State) :
    ∃ y, ((flowPath s p).state ≠ .off → y.state ≠ .off) ∧ y.pair = none ∧
      (outcome p at_ a f c none s).flw.path = vmod s.flw.path p fun _ => y := by
  refine ⟨_, ?_, ?_, ((emitAll_keeps (fun t => t.flw.path) (fun e t => by rw [emit_flw]) _ _).trans (path_pendInc _ _)).trans
    (congrArg Flw.path (flw_pairDue _))⟩
  · split
    · exact failPath_on
    · exact id
  · split
    · exact failPath_pair ..
    · rfl

theorem path_combine (p at_ : Nat) (b : FPath) (parts : Parts) (s : State) : (combine p at_ b parts s).flw.path = s.flw.path := by
  unfold combine
  dsimp only
  split
  · exact path_pendInc _ _
  · exact path_pendInc _ _

/-- A failed outcome of a path frees its attempt. -/
theorem pathsCut_outcome {p : Nat} (hp : p < 3) (at_ : Nat) (a : Bool) (f : FlowCfg) (c : Nat) (s : State) :
    PathsCut s (outcome p at_ a f c none s) ∧ (flowPath (outcome p at_ a f c none s) p).pair = none := by
  obtain ⟨y, hon, hfree, hpath⟩ := path_outcome p at_ a f c s
  have hq : ∀ q, flowPath (outcome p at_ a f c none s) q = if q = p then y else flowPath s q := fun q => by
    rw [flowPath, hpath, flowPath_vmod hp]
  refine ⟨⟨fun q h => ?_, fun q h => ?_⟩, by rw [hq, if_pos rfl, hfree]⟩
  · rw [hq]
    split
    · next he => exact hon (he ▸ h)
    · exact h
  · rw [hq]
    split
    · exact hfree
    · exact h

/-! ### Attempts cut off -/

/-- A pipe attempt that is cut off has failed. -/
theorem pairOutcome_aborted (p : Nat) {s : State} (h : ∀ q, (flowPath s p).pair = some q → q.abort = true) :
    (pairOutcome p s = s ∧ (flowPath s p).pair = none) ∨ ∃ at_ a f c x parts cal, pairOutcome p s =
      { combine p at_ x parts (outcome p at_ a f c none s) with
        flw := { (combine p at_ x parts (outcome p at_ a f c none s)).flw with cal := cal } } := by
  unfold pairOutcome
  dsimp only
  split
  · next hn => exact .inl ⟨rfl, hn⟩
  · next q hq =>
    rw [if_pos (h q hq), Option.isSome_none, Bool.and_false]
    obtain ⟨cal, hcal⟩ := calOutcome_invalid p q.assign 0 [] (combine p (q.dnAt.getD s.aon) (flowPath s p)
      (outcomeParts (flowPath s p) (holdMs s p) (q.dnAt.getD s.aon) false)
      (outcome p (q.dnAt.getD s.aon) q.assign (flowCfg q.cfg p) (pairCause q) none s))
    exact .inr ⟨_, _, _, _, _, _, cal, hcal⟩

theorem pathsCut_pairOutcome {p : Nat} (hp : p < 3) {s : State} (h : ∀ q, (flowPath s p).pair = some q → q.abort = true) :
    PathsCut s (pairOutcome p s) ∧ (flowPath (pairOutcome p s) p).pair = none := by
  rcases pairOutcome_aborted p h with ⟨hs, hn⟩ | ⟨at_, a, f, c, x, parts, cal, hs⟩
  · rw [hs]; exact ⟨PathsCut.refl s, hn⟩
  · obtain ⟨hcut, hfree⟩ := pathsCut_outcome hp at_ a f c s
    have hpath : (pairOutcome p s).flw.path = (outcome p at_ a f c none s).flw.path := by
      rw [hs]; exact path_combine p at_ x parts _
    exact ⟨hcut.trans (pathsCut_of_path hpath), by rw [flowPath_of_flw hpath]; exact hfree⟩

theorem flowAside_pairOutcome (p : Nat) {s : State} (b : State) (h : ∀ q, (flowPath s p).pair = some q → q.abort = true) :
    flowAside b (pairOutcome p s) = flowAside b s := by
  rcases pairOutcome_aborted p h with ⟨hs, -⟩ | ⟨at_, a, f, c, x, parts, cal, hs⟩
  · rw [hs]
  · rw [hs]
    exact (flowAside_combine b p at_ x parts _).trans (flowAside_outcome b p at_ a f c none s)

/-- The attempt of a path is marked as cut off. -/
def cutPair (p : Nat) (s : State) : State := setPath p (fun x => { x with pair := x.pair.map fun q => { q with abort := true } }) s

theorem cutPair_abort {p : Nat} (hp : p < 3) (s : State) : ∀ q, (flowPath (cutPair p s) p).pair = some q → q.abort = true := by
  intro q hq
  rw [cutPair, flowPath_setPath p _ s hp] at hq
  obtain ⟨q', -, rfl⟩ := Option.map_eq_some_iff.mp hq
  rfl

theorem pathsCut_cutPair {p : Nat} (hp : p < 3) (s : State) : PathsCut s (cutPair p s) := by
  have hq : ∀ q, flowPath (cutPair p s) q = if q = p then { flowPath s p with
      pair := (flowPath s p).pair.map fun x => { x with abort := true } } else flowPath s q :=
    fun q => flowPath_vmod hp q _ s
  refine ⟨fun q h => ?_, fun q h => ?_⟩
  · rw [hq]
    split
    · next he => exact he ▸ h
    · exact h
  · rw [hq]
    split
    · next he => simp [← he, h]
    · exact h

theorem abortPair_eq (p : Nat) (s : State) : abortPair p s = if (flowPath s p).pair.isSome then pairOutcome p (cutPair p s) else s := rfl

theorem pathsCut_abortPair {p : Nat} (hp : p < 3) (s : State) : PathsCut s (abortPair p s) ∧ (flowPath (abortPair p s) p).pair = none := by
  rw [abortPair_eq]
  split
  · obtain ⟨hcut, hfree⟩ := pathsCut_pairOutcome hp (cutPair_abort hp s)
    exact ⟨(pathsCut_cutPair hp s).trans hcut, hfree⟩
  · next h => exact ⟨PathsCut.refl s, by simpa using h⟩

theorem flowAside_abortPair {p : Nat} (hp : p < 3) (b s : State) : flowAside b (abortPair p s) = flowAside b s := by
  rw [abortPair_eq]
  split
  · exact flowAside_pairOutcome p b (cutPair_abort hp s)
  · rfl

/-- The state in which the outcome of a bank attempt is formed: before the new leader's first shot A the interval begins now. -/
def bankFrom (s : State) : State := if s.chd.firstA && s.chd.leader then setPath 2 (fun x => { x with from_ := s.aon }) s else s

/-- A bank attempt that is cut off has failed. -/
theorem bankOutcome_aborted {s : State} (h : ∀ q, (flowPath (bankFrom s) 2).pair = some q → q.abort = true) :
    (bankOutcome s = bankFrom s ∧ ((flowPath (bankFrom s) 2).pair = none ∨ (bankFrom s).chd.leader = false)) ∨
      ∃ at_ a f c st g, bankOutcome s =
        setChd g (calOutcome 2 false a 0 [] (outcome 2 at_ a f c none (levelStale st (bankFrom s)))) := by
  unfold bankOutcome
  dsimp only
  rw [show (if s.chd.firstA && s.chd.leader then setPath 2 (fun x => { x with from_ := s.aon }) s else s) = bankFrom s from rfl]
  split
  · next hn => exact .inl ⟨rfl, .inl hn⟩
  · next q hq =>
    have hcause := bankCause_aborted (bankFrom s) q (h q hq)
    split
    · next hl => exact .inl ⟨rfl, .inr (by simpa using hl)⟩
    · right
      split
      · rw [Option.isSome_none, Bool.and_false]
        exact ⟨_, _, _, _, _, _, rfl⟩
      · rw [Option.isSome_none, Bool.and_false]
        exact ⟨_, _, _, _, _, _, rfl⟩

theorem flowAside_bankFrom (b s : State) : flowAside b (bankFrom s) = flowAside b s := by
  unfold bankFrom
  split <;> rfl

theorem pathsCut_bankFrom (s : State) : PathsCut s (bankFrom s) := by
  unfold bankFrom
  split
  · have hq : ∀ q, flowPath (setPath 2 (fun x => { x with from_ := s.aon }) s) q =
        if q = 2 then { flowPath s 2 with from_ := s.aon } else flowPath s q := fun q => flowPath_vmod (by decide) q _ s
    refine ⟨fun q h => ?_, fun q h => ?_⟩
    · rw [hq]
      split
      · next he => exact he ▸ h
      · exact h
    · rw [hq]
      split
      · next he => exact he ▸ h
      · exact h
  · exact PathsCut.refl s

theorem flw_levelStale (st : Bool) (s : State) : (levelStale st s).flw = s.flw := by
  unfold levelStale
  split
  · rfl
  · rw [emit_flw]; rfl

theorem bankFrom_abort {s : State} (h : ∀ q, (flowPath s 2).pair = some q → q.abort = true) :
    ∀ q, (flowPath (bankFrom s) 2).pair = some q → q.abort = true := by
  unfold bankFrom
  split
  · intro q hq
    rw [flowPath_setPath 2 _ s (by decide)] at hq
    exact h q hq
  · exact h

theorem abortBank_eq (s : State) : abortBank s =
    if (flowPath s 2).pair.isSome && s.chd.leader then bankOutcome (cutPair 2 s) else { s with flw := dropShots 2 s.flw } := rfl

theorem pathsCut_abortBank (s : State) : PathsCut s (abortBank s) := by
  rw [abortBank_eq]
  split
  · refine (pathsCut_cutPair (p := 2) (by decide) s).trans ((pathsCut_bankFrom _).trans ?_)
    rcases bankOutcome_aborted (bankFrom_abort (cutPair_abort (by decide) s)) with ⟨hs, -⟩ | ⟨at_, a, f, c, st, g, hs⟩
    · rw [hs]; exact PathsCut.refl _
    · obtain ⟨cal, hcal⟩ := calOutcome_invalid 2 a 0 [] (outcome 2 at_ a f c none (levelStale st (bankFrom (cutPair 2 s))))
      rw [hs, hcal]
      have hstale : PathsCut (bankFrom (cutPair 2 s)) (levelStale st (bankFrom (cutPair 2 s))) :=
        pathsCut_of_path (congrArg Flw.path (flw_levelStale st _))
      obtain ⟨hcut, -⟩ := pathsCut_outcome (p := 2) (by decide) at_ a f c (levelStale st (bankFrom (cutPair 2 s)))
      exact hstale.trans (hcut.trans (pathsCut_of_path rfl))
  · exact pathsCut_of_path rfl

theorem flowAside_cutPair (b : State) (p : Nat) (s : State) : flowAside b (cutPair p s) = flowAside b s := rfl

theorem flowAside_abortBank (b s : State) : flowAside b (abortBank s) = flowAside b s := by
  have hchd : ∀ (g : Chd → Chd) u, flowAside b (setChd g u) = flowAside b u := fun _ _ => rfl
  have hflw : ∀ (u : State) w, flowAside b { u with flw := w } = flowAside b u := fun _ _ => rfl
  rw [abortBank_eq]
  split
  · rcases bankOutcome_aborted (bankFrom_abort (cutPair_abort (by decide) s)) with ⟨hs, -⟩ | ⟨at_, a, f, c, st, g, hs⟩
    · rw [hs, flowAside_bankFrom, flowAside_cutPair]
    · obtain ⟨cal, hcal⟩ := calOutcome_invalid 2 a 0 [] (outcome 2 at_ a f c none (levelStale st (bankFrom (cutPair 2 s))))
      rw [hs, hcal, hchd, hflw, flowAside_outcome, flowAside_levelStale, flowAside_bankFrom, flowAside_cutPair]
  · exact hflw s _

theorem flowAside_abortAll (b s : State) : flowAside b (abortAll s) = flowAside b s := by
  have hflw : ∀ (u : State) w, flowAside b { u with flw := w } = flowAside b u := fun _ _ => rfl
  rw [abortAll, hflw, flowAside_abortBank, flowAside_abortPair (by decide), flowAside_abortPair (by decide)]

/-- With every attempt cut off no path goes OFF, and the pipe paths have no pair in flight (R414). -/
theorem pathsCut_abortAll (s : State) : PathsCut s (abortAll s) ∧ ∀ p, p < 2 → (flowPath (abortAll s) p).pair = none := by
  obtain ⟨h0, f0⟩ := pathsCut_abortPair (p := 0) (by decide) s
  obtain ⟨h1, f1⟩ := pathsCut_abortPair (p := 1) (by decide) (abortPair 0 s)
  have hend : PathsCut (abortPair 1 (abortPair 0 s)) (abortAll s) :=
    (pathsCut_abortBank (abortPair 1 (abortPair 0 s))).trans (pathsCut_of_path rfl)
  refine ⟨h0.trans (h1.trans hend), fun p hp => hend.free p ?_⟩
  match p, hp with
  | 0, _ => exact h1.free 0 f0
  | 1, _ => exact f1

end Sys2Proof.Proofs
end

section
/-! PROOFS. The clocks: a failure of HFX, and what starts again after it (R101, R367, R408 to R414). -/

namespace Sys2Proof.Proofs

open Sys2Proof Sys2Proof.Machine Sys2Proof.Safety Sys2Proof.Laws

/-! ### What HFX's end changes -/

/-- The wheel that has stopped (R408, R414). -/
def wheelStopped (w : Whl) : Whl := { w with state := .stopped, sector := 0, ran := [], stop := [], wrong := [] }

/-- HFX, the PLL and their domains are off. -/
def clocksOff (p : Pwc) : Pwc := { p with
  hfxStarting := false, hfxOk := false, pllLock := false
  clk := { p.clk with hfx := false, mod := false, eng := false, usx := false } }

theorem hfxOff_eq (s : State) : hfxOff s =
    evalMode (publishBank { s with whl := wheelStopped s.whl, pwc := clocksOff s.pwc }) := rfl

theorem flushEvents_aside (s t : State) : eventsAside s (flushEvents t) =
    { eventsAside s t with sto := { (eventsAside s t).sto with evHold := false } } := by
  rw [flushEvents, eventsAside_emitAll]
  rfl

/-- HFX's end changes the clocks, the mode and the wheel, publishes the bank and queues the events that waited. -/
theorem eventsAside_hfxOff (s t : State) : eventsAside s (hfxOff t) = { eventsAside s t with
    whl := wheelStopped t.whl, pub := none, pwc := (hfxOff t).pwc, sto := { (eventsAside s t).sto with evHold := false } } := by
  have hpub := flushEvents_aside s { t with whl := wheelStopped t.whl, pwc := clocksOff t.pwc, pub := none }
  have hpwc : ∀ P : Pwc, eventsAside s { publishBank { t with whl := wheelStopped t.whl, pwc := clocksOff t.pwc } with pwc := P } =
      { eventsAside s t with
        whl := wheelStopped t.whl, pub := none, pwc := P, sto := { (eventsAside s t).sto with evHold := false } } :=
    fun P => (congrArg (fun x : State => { x with pwc := P }) hpub :)
  exact hpwc _

theorem publishBank_pwc (s : State) : (publishBank s).pwc = s.pwc := by
  rw [publishBank, flushEvents]
  exact emitAll_keeps State.pwc emit_pwc _ _

theorem publishBank_str (s : State) : (publishBank s).str = s.str := by
  rw [publishBank, flushEvents]
  exact emitAll_keeps State.str emit_str _ _

/-- What HFX's end leaves of the power manager, in the mode that follows. -/
def powerOff (m : Mode) (p : Pwc) : Pwc := { clocksOff p with
  mode := m, wakes := if p.mode = .idle ∧ (m = .shot ∨ m = .meter) then satInc p.wakes else p.wakes
  clk := ⟨false, false, false, false, decide (m = .shot) || decide (m = .meter)⟩ }

theorem hfxOff_pwc (s : State) : ∃ m, m = modeNow { s with pwc := clocksOff s.pwc } ∧ (hfxOff s).pwc = powerOff m s.pwc := by
  refine ⟨_, ?_, by rw [hfxOff_eq, evalMode, setPwc_pwc, publishBank_pwc]; rfl⟩
  exact modeNow_congr (s := { s with pwc := clocksOff s.pwc }) (by rw [publishBank_pwc]) (publishBank_str _)
    (by rw [publishBank_pwc]) (by rw [publishBank_pwc])

/-! ### What a cause of the safe state changes -/

/-- What the safe state's causes may change, set back to `s`: the safety logic with the requests it clears, the events and the commit
that falls due (R94, R355, R356). -/
def causesAside (s t : State) : State :=
  { eventsAside s t with saf := s.saf, sto := { (eventsAside s t).sto with deferred := s.sto.deferred } }

theorem causesAside_emit (s : State) (e : Ev) (t : State) : causesAside s (emit e t) = causesAside s t := by
  unfold emit
  split <;> rfl

theorem causesAside_emitAll (s : State) (es : List Ev) (t : State) : causesAside s (emitAll es t) = causesAside s t :=
  emitAll_keeps (causesAside s) (fun e t => causesAside_emit s e t) es t

theorem causesAside_prunFollow (s t : State) : causesAside s (prunFollow t) = causesAside s t := by
  unfold prunFollow
  dsimp only
  split <;> rfl

theorem causesAside_armAnew (s : State) (c : Bool) (t : State) : causesAside s (armAnew c t) = causesAside s t := by
  unfold armAnew
  dsimp only
  split <;> rfl

theorem causesAside_clearRequests (s t : State) : causesAside s (clearRequests t) = causesAside s t :=
  causesAside_emitAll s _ _

theorem causesAside_commitDue (s : State) (k : CommitKind) (t : State) : causesAside s (commitDue k t) = causesAside s t := rfl

theorem causesAside_setSaf (s : State) (f : Saf → Saf) (t : State) : causesAside s (setSaf f t) = causesAside s t := rfl

/-- The dangerous failures among the causes that arise, counted and reported. -/
def dangers (df : List (Nat × Nat)) (s : State) : State := df.foldl (fun a c => dangerous c.1 c.2 a) s

theorem causesAside_dangers (s : State) (df : List (Nat × Nat)) (t : State) : causesAside s (dangers df t) = causesAside s t :=
  List.foldlRecOn (motive := fun u => causesAside s u = causesAside s t) _ _ rfl fun _ hu _ _ => (causesAside_emit s _ _).trans hu

/-- Causes that stand already change nothing; others are noted in the safe state, or enter it. -/
theorem raiseCauses_cases (cs : List (Nat × Nat)) (s : State) : raiseCauses cs s = s ∨
    (∃ g c df, raiseCauses cs s = dangers df (setSaf g (armAnew c s))) ∨
    ∃ g c df e, raiseCauses cs s =
      commitDue .state (prunFollow (clearRequests (dangers df (emit e (setSaf g (armAnew c s)))))) := by
  unfold raiseCauses
  dsimp only
  split
  · exact .inl rfl
  · split
    · exact .inr (.inl ⟨_, _, _, rfl⟩)
    · exact .inr (.inr ⟨_, _, _, _, rfl⟩)

/-- The safe state is entered: its event, its dangerous failures, and the requests that it clears (R94, R356). -/
theorem causesAside_entered (s t : State) (g : Saf → Saf) (c : Bool) (df : List (Nat × Nat)) (e : Ev) :
    causesAside s (clearRequests (dangers df (emit e (setSaf g (armAnew c t))))) = causesAside s t := by
  rw [causesAside_clearRequests, causesAside_dangers, causesAside_emit, causesAside_setSaf, causesAside_armAnew]

theorem causesAside_raiseCauses (s : State) (cs : List (Nat × Nat)) (t : State) : causesAside s (raiseCauses cs t) = causesAside s t := by
  rcases raiseCauses_cases cs t with h | ⟨g, c, df, h⟩ | ⟨g, c, df, e, h⟩
  · rw [h]
  · rw [h, causesAside_dangers, causesAside_setSaf, causesAside_armAnew]
  · rw [h, causesAside_commitDue, causesAside_prunFollow]
    exact causesAside_entered s t g c df e

theorem causesAside_diagFails (s : State) (b d : Nat) (t : State) : causesAside s (diagFails b d t) = causesAside s t := by
  rw [diagFails, causesAside_raiseCauses, causesAside_setSaf]

/-- A failure of HFX's clock arises unless it stands already, and the device is then in the safe state (R355, R414). -/
theorem raiseCauses_clock {s : State} (h : nbit s.saf.cause 15 = false) :
    (raiseCauses [(15, 2)] s).saf.safe = true ∧ (raiseCauses [(15, 2)] s).saf.cause = s.saf.cause ||| 2 ^ 15 := by
  refine Prod.mk.inj (?_ : (steady (raiseCauses [(15, 2)] s)).causes = (true, s.saf.cause ||| 2 ^ 15))
  have hmask : causeMask [(15, 2)] = 2 ^ 15 := by decide
  have hsaf : ∀ c, (armAnew c s).saf.safe = s.saf.safe ∧ (armAnew c s).saf.cause = s.saf.cause := fun c =>
    Prod.mk.inj (causes_of_steady (armAnew_steady c s))
  have hfresh : freshCauses s [(15, 2)] = [(15, 2)] := by simp [freshCauses, h]
  rw [raiseCauses]
  simp only [hfresh, hmask]
  by_cases hs : s.saf.safe = true
  · simp [hs, setSaf, hsaf]
  · simp [hs, setSaf, hsaf]

theorem nbit_or_two_pow (n k : Nat) : nbit (n ||| 2 ^ k) k = true := by
  rw [nbit, Nat.testBit_or, Nat.testBit_two_pow_self, Bool.or_true]

/-! ### A failure of HFX -/

/-- The channels fail (R414). -/
def chansFail (s : State) : State := { s with met := { s.met with
  ch := vmap s.met.ch fun k c => if routed s k && decide (c.state ≠ .off) then { c with state := .fault, tag := .invalid, okRun := 0 } else c
  auxTag := .invalid } }

theorem routed_of_str {s t : State} (h : t.str = s.str) (k : Nat) : routed t k = routed s k := by
  rw [routed, routed, routeOf, routeOf, h]

theorem chan_chansFail {s : State} {k : Nat} (hk : k < 8) (hr : routed s k = true) (hon : (chan s k).state ≠ .off) :
    chan (chansFail s) k = { chan s k with state := .fault, tag := .invalid, okRun := 0 } := by
  have hif : (routed s k && decide ((chan s k).state ≠ .off)) = true := by rw [hr, decide_eq_true hon, Bool.and_true]
  rw [chan, chansFail, vget_vmap _ _ k ChanSt.idle _ hk]
  exact if_pos hif

/-- A path that is not OFF fails. -/
def pathFails (p : Nat) (s : State) : State := if decide ((flowPath s p).state ≠ .off) then pathStop p .fault s else s

def linkFails (s : State) : State := if linkLive s then linkState .fault (Config.otherCause 2) s else s

def gaugeFails (s : State) : State :=
  if s.bat.state = .starting ∨ s.bat.state = .run ∨ s.bat.state = .hold then setBat (fun b => { b with state := .fault }) s else s

/-- The channels, the paths and the link fail. -/
def flowsFail (s : State) : State := linkFails (pathFails 2 (pathFails 1 (pathFails 0 (chansFail s))))

theorem hfxUnitsFault_eq (s : State) : hfxUnitsFault s = gaugeFails (flowsFail s) := by
  unfold hfxUnitsFault gaugeFails flowsFail linkFails pathFails chansFail
  dsimp only

theorem flowAside_pathFails (b : State) (p : Nat) (s : State) : flowAside b (pathFails p s) = flowAside b s := by
  unfold pathFails
  split
  · exact flowAside_pathStop b p .fault s
  · rfl

theorem flowAside_linkFails (b s : State) : flowAside b (linkFails s) = flowAside b s := by
  unfold linkFails
  split
  · exact flowAside_linkState b .fault _ s
  · rfl

theorem path_calLeft (p : Nat) (s : State) : (calLeft p s).flw.path = s.flw.path := by
  unfold calLeft
  split <;> rfl

theorem path_pathStop (p : Nat) (m : Mgmt) (s : State) :
    (pathStop p m s).flw.path = vmod s.flw.path p fun x => { x with state := m, tag := .invalid, ttag := .invalid } := by
  unfold pathStop
  dsimp only
  split
  · exact path_calLeft p _
  · exact path_calLeft p _

theorem flowPath_pathFails {p : Nat} (hp : p < 3) (s : State) (q : Nat) : flowPath (pathFails p s) q =
    if q = p ∧ (flowPath s p).state ≠ .off then { flowPath s p with state := .fault, tag := .invalid, ttag := .invalid }
    else flowPath s q := by
  by_cases h : (flowPath s p).state ≠ .off
  · rw [pathFails, if_pos (decide_eq_true h), flowPath, path_pathStop, flowPath_vmod hp]
    exact if_congr (by simp [h]) rfl rfl
  · rw [pathFails, if_neg (by simpa using h), if_neg fun hc => h hc.2]

/-- A path that was not OFF is in FAULT, its attempt as before. -/
def Failed (s t : State) (p : Nat) : Prop := (flowPath t p).state = .fault ∧ (flowPath t p).pair = (flowPath s p).pair

theorem flw_linkState (m : Mgmt) (c : Nat) (s : State) : (linkState m c s).flw = s.flw := by
  by_cases h : s.chd.state = m
  · rw [linkState, if_pos h]
  · obtain ⟨e, he⟩ := linkState_form c h
    rw [he, emit_flw]; rfl

theorem flw_linkFails (s : State) : (linkFails s).flw = s.flw := by
  unfold linkFails
  split
  · exact flw_linkState _ _ s
  · rfl

theorem flw_gaugeFails (s : State) : (gaugeFails s).flw = s.flw := by
  unfold gaugeFails
  split <;> rfl

theorem failed_hfxUnitsFault {s : State} {p : Nat} (hp : p < 3) (h : (flowPath s p).state ≠ .off) : Failed s (hfxUnitsFault s) p := by
  have hflw : (hfxUnitsFault s).flw.path = (pathFails 2 (pathFails 1 (pathFails 0 (chansFail s)))).flw.path := by
    rw [hfxUnitsFault_eq, flw_gaugeFails, flowsFail, flw_linkFails]
  have hs : ∀ q, flowPath (chansFail s) q = flowPath s q := fun _ => rfl
  rw [Failed, flowPath_of_flw hflw, flowPath_pathFails (by decide), flowPath_pathFails (by decide), flowPath_pathFails (by decide)]
  match p, hp with
  | 0, _ => simp [flowPath_pathFails, hs, h]
  | 1, _ => simp [flowPath_pathFails, hs, h]
  | 2, _ => simp [flowPath_pathFails, hs, h]

theorem gaugeFails_eq (s : State) : gaugeFails s = { s with bat := (gaugeFails s).bat } := by
  unfold gaugeFails
  split <;> rfl

theorem gaugeFails_run {s : State} (h : s.bat.state = .run) : (gaugeFails s).bat.state = .fault := by
  rw [gaugeFails, if_pos (.inr (.inl h))]
  rfl

theorem flowAside_flowsFail (b s : State) : flowAside b (flowsFail s) = { flowAside b s with met := (chansFail s).met } := by
  rw [flowsFail, flowAside_linkFails, flowAside_pathFails, flowAside_pathFails, flowAside_pathFails]
  rfl

theorem flowAside_bat (b s : State) (g : Bat) : flowAside b { s with bat := g } = { flowAside b s with bat := g } := rfl

theorem flowAside_hfxUnitsFault (b s : State) : flowAside b (hfxUnitsFault s) =
    { flowAside b s with met := (chansFail s).met, bat := (gaugeFails (flowsFail s)).bat } := by
  have hgauge : flowAside b (hfxUnitsFault s) = { flowAside b (flowsFail s) with bat := (gaugeFails (flowsFail s)).bat } := by
    rw [hfxUnitsFault_eq, congrArg (flowAside b) (gaugeFails_eq (flowsFail s)), flowAside_bat]
  rw [hgauge, flowAside_flowsFail]

/-- The gauge is as it was published last, in its present state. -/
def gaugePublished (s : State) : State := { s with bat := { (seen s).bat with state := s.bat.state } }

/-- Supply events in progress are truncated where the wheel is RUNNING. -/
def supplyCut (s : State) : State := if s.whl.state = .running then truncateSupply (gaugePublished s) else gaugePublished s

/-- Every attempt is cut off, and what no round close will take is discarded (R216, R414). -/
def hfxCut (s : State) : State := abortAll (volRound [0x10, 0x11, 0x12] (supplyCut s))

/-- The units after a failure of HFX. -/
def hfxDown (s : State) : State := sourceRound (hfxUnitsFault (hfxCut s))

/-- The failure is noted (R414). -/
def hfxNoted (s : State) : State :=
  setPwc (fun p => { p with hfxFail := true, hfxFailAt := s.aon, hfxFails := satInc p.hfxFails }) (hfxOff (hfxDown s))

theorem hfxFailure_form (cause : Nat) (s : State) :
    ∃ e b, hfxFailure cause s = emit e (queueFrom b .mode (diagFails 15 2 (hfxNoted s))) := ⟨_, _, rfl⟩

theorem flowAside_supplyCut (b s : State) : flowAside b (supplyCut s) = flowAside b (gaugePublished s) := by
  unfold supplyCut
  split
  · rw [flowAside_truncateSupply]
  · rfl

theorem flowAside_hfxCut (b s : State) : flowAside b (hfxCut s) = flowAside b (gaugePublished s) := by
  rw [hfxCut, flowAside_abortAll, flowAside_volRound, flowAside_supplyCut]

theorem flw_truncateSupply (s : State) : (truncateSupply s).flw = s.flw := by
  unfold truncateSupply
  refine List.foldlRecOn (motive := fun u : State => u.flw = s.flw) _ _ rfl fun u hu i _ => ?_
  unfold endSupply
  extract_lets e ms q s1
  split
  · split
    · exact hu
    · rw [emit_flw]; exact hu
  · exact hu

theorem path_volRound (bad : List Nat) (s : State) : (volRound bad s).flw.path = s.flw.path := by
  unfold volRound
  exact List.foldlRecOn (motive := fun u : State => u.flw.path = s.flw.path) _ _ rfl fun u hu i _ => hu

theorem flw_supplyCut (s : State) : (supplyCut s).flw = s.flw := by
  unfold supplyCut
  split
  · rw [flw_truncateSupply]; rfl
  · rfl

theorem pathsCut_hfxCut (s : State) : PathsCut s (hfxCut s) ∧ ∀ p, p < 2 → (flowPath (hfxCut s) p).pair = none := by
  have hpath : (volRound [0x10, 0x11, 0x12] (supplyCut s)).flw.path = s.flw.path := by rw [path_volRound, flw_supplyCut]
  obtain ⟨hcut, hfree⟩ := pathsCut_abortAll (volRound [0x10, 0x11, 0x12] (supplyCut s))
  exact ⟨(pathsCut_of_path hpath).trans hcut, hfree⟩

theorem flw_sourceRound (s : State) : (sourceRound s).flw = s.flw := by
  unfold sourceRound
  extract_lets n q s1 s2 run
  have h1 : s1.flw = s.flw := by
    simp only [s1]
    split <;> rfl
  have h2 : s2.flw = s.flw := by
    simp only [s2]
    split
    · unfold enterFallback
      dsimp only
      split
      · exact h1
      · rw [emit_flw]; exact h1
    · exact h1
  exact h2

/-- The channels, paths and the gauge after a failure of HFX (R414). -/
structure UnitsDown (s t : State) : Prop where
  chans : ∀ k, k < 8 → routed s k = true → (chan s k).state ≠ .off → (chan t k).state = .fault ∧ (chan t k).tag = .invalid
  paths : ∀ p, p < 3 → (flowPath s p).state ≠ .off → (flowPath t p).state = .fault ∧ (p < 2 → (flowPath t p).pair = none)
  gauge : s.bat.state = .run → t.bat.state = .fault

theorem flowAside_hfxDown (s : State) : flowAside s (hfxDown s) =
    { s with met := (chansFail (hfxCut s)).met, bat := (gaugeFails (flowsFail (hfxCut s))).bat } := by
  have hset : ∀ (m : Met) (g : Bat), { flowAside s (gaugePublished s) with met := m, bat := g } = { s with met := m, bat := g } :=
    fun _ _ => rfl
  rw [hfxDown, flowAside_sourceRound, flowAside_hfxUnitsFault, flowAside_hfxCut, hset]

theorem unitsDown_hfxDown (s : State) : UnitsDown s (hfxDown s) := by
  have hcut := flowAside_hfxCut s s
  have hmet := part_of hcut State.met fun _ => rfl
  have hstr := part_of hcut State.str fun _ => rfl
  have hdmet := part_of (flowAside_hfxDown s) State.met fun _ => rfl
  have hdbat := part_of (flowAside_hfxDown s) State.bat fun _ => rfl
  have hfbat := part_of (flowAside_flowsFail s (hfxCut s)) State.bat fun _ => rfl
  have hbat := part_of hcut State.bat fun _ => rfl
  dsimp only at hmet hstr hdmet hdbat hfbat hbat
  obtain ⟨hkeep, hfree⟩ := pathsCut_hfxCut s
  refine ⟨fun k hk hr hon => ?_, fun p hp hon => ?_, fun hrun => ?_⟩
  · have hchan : chan (hfxCut s) k = chan s k := congrArg (fun m : Met => vget m.ch k ChanSt.idle) hmet
    have hdown : chan (hfxDown s) k = chan (chansFail (hfxCut s)) k := congrArg (fun m : Met => vget m.ch k ChanSt.idle) hdmet
    have hroute : routed (hfxCut s) k = true := (routed_of_str hstr k).trans hr
    have hfail := chan_chansFail hk hroute (by rw [hchan]; exact hon)
    rw [hdown, hfail]
    exact ⟨rfl, rfl⟩
  · obtain ⟨hst, hpair⟩ := failed_hfxUnitsFault hp (hkeep.on p hon)
    have hpath : (hfxDown s).flw.path = (hfxUnitsFault (hfxCut s)).flw.path := congrArg Flw.path (flw_sourceRound _)
    rw [flowPath_of_flw hpath]
    exact ⟨hst, fun h2 => by rw [hpair, hfree p h2]⟩
  · rw [hdbat]
    refine gaugeFails_run ?_
    rw [hfbat]
    exact (congrArg Bat.state hbat).trans hrun

/-- What a failure of HFX does to the power manager, the wheel, the safety logic and the store, set back to those of `s`; the user
areas stay. -/
def failAside (s t : State) : State :=
  { causesAside s t with whl := s.whl, pub := s.pub, pwc := s.pwc, sto := { s.sto with areas := t.sto.areas } }

theorem failAside_emit (s : State) (e : Ev) (t : State) : failAside s (emit e t) = failAside s t := by
  unfold emit
  split <;> rfl

theorem failAside_queueFrom (s : State) (b : OutBank) (k : CommitKind) (t : State) : failAside s (queueFrom b k t) = failAside s t := rfl

theorem failAside_setPwc (s : State) (f : Pwc → Pwc) (t : State) : failAside s (setPwc f t) = failAside s t := rfl

theorem failAside_of_causes {s t u : State} (h : causesAside s t = causesAside s u) : failAside s t = failAside s u := by
  have hset : ∀ x, failAside s (causesAside s x) = failAside s x := fun _ => rfl
  rw [← hset t, h, hset]

theorem failAside_hfxOff (s t : State) : failAside s (hfxOff t) = failAside s t := by
  have hset : ∀ x, failAside s (eventsAside s x) = failAside s x := fun _ => rfl
  rw [← hset, eventsAside_hfxOff]
  rfl

theorem failAside_hfxFailure (cause : Nat) (s : State) : failAside s (hfxFailure cause s) = failAside s (hfxDown s) := by
  obtain ⟨e, b, h⟩ := hfxFailure_form cause s
  rw [h, failAside_emit, failAside_queueFrom, failAside_of_causes (causesAside_diagFails s 15 2 (hfxNoted s)), hfxNoted,
    failAside_setPwc, failAside_hfxOff]

theorem UnitsDown.of_failAside {s t u : State} (h : UnitsDown s t) (g : failAside s u = failAside s t) : UnitsDown s u := by
  have hmet : u.met = t.met := (part_of g State.met fun _ => rfl :)
  have hflw : u.flw = t.flw := (part_of g State.flw fun _ => rfl :)
  have hbat : u.bat = t.bat := (part_of g State.bat fun _ => rfl :)
  obtain ⟨hc, hp, hg⟩ := h
  refine ⟨fun k hk hr hon => ?_, fun p hp3 hon => ?_, fun hrun => ?_⟩
  · rw [chan, hmet]; exact hc k hk hr hon
  · rw [flowPath_of_flw (congrArg Flw.path hflw)]; exact hp p hp3 hon
  · rw [hbat]; exact hg hrun

/-- What a failure of HFX leaves of the power manager (R414). -/
def powerFailed (now : Nat) (m : Mode) (p : Pwc) : Pwc := { powerOff m p with
  hfxFail := true, hfxFailAt := now, hfxFails := satInc p.hfxFails }

theorem pwc_queueFrom (b : OutBank) (k : CommitKind) (s : State) : (queueFrom b k s).pwc = s.pwc := rfl

theorem pwc_diagFails (b d : Nat) (s : State) : (diagFails b d s).pwc = s.pwc :=
  (part_of (causesAside_diagFails s b d s) State.pwc fun _ => rfl :)

theorem whl_diagFails (b d : Nat) (s : State) : (diagFails b d s).whl = s.whl :=
  (part_of (causesAside_diagFails s b d s) State.whl fun _ => rfl :)

theorem hfxFailure_pwc (cause : Nat) (s : State) : ∃ m, (hfxFailure cause s).pwc = powerFailed s.aon m s.pwc := by
  obtain ⟨e, b, h⟩ := hfxFailure_form cause s
  obtain ⟨m, -, hoff⟩ := hfxOff_pwc (hfxDown s)
  have hdown := part_of (flowAside_hfxDown s) State.pwc fun _ => rfl
  dsimp only at hdown
  refine ⟨m, ?_⟩
  rw [h, emit_pwc, pwc_queueFrom, pwc_diagFails, hfxNoted, setPwc_pwc, hoff, hdown]
  rfl

theorem hfxFailure_wheel (cause : Nat) (s : State) : (hfxFailure cause s).whl.state = .stopped := by
  obtain ⟨e, b, h⟩ := hfxFailure_form cause s
  have hoff := part_of (eventsAside_hfxOff s (hfxDown s)) State.whl fun _ => rfl
  dsimp only at hoff
  have hnoted : (hfxNoted s).whl.state = .stopped := by rw [hfxNoted, setPwc_whl, hoff]; rfl
  have hq : ∀ (u : State), (queueFrom b .mode u).whl.state = u.whl.state := fun _ => rfl
  rw [h, emit_whl, hq, whl_diagFails, hnoted]

theorem hfxFailure_keeps (cause : Nat) (s : State) : (hfxFailure cause s).sec = s.sec ∧ (hfxFailure cause s).img = s.img ∧
    (hfxFailure cause s).str = s.str ∧ (hfxFailure cause s).cfg = s.cfg ∧ (hfxFailure cause s).sto.areas = s.sto.areas := by
  have hset := failAside_hfxFailure cause s
  have hdown := flowAside_hfxDown s
  have hparts := part_of hset (fun t => (t.sec, t.img, t.str, t.cfg, t.sto.areas)) fun _ => rfl
  have hkept := part_of hdown (fun t => (t.sec, t.img, t.str, t.cfg, t.sto.areas)) fun _ => rfl
  dsimp only [failAside, causesAside, eventsAside] at hparts hkept
  rw [hkept] at hparts
  simpa using hparts

theorem emit_cqueue (e : Ev) (s : State) : (emit e s).sto.cqueue = s.sto.cqueue := by
  unfold emit
  split <;> rfl

theorem hfxFailure_commit (cause : Nat) (s : State) : (hfxFailure cause s).sto.cqueue.getLast?.map Queued.kind = some .mode := by
  obtain ⟨e, b, h⟩ := hfxFailure_form cause s
  rw [h, emit_cqueue]
  exact getLast_queueCommit .mode _

theorem saf_eventsAside (s t : State) : (eventsAside s t).saf = t.saf := rfl

/-- The clock failure of HFX is a cause of the safe state (R355, R414). -/
theorem hfxFailure_causes {s : State} (cause : Nat) (h : nbit s.saf.cause 15 = false) :
    nbit (hfxFailure cause s).saf.cause 15 = true ∧ (hfxFailure cause s).saf.safe = true := by
  obtain ⟨e, b, hf⟩ := hfxFailure_form cause s
  have hdown := part_of (flowAside_hfxDown s) State.saf fun _ => rfl
  have hoff := part_of (eventsAside_hfxOff s (hfxDown s)) State.saf fun _ => rfl
  dsimp only at hdown hoff
  have hnoted : (hfxNoted s).saf = s.saf := by rw [hfxNoted, setPwc_saf, hoff, saf_eventsAside, hdown]
  have hq : ∀ u : State, (queueFrom b .mode u).saf = u.saf := fun _ => rfl
  obtain ⟨hsafe, hcause⟩ := raiseCauses_clock
    (s := setSaf (fun f => { f with failAt := vmod f.failAt 15 fun _ => (hfxNoted s).aon }) (hfxNoted s))
    (by rw [setSaf_saf, hnoted]; exact h)
  rw [hf, emit_saf, hq, diagFails, hcause]
  exact ⟨nbit_or_two_pow _ 15, hsafe⟩

/-! ### The commands -/

/-- The failure that a report names holds (R413, R414). -/
def hfxFailDue (c : Fin 3) (s : State) : Prop := (c = 0 ∧ s.pwc.hfxStarting = true ∧ s.pwc.hfxStartAt + 328 ≤ s.aon) ∨
  (c = 1 ∧ s.pwc.hfxOk = true) ∨ (c = 2 ∧ s.pwc.pllLock = true)

theorem hfxFails_due {c : Fin 3} {s : State} (h : hfxFailDue c s) : hfxFails c.val s = hfxFailure (c.val + 1) s := by
  rcases h with ⟨rfl, hs, ha⟩ | ⟨rfl, hq⟩ | ⟨rfl, hl⟩
  · simp [hfxFails, hs, ha]
  · simp [hfxFails, hq]
  · simp [hfxFails, hl]

theorem hfxFails_idle {c : Fin 3} {s : State} (h : ¬hfxFailDue c s) : hfxFails c.val s = s := by
  refine if_neg fun hdue => h ?_
  match c with
  | 0 => exact .inl ⟨rfl, by simpa using hdue⟩
  | 1 => exact .inr (.inl ⟨rfl, by simpa using hdue⟩)
  | 2 => exact .inr (.inr ⟨rfl, by simpa using hdue⟩)

theorem react_still {s t : State} (h : t = s) : hfxAside s (react s t) = s := by
  rw [h, hfxAside_react rfl]; rfl

theorem hfxQualified_idle {s : State} (h : s.pwc.hfxStarting = false) : hfxQualified s = s := by simp [hfxQualified, h]

theorem pllLocks_idle {s : State} (h : s.pwc.hfxOk = false ∨ s.pwc.pllLock = true) : pllLocks s = s := by
  rcases h with h | h <;> simp [pllLocks, h]

theorem hfxRetry_cases (s : State) : hfxRetry s = s ∨ hfxRetry s = hfxStart s := by
  unfold hfxRetry
  split
  · exact .inr rfl
  · exact .inl rfl

theorem demandEnd_active {d : Nat} {s : State} (h : demandActive s d = true) : demandEnd d s = s := if_pos h

/-- The demands that stand once demand d has ended. -/
def demandsLeft (d : Fin 10) (s : State) : Demands := ⟨s.pwc.dem.bank && decide (d ≠ 1), s.pwc.dem.gauge && decide (d ≠ 3), s.pwc.dem.trim⟩

theorem demandGone_fin (d : Fin 10) (s : State) : demandGone d.val s = { s with pwc := { s.pwc with dem := demandsLeft d s } } := by
  have h1 : d.val ≠ 1 ↔ d ≠ 1 := by simp [Fin.ext_iff]
  have h3 : d.val ≠ 3 ↔ d ≠ 3 := by simp [Fin.ext_iff]
  simp only [demandGone, setPwc, demandsLeft, h1, h3]

/-- HFX that qualifies after no failure is in use (R413). -/
theorem hfxQualified_first {s : State} (hs : s.pwc.hfxStarting = true) (hf : s.pwc.hfxFail = false) :
    hfxQualified s = setPwc (fun p => { p with hfxOk := true, hfxStarting := false }) s := by
  simp [hfxQualified, hs, hf, setPwc]

theorem unitMgmt_path {p : Nat} (hp : p < 3) (s : State) : unitMgmt s (0x10 + p) = (flowPath s p).state := by
  rw [unitMgmt, if_neg (by omega), if_pos (by omega), Nat.add_sub_cancel_left]

/-- A failure of HFX holds a path that exists and whose reference is right. -/
structure PathHeld (p : Nat) (s : State) : Prop where
  exists_ : pathExists s p = true
  held : hfxHeld s (0x10 + p) = true
  ref : (flowPath s p).refFault = false

theorem hfxHeld_congr {s t : State} {u : Nat} (hm : unitMgmt t u = unitMgmt s u) (hf : t.whl.faults = s.whl.faults) :
    hfxHeld t u = hfxHeld s u := by
  rw [hfxHeld, hfxHeld, latched, latched, hm, faultRec_of_faults hf]

theorem pathExists_of_str {s t : State} (h : t.str = s.str) (p : Nat) : pathExists t p = pathExists s p := by
  simp only [pathExists, inSet, instsOf, h]

theorem PathHeld.congr {p : Nat} (hp : p < 3) {s t : State} (h : PathHeld p s) (hstr : t.str = s.str)
    (hpath : flowPath t p = flowPath s p) (hf : t.whl.faults = s.whl.faults) : PathHeld p t := by
  obtain ⟨he, hh, hr⟩ := h
  refine ⟨(pathExists_of_str hstr p).trans he, ?_, by rw [hpath]; exact hr⟩
  rw [← hh]
  exact hfxHeld_congr (by rw [unitMgmt_path hp, unitMgmt_path hp, hpath]) hf

theorem pathBack_ref {p : Nat} {s : State} (h : (flowPath s p).refFault = false) : pathBack p s = calLeft p (pathStart p s) :=
  if_neg (by simp [h])

theorem flowPath_heldPathBack {p : Nat} (hp : p < 3) {s : State} (h : PathHeld p s) :
    (flowPath (heldPathBack p s) p).state = .starting := by
  obtain ⟨he, hh, hr⟩ := h
  have hback : heldPathBack p s = calLeft p (pathStart p s) := by
    rw [heldPathBack, he, hh, Bool.and_true, if_pos rfl, pathBack_ref hr]
  have hpath : flowPath (pathStart p s) p = pathEnter s p (flowPath s p) := vget_vmod _ _ _ _ hp
  rw [hback, flowPath_of_flw (path_calLeft p _), hpath]
  rfl

theorem flowPath_heldPathBack_ne {p q : Nat} (h : q ≠ p) (s : State) : flowPath (heldPathBack p s) q = flowPath s q := by
  unfold heldPathBack pathBack
  split
  · split
    · rfl
    · rw [flowPath_of_flw (path_calLeft p _)]
      exact vget_vmod_ne _ _ _ _ _ h
  · rfl

/-- The return of one path leaves another held path as it was. -/
theorem PathHeld.next {p q : Nat} (hq : q < 3) (hne : q ≠ p) {s : State} (h : PathHeld q s) : PathHeld q (heldPathBack p s) := by
  have hset := flowAside_heldPathBack s p s
  exact h.congr hq (part_of hset State.str fun _ => rfl) (flowPath_heldPathBack_ne hne s)
    (part_of hset (fun x => x.whl.faults) fun _ => rfl)

theorem flowPath_flowsBack {p : Nat} (hp : p < 3) {s : State} (h : PathHeld p s) : (flowPath (flowsBack s) p).state = .starting := by
  rw [flowsBack]
  match p, hp with
  | 0, _ => rw [flowPath_heldPathBack_ne (by decide), flowPath_heldPathBack_ne (by decide), flowPath_heldPathBack (by decide) h]
  | 1, _ => rw [flowPath_heldPathBack_ne (by decide), flowPath_heldPathBack (by decide) (h.next (by decide) (by decide))]
  | 2, _ =>
    rw [flowPath_heldPathBack (by decide) ((h.next (by decide) (by decide)).next (by decide) (by decide))]

theorem flw_linkBack (s : State) : (linkBack s).flw = s.flw := by
  unfold linkBack
  split
  · exact (flw_linkState _ _ _).trans rfl
  · rfl

/-- The units that a failure of HFX held start again with it (R414). -/
theorem hfxUnitsBack_starts (s : State) :
    (∀ p, p < 3 → PathHeld p s → (flowPath (hfxUnitsBack s) p).state = .starting) ∧
      (hfxHeld s 0x20 = true → (hfxUnitsBack s).bat.state = .starting) := by
  have hchans := chansBack_eq s
  refine ⟨fun p hp h => ?_, fun h => ?_⟩
  · have hflw : (hfxUnitsBack s).flw = (flowsBack (chansBack s)).flw := by rw [hfxUnitsBack_eq, gaugeBack_eq]; exact flw_linkBack _
    rw [flowPath_of_flw (congrArg Flw.path hflw)]
    exact flowPath_flowsBack hp (h.congr hp (by rw [hchans]) (by rw [hchans]; rfl) (by rw [hchans]))
  · have hset : flowAside s (linkBack (flowsBack (chansBack s))) = flowAside s (chansBack s) := by
      rw [flowAside_linkBack, flowAside_flowsBack]
    have hheld : hfxHeld (linkBack (flowsBack (chansBack s))) 0x20 = true := by
      rw [← h]
      refine hfxHeld_congr ?_ ?_
      · refine (part_of hset (fun x => x.bat.state) fun _ => rfl :).trans ?_
        rw [hchans]
        rfl
      · refine (part_of hset (fun x => x.whl.faults) fun _ => rfl :).trans ?_
        rw [hchans]
        rfl
    rw [hfxUnitsBack_eq, gaugeBack, hheld, if_pos rfl]
    rfl

theorem hfxQualified_back {s : State} (hs : s.pwc.hfxStarting = true) (hf : s.pwc.hfxFail = true) : ∃ e, hfxQualified s =
    hfxUnitsBack (emit e (setPwc (fun p => { p with hfxOk := true, hfxStarting := false, hfxFail := false }) s)) := by
  rw [hfxQualified, if_neg (by simp [hs]), hf]
  exact ⟨_, if_pos rfl⟩

/-- HFX's return leaves the safety logic, the security store and the structure, and starts what it held (R414). -/
theorem hfxQualified_returns {s : State} (hs : s.pwc.hfxStarting = true) (hf : s.pwc.hfxFail = true) :
    ((hfxQualified s).saf = s.saf ∧ (hfxQualified s).sec = s.sec ∧ (hfxQualified s).str = s.str) ∧
      (∀ p, p < 3 → PathHeld p s → (flowPath (hfxQualified s) p).state = .starting) ∧
      (hfxHeld s 0x20 = true → (hfxQualified s).bat.state = .starting) := by
  obtain ⟨e, hrun⟩ := hfxQualified_back hs hf
  rw [hrun]
  generalize hv : emit e (setPwc (fun p => { p with hfxOk := true, hfxStarting := false, hfxFail := false }) s) = v
  obtain ⟨m, g, hset⟩ := flowAside_hfxUnitsBack v v
  obtain ⟨hpaths, hgauge⟩ := hfxUnitsBack_starts v
  have hsaf := part_of hset State.saf fun _ => rfl
  have hsec := part_of hset State.sec fun _ => rfl
  have hstr := part_of hset State.str fun _ => rfl
  dsimp only [flowAside, eventsAside] at hsaf hsec hstr
  have hvstr : v.str = s.str := by rw [← hv, emit_str]; rfl
  have hvflw : v.flw = s.flw := by rw [← hv, emit_flw]; rfl
  have hvwhl : v.whl = s.whl := by rw [← hv, emit_whl]; rfl
  have hvbat : v.bat = s.bat := by rw [← hv, emit_bat]; rfl
  refine ⟨⟨hsaf.trans (by rw [← hv, emit_saf]; rfl), hsec.trans (by rw [← hv, emit_sec]; rfl), hstr.trans hvstr⟩,
    fun p hp h => hpaths p hp (h.congr hp hvstr (flowPath_of_flw (congrArg Flw.path hvflw) p) (congrArg Whl.faults hvwhl)),
    fun h => hgauge ?_⟩
  rw [← h]
  exact hfxHeld_congr (congrArg Bat.state hvbat) (congrArg Whl.faults hvwhl)

theorem usesUsx_iff (s : State) : usesUsx s = true ↔ ∃ p, p < 3 ∧ pathExists s p = true := by simp [usesUsx]

theorem routesAny_iff (s : State) : routesAny s = true ↔ ∃ k, k < 8 ∧ routed s k = true := by simp [routesAny]

theorem chan_modStart {s : State} {k : Nat} (hk : k < 8) (hr : routed s k = true) (hl : latched s (k + 1) = false) :
    chan (modStart s) k = chanStart 0 (chan s k) := by
  rw [chan, modStart, vget_vmap _ _ k ChanSt.idle _ hk]
  exact (if_pos hr).trans (if_neg (by simp [hl]))

/-- What a lock leaves, whatever a demand starts with it. -/
theorem demandWake_locked (st : WheelState) (m : Met) (md : Bool) (s : State) :
    ((demandWake (locked st m md s)).pwc.pllLock = true ∧ (demandWake (locked st m md s)).pwc.clk.eng = true ∧
      ((demandWake (locked st m md s)).pwc.clk.usx = true ↔ ∃ p, p < 3 ∧ pathExists s p = true) ∧
      (demandWake (locked st m md s)).pwc.clk.mod = md) ∧
    ((demandWake (locked st m md s)).whl.rounds = 0 ∧ (demandWake (locked st m md s)).whl.sector = 0 ∧
      (demandWake (locked st m md s)).whl.state = st) ∧
    (demandWake (locked st m md s)).met = m ∧
    { hfxAside s (demandWake (locked st m md s)) with whl := s.whl, met := s.met } =
      { s with pwc := { s.pwc with pllLock := true } } := by
  obtain ⟨hfx, saf, hclk⟩ := demandWake_clk (locked st m md s)
  have hpll : (demandWake (locked st m md s)).pwc.pllLock = true :=
    demandWake_pwc Pwc.pllLock (fun _ _ _ _ _ _ _ _ => rfl) (locked st m md s)
  refine ⟨⟨hpll, by rw [hclk]; rfl, by rw [hclk]; exact usesUsx_iff s, by rw [hclk]; rfl⟩, ?_, ?_, ?_⟩
  · rw [demandWake_eq]; exact ⟨rfl, rfl, rfl⟩
  · rw [demandWake_eq]; rfl
  · rw [demandWake_hfxAside]; rfl

/-- A demand looks at nothing that raising events may change. -/
theorem needsHfx_eventsAside (s t : State) : needsHfx (eventsAside s t) = needsHfx t := rfl

theorem pub_of_needsHfx {s : State} (h : needsHfx s = false) : s.pub = none := by
  have hpub : s.pub.isSome = false := (Bool.or_eq_false_iff.mp h).2
  simpa using hpub

/-- With no demand left HFX's end leaves none. -/
theorem needsHfx_hfxOff {s : State} (h : needsHfx s = false) : needsHfx (hfxOff s) = false := by
  obtain ⟨m, -, hpwc⟩ := hfxOff_pwc s
  have hpub := pub_of_needsHfx h
  rw [← needsHfx_eventsAside s, eventsAside_hfxOff, hpwc, ← h]
  simp only [needsHfx, hpub]
  rfl

theorem hfxOff_chd (s : State) : (hfxOff s).chd = s.chd := by
  have h := part_of (eventsAside_hfxOff s s) State.chd fun _ => rfl
  dsimp only at h
  exact h

/-- Nothing follows an event that leaves the link alone and no demand open. -/
theorem react_settled {s t : State} (h : t.chd = s.chd) (hn : needsHfx t = false) : react s t = t := by
  have hwake : wake t = t := by simp [wake, hn]
  rw [react_eq_demandWake h, demandWake, hwake, ite_self]

/-- On battery the device is in IDLE once HFX has stopped (R408). -/
theorem hfxOff_battery {s : State} (hm : s.pwc.mode ≠ .shelf) (hv : s.pwc.vmainOk = false) : eventsAside s (hfxOff s) = { s with
    whl := wheelStopped s.whl, pub := none, pwc := powerOff .idle s.pwc, sto := { s.sto with evHold := false } } := by
  obtain ⟨m, hmode, hpwc⟩ := hfxOff_pwc s
  have hidle : modeNow { s with pwc := clocksOff s.pwc } = .idle := by
    rw [modeNow_battery (s := { s with pwc := clocksOff s.pwc }) hm hv]
    exact if_neg fun h => Bool.false_ne_true h.2
  rw [eventsAside_hfxOff, hpwc, hmode, hidle]
  rfl

theorem powerOff_idle (p : Pwc) : powerOff .idle p = { p with
    mode := .idle, hfxStarting := false, hfxOk := false, pllLock := false, clk := ⟨false, false, false, false, false⟩ } := by
  have hwakes : (if p.mode = .idle ∧ (Mode.idle = .shot ∨ Mode.idle = .meter) then satInc p.wakes else p.wakes) = p.wakes :=
    if_neg (by simp)
  rw [powerOff, hwakes]
  rfl

/-- With its last demand gone a device on battery stops HFX (R408). -/
theorem powerSettle_battery {s : State} (hv : s.pwc.vmainOk = false) (hx : s.pwc.clk.hfx = true) (hw : s.whl.state ≠ .running)
    (hn : needsHfx s = false) : powerSettle s = hfxOff s := by
  simp [powerSettle, hv, hx, hw, hn]

/-- Settles O60: each report of the clocks where its condition holds and where it does not. -/
theorem clocksStartFailAndStop : Obligations.ClocksStartFailAndStop := by
  refine ⟨fun s hl hst hx => ⟨fun hf => ?first, fun hf => ⟨_, rfl, ?back⟩⟩, fun s hl hst => ⟨_, rfl, ?qualifiedIdle⟩,
    fun s hl hq hlock => ⟨_, rfl, ?lock⟩, fun s hl h => ⟨_, rfl, ?lockIdle⟩, fun c s hl => ⟨fun hdue => ⟨_, rfl, ?fail⟩, fun hn => ?failIdle⟩,
    fun s hl => ⟨_, rfl, ?retry⟩, fun d s hl => ⟨fun ha => ⟨_, rfl, ?active⟩, fun ha hv hstr => ⟨_, rfl, ?mains⟩,
      fun ha hv hm hx hw hn => ⟨_, rfl, ?battery⟩⟩⟩
  case first =>
    refine congrArg Host.Outcome.next ?_
    rw [event_pos hl, hfxQualified_first hst hf,
      react_running (s := s) (t := setPwc (fun p => { p with hfxOk := true, hfxStarting := false }) s) hx]
    exact roleCommit_same rfl
  case back =>
    have hq := hfxQualified_starting hst
    obtain ⟨⟨hsaf, hsec, hstr⟩, hpaths, hgauge⟩ := hfxQualified_returns hst hf
    rw [event_pos hl, react_running (by rw [hq]; exact hx), roleCommit_eq]
    exact ⟨congrArg Pwc.hfxOk hq, congrArg Pwc.hfxStarting hq, congrArg Pwc.hfxFail hq, (congrArg Pwc.hfxFails hq :), hsaf, hsec, hstr,
      fun p hp he hh hr => hpaths p hp ⟨he, hh, hr⟩, hgauge⟩
  case qualifiedIdle =>
    rw [event_pos hl]
    exact react_still (hfxQualified_idle hst)
  case lock =>
    have hreact : ∀ st m md, react s (locked st m md s) = demandWake (locked st m md s) := fun st m md => react_eq_demandWake rfl
    rw [event_pos hl]
    by_cases h : s.pwc.vmainOk = true ∧ s.str.isSome = true ∧ routesAny s = true
    · obtain ⟨hv, hstr, hr⟩ := h
      rw [pllLocks_runs hq hlock hv hstr hr, hreact]
      obtain ⟨⟨hpll, heng, husx, hmod⟩, ⟨hrounds, hsector, hstate⟩, hmet, hrest⟩ := demandWake_locked .running (modStart s).met true s
      refine ⟨hpll, heng, husx, hrounds, hsector, ⟨fun _ => ⟨hstate, hmod, fun k hk hroute hlatch => ?_⟩,
        fun hn => absurd ⟨hv, hstr, (routesAny_iff s).mp hr⟩ hn⟩, hrest⟩
      have hchan : chan (demandWake (locked .running (modStart s).met true s)) k = chan (modStart s) k :=
        congrArg (fun m : Met => vget m.ch k ChanSt.idle) hmet
      rw [hchan, chan_modStart hk hroute hlatch]
      rfl
    · rw [pllLocks_bursts hq hlock h, hreact]
      obtain ⟨⟨hpll, heng, husx, -⟩, ⟨hrounds, hsector, hstate⟩, hmet, hrest⟩ := demandWake_locked .burst s.met s.pwc.clk.mod s
      exact ⟨hpll, heng, husx, hrounds, hsector, ⟨fun ⟨hv, hstr, hr⟩ => absurd ⟨hv, hstr, (routesAny_iff s).mpr hr⟩ h,
        fun _ => ⟨hstate, hmet⟩⟩, hrest⟩
  case lockIdle =>
    rw [event_pos hl]
    exact react_still (pllLocks_idle h)
  case fail =>
    obtain ⟨m, hpwc⟩ := hfxFailure_pwc (c.val + 1) s
    obtain ⟨hchans, hpaths, hgauge⟩ := (unitsDown_hfxDown s).of_failAside (failAside_hfxFailure (c.val + 1) s)
    obtain ⟨hsec, himg, hstr, hcfg, hareas⟩ := hfxFailure_keeps (c.val + 1) s
    rw [hl, if_pos rfl, hfxFails_due hdue]
    refine ⟨?_, ?_, ?_, ?_, ?_, ?_, ?_, hfxFailure_wheel _ s, hchans, hpaths, hgauge, hfxFailure_causes _, hfxFailure_commit _ s,
      hsec, himg, hstr, hcfg, ?_, hareas⟩
    all_goals rw [hpwc]; rfl
  case failIdle =>
    refine congrArg Host.Outcome.next ?_
    rw [hfxFails_idle hn, ite_self]
  case retry =>
    rw [event_pos hl]
    refine ⟨?_, fun hf hv hstr ha hx => ?_⟩
    · rcases hfxRetry_cases s with h | h
      · exact react_still h
      · rw [h, hfxAside_react (by rw [hfxStart_eq]), hfxStart_aside]; rfl
    · rw [hfxRetry_due hf hv hstr ha, react_running (hfxStart_hfx s), roleCommit_same (by rw [hfxStart_eq]), hfxStart_off hx]
      exact ⟨rfl, rfl, rfl⟩
  case active =>
    rw [event_pos hl]
    exact react_still (demandEnd_active ha)
  case mains =>
    rw [event_pos hl, demandEnd_mains ha hv hstr, demandGone_fin]
    rfl
  case battery =>
    have hgone := demandGone_fin d s
    have hnow : needsHfx (demandGone d.val s) = false := by rw [hgone]; exact hn
    have hset : ∀ x, eventsAside s x = eventsAside (demandGone d.val s) x := fun _ => rfl
    have hpub : s.pub = none := pub_of_needsHfx (s := demandGone d.val s) hnow
    have hoff := hfxOff_battery (s := demandGone d.val s) hm hv
    have hhold : (hfxOff (demandGone d.val s)).sto.evHold = false := (part_of hoff (fun x => x.sto.evHold) fun _ => rfl :)
    rw [event_pos hl, demandEnd_gone ha, powerSettle_battery (s := demandGone d.val s) hv hx hw hnow,
      react_settled (s := s) (hfxOff_chd (demandGone d.val s)) (needsHfx_hfxOff hnow), hset, hoff, hhold, powerOff_idle, hgone, ← hpub]
    rfl

end Sys2Proof.Proofs
end

section
/-! PROOFS. Link frames: what a round's wait and the link's judgement of a frame may change, its checks in order, and what a role
makes of a good frame (R124, R242, R243, R246, R260). -/

namespace Sys2Proof.Proofs

open Sys2Proof Sys2Proof.Machine Sys2Proof.Safety Sys2Proof.Laws

/-! ### A kernel's work of a round -/

/-- The state in which a kernel works: its events may wait. -/
def holding (h : Bool) (s : State) : State := { s with sto := { s.sto with evHold := h } }

/-- The state in which a kernel leaves its work, with the published bank. -/
def sealed (p : Option OutBank) (h : Bool) (s : State) : State := { s with pub := p, sto := { s.sto with evHold := h } }

/-- A kernel's work of a round hides its outputs and lets its events wait while the wheel turns. -/
theorem inRound_form (f : State → State) (s : State) : ∃ h p e, inRound f s = sealed p e (f (holding h s)) := by
  unfold inRound
  split
  · exact ⟨s.sto.evHold, (f s).pub, (f s).sto.evHold, rfl⟩
  · exact ⟨true, _, false, rfl⟩

theorem react_chd (s t : State) : (react s t).chd = t.chd := by rw [react_eq]

theorem react_flw (s t : State) : (react s t).flw = t.flw := by rw [react_eq]

theorem react_whl (s t : State) : (react s t).whl = t.whl := by rw [react_eq]

/-! ### What the link may change -/

/-- What the judgement of a frame may change, set back to `s`: the link, its copy of the bank path with a calibration on it, the link's
faults and the bank's pending work, the published bank and the wait of events, and events. -/
def linkAside (s t : State) : State :=
  { eventsAside s t with
    chd := s.chd, flw := { t.flw with path := s.flw.path, cal := s.flw.cal }, pub := s.pub
    sto := { (eventsAside s t).sto with evHold := s.sto.evHold }
    whl := { t.whl with faults := s.whl.faults, pending := s.whl.pending } }

theorem linkAside_emit (s : State) (e : Ev) (t : State) : linkAside s (emit e t) = linkAside s t := by
  unfold emit
  split <;> rfl

theorem linkAside_linkState (s : State) (m : Mgmt) (c : Nat) (t : State) : linkAside s (linkState m c t) = linkAside s t := by
  by_cases h : t.chd.state = m
  · rw [linkState, if_pos h]
  · obtain ⟨e, he⟩ := linkState_form c h
    rw [he, linkAside_emit]; rfl

theorem linkAside_linkFault (s : State) (c : Nat) (t : State) : linkAside s (linkFault c t) = linkAside s t :=
  linkAside_linkState s .fault c t

theorem linkAside_calLeft (s : State) (p : Nat) (t : State) : linkAside s (calLeft p t) = linkAside s t := by
  unfold calLeft
  split <;> rfl

theorem linkAside_copyLapse (s t : State) : linkAside s (copyLapse t) = linkAside s t := by
  unfold copyLapse
  dsimp only
  split
  · exact linkAside_calLeft s 2 _
  · rfl

theorem linkAside_linkMissing (s t : State) : linkAside s (linkMissing t) = linkAside s t := by
  unfold linkMissing
  dsimp only
  split
  · rw [linkAside_copyLapse]
    split
    · exact linkAside_linkState s .hold 2 _
    · rfl
  · rfl

/-- A frame that enters the receive queue adds steps of work to KC-BANK's. -/
theorem rxTake_form (s : State) : ∃ q w, rxTake s =
    { s with chd := { s.chd with rxq := q }, whl := { s.whl with pending := w } } := by
  unfold rxTake
  split
  · exact ⟨s.chd.rxq, s.whl.pending, rfl⟩
  · exact ⟨_, _, rfl⟩

theorem linkAside_sealed (s : State) (p : Option OutBank) (h : Bool) (t : State) : linkAside s (sealed p h t) = linkAside s t := rfl

/-! ### What the link leaves to the paths and to itself -/

theorem chd_calLeft (p : Nat) (s : State) : (calLeft p s).chd = s.chd := by
  unfold calLeft
  split <;> rfl

theorem chd_copyLapse (s : State) : (copyLapse s).chd = s.chd := by
  unfold copyLapse
  dsimp only
  split
  · exact chd_calLeft 2 _
  · rfl

/-- The copy of the discharge is the bank path's alone. -/
theorem pipe_copyLapse {p : Nat} (hp : p < 2) (s : State) : flowPath (copyLapse s) p = flowPath s p := by
  unfold copyLapse
  dsimp only
  split
  · rw [flowPath_of_flw (path_calLeft 2 _)]
    exact (flowPath_vmod (by decide) p _ s).trans (if_neg (by omega))
  · rfl

theorem flw_linkFault (c : Nat) (s : State) : (linkFault c s).flw = s.flw := flw_linkState .fault c s

theorem pipe_linkMissing {p : Nat} (hp : p < 2) (s : State) : flowPath (linkMissing s) p = flowPath s p := by
  unfold linkMissing
  dsimp only
  split
  · rw [pipe_copyLapse hp]
    split
    · exact flowPath_of_flw (congrArg Flw.path (flw_linkState .hold 2 _)) p
    · rfl
  · rfl

theorem linkState_state (m : Mgmt) (c : Nat) (s : State) : (linkState m c s).chd.state = m := by
  by_cases h : s.chd.state = m
  · rw [linkState, if_pos h, h]
  · obtain ⟨e, he⟩ := linkState_form c h
    rw [he, emit_chd]; rfl

/-- A change of the link's state keeps what neither the state nor the hold's expiry nor the run of complete cycles shows. -/
theorem linkState_chd {α : Type} (π : Chd → α) (h : ∀ m c, π (linkIn m c) = π c) (m : Mgmt) (c : Nat) (s : State) :
    π (linkState m c s).chd = π s.chd := by
  by_cases hm : s.chd.state = m
  · rw [linkState, if_pos hm]
  · obtain ⟨e, he⟩ := linkState_form c hm
    rw [he, emit_chd]; exact h m s.chd

/-! ### A discarded and a missing frame -/

/-- The discards within 1 s, this one among them (R243). -/
def recentDiscards (s : State) : Nat := (s.chd.discAt.filter fun t => decide (s.aon < t + 32768)).length + 1

/-- A discarded frame in the link's counters (R242). -/
def discarded (k now : Nat) (c : Chd) : Chd := { c with
  discShort := if k = 0 then satInc c.discShort else c.discShort
  discLong := if k = 1 then satInc c.discLong else c.discLong
  discBad := if k = 2 then satInc c.discBad else c.discBad
  discAt := (c.discAt.filter fun t => decide (now < t + 32768)) ++ [now]
  discRun := c.discRun + 1, complRun := 0 }

theorem linkDiscard_eq (k : Nat) (s : State) : linkDiscard k s =
    if 32 ≤ recentDiscards s then linkFault 1 (setChd (discarded k s.aon) s)
    else if s.chd.state = .run ∧ 1 ≤ s.chd.discRun then linkState .hold 1 (setChd (discarded k s.aon) s)
    else setChd (discarded k s.aon) s := by
  have hlen : (setChd (discarded k s.aon) s).chd.discAt.length = recentDiscards s := List.length_append
  have hrun : 2 ≤ (setChd (discarded k s.aon) s).chd.discRun ↔ 1 ≤ s.chd.discRun := Nat.succ_le_succ_iff
  exact if_congr (iff_of_eq (congrArg (32 ≤ ·) hlen)) rfl (if_congr (and_congr_right' hrun) rfl rfl)

theorem linkAside_linkDiscard (s : State) (k : Nat) (t : State) : linkAside s (linkDiscard k t) = linkAside s t := by
  rw [linkDiscard_eq]
  split
  · exact linkAside_linkFault s 1 _
  · split
    · exact linkAside_linkState s .hold 1 _
    · rfl

theorem flw_linkDiscard (k : Nat) (s : State) : (linkDiscard k s).flw = s.flw := by
  rw [linkDiscard_eq]
  split
  · exact flw_linkFault 1 _
  · split
    · exact flw_linkState .hold 1 _
    · rfl

theorem linkDiscard_state (k : Nat) (s : State) : (linkDiscard k s).chd.state =
    if 32 ≤ recentDiscards s then .fault else if s.chd.state = .run ∧ 1 ≤ s.chd.discRun then .hold else s.chd.state := by
  rw [linkDiscard_eq]
  split
  · exact linkState_state .fault 1 _
  · split
    · exact linkState_state .hold 1 _
    · rfl

theorem linkDiscard_chd {α : Type} (π : Chd → α) (h : ∀ m c, π (linkIn m c) = π c) (k : Nat) (s : State) :
    π (linkDiscard k s).chd = π (discarded k s.aon s.chd) := by
  rw [linkDiscard_eq]
  split
  · exact linkState_chd π h .fault 1 _
  · split
    · exact linkState_chd π h .hold 1 _
    · rfl

/-- A missing frame in the link's counters (R243). -/
def missed (c : Chd) : Chd := { c with
  missing := satInc c.missing
  missRun := if c.cycMissed ∧ c.leader = true then c.missRun else c.missRun + 1
  cycMissed := true, complRun := 0
  gotReply := c.leader && c.gotReply }

theorem linkMissing_live {s : State} (h : linkLive s = true) : linkMissing s =
    copyLapse (if s.chd.state = .run ∧ 2 ≤ (missed s.chd).missRun then linkState .hold 2 (setChd missed s) else setChd missed s) :=
  if_pos h

theorem linkMissing_dead {s : State} (h : ¬linkLive s = true) : linkMissing s = s := if_neg h

theorem linkMissing_chd {α : Type} (π : Chd → α) (h : ∀ m c, π (linkIn m c) = π c) {s : State} (hl : linkLive s = true) :
    π (linkMissing s).chd = π (missed s.chd) := by
  rw [linkMissing_live hl, chd_copyLapse]
  split
  · exact linkState_chd π h .hold 2 _
  · rfl

/-- The second missed cycle in a row: of a leader's missing frames one counts in a cycle (R243). -/
theorem two_le_missRun (c : Chd) : 2 ≤ (missed c).missRun ↔ 1 ≤ c.missRun ∧ ¬(c.cycMissed = true ∧ c.leader = true) ∨ 2 ≤ c.missRun := by
  unfold missed
  dsimp only
  split
  · next h => simp [h]
  · next h => simp only [h, not_false_eq_true, and_true]; omega

theorem linkMissing_state {s : State} (hl : linkLive s = true) : (linkMissing s).chd.state =
    if s.chd.state = .run ∧ (1 ≤ s.chd.missRun ∧ ¬(s.chd.cycMissed = true ∧ s.chd.leader = true) ∨ 2 ≤ s.chd.missRun) then .hold
    else s.chd.state := by
  rw [linkMissing_live hl, chd_copyLapse, ← if_congr (and_congr_right' (two_le_missRun s.chd)) rfl rfl]
  split
  · exact linkState_state .hold 2 _
  · rfl

theorem linkMiss_other {k : Nat} (h : k ≠ 3) (s : State) : linkMiss k s = linkMissing s := by rw [linkMiss, if_neg h]

theorem linkMiss_arrive (s : State) : linkMiss 3 s = linkMissing (setChd (fun c => { c with arriveBad := true }) s) := rfl

/-! ### The checks of a frame -/

/-- A frame's type (R240). -/
def frameType (i : LinkIn) : Nat := leAt i.body 0 1

/-- A frame that is badly framed or of no known type. -/
def BadKind (i : LinkIn) : Prop := i.framed = false ∨ frameType i = 0 ∨ 3 < frameType i

def CrcBad (i : LinkIn) : Prop :=
  wordBytes (crc32 (i.body.take (i.body.length - 4))) ≠ i.body.drop (i.body.length - 4)

/-- The first failed check of a frame: 0 short, 1 long, 2 bad (R242). -/
def FrameFails (s : State) (i : LinkIn) (k : Nat) : Prop :=
  (k = 0 ∧ (i.body.length < 4 ∨ (¬BadKind i ∧ i.body.length < linkLen s (frameType i)))) ∨
    (k = 1 ∧ 4 ≤ i.body.length ∧ ¬BadKind i ∧ linkLen s (frameType i) < i.body.length) ∨
    (k = 2 ∧ 4 ≤ i.body.length ∧ (BadKind i ∨ (i.body.length = linkLen s (frameType i) ∧ CrcBad i)))

def FramePasses (s : State) (i : LinkIn) : Prop :=
  4 ≤ i.body.length ∧ ¬BadKind i ∧ i.body.length = linkLen s (frameType i) ∧ ¬CrcBad i

/-- The role expects this frame (R244). -/
def Expects (s : State) (i : LinkIn) : Prop := if s.chd.leader then 2 ≤ frameType i else frameType i = 1

theorem badKind_iff (i : LinkIn) : (!i.framed || decide (leAt i.body 0 1 = 0) || decide (3 < leAt i.body 0 1)) = true ↔ BadKind i := by
  simp [BadKind, frameType, or_assoc]

/-- What the receiver does with a frame once the queue has taken it and its length and CRC are right. -/
def takeFrame (i : LinkIn) (s : State) : State :=
  let typ := frameType i
  let expected := if s.chd.leader then decide (2 ≤ typ) else decide (typ = 1)
  if expected && !inSlot s typ i.stamp then copyLapse (linkDiscard 2 s)
  else
    let s1 := setChd (fun c => { c with good := satInc c.good, discRun := 0 }) s
    if s.chd.leader && decide (typ = 1) then twoLeaders i.body i.stamp s1
    else if !expected then setChd (fun c => { c with discBad := satInc c.discBad }) s1
    else if typ = 1 then takeSync i.body i.stamp s1
    else if typ = 2 then takeReply i.body i.stamp s1
    else takeArrive i.body s1

/-- A frame that the queue takes goes through the checks in order. -/
theorem linkReceive_queued (i : LinkIn) {s : State} (hl : linkLive s = true) (hq : rxFrames s < 4) : linkReceive i s =
    if i.body.length < 4 then copyLapse (linkDiscard 0 (rxTake s))
    else if (!i.framed || decide (leAt i.body 0 1 = 0) || decide (3 < leAt i.body 0 1)) = true then copyLapse (linkDiscard 2 (rxTake s))
    else if i.body.length < linkLen s (frameType i) then copyLapse (linkDiscard 0 (rxTake s))
    else if linkLen s (frameType i) < i.body.length then copyLapse (linkDiscard 1 (rxTake s))
    else if wordBytes (crc32 (i.body.take (i.body.length - 4))) ≠ i.body.drop (i.body.length - 4) then
      copyLapse (linkDiscard 2 (rxTake s))
    else takeFrame i (rxTake s) := by
  obtain ⟨q, w, h⟩ := rxTake_form s
  have hlive : linkLive (rxTake s) = true := by rw [h]; exact hl
  have hlen : linkLen (rxTake s) (frameType i) = linkLen s (frameType i) := by rw [h]; rfl
  have hif : (if linkLive s && decide (rxFrames s < 4) then rxTake s else s) = rxTake s := if_pos (by rw [hl, decide_eq_true hq]; rfl)
  rw [← hlen, linkReceive]
  simp only [hif]
  rw [hlive, Bool.not_true, if_neg Bool.false_ne_true, if_neg (Nat.not_le.mpr hq)]
  rfl

theorem linkReceive_fails {i : LinkIn} {k : Nat} {s : State} (hl : linkLive s = true) (hq : rxFrames s < 4) (h : FrameFails s i k) :
    linkReceive i s = copyLapse (linkDiscard k (rxTake s)) := by
  rw [linkReceive_queued i hl hq]
  rcases h with ⟨rfl, h⟩ | ⟨rfl, h4, hk, hn⟩ | ⟨rfl, h4, h⟩
  · by_cases h4 : i.body.length < 4
    · rw [if_pos h4]
    · obtain ⟨hk, hn⟩ := h.resolve_left h4
      rw [if_neg h4, if_neg (mt (badKind_iff i).mp hk), if_pos hn]
  · rw [if_neg (Nat.not_lt.mpr h4), if_neg (mt (badKind_iff i).mp hk), if_neg (Nat.lt_asymm hn), if_pos hn]
  · rw [if_neg (Nat.not_lt.mpr h4)]
    by_cases hk : BadKind i
    · rw [if_pos ((badKind_iff i).mpr hk)]
    · obtain ⟨hn, hc⟩ := h.resolve_left hk
      rw [if_neg (mt (badKind_iff i).mp hk), if_neg (by omega), if_neg (by omega)]
      exact if_pos hc

theorem linkReceive_passes {i : LinkIn} {s : State} (hl : linkLive s = true) (hq : rxFrames s < 4) (h : FramePasses s i) :
    linkReceive i s = takeFrame i (rxTake s) := by
  obtain ⟨h4, hk, hn, hc⟩ := h
  rw [linkReceive_queued i hl hq, if_neg (Nat.not_lt.mpr h4), if_neg (mt (badKind_iff i).mp hk), if_neg (by omega),
    if_neg (by omega)]
  exact if_neg hc

/-- A frame that finds the queue full is lost and counts as missing (R124). -/
theorem linkReceive_full (i : LinkIn) {s : State} (hl : linkLive s = true) (hq : 4 ≤ rxFrames s) :
    linkReceive i s = linkMissing { s with whl := { s.whl with linkQloss := satInc s.whl.linkQloss } } := by
  have hif : (if linkLive s && decide (rxFrames s < 4) then rxTake s else s) = s :=
    if_neg (by rw [hl, decide_eq_false (Nat.not_lt.mpr hq)]; exact Bool.false_ne_true)
  rw [linkReceive]
  simp only [hif]
  rw [hl, Bool.not_true, if_neg Bool.false_ne_true, if_pos hq]

theorem linkQloss_linkMissing (s : State) : (linkMissing s).whl.linkQloss = s.whl.linkQloss :=
  (part_of (linkAside_linkMissing s s) (fun t => t.whl.linkQloss) fun _ => rfl :)

end Sys2Proof.Proofs
end

section
/-! PROOFS. Good link frames: what a role notes of them, two leaders, and the judgement of each frame (R242, R243, R246, R260). -/

namespace Sys2Proof.Proofs

open Sys2Proof Sys2Proof.Machine Sys2Proof.Safety Sys2Proof.Laws

/-! ### What a good frame leaves in the link -/

/-- What the link notes of its frames: the counters, the role, and this cycle's frames. -/
structure Notes where
  good : Nat
  discShort : Nat
  discLong : Nat
  discBad : Nat
  gotReply : Bool
  gotArrive : Bool
  t2 : Nat
  t4 : Option Nat
  cycle : Nat
  syncAt : Nat
  leader : Bool
  epoch : Nat
  conflicts : Nat
  second : Bool

def notes (c : Chd) : Notes :=
  ⟨c.good, c.discShort, c.discLong, c.discBad, c.gotReply, c.gotArrive, c.t2, c.t4, c.cycle, c.syncAt, c.leader, c.epoch,
    c.conflicts, c.second⟩

theorem notes_linkState (m : Mgmt) (c : Nat) (s : State) : notes (linkState m c s).chd = notes s.chd :=
  linkState_chd notes (fun _ _ => rfl) m c s

theorem notes_linkFault (c : Nat) (s : State) : notes (linkFault c s).chd = notes s.chd := notes_linkState .fault c s

theorem notes_linkComplete (s : State) : notes (linkComplete s).chd = notes s.chd := by
  unfold linkComplete
  extract_lets s1
  split
  · exact notes_linkState .run 4 s1
  · split
    · exact notes_linkState .run 4 s1
    · rfl

/-- The filter's measurement before the drift is judged. -/
theorem notes_offsetTake (th d : Rat) (a : Nat) (s : State) : notes (offsetTake th d a s).chd = notes s.chd := by
  unfold offsetTake
  extract_lets c dt seedNow p e s0 s1 r
  have h1 : notes s1.chd = notes s.chd := by
    simp only [s1]
    split
    · rfl
    · split
      · rfl
      · split
        · split
          · rfl
          · rfl
        · rfl
  split
  · rw [notes_linkFault, h1]
  · exact h1

theorem chd_pathStop (p : Nat) (m : Mgmt) (s : State) : (pathStop p m s).chd = s.chd := by
  unfold pathStop
  dsimp only
  split
  · exact chd_calLeft p _
  · exact chd_calLeft p _

theorem chd_refCheck (p : Nat) (s : State) : (refCheck p s).chd = s.chd := by
  unfold refCheck
  extract_lets crc has found
  split
  · rfl
  · split
    · rfl
    · rw [emit_chd]; exact chd_pathStop p .fault s

theorem chd_calEnd (st : Nat) (v : Word) (s : State) : (calEnd st v s).chd = s.chd := emit_chd _ _

theorem chd_learnDone (p : Nat) (s : State) : (learnDone p s).chd = s.chd := (chd_calEnd _ _ _).trans (chd_refCheck p _)

theorem chd_calOutcome (p : Nat) (v a : Bool) (corr : Rat) (w : List Rat) (s : State) : (calOutcome p v a corr w s).chd = s.chd := by
  unfold calOutcome
  extract_lets c inRun left half full c1 w1 s1 z
  split
  · split
    · split
      · split
        · exact chd_learnDone p s1
        · exact chd_calEnd _ _ _
      · rfl
    · rfl
  · rfl

theorem chd_followerTrack (o : Nat) (s : State) : (followerTrack o s).chd = s.chd := by
  unfold followerTrack
  dsimp only
  split
  · split
    · rw [chd_calOutcome, emitAll_keeps State.chd emit_chd]; rfl
    · rfl
  · rfl

theorem chd_bankPairNew (s : State) : (bankPairNew s).chd = s.chd := by
  unfold bankPairNew
  split <;> rfl

theorem chd_volUnmeasured (v fx : Nat) (s : State) : (volUnmeasured v fx s).chd = s.chd := by
  unfold volUnmeasured
  split <;> rfl

theorem chd_closeBankInterval (s : State) : (closeBankInterval s).chd = s.chd := chd_volUnmeasured 3 _ _

/-! ### The frames of each role -/

/-- REPLY at the leader: what was good is good, REPLY came and its stamp stands (R245). -/
theorem notes_takeReply (b : List Byte) (stamp : Nat) (s : State) :
    notes (takeReply b stamp s).chd = { notes s.chd with gotReply := true, t4 := some stamp } := by
  unfold takeReply
  extract_lets c t2 t3 s1 s2
  have h2 : notes s2.chd = { notes s.chd with gotReply := true, t4 := some stamp } := notes_offsetTake _ _ _ s1
  split
  · rw [notes_linkComplete, h2]
  · exact h2

/-- ARRIVE at the leader. -/
theorem notes_takeArrive (b : List Byte) (s : State) : notes (takeArrive b s).chd = { notes s.chd with gotArrive := true } := by
  unfold takeArrive
  extract_lets a fl tag s1
  split
  · exact notes_linkComplete s1
  · rfl

/-- SYNC at the follower. -/
theorem notes_takeSync (b : List Byte) (stamp : Nat) (s : State) : notes (takeSync b stamp s).chd = { notes s.chd with
    t2 := stamp, cycle := leAt b 3 1, epoch := if nbit (leAt b 1 1) 1 then s.chd.epoch else leAt b 2 1, syncAt := s.aon
    gotReply := true, gotArrive := false } := by
  unfold takeSync
  extract_lets c flags commit t4 cyc s1 lapse s2 s3 s4 tag x run t s5
  have h1 : notes s1.chd = notes s.chd := by
    simp only [s1]
    split
    · rfl
    · split
      · exact notes_offsetTake _ _ _ s
      · rfl
  have h3 : notes s3.chd = notes s.chd := by
    simp only [s3, s2]
    rw [chd_followerTrack]
    split
    · rw [emit_chd]; exact h1
    · exact h1
  have h4 : notes s4.chd = { notes s3.chd with
    t2 := stamp, cycle := leAt b 3 1, epoch := if nbit (leAt b 1 1) 1 then (notes s3.chd).epoch else leAt b 2 1, syncAt := s.aon
    gotReply := true, gotArrive := false } := rfl
  have h5 : s5.chd = s4.chd := by
    simp only [s5]
    split
    · rfl
    · split
      · rfl
      · exact chd_calLeft 2 _
  rw [notes_linkComplete, chd_bankPairNew, h5, h4, h3]
  rfl

/-- Whether a leader that hears SYNC stays leader: the higher epoch does, and END A where they are equal (R260). -/
def Stays (s : State) (pe : Nat) : Prop :=
  0 < ((BitVec.ofInt 8 ((s.chd.epoch : Int) - pe)).toInt : Int) ∨
    (((BitVec.ofInt 8 ((s.chd.epoch : Int) - pe)).toInt : Int) = 0 ∧ bit (cfgV s 0x3800) 1 = false)

theorem notes_twoLeaders_stays (b : List Byte) (stamp : Nat) {s : State} (h : Stays s (leAt b 2 1)) :
    notes (twoLeaders b stamp s).chd = { notes s.chd with second := true } := by
  unfold twoLeaders
  dsimp only
  rw [if_pos (by simpa [Stays] using h), emit_chd]
  rfl

/-- The leader that gives way follows, with the other's epoch, and counts the conflict. -/
theorem notes_twoLeaders_yields (b : List Byte) (stamp : Nat) {s : State} (h : ¬Stays s (leAt b 2 1)) :
    (notes (twoLeaders b stamp s).chd).second = true ∧ (notes (twoLeaders b stamp s).chd).leader = false ∧
      (notes (twoLeaders b stamp s).chd).epoch = leAt b 2 1 ∧
      (notes (twoLeaders b stamp s).chd).conflicts = satInc s.chd.conflicts := by
  unfold twoLeaders
  dsimp only
  rw [if_neg (by simpa [Stays] using h), notes_takeSync, emit_chd, chd_closeBankInterval]
  exact ⟨rfl, rfl, ite_self _, rfl⟩

/-! ### A frame that passes -/

/-- A good frame in the link's counters (R242). -/
def goodOne (c : Chd) : Chd := { c with good := satInc c.good, discRun := 0 }

/-- A frame that the role expects outside its slot is discarded (R244). -/
theorem takeFrame_late {i : LinkIn} {s : State} (he : Expects s i) (hs : inSlot s (frameType i) i.stamp = false) :
    takeFrame i s = copyLapse (linkDiscard 2 s) := by
  unfold Expects at he
  unfold takeFrame
  dsimp only
  rw [hs, if_pos]
  split at he
  · next h => simp [h, he]
  · next h => simp [h, he]

theorem takeFrame_sync {i : LinkIn} {s : State} (hl : s.chd.leader = false) (ht : frameType i = 1)
    (hs : inSlot s (frameType i) i.stamp = true) : takeFrame i s = takeSync i.body i.stamp (setChd goodOne s) := by
  unfold takeFrame
  dsimp only
  rw [hs, hl, ht]
  rfl

theorem takeFrame_reply {i : LinkIn} {s : State} (hl : s.chd.leader = true) (ht : frameType i = 2)
    (hs : inSlot s (frameType i) i.stamp = true) : takeFrame i s = takeReply i.body i.stamp (setChd goodOne s) := by
  unfold takeFrame
  dsimp only
  rw [hs, hl, ht]
  rfl

theorem takeFrame_arrive {i : LinkIn} {s : State} (hl : s.chd.leader = true) (ht : frameType i = 3)
    (hs : inSlot s (frameType i) i.stamp = true) : takeFrame i s = takeArrive i.body (setChd goodOne s) := by
  unfold takeFrame
  dsimp only
  rw [hs, hl, ht]
  rfl

theorem takeFrame_leaders {i : LinkIn} {s : State} (hl : s.chd.leader = true) (ht : frameType i = 1) :
    takeFrame i s = twoLeaders i.body i.stamp (setChd goodOne s) := by
  unfold takeFrame
  dsimp only
  rw [hl, ht]
  rfl

/-- A good frame that the role does not expect counts as bad besides (R242). -/
theorem takeFrame_unexpected {i : LinkIn} {s : State} (he : ¬Expects s i) (hn : ¬(s.chd.leader = true ∧ frameType i = 1)) :
    takeFrame i s = setChd (fun c => { c with discBad := satInc c.discBad }) (setChd goodOne s) := by
  unfold Expects at he
  unfold takeFrame
  dsimp only
  cases hl : s.chd.leader with
  | true =>
    have h2 : ¬2 ≤ frameType i := by simpa [hl] using he
    have h1 : frameType i ≠ 1 := fun h => hn ⟨hl, h⟩
    simp only [h1, h2, if_true, decide_false, Bool.false_and, Bool.and_false, Bool.not_false]
    rfl
  | false =>
    have h1 : frameType i ≠ 1 := by simpa [hl] using he
    simp only [h1, decide_false, Bool.false_and]
    rfl

/-- What a frame in the receive queue is judged in: its work pending, and events waiting or not. -/
def queued (h : Bool) (q : Nat) (w : List (Nat × List Nat)) (s : State) : State := { s with
  chd := { s.chd with rxq := q }, whl := { s.whl with pending := w }, sto := { s.sto with evHold := h } }

theorem rxTake_holding (h : Bool) (s : State) : ∃ q w, rxTake (holding h s) = queued h q w s := rxTake_form (holding h s)

/-- A frame that the queue takes is judged in its round, and what follows an event follows. -/
theorem received_form (i : LinkIn) {s : State} (hl : live s = true) (hk : linkLive s = true) :
    ∃ h p e, exec (.linkFrameReceived i) s = .next (react s (sealed p e (linkReceive i (holding h s)))) := by
  obtain ⟨h, p, e, hr⟩ := inRound_form (linkReceive i) s
  refine ⟨h, p, e, ?_⟩
  rw [← hr]
  exact congrArg Host.Outcome.next (event_pos (by rw [hl, hk]; rfl))

theorem received_passes {i : LinkIn} {s : State} (hl : live s = true) (hk : linkLive s = true) (hq : rxFrames s < 4)
    (hp : FramePasses s i) :
    ∃ h p e q w, exec (.linkFrameReceived i) s = .next (react s (sealed p e (takeFrame i (queued h q w s)))) := by
  obtain ⟨h, p, e, hr⟩ := received_form i hl hk
  obtain ⟨q, w, hrx⟩ := rxTake_holding h s
  refine ⟨h, p, e, q, w, ?_⟩
  rw [hr, linkReceive_passes (s := holding h s) hk hq hp, hrx]

theorem received_fails {i : LinkIn} {k : Nat} {s : State} (hl : live s = true) (hk : linkLive s = true) (hq : rxFrames s < 4)
    (hf : FrameFails s i k) :
    ∃ h p e q w, exec (.linkFrameReceived i) s = .next (react s (sealed p e (copyLapse (linkDiscard k (queued h q w s))))) := by
  obtain ⟨h, p, e, hr⟩ := received_form i hl hk
  obtain ⟨q, w, hrx⟩ := rxTake_holding h s
  refine ⟨h, p, e, q, w, ?_⟩
  rw [hr, linkReceive_fails (s := holding h s) hk hq hf, hrx]

theorem received_full (i : LinkIn) {s : State} (hl : live s = true) (hk : linkLive s = true) (hq : 4 ≤ rxFrames s) :
    ∃ h p e, exec (.linkFrameReceived i) s = .next (react s (sealed p e (linkMissing
      { holding h s with whl := { s.whl with linkQloss := satInc s.whl.linkQloss } }))) := by
  obtain ⟨h, p, e, hr⟩ := received_form i hl hk
  refine ⟨h, p, e, ?_⟩
  rw [hr, linkReceive_full i (s := holding h s) hk hq]
  rfl

/-- A missing frame of a live link is judged in its round. -/
theorem missing_form (k : Nat) {s : State} (hl : live s = true) (hk : linkLive s = true) :
    ∃ h p e, exec (.linkFrameMissing k) s = .next (react s (sealed p e (linkMiss k (holding h s)))) := by
  obtain ⟨h, p, e, hr⟩ := inRound_form (linkMiss k) s
  refine ⟨h, p, e, ?_⟩
  rw [← hr]
  refine congrArg Host.Outcome.next ((event_pos hl).trans ?_)
  rw [if_pos hk]

/-! ### What else the link leaves alone -/

/-- What changes neither the role nor the power manager lets a demand start HFX and nothing else. -/
theorem react_quiet {s t : State} (hc : t.chd.leader = s.chd.leader) (hp : t.pwc = s.pwc) : hfxAside s (react s t) = t := by
  rw [react, roleCommit_same hc, demandWake_hfxAside, hfxAside_of_pwc hp]

theorem react_sto_same {s t : State} (hc : t.chd.leader = s.chd.leader) : (react s t).sto = t.sto := by
  rw [react, roleCommit_same hc, demandWake_eq]

theorem react_pub (s t : State) : (react s t).pub = t.pub := by rw [react_eq]

/-- The judgement of a frame leaves the pipe paths, and of the rest of the state all but the link and what hangs on it. -/
def LinkOnly (s t : State) : Prop := (∀ p, p < 2 → flowPath t p = flowPath s p) ∧
  eventsAside s (hfxAside s t) = { s with
    chd := t.chd, flw := { s.flw with path := t.flw.path, cal := t.flw.cal }, pub := t.pub
    sto := { s.sto with evHold := t.sto.evHold }, whl := { s.whl with faults := t.whl.faults, pending := t.whl.pending } }

theorem linkOnly_react {s t : State} (hA : linkAside s t = s) (hlead : t.chd.leader = s.chd.leader)
    (hpath : ∀ p, p < 2 → flowPath t p = flowPath s p) : LinkOnly s (react s t) := by
  have hpwc : t.pwc = s.pwc := part_of hA State.pwc fun _ => rfl
  refine ⟨fun p hp => by rw [flowPath, react_flw]; exact hpath p hp, ?_⟩
  rw [react_quiet hlead hpwc, react_chd, react_flw, react_whl, react_sto_same hlead, react_pub]
  exact (congrArg (fun x : State => { x with
    chd := t.chd, flw := { x.flw with path := t.flw.path, cal := t.flw.cal }, pub := t.pub
    sto := { x.sto with evHold := t.sto.evHold }, whl := { x.whl with faults := t.whl.faults, pending := t.whl.pending } }) hA :)

theorem linkOnly_discard (k : Nat) (s : State) (p : Option OutBank) (e h : Bool) (q : Nat) (w : List (Nat × List Nat)) :
    LinkOnly s (react s (sealed p e (copyLapse (linkDiscard k (queued h q w s))))) := by
  refine linkOnly_react ?_ ?_ fun j hj => ?_
  · rw [linkAside_sealed, linkAside_copyLapse, linkAside_linkDiscard]; rfl
  · exact (congrArg Chd.leader (chd_copyLapse _)).trans (linkDiscard_chd Chd.leader (fun _ _ => rfl) k _)
  · exact (pipe_copyLapse hj _).trans (flowPath_of_flw (congrArg Flw.path (flw_linkDiscard k _)) j)

theorem linkOnly_missing (s : State) (g : Bool) (p : Option OutBank) (e h : Bool) :
    LinkOnly s (react s (sealed p e (linkMissing (setChd (fun c => { c with arriveBad := g }) (holding h s))))) := by
  refine linkOnly_react ?_ ?_ fun j hj => ?_
  · rw [linkAside_sealed, linkAside_linkMissing]; rfl
  · by_cases hl : linkLive s = true
    · exact linkMissing_chd Chd.leader (fun _ _ => rfl) (s := setChd (fun c => { c with arriveBad := g }) (holding h s)) hl
    · rw [linkMissing_dead (s := setChd (fun c => { c with arriveBad := g }) (holding h s)) hl]; rfl
  · exact pipe_linkMissing hj _

/-! ### The settlement -/

/-- A good frame's counters (R242). -/
theorem counters_of_notes {c d : Chd} {n : Notes} (h : notes c = n) (hg : n.good = satInc d.good) (hs : n.discShort = d.discShort)
    (hl : n.discLong = d.discLong) (hb : n.discBad = d.discBad) :
    c.good = satInc d.good ∧ c.discShort = d.discShort ∧ c.discLong = d.discLong ∧ c.discBad = d.discBad := by
  subst h
  exact ⟨hg, hs, hl, hb⟩

/-- The frames that a role expects, in their slots. -/
theorem notes_takeFrame {i : LinkIn} {s : State} (he : Expects s i) (h3 : ¬3 < frameType i)
    (hs : inSlot s (frameType i) i.stamp = true) :
    (s.chd.leader = true ∧ frameType i = 2 ∧ notes (takeFrame i s).chd =
        { notes (goodOne s.chd) with gotReply := true, t4 := some i.stamp }) ∨
      (s.chd.leader = true ∧ frameType i = 3 ∧ notes (takeFrame i s).chd = { notes (goodOne s.chd) with gotArrive := true }) ∨
      (s.chd.leader = false ∧ ∃ e, notes (takeFrame i s).chd = { notes (goodOne s.chd) with
        t2 := i.stamp, cycle := leAt i.body 3 1, epoch := e, syncAt := s.aon, gotReply := true, gotArrive := false }) := by
  unfold Expects at he
  cases hl : s.chd.leader with
  | false =>
    have ht : frameType i = 1 := by simpa [hl] using he
    exact .inr (.inr ⟨rfl, _, by rw [takeFrame_sync hl ht hs, notes_takeSync]; rfl⟩)
  | true =>
    have ht : 2 ≤ frameType i := by simpa [hl] using he
    rcases Nat.lt_or_ge (frameType i) 3 with h | h
    · have h2 : frameType i = 2 := by omega
      exact .inl ⟨rfl, h2, by rw [takeFrame_reply hl h2 hs, notes_takeReply]; rfl⟩
    · have h3 : frameType i = 3 := by omega
      exact .inr (.inl ⟨rfl, h3, by rw [takeFrame_arrive hl h3 hs, notes_takeArrive]; rfl⟩)

theorem linkHoldExpiry_eq (s : State) : linkHoldExpiry s = { s with chd := { s.chd with
    holdExp := s.chd.holdExp || (decide (s.chd.state = .hold) &&
      decide ((cfgV s 0x380C).toNat * 32768 < (s.aon - s.chd.goodAt) * 1000)) } } := by
  unfold linkHoldExpiry
  split
  · next h => simp [setChd, h.1, h.2]
  · next h =>
    have hno : (decide (s.chd.state = .hold) && decide ((cfgV s 0x380C).toNat * 32768 < (s.aon - s.chd.goodAt) * 1000)) = false := by
      simpa using h
    rw [hno, Bool.or_false]

/-- A leader that gives up its role makes a STATE commit fall due (R260, R382). -/
theorem react_yields {s t : State} (hs : s.chd.leader = true) (ht : t.chd.leader = false) :
    (react s t).sto.deferred.isSome = true := by
  have hrole : roleCommit s t = commitDue .state t := if_pos (by rw [hs, ht]; exact Bool.noConfusion)
  rw [react, demandWake_eq, hrole]
  exact commitDue_deferred .state t

/-- What a discarded frame leaves in the link's counters. -/
theorem queued_discarded {α : Type} (π : Chd → α) (hπ : ∀ m c, π (linkIn m c) = π c) (k : Nat) (h : Bool) (q : Nat)
    (w : List (Nat × List Nat)) (p : Option OutBank) (e : Bool) (s : State) :
    π (react s (sealed p e (copyLapse (linkDiscard k (queued h q w s))))).chd = π (discarded k s.aon { s.chd with rxq := q }) := by
  rw [react_chd]
  exact (congrArg π (chd_copyLapse _)).trans (linkDiscard_chd π hπ k _)

/-- A discarded frame (R242, R243). -/
theorem received_discarded {i : LinkIn} {k : Nat} {s : State} (hl : live s = true) (hk : linkLive s = true) (hq : rxFrames s < 4)
    (hf : FrameFails s i k) : ∃ t, exec (.linkFrameReceived i) s = .next t ∧ LinkOnly s t ∧
      t.chd.discShort = (if k = 0 then satInc s.chd.discShort else s.chd.discShort) ∧
      t.chd.discLong = (if k = 1 then satInc s.chd.discLong else s.chd.discLong) ∧
      t.chd.discBad = (if k = 2 then satInc s.chd.discBad else s.chd.discBad) ∧ t.chd.good = s.chd.good ∧
      t.chd.theta = s.chd.theta ∧ t.chd.leader = s.chd.leader ∧ t.chd.epoch = s.chd.epoch ∧ t.chd.cycle = s.chd.cycle ∧
      t.chd.gotReply = s.chd.gotReply ∧ t.chd.gotArrive = s.chd.gotArrive ∧ t.chd.t4 = s.chd.t4 ∧
      t.chd.state = (if 32 ≤ recentDiscards s then .fault else if s.chd.state = .run ∧ 1 ≤ s.chd.discRun then .hold else s.chd.state) := by
  obtain ⟨h, p, e, q, w, hr⟩ := received_fails hl hk hq hf
  have hchd := fun {α : Type} (π : Chd → α) hπ => queued_discarded π hπ k h q w p e s
  refine ⟨_, hr, linkOnly_discard k s p e h q w, hchd Chd.discShort fun _ _ => rfl, hchd Chd.discLong fun _ _ => rfl,
    hchd Chd.discBad fun _ _ => rfl, hchd Chd.good fun _ _ => rfl, hchd Chd.theta fun _ _ => rfl, hchd Chd.leader fun _ _ => rfl,
    hchd Chd.epoch fun _ _ => rfl, hchd Chd.cycle fun _ _ => rfl, hchd Chd.gotReply fun _ _ => rfl,
    hchd Chd.gotArrive fun _ _ => rfl, hchd Chd.t4 fun _ _ => rfl, ?_⟩
  rw [react_chd]
  exact (congrArg Chd.state (chd_copyLapse _)).trans (linkDiscard_state k _)

/-- A frame that its role expects, in its slot (R242, R245). -/
theorem received_expected {i : LinkIn} {s : State} (hl : live s = true) (hk : linkLive s = true) (hq : rxFrames s < 4)
    (hp : FramePasses s i) (he : Expects s i) (hs : inSlot s (frameType i) i.stamp = true) :
    ∃ t, exec (.linkFrameReceived i) s = .next t ∧ t.chd.good = satInc s.chd.good ∧
      t.chd.discShort = s.chd.discShort ∧ t.chd.discLong = s.chd.discLong ∧ t.chd.discBad = s.chd.discBad ∧
      (s.chd.leader = true → frameType i = 2 → t.chd.gotReply = true ∧ t.chd.t4 = some i.stamp) ∧
      (s.chd.leader = true → frameType i = 3 → t.chd.gotArrive = true) ∧
      (s.chd.leader = false → t.chd.t2 = i.stamp ∧ t.chd.cycle = leAt i.body 3 1 ∧ t.chd.syncAt = s.aon) := by
  obtain ⟨h, p, e, q, w, hr⟩ := received_passes hl hk hq hp
  have hchd : notes (react s (sealed p e (takeFrame i (queued h q w s)))).chd = notes (takeFrame i (queued h q w s)).chd := by
    rw [react_chd]; rfl
  have h3 : ¬3 < frameType i := fun h3 => hp.2.1 (.inr (.inr h3))
  refine ⟨_, hr, ?_⟩
  rcases notes_takeFrame (s := queued h q w s) he h3 hs with ⟨hlead, ht, hn⟩ | ⟨hlead, ht, hn⟩ | ⟨hlead, ep, hn⟩
  · obtain ⟨c1, c2, c3, c4⟩ := counters_of_notes (d := s.chd) (hchd.trans hn) rfl rfl rfl rfl
    have hlead : s.chd.leader = true := hlead
    refine ⟨c1, c2, c3, c4, fun _ _ => ?_, fun _ h => absurd (ht.symm.trans h) (by decide), fun h => by simp [hlead] at h⟩
    exact ⟨congrArg Notes.gotReply (hchd.trans hn), congrArg Notes.t4 (hchd.trans hn)⟩
  · obtain ⟨c1, c2, c3, c4⟩ := counters_of_notes (d := s.chd) (hchd.trans hn) rfl rfl rfl rfl
    have hlead : s.chd.leader = true := hlead
    refine ⟨c1, c2, c3, c4, fun _ h => absurd (ht.symm.trans h) (by decide), fun _ _ => ?_, fun h => by simp [hlead] at h⟩
    exact congrArg Notes.gotArrive (hchd.trans hn)
  · obtain ⟨c1, c2, c3, c4⟩ := counters_of_notes (d := s.chd) (hchd.trans hn) rfl rfl rfl rfl
    have hlead : s.chd.leader = false := hlead
    refine ⟨c1, c2, c3, c4, fun h => by simp [hlead] at h, fun h => by simp [hlead] at h, fun _ => ?_⟩
    exact ⟨congrArg Notes.t2 (hchd.trans hn), congrArg Notes.cycle (hchd.trans hn), congrArg Notes.syncAt (hchd.trans hn)⟩

/-- A good frame that counts as bad besides leaves all but those counters alone. -/
theorem react_unexpected (h e : Bool) (p : Option OutBank) (q : Nat) (w : List (Nat × List Nat)) (s : State) :
    hfxAside s (react s (sealed p e (setChd (fun c => { c with discBad := satInc c.discBad }) (setChd goodOne (queued h q w s))))) =
      { s with
        chd := { s.chd with good := satInc s.chd.good, discRun := 0, discBad := satInc s.chd.discBad, rxq := q }
        pub := p, sto := { s.sto with evHold := e }, whl := { s.whl with pending := w } } := by
  rw [react_quiet]
  · rfl
  · rfl
  · rfl

/-- A good frame that its role does not expect (R242). -/
theorem received_unexpected {i : LinkIn} {s : State} (hl : live s = true) (hk : linkLive s = true) (hq : rxFrames s < 4)
    (hp : FramePasses s i) (he : ¬Expects s i) (hn : ¬(s.chd.leader = true ∧ frameType i = 1)) :
    ∃ t, exec (.linkFrameReceived i) s = .next t ∧ hfxAside s t = { s with
      chd := { s.chd with good := satInc s.chd.good, discRun := 0, discBad := satInc s.chd.discBad, rxq := t.chd.rxq }
      pub := t.pub, sto := { s.sto with evHold := t.sto.evHold }, whl := { s.whl with pending := t.whl.pending } } := by
  obtain ⟨h, p, e, q, w, hr⟩ := received_passes hl hk hq hp
  rw [takeFrame_unexpected (s := queued h q w s) he hn] at hr
  refine ⟨_, hr, ?_⟩
  rw [react_unexpected, react_sto_same, react_pub, react_chd, react_whl]
  · rfl
  · rfl

/-- SYNC at a leader (R260). -/
theorem received_leaders {i : LinkIn} {s : State} (hl : live s = true) (hk : linkLive s = true) (hq : rxFrames s < 4)
    (hp : FramePasses s i) (hlead : s.chd.leader = true) (ht : frameType i = 1) :
    ∃ t, exec (.linkFrameReceived i) s = .next t ∧ t.chd.second = true ∧
      (Stays s (leAt i.body 2 1) → t.chd.leader = true ∧ t.chd.epoch = s.chd.epoch ∧ t.chd.conflicts = s.chd.conflicts) ∧
      (¬Stays s (leAt i.body 2 1) → t.chd.leader = false ∧ t.chd.epoch = leAt i.body 2 1 ∧
        t.chd.conflicts = satInc s.chd.conflicts ∧ t.sto.deferred.isSome = true) := by
  obtain ⟨h, p, e, q, w, hr⟩ := received_passes hl hk hq hp
  rw [takeFrame_leaders (s := queued h q w s) hlead ht] at hr
  have hchd : notes (react s (sealed p e (twoLeaders i.body i.stamp (setChd goodOne (queued h q w s))))).chd =
      notes (twoLeaders i.body i.stamp (setChd goodOne (queued h q w s))).chd := by rw [react_chd]; rfl
  refine ⟨_, hr, ?_⟩
  by_cases hst : Stays (setChd goodOne (queued h q w s)) (leAt i.body 2 1)
  · have hn := hchd.trans (notes_twoLeaders_stays i.body i.stamp hst)
    refine ⟨congrArg Notes.second hn, fun _ => ⟨?_, congrArg Notes.epoch hn, congrArg Notes.conflicts hn⟩, fun hns => absurd hst hns⟩
    exact (congrArg Notes.leader hn).trans hlead
  · obtain ⟨h2, hf, hep, hc⟩ := notes_twoLeaders_yields i.body i.stamp hst
    refine ⟨(congrArg Notes.second hchd).trans h2, fun hs => absurd hs hst, fun _ => ⟨(congrArg Notes.leader hchd).trans hf,
      (congrArg Notes.epoch hchd).trans hep, (congrArg Notes.conflicts hchd).trans hc, react_yields hlead hf⟩⟩

/-- Settles O51: frames by their first failed check or by the role, then missing frames and the hold's end. -/
theorem linkFramesAreJudged : Obligations.LinkFramesAreJudged := by
  refine ⟨fun i k s hl hk hq hf => received_discarded hl hk hq hf,
    fun i s hl hk hq hp => ⟨received_expected hl hk hq hp, ?late, received_unexpected hl hk hq hp⟩,
    fun i s hl hk hq hp hlead ht => received_leaders hl hk hq hp hlead ht, ?full, ?dead, ?missing, ?arrive, ?expiry⟩
  case late =>
    intro he hs
    obtain ⟨h, p, e, q, w, hr⟩ := received_passes hl hk hq hp
    rw [takeFrame_late (s := queued h q w s) he hs] at hr
    have hchd := fun {α : Type} (π : Chd → α) hπ => queued_discarded π hπ 2 h q w p e s
    exact ⟨_, hr, linkOnly_discard 2 s p e h q w, hchd Chd.good fun _ _ => rfl, hchd Chd.discBad fun _ _ => rfl,
      hchd Chd.theta fun _ _ => rfl⟩
  case full =>
    intro i s hl hk hq
    obtain ⟨h, p, e, hr⟩ := received_full i hl hk hq
    have hlive : linkLive { holding h s with whl := { s.whl with linkQloss := satInc s.whl.linkQloss } } = true := hk
    refine ⟨_, hr, ?_, ?_, ?_, ?_⟩
    · rw [react_whl]; exact linkQloss_linkMissing _
    · rw [react_chd]; exact linkMissing_chd Chd.missing (fun _ _ => rfl) hlive
    · rw [react_chd]; exact linkMissing_chd Chd.good (fun _ _ => rfl) hlive
    · rw [react_chd]; exact linkMissing_chd Chd.leader (fun _ _ => rfl) hlive
  case dead =>
    intro i s hl hk
    refine ⟨_, rfl, ?_⟩
    rw [event, hk, Bool.and_false, if_neg Bool.false_ne_true]
    exact hfxAside_of_pwc rfl
  case missing =>
    intro k s hl hk h3
    obtain ⟨h, p, e, hr⟩ := missing_form k hl hk
    rw [linkMiss_other h3] at hr
    have hlive : linkLive (holding h s) = true := hk
    refine ⟨_, hr, linkOnly_missing s s.chd.arriveBad p e h, ?_, ?_, ?_⟩
    · rw [react_chd]; exact linkMissing_chd Chd.missing (fun _ _ => rfl) hlive
    · rw [react_chd]; exact linkMissing_chd Chd.good (fun _ _ => rfl) hlive
    · rw [react_chd]; exact linkMissing_state hlive
  case arrive =>
    intro s hl
    by_cases hk : linkLive s = true
    · obtain ⟨h, p, e, hr⟩ := missing_form 3 hl hk
      rw [linkMiss_arrive] at hr
      have hlive : linkLive (setChd (fun c => { c with arriveBad := true }) (holding h s)) = true := hk
      refine ⟨_, hr, ?_, linkOnly_missing s true p e h, ?_⟩
      · rw [react_chd]; exact linkMissing_chd Chd.arriveBad (fun _ _ => rfl) hlive
      · rw [react_chd, if_pos hk]; exact linkMissing_chd Chd.missing (fun _ _ => rfl) hlive
    · have hrun : exec (.linkFrameMissing 3) s = .next (react s (setChd (fun c => { c with arriveBad := true }) s)) := by
        refine congrArg Host.Outcome.next ((event_pos hl).trans ?_)
        rw [if_neg hk, linkMiss_arrive, linkMissing_dead (s := setChd (fun c => { c with arriveBad := true }) s) hk]
      refine ⟨_, hrun, by rw [react_chd]; rfl, linkOnly_react rfl rfl fun _ _ => rfl, ?_⟩
      rw [react_chd, if_neg hk]; rfl
  case expiry =>
    intro s hl
    refine ⟨_, rfl, ?_⟩
    rw [event_pos hl, linkHoldExpiry_eq, react_quiet]
    · rfl
    · rfl

end Sys2Proof.Proofs
end

section
/-! PROOFS. Sectors with their scrub step, the sector guard, and the return of forced units (R104, R105, R108, R119, R122, R123). -/

namespace Sys2Proof.Proofs

open Sys2Proof Sys2Proof.Machine Sys2Proof.Safety Sys2Proof.Laws

/-! ### What a sector may change -/

/-- What the samples and the runs of a sector may change, set back to `s`. -/
def sectorAside (s t : State) : State := { t with
  met := { t.met with ch := s.met.ch }, chd := { t.chd with rxq := s.chd.rxq }
  whl := { t.whl with
    pending := s.whl.pending, ptrs := s.whl.ptrs, ran := s.whl.ran, wrong := s.whl.wrong, halves := s.whl.halves
    sampleLost := s.whl.sampleLost } }

theorem sectorAside_runSector (s : State) (n : Nat) (fs : List RunFault) (t : State) :
    sectorAside s (runSector n fs t) = sectorAside s t := by
  unfold runSector
  split
  · rfl
  · split
    · rfl
    · rfl

/-- The decimators' words at a sector's begin (R137). -/
def sampled (i : SectorIn) (s : State) : State := if s.pwc.clk.mod then i.mod.foldl (fun a v => modBoundary v a) s else s

theorem sectorAside_sampled (s : State) (i : SectorIn) (t : State) : sectorAside s (sampled i t) = sectorAside s t := by
  unfold sampled
  split
  · exact List.foldlRecOn (motive := fun u => sectorAside s u = sectorAside s t) _ _ rfl fun _ hu _ _ => hu
  · rfl

/-- A sector begins (R99, R104). -/
def sectorBegun (s : State) : State := setWhl (fun w => { w with sector := w.sector + 1 }) s

/-- The next word of the scrub is due (R122). -/
def scrubNext (s : State) : State := setWhl (fun w => { w with
  scrubAny := true
  scrubWord := (w.scrubWord + 1) % 8192
  scrubPass := if w.scrubWord = 8191 then w.scrubPass + 1 else w.scrubPass }) s

theorem scrubStep_eq (r : Option (Fin 128)) (s : State) : scrubStep r s = scrubNext (readWord r s.whl.scrubWord s) := rfl

theorem sectorStart_idle (i : SectorIn) {s : State} (h : s.whl.state = .stopped ∨ 64 ≤ s.whl.sector) : sectorStart i s = s := if_pos h

/-- Without new upsets a sector samples, scrubs, takes its work, runs, and reads what its kernels read. -/
theorem sectorStart_turning {i : SectorIn} {s : State} (hw : s.whl.state ≠ .stopped) (hn : s.whl.sector < 64) (hi : i.flips = []) :
    sectorStart i s = sectorBegun (i.reads.foldl (fun a x => readWord i.recBad x a)
      (runSector s.whl.sector i.wrong (addWork i.work (scrubStep i.recBad (sampled i s))))) := by
  rw [sectorStart, if_neg (not_or.mpr ⟨hw, Nat.not_le.mpr hn⟩), hi]
  rfl

theorem flipsAt_nil (a : Nat) : flipCount (flipsAt [] a) = 0 := by
  show flipCount 0 = 0
  decide

theorem readWord_noFlips (r : Option (Fin 128)) (a : Nat) {s : State} (h : s.whl.flips = []) : readWord r a s = s :=
  readWord_clean r a s (by rw [h]; exact flipsAt_nil a)

theorem readWords_noFlips (r : Option (Fin 128)) (l : List Nat) {s : State} (h : s.whl.flips = []) :
    l.foldl (fun a x => readWord r x a) s = s :=
  List.foldlRecOn (motive := fun u => u = s) _ _ rfl fun u hu x _ => by
    subst hu
    exact readWord_noFlips r x h

/-- The sector's own runs after the scrub step. -/
def sectorRun (i : SectorIn) (n : Nat) (s : State) : State := runSector n i.wrong (addWork i.work s)

theorem sectorAside_sectorRun (s : State) (i : SectorIn) (n : Nat) (t : State) :
    sectorAside s (sectorRun i n t) = sectorAside s t := sectorAside_runSector s n _ _

/-- A part that samples and runs do not touch is as before. -/
theorem part_sampled {α : Type} (π : State → α) (hπ : ∀ s t, π (sectorAside s t) = π t) (i : SectorIn) (s : State) :
    π (sampled i s) = π s := part_of (sectorAside_sampled s i s) π (hπ s)

theorem part_sectorRun {α : Type} (π : State → α) (hπ : ∀ s t, π (sectorAside s t) = π t) (i : SectorIn) (n : Nat) (s : State) :
    π (sectorRun i n s) = π s := part_of (sectorAside_sectorRun s i n s) π (hπ s)

/-- The wheel moves on by a sector and a scrubbed word. -/
def Moved (s t : State) : Prop := t.whl.sector = s.whl.sector + 1 ∧ t.whl.scrubWord = (s.whl.scrubWord + 1) % 8192 ∧
  t.whl.scrubPass = (if s.whl.scrubWord = 8191 then s.whl.scrubPass + 1 else s.whl.scrubPass) ∧ t.whl.scrubAny = true

/-- With no wrong bit a sector only samples, scrubs and runs (R122). -/
theorem sectorStart_clean {i : SectorIn} {s : State} (hw : s.whl.state ≠ .stopped) (hn : s.whl.sector < 64) (hf : s.whl.flips = [])
    (hi : i.flips = []) : sectorStart i s = sectorBegun (sectorRun i s.whl.sector (scrubNext (sampled i s))) := by
  have hfs : (sampled i s).whl.flips = [] := (part_sampled (fun t => t.whl.flips) (fun _ _ => rfl) i s).trans hf
  have hfr : (sectorRun i s.whl.sector (scrubNext (sampled i s))).whl.flips = [] :=
    (part_sectorRun (fun t => t.whl.flips) (fun _ _ => rfl) i s.whl.sector (scrubNext (sampled i s))).trans hfs
  rw [sectorStart_turning hw hn hi, scrubStep_eq, readWord_noFlips _ _ hfs]
  exact congrArg sectorBegun (readWords_noFlips i.recBad i.reads hfr)

theorem sectorAside_begun (s t : State) : sectorAside s (sectorBegun t) = sectorBegun (sectorAside s t) := rfl

theorem sectorAside_scrubNext (s t : State) : sectorAside s (scrubNext t) = scrubNext (sectorAside s t) := rfl

theorem sectorAside_self (s : State) : sectorAside s s = s := rfl

theorem sectorAside_clean (i : SectorIn) (s : State) :
    sectorAside s (sectorBegun (sectorRun i s.whl.sector (scrubNext (sampled i s)))) = sectorBegun (scrubNext s) := by
  rw [sectorAside_begun, sectorAside_sectorRun, sectorAside_scrubNext, sectorAside_sampled, sectorAside_self]

theorem moved_of_aside {s t : State} (h : sectorAside s t = sectorBegun (scrubNext s)) : Moved s t := by
  have hw := part_of h (fun x => (x.whl.sector, x.whl.scrubWord, x.whl.scrubPass, x.whl.scrubAny)) fun _ => rfl
  simp only [Prod.mk.injEq] at hw
  exact hw

/-- What a clean sector changes. -/
theorem clean_form {s t : State} (h : sectorAside s t = sectorBegun (scrubNext s)) : t = { s with
    met := { s.met with ch := t.met.ch }
    chd := { s.chd with rxq := t.chd.rxq }
    whl := { s.whl with
      sector := t.whl.sector, scrubWord := t.whl.scrubWord, scrubPass := t.whl.scrubPass, scrubAny := true
      pending := t.whl.pending, ptrs := t.whl.ptrs, ran := t.whl.ran, wrong := t.whl.wrong, halves := t.whl.halves
      sampleLost := t.whl.sampleLost } } := by
  obtain ⟨h1, h2, h3, h4⟩ := moved_of_aside h
  rw [h1, h2, h3]
  exact (congrArg (fun x : State => { x with
    met := { x.met with ch := t.met.ch }, chd := { x.chd with rxq := t.chd.rxq }
    whl := { x.whl with
      pending := t.whl.pending, ptrs := t.whl.ptrs, ran := t.whl.ran, wrong := t.whl.wrong, halves := t.whl.halves
      sampleLost := t.whl.sampleLost } }) h :)

/-! ### Wrong bits -/

theorem flipsAt_one (a : Nat) (b : BitVec 72) : flipsAt [(a, b)] a = b := by simp [flipsAt]

theorem putFlips_one (a : Nat) (b : BitVec 72) : putFlips [(a, b)] a 0 = [] := by simp [putFlips]

/-- A sector that reads nothing but the scrubbed word. -/
theorem sectorStart_scrubs {i : SectorIn} {s : State} (hw : s.whl.state ≠ .stopped) (hn : s.whl.sector < 64) (hi : i.flips = [])
    (hr : i.reads = []) : sectorStart i s =
      sectorBegun (sectorRun i s.whl.sector (scrubNext (readWord i.recBad (sampled i s).whl.scrubWord (sampled i s)))) := by
  rw [sectorStart_turning hw hn hi, hr]
  rfl

/-- Samples, runs and the end of the sector touch neither the error counts nor the stopped instances nor the events that wait. -/
def scrubbed (s : State) : Nat × Nat × List Nat × List (Nat × BitVec 72) × List Ev :=
  (s.whl.eccCorr, s.whl.eccUncorr, s.whl.stop, s.whl.flips, s.sto.evq)

theorem scrubbed_end (i : SectorIn) (n : Nat) (u : State) : scrubbed (sectorBegun (sectorRun i n (scrubNext u))) = scrubbed u :=
  part_sectorRun scrubbed (fun _ _ => rfl) i n (scrubNext u)

theorem scrubbed_sampled (i : SectorIn) (s : State) : scrubbed (sampled i s) = scrubbed s :=
  part_sampled scrubbed (fun _ _ => rfl) i s

/-- What a word's error leaves of the wheel's place, and the link's role. -/
def place (s : State) : Nat × Nat × Nat × Bool := (s.whl.sector, s.whl.scrubWord, s.whl.scrubPass, s.chd.leader)

theorem place_sampled (i : SectorIn) (s : State) : place (sampled i s) = place s := part_sampled place (fun _ _ => rfl) i s

theorem readWord_corrects (r : Option (Fin 128)) {a : Nat} {s : State} (h : flipCount (flipsAt s.whl.flips a) = 1) :
    readWord r a s = eccCorrected a s := by
  unfold readWord
  simp only [h]
  rfl

theorem readWord_detects (r : Option (Fin 128)) {a : Nat} {s : State} (h : 1 < flipCount (flipsAt s.whl.flips a)) :
    readWord r a s = eccUncorrectable r a s := by
  unfold readWord
  dsimp only
  rw [if_neg (by omega), if_neg (by omega)]

theorem scrubbed_eccCorrected (a : Nat) (s : State) : ∃ e, e.code = 0x0304 ∧ e.w4 = w32 a ∧ scrubbed (eccCorrected a s) =
    (satInc s.whl.eccCorr, s.whl.eccUncorr, s.whl.stop, putFlips s.whl.flips a 0, s.sto.evq ++ [e]) := ⟨_, rfl, rfl, rfl⟩

theorem stateBlockAt_inBlock {s : State} {a j : Nat} {x : InstRec} (h : stateBlockAt s a = some (j, x)) :
    x.off ≤ 8 * a ∧ 8 * a < x.off + x.len := by
  unfold stateBlockAt at h
  obtain ⟨n, -, hn⟩ := List.exists_of_findSome?_eq_some h
  split at hn
  · exact absurd hn (by simp)
  · split at hn
    · next hin =>
      obtain ⟨-, rfl⟩ := Prod.mk.inj (Option.some.inj hn)
      exact hin
    · exact absurd hn (by simp)

/-- Zeroing a block forgets its wrong bits and nothing else that the scrub notes. -/
theorem scrubbed_zeroBlock (j : Nat) (x : InstRec) (s : State) : scrubbed (zeroBlock j x s) = (s.whl.eccCorr, s.whl.eccUncorr,
    s.whl.stop, s.whl.flips.filter fun f => !(decide (x.off ≤ 8 * f.1) && decide (8 * f.1 < x.off + x.len)), s.sto.evq) ∧
    place (zeroBlock j x s) = place s := by
  unfold zeroBlock
  extract_lets
  repeat refine iteInduction (motive := fun t : State => scrubbed t = _ ∧ place t = place s) (fun _ => ⟨rfl, rfl⟩) fun _ => ?_
  exact ⟨rfl, rfl⟩

/-- A set reloaded from a record without an error changes the energy sets alone. -/
theorem reloadSet_sets (k : Nat) (s : State) : ∃ n, (reloadSet k none s).1 = { s with nrg := { s.nrg with sets := n } } := by
  have hf : (reloadFrom none s).2 = s := by
    unfold reloadFrom
    split
    · rfl
    · rfl
    · next h => exact absurd h (by simp)
  unfold reloadSet
  dsimp only
  split
  · exact ⟨_, by rw [hf]⟩
  · exact ⟨_, by rw [hf]⟩

/-- What an uncorrectable error of a block is noted in: the block zeroed, or its set reloaded. -/
def blockLost (a j : Nat) (x : InstRec) (s : State) : State :=
  if decide (x.code = 0x0103) then (reloadSet (accSetAt x a) none (setWhl (fun w => { w with flips := putFlips w.flips a 0 }) s)).1
  else zeroBlock j x s

theorem blockLost_one {a j : Nat} {x : InstRec} {b : BitVec 72} {s : State} (hin : x.off ≤ 8 * a ∧ 8 * a < x.off + x.len)
    (hf : s.whl.flips = [(a, b)]) : scrubbed (blockLost a j x s) = (s.whl.eccCorr, s.whl.eccUncorr, s.whl.stop, [], s.sto.evq) ∧
      place (blockLost a j x s) = place s := by
  unfold blockLost
  split
  · obtain ⟨n, hr⟩ := reloadSet_sets (accSetAt x a) (setWhl (fun w => { w with flips := putFlips w.flips a 0 }) s)
    rw [hr]
    have hput : putFlips s.whl.flips a 0 = [] := by rw [hf]; exact putFlips_one a b
    exact ⟨congrArg (fun l => (s.whl.eccCorr, s.whl.eccUncorr, s.whl.stop, l, s.sto.evq)) hput, rfl⟩
  · obtain ⟨h1, h2⟩ := scrubbed_zeroBlock j x s
    refine ⟨h1.trans ?_, h2⟩
    rw [hf]
    simp [hin]

/-- An uncorrectable error in a state block (R123). -/
theorem eccUncorrectable_block {a j : Nat} {x : InstRec} {s : State} (h : stateBlockAt s a = some (j, x)) :
    ∃ e, e.code = 0x0305 ∧ e.w4 = w32 a ∧ eccUncorrectable none a s = heldEv e (markDf (isSafetyKernel x.code) (10, x.code)
      (setWhl (fun w => { w with stop := w.stop ++ [j] }) (blockLost a j x (setWhl (fun w => { w with eccUncorr := satInc w.eccUncorr }) s)))) := by
  have hb : stateBlockAt (setWhl (fun w => { w with eccUncorr := satInc w.eccUncorr }) s) a = some (j, x) := h
  unfold eccUncorrectable
  simp only [h]
  refine ⟨_, ?_, ?_, congrArg _ (congrArg _ (congrArg _ ?_))⟩
  · rfl
  · rfl
  · unfold blockLost
    split
    · rfl
    · rfl

theorem scrubbed_markDf (c : Bool) (q : Nat × Nat) (s : State) : scrubbed (markDf c q s) = scrubbed s ∧ place (markDf c q s) = place s := by
  unfold markDf
  split
  · exact ⟨rfl, rfl⟩
  · exact ⟨rfl, rfl⟩

/-- A stopped kernel and its event among what the scrub notes. -/
theorem uncorrectable_scrubbed (e : Ev) (c : Bool) (q : Nat × Nat) (j : Nat) {t : State} {n m : Nat} {st : List Nat}
    {f : List (Nat × BitVec 72)} {q' : List Ev} (h : scrubbed t = (n, m, st, f, q')) :
    scrubbed (heldEv e (markDf c q (setWhl (fun w => { w with stop := w.stop ++ [j] }) t))) = (n, m, st ++ [j], f, q' ++ [e]) := by
  simp only [scrubbed, Prod.mk.injEq] at h
  obtain ⟨rfl, rfl, rfl, rfl, rfl⟩ := h
  have hm := (scrubbed_markDf c q (setWhl (fun w => { w with stop := w.stop ++ [j] }) t)).1
  exact congrArg (fun x => (x.1, x.2.1, x.2.2.1, x.2.2.2.1, x.2.2.2.2 ++ [e])) hm

theorem uncorrectable_place (e : Ev) (c : Bool) (q : Nat × Nat) (j : Nat) {s t : State} (h : place t = place s) :
    place (heldEv e (markDf c q (setWhl (fun w => { w with stop := w.stop ++ [j] }) t))) = place s :=
  ((scrubbed_markDf c q (setWhl (fun w => { w with stop := w.stop ++ [j] }) t)).2 :).trans h

/-- The end of a sector whose scrubbed word had wrong bits. -/
theorem scrub_done (i : SectorIn) {s u : State} (h : place u = place s) :
    Moved s (react s (sectorBegun (sectorRun i s.whl.sector (scrubNext u)))) ∧
      scrubbed (react s (sectorBegun (sectorRun i s.whl.sector (scrubNext u)))) = scrubbed u := by
  have hrun := part_sectorRun place (fun _ _ => rfl) i s.whl.sector (scrubNext u)
  have hany : (sectorRun i s.whl.sector (scrubNext u)).whl.scrubAny = true :=
    part_sectorRun (fun t => t.whl.scrubAny) (fun _ _ => rfl) i s.whl.sector (scrubNext u)
  simp only [place, Prod.mk.injEq] at hrun h
  obtain ⟨hsec, hword, hpass, hlead⟩ := hrun
  obtain ⟨h1, h2, h3, h4⟩ := h
  refine ⟨?_, ?_⟩
  · rw [Moved, react_whl]
    refine ⟨congrArg (· + 1) (hsec.trans h1), hword.trans (congrArg (fun n => (n + 1) % 8192) h2), hpass.trans ?_, hany⟩
    show (if u.whl.scrubWord = 8191 then u.whl.scrubPass + 1 else u.whl.scrubPass) = _
    rw [h2, h3]
  · rw [scrubbed, react_whl, react_sto_same (t := sectorBegun (sectorRun i s.whl.sector (scrubNext u))) (hlead.trans h4)]
    exact scrubbed_end i s.whl.sector u

theorem stateBlockAt_of_str {s t : State} (h : t.str = s.str) (a : Nat) : stateBlockAt t a = stateBlockAt s a := by
  unfold stateBlockAt
  rw [h]

/-! ### The sector guard -/

theorem workOf_putWork_ne (w : List (Nat × List Nat)) {i j : Nat} (h : j ≠ i) (xs : List Nat) :
    workOf (putWork w i xs) j = workOf w j := by
  have hf := find_filter_ne h w
  unfold workOf putWork
  cases xs with
  | nil => simp only [List.isEmpty_nil, if_true]; rw [hf]
  | cons y ys =>
    simp only [List.isEmpty_cons, Bool.false_eq_true, if_false]
    rw [List.find?_cons_of_neg (by simpa using h.symm), hf]

/-- A kernel that the guard stops (R108). -/
def overrun (n : Nat) (x : InstRec) (s : State) : State := setWhl (fun w => { w with
  guards := satInc w.guards
  stop := w.stop ++ [n]
  pending := putWork w.pending n []
  ran := w.ran.filter fun r => !(decide (r.1 = n) && decide ((if r.2 then x.shad else x.prim) = s.whl.sector - 1)) }) s

/-- The event of a stopped kernel. -/
def overrunEv (n : Nat) (s : State) : Ev := ⟨0x0306, 0, 3, 1, w32 (s.whl.sector - 1), w32 n, w32 (s.whl.rounds + 1), 0, false⟩

theorem sectorOverrun_runs {n : Nat} {x : InstRec} {s : State} (hw : s.whl.state ≠ .stopped) (hx : instAt s n = some x)
    (hr : runsNow s n x = true) : sectorOverrun n s = heldEv (overrunEv n s) (markDf (isSafetyKernel x.code) (11, x.code)
      (overrun n x (if x.code = 0x0401 then setChd (fun c => { c with rxq := 0 }) s else s))) := by
  unfold sectorOverrun
  simp only [if_neg hw, hx, hr, Bool.not_true, Bool.false_eq_true, if_false]
  split
  · rfl
  · rfl

theorem sectorOverrun_idle {n : Nat} {s : State} (h : s.whl.state = .stopped ∨ ∀ x, instAt s n = some x → runsNow s n x = false) :
    sectorOverrun n s = s := by
  unfold sectorOverrun
  split
  · rfl
  · next hw =>
    split
    · rfl
    · next x hx =>
      rw [h.resolve_left hw x hx]
      rfl

theorem sectorOverrun_form {n : Nat} {x : InstRec} {s : State} (hw : s.whl.state ≠ .stopped) (hx : instAt s n = some x)
    (hr : runsNow s n x = true) : sectorOverrun n s = { s with
      chd := if x.code = 0x0401 then { s.chd with rxq := 0 } else s.chd
      sto := { s.sto with evq := s.sto.evq ++ [overrunEv n s] }
      whl := { s.whl with
        guards := satInc s.whl.guards, stop := s.whl.stop ++ [n], pending := putWork s.whl.pending n []
        ran := s.whl.ran.filter fun r => !(decide (r.1 = n) && decide ((if r.2 then x.shad else x.prim) = s.whl.sector - 1))
        df := if isSafetyKernel x.code = true then s.whl.df ++ [(11, x.code)] else s.whl.df } } := by
  rw [sectorOverrun_runs hw hx hr]
  unfold markDf
  split
  · split
    · rfl
    · rfl
  · split
    · rfl
    · rfl

/-! ### The return of a forced unit -/

/-- A unit's record has no return due any more. -/
def returned (u : Nat) (s : State) : State :=
  setWhl (fun w => { w with faults := putFault w.faults u { faultRec s u with returnAt := none } }) s

theorem faultRec_putFault {s t : State} {u : Nat} {r : FaultRec} (h : t.whl.faults = putFault s.whl.faults u r) :
    faultRec t u = r ∧ ∀ v, v ≠ u → faultRec t v = faultRec s v := by
  refine ⟨by simp [faultRec, h, putFault], fun v hv => ?_⟩
  have hf := find_filter_ne hv s.whl.faults
  unfold faultRec
  rw [h, putFault, List.find?_cons_of_neg (by simpa using hv.symm), hf]

/-- How a unit starts again (R119). -/
def unitBack (u : Nat) (s : State) : State :=
  if 1 ≤ u ∧ u ≤ 8 then { s with met := { s.met with ch := vmod s.met.ch (u - 1) (chanStart 12) } }
  else if 0x10 ≤ u ∧ u ≤ 0x12 then pathBack (u - 0x10) s
  else if u = 0x18 then linkEnter 4 s
  else if u = 0x20 then batEnter s
  else dspReturn s

theorem unitReturn_due {u a : Nat} {s : State} (hm : unitMgmt s u = .fault) (hl : (faultRec s u).latched = false)
    (ha : (faultRec s u).returnAt = some a) (hd : a ≤ s.aon) : unitReturn u s = unitBack u (returned u s) := by
  unfold unitReturn
  dsimp only
  rw [if_pos (by simp [ha, hd, hl, hm])]
  rfl

theorem unitReturn_idle {u : Nat} {s : State}
    (h : unitMgmt s u ≠ .fault ∨ (faultRec s u).latched = true ∨ (faultRec s u).returnAt = none) : unitReturn u s = s := by
  unfold unitReturn
  dsimp only
  refine if_neg ?_
  rcases h with h | h | h
  · simp [h]
  · simp [h]
  · simp [h]

/-- The paths start again, or not where their reference is wrong (R213). -/
theorem pathBack_state {p : Nat} (hp : p < 3) (s : State) : (flowPath (pathBack p s) p).state =
    if (flowPath s p).refFault then (flowPath s p).state else .starting := by
  unfold pathBack
  split
  · rfl
  · rw [flowPath_of_flw (path_calLeft p _)]
    exact congrArg FPath.state ((flowPath_vmod hp p (pathEnter s p) s).trans (if_pos rfl))

/-- A unit that starts keeps every fault record, the role and the power manager. -/
def backParts (s : State) : List (Nat × FaultRec) × Bool × Pwc := (s.whl.faults, s.chd.leader, s.pwc)

theorem backParts_emit (e : Ev) (s : State) : backParts (emit e s) = backParts s := by
  simp only [backParts, emit_whl, emit_chd, emit_pwc]

theorem backParts_unitBack (u : Nat) (s : State) : backParts (unitBack u s) = backParts s := by
  unfold unitBack
  split
  · rfl
  · split
    · unfold pathBack
      split
      · rfl
      · unfold calLeft
        split <;> rfl
    · split
      · by_cases h : s.chd.state = .starting
        · have hs : (linkEnter 4 s) = setChd (fun c => { c with
            seed := 0, outRun := 0, discAt := [], discRun := 0, missRun := 0, ownReq := false, ownSent := false, partnerReq := false,
            committed := false, pred := none, t3 := none, t4 := none, syncAt := s.aon }) s := if_pos h
          rw [hs]; rfl
        · obtain ⟨e, he⟩ := linkState_form 4 (s := setChd (fun c => { c with
            seed := 0, outRun := 0, discAt := [], discRun := 0, missRun := 0, ownReq := false, ownSent := false, partnerReq := false,
            committed := false, pred := none, t3 := none, t4 := none, syncAt := s.aon }) s) h
          rw [linkEnter, he, backParts_emit]; rfl
      · split
        · rfl
        · obtain ⟨es, d, -, hd⟩ := dspReturn_form s
          rw [hd, emitAll_keeps backParts backParts_emit]; rfl

/-- A path unit whose reference is wrong. -/
def WrongRef (s : State) (u : Nat) : Prop := 0x10 ≤ u ∧ u ≤ 0x12 ∧ (flowPath s (u - 0x10)).refFault = true

theorem unitMgmt_chan {u : Nat} (h : 1 ≤ u ∧ u ≤ 8) (s : State) : unitMgmt s u = (chan s (u - 1)).state := if_pos h

/-- A unit in FAULT is one of the units. -/
theorem unit_of_fault {u : Nat} {s : State} (h : unitMgmt s u = .fault) :
    (1 ≤ u ∧ u ≤ 8) ∨ (0x10 ≤ u ∧ u ≤ 0x12) ∨ u = 0x18 ∨ u = 0x20 ∨ u = 0x28 := by
  by_contra hno
  simp only [not_or] at hno
  obtain ⟨h1, h2, h3, h4, h5⟩ := hno
  rw [unitMgmt, if_neg h1, if_neg h2, if_neg h3, if_neg h4, if_neg h5] at h
  exact absurd h (by decide)

theorem linkEnter_state (c : Nat) (s : State) : (linkEnter c s).chd.state = .starting := linkState_state .starting c _

/-- The state of a unit that has started again (R119, R213). -/
theorem unitMgmt_unitBack {u : Nat} {s : State} (h : unitMgmt s u = .fault) :
    (u ≠ 0x28 → ¬WrongRef s u → unitMgmt (unitBack u s) u = .starting) ∧
      (¬WrongRef s u → unitMgmt (unitBack u s) u ≠ .fault) ∧ (WrongRef s u → unitMgmt (unitBack u s) u = .fault) := by
  have starts : unitMgmt (unitBack u s) u = .starting → ¬WrongRef s u →
      (u ≠ 0x28 → ¬WrongRef s u → unitMgmt (unitBack u s) u = .starting) ∧
        (¬WrongRef s u → unitMgmt (unitBack u s) u ≠ .fault) ∧ (WrongRef s u → unitMgmt (unitBack u s) u = .fault) :=
    fun hst hno => ⟨fun _ _ => hst, fun _ => by rw [hst]; decide, fun hw => absurd hw hno⟩
  rcases unit_of_fault h with hu | hu | rfl | rfl | rfl
  · refine starts ?_ fun hw => by have := hw.1; omega
    rw [unitMgmt_chan hu, unitBack, if_pos hu]
    exact congrArg ChanSt.state (vget_vmod _ _ _ _ (by omega))
  · have hp : u - 0x10 < 3 := by omega
    have hst := pathBack_state hp s
    have hb : unitMgmt (unitBack u s) u = (flowPath (pathBack (u - 0x10) s) (u - 0x10)).state := by
      rw [unitBack, if_neg (by omega), if_pos hu, unitMgmt, if_neg (by omega), if_pos hu]
    by_cases hr : (flowPath s (u - 0x10)).refFault = true
    · have hw : WrongRef s u := ⟨hu.1, hu.2, hr⟩
      rw [if_pos hr] at hst
      refine ⟨fun _ hno => absurd hw hno, fun hno => absurd hw hno, fun _ => ?_⟩
      rw [hb, hst, ← h, unitMgmt, if_neg (by omega), if_pos hu]
    · rw [if_neg hr] at hst
      exact starts (hb.trans hst) fun hw => hr hw.2.2
  · exact starts (linkEnter_state 4 s) fun hw => by have := hw.2.1; omega
  · exact starts rfl fun hw => by have := hw.2.1; omega
  · obtain ⟨es, d, hd, hrun⟩ := dspReturn_form s
    refine ⟨fun hne => absurd rfl hne, fun _ => ?_, fun hw => absurd hw.2.1 (by decide)⟩
    show (dspReturn s).dsp.state ≠ .fault
    rw [hrun, emitAll_dsp]
    exact hd

theorem react_met (s t : State) : (react s t).met = t.met := by rw [react_eq]

theorem unitMgmt_react (s t : State) (u : Nat) : unitMgmt (react s t) u = unitMgmt t u := by
  rw [react_eq]
  rfl

/-- Settles O45: sectors without, with one and with more wrong bits, the guard, and the return of units. -/
theorem sectorsAndForcedUnits : Obligations.SectorsAndForcedUnits := by
  refine ⟨?idle, ?clean, ?upset, ?guard, ?noGuard, ?back, ?noBack⟩
  case idle =>
    intro i s hl h
    refine ⟨_, rfl, ?_⟩
    rw [event_pos hl, sectorStart_idle i h, react_quiet]
    · rfl
    · rfl
  case clean =>
    rintro i s ⟨hl, hw, hn⟩ hf hi
    have haside := sectorAside_clean i s
    rw [← sectorStart_clean hw hn hf hi] at haside
    have hlead : (sectorStart i s).chd.leader = s.chd.leader := part_of haside (fun t => t.chd.leader) fun _ => rfl
    have hpwc : (sectorStart i s).pwc = s.pwc := part_of haside State.pwc fun _ => rfl
    refine ⟨_, rfl, ?_⟩
    rw [event_pos hl, react_quiet hlead hpwc, react_chd, react_whl, react_met]
    refine ⟨?_, clean_form haside⟩
    have hmoved := moved_of_aside haside
    rwa [Moved, ← react_whl s (sectorStart i s)] at hmoved
  case upset =>
    rintro i b s ⟨hl, hw, hn⟩ hf hi hr
    have hplace := place_sampled i s
    have hscr := scrubbed_sampled i s
    have hword : (sampled i s).whl.scrubWord = s.whl.scrubWord := congrArg (fun x => x.2.1) hplace
    simp only [scrubbed, Prod.mk.injEq] at hscr
    obtain ⟨hcorr, huncorr, hstop, hflips, hevq⟩ := hscr
    have hfl := hflips.trans hf
    have hat : flipsAt (sampled i s).whl.flips s.whl.scrubWord = b := by rw [hfl]; exact flipsAt_one _ b
    refine ⟨fun h1 => ?corrected, fun h2 hrec j x hblock => ?detected⟩
    case corrected =>
      obtain ⟨e, hc, hw4, hecc⟩ := scrubbed_eccCorrected s.whl.scrubWord (sampled i s)
      obtain ⟨hmoved, hend⟩ := scrub_done i (u := eccCorrected s.whl.scrubWord (sampled i s)) hplace
      refine ⟨_, rfl, ?_⟩
      rw [event_pos hl, sectorStart_scrubs hw hn hi hr, hword, readWord_corrects _ (hat ▸ h1)]
      rw [hecc, hcorr, hevq, hfl, putFlips_one] at hend
      simp only [scrubbed, Prod.mk.injEq] at hend
      obtain ⟨h1, -, -, h4, h5⟩ := hend
      exact ⟨hmoved, h1, h4, e, hc, hw4, h5⟩
    case detected =>
      have hblock' : stateBlockAt (sampled i s) s.whl.scrubWord = some (j, x) :=
        (stateBlockAt_of_str (part_sampled State.str (fun _ _ => rfl) i s) _).trans hblock
      obtain ⟨e, hc, hw4, hecc⟩ := eccUncorrectable_block hblock'
      obtain ⟨hlost, hlostp⟩ := blockLost_one (j := j) (s := setWhl (fun w => { w with eccUncorr := satInc w.eccUncorr }) (sampled i s))
        (stateBlockAt_inBlock hblock) hfl
      have hscrub := uncorrectable_scrubbed e (isSafetyKernel x.code) (10, x.code) j hlost
      have hpl := uncorrectable_place e (isSafetyKernel x.code) (10, x.code) j hlostp
      rw [← hecc] at hscrub hpl
      obtain ⟨hmoved, hend⟩ := scrub_done i (s := s) (hpl.trans hplace)
      refine ⟨_, rfl, ?_⟩
      rw [event_pos hl, sectorStart_scrubs hw hn hi hr, hword, hrec, readWord_detects none (hat ▸ h2)]
      rw [hscrub] at hend
      simp only [scrubbed, Prod.mk.injEq, setWhl] at hend
      obtain ⟨-, h2, h3, h4, h5⟩ := hend
      rw [huncorr] at h2
      rw [hstop] at h3
      rw [hevq] at h5
      exact ⟨hmoved, h2, h3, h4, e, hc, hw4, h5⟩
  case guard =>
    intro n x s hl hw hx hr
    have hform := sectorOverrun_form hw hx hr
    have hlead : (sectorOverrun n s).chd.leader = s.chd.leader := by
      rw [hform]; dsimp only; split <;> rfl
    refine ⟨_, rfl, ?_⟩
    rw [event_pos hl, react_quiet hlead (by rw [hform]), react_whl, hform]
    refine ⟨workOf_putWork s.whl.pending n [], fun m hm => workOf_putWork_ne s.whl.pending hm [], fun hp hin => ?_, fun r hr hne => ?_, rfl⟩
    · simp [hp] at hin
    · exact List.mem_filter.mpr ⟨hr, by simp [hne]⟩
  case noGuard =>
    intro n s h
    refine ⟨_, rfl, ?_⟩
    rw [event]
    split
    · rw [sectorOverrun_idle h]
      exact react_quiet rfl rfl
    · exact hfxAside_of_pwc rfl
  case back =>
    intro u a s hl hm hlat ha hd
    have hback := unitMgmt_unitBack (s := returned u.toNat s) hm
    refine ⟨_, rfl, ?_⟩
    rw [event_pos hl, unitReturn_due hm hlat ha hd]
    have hflt : (react s (unitBack u.toNat (returned u.toNat s))).whl.faults =
        putFault s.whl.faults u.toNat { faultRec s u.toNat with returnAt := none } := by
      rw [react_whl]
      exact congrArg Prod.fst (backParts_unitBack u.toNat (returned u.toNat s))
    obtain ⟨hself, hother⟩ := faultRec_putFault hflt
    have h28 : u ≠ 0x28 → u.toNat ≠ 0x28 := fun hne he => hne (BitVec.eq_of_toNat_eq he)
    simp only [unitMgmt_react]
    exact ⟨fun hne hno => hback.1 (h28 hne) hno, hback.2.1, hback.2.2, hself, hother⟩
  case noBack =>
    intro u s hl h
    refine ⟨_, rfl, ?_⟩
    rw [event_pos hl, unitReturn_idle h, react_quiet]
    · rfl
    · rfl

end Sys2Proof.Proofs
end

section
/-! PROOFS. What a round close reads of the state, and which of its operations leave that alone (R114, R119 to R121, R169, R170). -/

namespace Sys2Proof.Proofs

open Sys2Proof Sys2Proof.Machine Sys2Proof.Safety Sys2Proof.Laws

/-! ### The view of a round -/

/-- What is said of a round close: the parts that it keeps, the wheel's place, the units' states and records, the energy sets. -/
structure RoundView where
  aon : Nat
  cfg : List (Nat × Word)
  str : Option Image
  img : Img
  sec : Sec
  port : Vector PortSt 3
  areas : List Host.Cell
  mem : List Host.Cell
  rtc : Nat
  state : WheelState
  rounds : Nat
  sector : Nat
  closedAt : Nat
  ran : List (Nat × Bool)
  stop : List Nat
  shadow : Nat
  faults : List (Nat × FaultRec)
  chans : Vector Mgmt 8
  paths : Vector FPath 3
  link : Mgmt
  gauge : Mgmt
  display : Mgmt
  sets : Vector (Vector Nat 8 × Nat × Bool) 8

/-- An energy set's accumulators, discarded rounds and whether it discards. -/
def energyOf (e : EnSet) : Vector Nat 8 × Nat × Bool := (e.acc, e.disc, e.discarding)

def view (s : State) : RoundView where
  aon := s.aon
  cfg := s.cfg
  str := s.str
  img := s.img
  sec := s.sec
  port := s.port
  areas := s.sto.areas
  mem := s.dsp.mem
  rtc := s.pwc.rtc
  state := s.whl.state
  rounds := s.whl.rounds
  sector := s.whl.sector
  closedAt := s.whl.closedAt
  ran := s.whl.ran
  stop := s.whl.stop
  shadow := s.whl.shadow
  faults := s.whl.faults
  chans := vmap s.met.ch fun _ c => c.state
  paths := s.flw.path
  link := s.chd.state
  gauge := s.bat.state
  display := s.dsp.state
  sets := vmap s.nrg.sets fun _ e => energyOf e

/-- A change of the channels' words, and one of the energy's own quantities, as the view sees it. -/
theorem view_met {s : State} {m : Met} (h : vmap m.ch (fun _ c => c.state) = vmap s.met.ch fun _ c => c.state) :
    view { s with met := m } = view s := congrArg (fun x => { view s with chans := x }) h

theorem view_nrg {s : State} {n : Nrg} (h : vmap n.sets (fun _ e => energyOf e) = vmap s.nrg.sets fun _ e => energyOf e) :
    view { s with nrg := n } = view s := congrArg (fun x => { view s with sets := x }) h

theorem view_whl {s : State} {w : Whl} (h : (w.state, w.rounds, w.sector, w.closedAt, w.ran, w.stop, w.shadow, w.faults) =
    (s.whl.state, s.whl.rounds, s.whl.sector, s.whl.closedAt, s.whl.ran, s.whl.stop, s.whl.shadow, s.whl.faults)) :
    view { s with whl := w } = view s :=
  congrArg (fun x : WheelState × Nat × Nat × Nat × List (Nat × Bool) × List Nat × Nat × List (Nat × FaultRec) => { view s with
    state := x.1, rounds := x.2.1, sector := x.2.2.1, closedAt := x.2.2.2.1, ran := x.2.2.2.2.1, stop := x.2.2.2.2.2.1
    shadow := x.2.2.2.2.2.2.1, faults := x.2.2.2.2.2.2.2 }) h

theorem view_emit (e : Ev) (s : State) : view (emit e s) = view s := by
  unfold emit
  split <;> rfl

theorem view_emitAll (es : List Ev) (s : State) : view (emitAll es s) = view s := emitAll_keeps view view_emit es s

theorem view_foldl {β : Type} (l : List β) (g : State → β → State) (h : ∀ a x, view (g a x) = view a) (s : State) :
    view (l.foldl g s) = view s :=
  List.foldlRecOn (motive := fun a => view a = view s) _ _ rfl fun a ha x _ => (h a x).trans ha

theorem view_setPq (s : State) (q : Pq) : view (setPq s q) = view s := rfl

theorem view_setSaf (f : Saf → Saf) (s : State) : view (setSaf f s) = view s := rfl

theorem view_commitDue (k : CommitKind) (s : State) : view (commitDue k s) = view s := rfl

theorem view_markDf (c : Bool) (q : Nat × Nat) (s : State) : view (markDf c q s) = view s := by
  unfold markDf
  split <;> rfl

theorem view_flushEvents (s : State) : view (flushEvents s) = view s := (view_emitAll _ _).trans rfl

theorem view_publishBank (s : State) : view (publishBank s) = view s := view_flushEvents _

/-! ### Power quality -/

theorem view_enterFallback (c : Nat) (s : State) : view (enterFallback c s) = view s := by
  unfold enterFallback
  dsimp only
  split
  · rfl
  · exact view_emit _ _

theorem view_sourceRound (s : State) : view (sourceRound s) = view s := by
  unfold sourceRound
  extract_lets n q s1 s2 run
  have h1 : view s1 = view s := by
    simp only [s1]
    split <;> rfl
  have h2 : view s2 = view s := by
    simp only [s2]
    split
    · exact (view_enterFallback 4 s1).trans h1
    · exact h1
  exact h2

theorem view_cycleEnd (src : Nat) (len : Rat) (s : State) : view (cycleEnd src len s) = view s := by
  unfold cycleEnd
  extract_lets
  split
  · split
    · exact view_emit _ _
    · rfl
  · split
    · rfl
    · exact view_enterFallback _ _

theorem view_loopRound (s : State) : view (loopRound s).1 = view s := by
  unfold loopRound
  extract_lets n per ac s3 now
  have h3 : view s3 = view s := by
    simp only [s3, ac]
    split
    · rfl
    · split
      · split
        · exact view_enterFallback 3 _
        · rfl
      · split
        · split
          · rfl
          · exact view_cycleEnd _ _ _
        · rfl
  split
  · exact h3
  · exact h3

theorem view_windowEnd (s : State) : view (windowEnd s) = view s := rfl

theorem view_cycleRound (len : Rat) (s : State) : view (cycleRound len s) = view s := by
  unfold cycleRound
  extract_lets
  split
  · split
    · exact view_windowEnd _
    · rfl
  · rfl

theorem view_endSupply (t j a : Nat) (x y : Bool) (s : State) : view (endSupply t j a x y s) = view s := by
  unfold endSupply
  extract_lets e ms q s1
  split
  · split
    · rfl
    · exact view_emit _ s1
  · rfl

theorem view_startSupply (t j c u ch : Nat) (l : Bool) (s : State) : view (startSupply t j c u ch l s) = view s := by
  unfold startSupply
  extract_lets _ _ _ _ _ s1
  split
  · exact view_emit _ s1
  · rfl

theorem view_supplyEndAll (s : State) : view (supplyEndAll s) = view s :=
  view_foldl _ _ (fun a i => by
    split
    · rfl
    · exact view_endSupply _ _ _ _ _ a) s

theorem view_supplyStartAll (l : Bool) (s : State) : view (supplyStartAll l s) = view s :=
  view_foldl _ _ (fun a i => by
    dsimp only
    split
    · rfl
    · split
      · split
        · rfl
        · split
          · rfl
          · exact view_startSupply _ _ _ _ _ _ a
      · split
        · rfl
        · split
          · exact view_startSupply _ _ _ _ _ _ a
          · rfl) s

theorem view_halfRound (b : Nat) (s : State) : view (halfRound b s) = view s := by
  unfold halfRound
  extract_lets get p1 s1 late s2
  split
  · have h2 : view s2 = view (supplyStartAll late (supplyEndAll s1)) := view_setPq _ _
    rw [view_setPq, h2, view_supplyStartAll, view_supplyEndAll]
    exact view_setPq s p1
  · exact view_setPq s p1

theorem view_markFallback (s : State) : view (markFallback s) = view s := by
  unfold markFallback
  split <;> rfl

theorem view_pqRound (s : State) : view (pqRound s).1 = view s := by
  unfold pqRound
  extract_lets s0 p0 s1 r s2 s3 s4
  have h1 : view r.1 = view s := (view_loopRound s1).trans (view_sourceRound s)
  have h2 : view s2 = view s := by
    simp only [s2]
    split
    · exact h1
    · exact (view_cycleRound _ _).trans h1
  have h4 : view s4 = view s := by
    simp only [s4, s3]
    split
    · exact (view_markFallback s2).trans h2
    · exact (view_halfRound _ _).trans ((view_markFallback s2).trans h2)
  exact h4

/-! ### Samples, gates and safety decisions -/

theorem view_takeSamples (had : Nat → Bool) (s : State) : view (takeSamples had s) = view s := view_nrg rfl

theorem view_auxRound (had : Bool) (s : State) : view (auxRound had s) = view s := by
  unfold auxRound
  extract_lets
  split
  · exact view_met rfl
  · rfl

theorem energyOf_gateStep (m : Nat) (a b c : Rat) (q : Quant) (r : Rat) (e : EnSet) : energyOf (gateStep m a b c q r e) = energyOf e := by
  unfold gateStep
  extract_lets
  split
  · rfl
  · split
    · rfl
    · rfl

theorem view_creepRound (s : State) : view (creepRound s) = view s := by
  unfold creepRound
  extract_lets sg step sets es
  have hsets : vmap sets (fun _ e => energyOf e) = vmap s.nrg.sets fun _ e => energyOf e := by
    rw [vmap_vmap]
    congr 1
    funext k e
    simp only [step]
    split
    · exact energyOf_gateStep _ _ _ _ _ _ e
    · rfl
  rw [view_emitAll]
  exact view_nrg hsets

theorem view_safTherm (s : State) : view (safTherm s) = view s := by
  unfold safTherm
  split
  · rfl
  · split
    · rfl
    · rfl

theorem view_safRound (code : Nat → Option Int) (s : State) : view (safRound code s) = view s := by
  unfold safRound
  extract_lets s1
  have h1 : view s1 = view s := (view_safTherm _).trans rfl
  split
  · exact h1
  · exact h1

theorem view_writeRecords (s : State) : view (writeRecords s) = view s := view_whl rfl

theorem view_kernelRound (code : Nat → Option Int) (s : State) : view (kernelRound code s).1 = view s := by
  unfold kernelRound
  extract_lets had q
  show view (writeRecords (safRound code (creepRound q.1))) = view s
  rw [view_writeRecords, view_safRound, view_creepRound, view_pqRound, view_auxRound, view_takeSamples]

theorem view_invalidate (us : List Nat) (s : State) : view (invalidate us s) = view s := by
  have hch : vmap (invalidate us s).met.ch (fun _ c => c.state) = vmap s.met.ch fun _ c => c.state := by
    rw [invalidate, vmap_vmap]
    congr 1
    funext k c
    split <;> rfl
  exact view_met hch

end Sys2Proof.Proofs
end

section
/-! PROOFS. The units that a round close forces to FAULT (R108, R118, R119, R147). -/

namespace Sys2Proof.Proofs

open Sys2Proof Sys2Proof.Machine Sys2Proof.Safety Sys2Proof.Laws

/-! ### Units and their records in the view -/

/-- The state of a unit (Table 3-5). -/
def RoundView.mgmt (v : RoundView) (u : Nat) : Mgmt :=
  if 1 ≤ u ∧ u ≤ 8 then vget v.chans (u - 1) .off
  else if 0x10 ≤ u ∧ u ≤ 0x12 then (vget v.paths (u - 0x10) FPath.off).state
  else if u = 0x18 then v.link
  else if u = 0x20 then v.gauge
  else if u = 0x28 then v.display
  else .off

/-- A unit's record of forced faults. -/
def RoundView.record (v : RoundView) (u : Nat) : FaultRec :=
  match v.faults.find? (fun x => x.1 = u) with
  | none => ⟨[], none, false⟩
  | some x => x.2

theorem mgmt_view (s : State) (u : Nat) : (view s).mgmt u = unitMgmt s u := by
  unfold RoundView.mgmt unitMgmt
  refine if_ctx_congr Iff.rfl (fun h => ?_) fun _ => rfl
  exact vget_vmap s.met.ch (fun _ c => c.state) (u - 1) ChanSt.idle .off (by omega)

theorem record_view (s : State) (u : Nat) : (view s).record u = faultRec s u := rfl

/-- A unit is forced to FAULT, its fault noted (R119). -/
def RoundView.force (v : RoundView) (u : Nat) : RoundView :=
  let f := putFault v.faults u (noteFault (v.record u) v.aon)
  if 1 ≤ u ∧ u ≤ 8 then { v with chans := vmod v.chans (u - 1) fun _ => .fault, faults := f }
  else if 0x10 ≤ u ∧ u ≤ 0x12 then { v with
    paths := vmod v.paths (u - 0x10) fun x => { x with state := .fault, tag := .invalid, ttag := .invalid }, faults := f }
  else if u = 0x18 then { v with link := .fault, faults := f }
  else if u = 0x20 then { v with gauge := .fault, faults := f }
  else if u = 0x28 then { v with display := .fault, faults := f }
  else v

/-- The view without its units and their records. -/
def RoundView.rest (v : RoundView) : RoundView := { v with
  faults := [], chans := Vector.replicate 8 .off, paths := Vector.replicate 3 FPath.off, link := .off, gauge := .off, display := .off }

theorem rest_force (v : RoundView) (u : Nat) : (v.force u).rest = v.rest := by
  unfold RoundView.force
  extract_lets f
  split
  · rfl
  · split
    · rfl
    · split
      · rfl
      · split
        · rfl
        · split
          · rfl
          · rfl

theorem aon_force (v : RoundView) (u : Nat) : (v.force u).aon = v.aon := by
  show (v.force u).rest.aon = v.rest.aon
  rw [rest_force]

/-- A unit of Table 3-5. -/
def IsUnit (u : Nat) : Prop := (1 ≤ u ∧ u ≤ 8) ∨ (0x10 ≤ u ∧ u ≤ 0x12) ∨ u = 0x18 ∨ u = 0x20 ∨ u = 0x28

theorem isUnit_of_mgmt {v : RoundView} {u : Nat} (h : v.mgmt u ≠ .off) : IsUnit u := by
  by_contra hno
  simp only [IsUnit, not_or] at hno
  obtain ⟨h1, h2, h3, h4, h5⟩ := hno
  rw [RoundView.mgmt, if_neg h1, if_neg h2, if_neg h3, if_neg h4, if_neg h5] at h
  exact h rfl

theorem faults_force {v : RoundView} {u : Nat} (h : IsUnit u) :
    (v.force u).faults = putFault v.faults u (noteFault (v.record u) v.aon) := by
  rcases h with h | h | rfl | rfl | rfl
  · rw [RoundView.force, if_pos h]
  · rw [RoundView.force, if_neg (by omega), if_pos h]
  · rfl
  · rfl
  · rfl

theorem record_force_self {v : RoundView} {u : Nat} (h : IsUnit u) : (v.force u).record u = noteFault (v.record u) v.aon := by
  rw [RoundView.record, faults_force h]
  simp [putFault]

theorem record_force_ne (v : RoundView) {u w : Nat} (h : u ≠ w) : (v.force w).record u = v.record u := by
  by_cases hw : IsUnit w
  · have hf := find_filter_ne h v.faults
    rw [RoundView.record, faults_force hw, putFault, List.find?_cons_of_neg (by simpa using h.symm), hf]
    rfl
  · simp only [IsUnit, not_or] at hw
    obtain ⟨h1, h2, h3, h4, h5⟩ := hw
    rw [RoundView.force, if_neg h1, if_neg h2, if_neg h3, if_neg h4, if_neg h5]

theorem mgmt_force_self {v : RoundView} {u : Nat} (h : IsUnit u) : (v.force u).mgmt u = .fault := by
  rcases h with h | h | rfl | rfl | rfl
  · have hu : u - 1 < 8 := by omega
    rw [RoundView.mgmt, if_pos h, RoundView.force, if_pos h]
    dsimp only
    rw [vget_vmod v.chans (u - 1) (fun _ => .fault) .off hu]
  · have hu : u - 0x10 < 3 := by omega
    rw [RoundView.mgmt, if_neg (by omega), if_pos h, RoundView.force, if_neg (by omega), if_pos h]
    dsimp only
    rw [vget_vmod v.paths (u - 0x10) _ FPath.off hu]
  · rfl
  · rfl
  · rfl

theorem mgmt_force_ne (v : RoundView) {u w : Nat} (h : u ≠ w) : (v.force w).mgmt u = v.mgmt u := by
  by_cases h1 : 1 ≤ w ∧ w ≤ 8
  · rw [RoundView.force, if_pos h1]
    unfold RoundView.mgmt
    refine if_ctx_congr Iff.rfl (fun hu => ?_) fun _ => rfl
    have hne : u - 1 ≠ w - 1 := by omega
    dsimp only
    rw [vget_vmod_ne v.chans (w - 1) (u - 1) (fun _ => .fault) .off hne]
  · by_cases h2 : 0x10 ≤ w ∧ w ≤ 0x12
    · rw [RoundView.force, if_neg h1, if_pos h2]
      unfold RoundView.mgmt
      refine if_ctx_congr Iff.rfl (fun _ => rfl) fun _ => if_ctx_congr Iff.rfl (fun hu => ?_) fun _ => rfl
      have hne : u - 0x10 ≠ w - 0x10 := by omega
      dsimp only
      rw [vget_vmod_ne v.paths (w - 0x10) (u - 0x10) _ FPath.off hne]
    · rw [RoundView.force, if_neg h1, if_neg h2]
      split
      · next hw => simp [RoundView.mgmt, show u ≠ 0x18 by omega]
      · split
        · next hw => simp [RoundView.mgmt, show u ≠ 0x20 by omega]
        · split
          · next hw => simp [RoundView.mgmt, show u ≠ 0x28 by omega]
          · rfl

/-! ### Forcing a unit -/

theorem view_forceRecord (u : Nat) (s : State) : view (forceRecord u s) =
    { view s with faults := putFault s.whl.faults u (noteFault (faultRec s u) s.aon) } := rfl

theorem view_calLeft (p : Nat) (s : State) : view (calLeft p s) = view s := by
  unfold calLeft
  split <;> rfl

theorem view_setPath (p : Nat) (f : FPath → FPath) (s : State) :
    view (setPath p f s) = { view s with paths := vmod s.flw.path p f } := rfl

/-- A path that stops, before the combined words follow. -/
def pathDown (p : Nat) (m : Mgmt) (s : State) : State :=
  calLeft p (setPath p (fun x => { x with state := m, tag := .invalid, ttag := .invalid }) s)

theorem pathStop_form (p : Nat) (m : Mgmt) (s : State) : ∃ c g, pathStop p m s =
    { pathDown p m s with flw := { (pathDown p m s).flw with qcTag := c, qcCls := g } } := by
  unfold pathStop
  dsimp only
  split
  · exact ⟨_, _, rfl⟩
  · exact ⟨(pathDown p m s).flw.qcTag, (pathDown p m s).flw.qcCls, rfl⟩

theorem view_pathStop (p : Nat) (m : Mgmt) (s : State) : view (pathStop p m s) =
    { view s with paths := vmod s.flw.path p fun x => { x with state := m, tag := .invalid, ttag := .invalid } } := by
  obtain ⟨c, g, h⟩ := pathStop_form p m s
  have hset : ∀ t : State, view { t with flw := { t.flw with qcTag := c, qcCls := g } } = view t := fun _ => rfl
  rw [h, hset, pathDown, view_calLeft, view_setPath]

theorem view_linkState (m : Mgmt) (c : Nat) (s : State) : view (linkState m c s) = { view s with link := m } := by
  by_cases h : s.chd.state = m
  · rw [linkState, if_pos h, ← h]; rfl
  · obtain ⟨e, he⟩ := linkState_form c h
    rw [he, view_emit]; rfl

theorem view_dspStop (c : Nat) {s : State} (h : s.dsp.state = .fault) : view (dspStop c s) = view s := by
  have hset : ∀ f : Dsp → Dsp, (f s.dsp).state = .fault → (f s.dsp).mem = s.dsp.mem → view (setDsp f s) = view s := fun f hs hm => by
    show { view s with display := (f s.dsp).state, mem := (f s.dsp).mem } = view s
    rw [hs, hm, ← h]; rfl
  unfold dspStop
  simp only [h]
  split
  · exact hset _ rfl rfl
  · exact hset _ rfl rfl
  · exact hset _ rfl rfl
  · rfl

theorem view_chanForce (k : Nat) (s : State) : view (chanForce k s) =
    { view s with
      chans := vmod (view s).chans k fun _ => .fault
      faults := putFault s.whl.faults (k + 1) (noteFault (faultRec s (k + 1)) s.aon) } := by
  have hch : vmap (chanForce k s).met.ch (fun _ c => c.state) = vmod (view s).chans k fun _ => .fault := by
    ext j hj
    by_cases hk : j = k
    · subst hk; simp [chanForce, forceRecord, vmap, vmod]
    · simp [chanForce, forceRecord, vmap, vmod, view, hk]
  exact congrArg (fun x => { view s with chans := x
                                         faults := putFault s.whl.faults (k + 1) (noteFault (faultRec s (k + 1)) s.aon) }) hch

theorem view_forceUnit (u : Nat) (s : State) : view (forceUnit u s) = (view s).force u := by
  unfold forceUnit RoundView.force
  dsimp only
  split
  · next h =>
    obtain ⟨k, rfl⟩ : ∃ k, u = k + 1 := ⟨u - 1, by omega⟩
    exact view_chanForce k s
  · split
    · have haon : (pathStop (u - 0x10) .fault s).aon = s.aon := congrArg RoundView.aon (view_pathStop (u - 0x10) .fault s)
      have hflt : (pathStop (u - 0x10) .fault s).whl.faults = s.whl.faults :=
        congrArg RoundView.faults (view_pathStop (u - 0x10) .fault s)
      rw [view_forceRecord, view_pathStop, haon, faultRec_of_faults hflt, hflt]; rfl
    · split
      · next h =>
        subst h
        have haon : (linkState .fault (Config.otherCause 2) s).aon = s.aon := congrArg RoundView.aon (view_linkState .fault _ s)
        have hflt : (linkState .fault (Config.otherCause 2) s).whl.faults = s.whl.faults :=
          congrArg RoundView.faults (view_linkState .fault _ s)
        rw [view_forceRecord, view_linkState, haon, faultRec_of_faults hflt, hflt]; rfl
      · split
        · rfl
        · split
          · rw [view_emit, view_dspStop]
            · rfl
            · rfl
          · rfl

theorem view_forceOnce (u : Nat) (s : State) : view (forceOnce u s) =
    if (view s).mgmt u = .fault ∧ ((view s).record u).times.getLast? = some s.aon then view s else (view s).force u := by
  unfold forceOnce
  rw [mgmt_view, record_view]
  split
  · rfl
  · exact view_forceUnit u s

theorem view_consistency (b : BadTag) (s : State) : view (consistency b s) = if disallowed s b then view (forceOnce b.unit s) else view s := by
  unfold consistency
  extract_lets m s1
  split
  · rw [view_emit, view_markDf]
    exact view_whl rfl
  · rfl

theorem view_pilotForce {k : Nat} (hk : k < 8) (s : State) : view (pilotForce k s) =
    if (view s).mgmt (k + 1) = .fault then view s else (view s).force (k + 1) := by
  have hmgmt : unitMgmt s (k + 1) = (chan s k).state := unitMgmt_chan ⟨by omega, by omega⟩ s
  rw [mgmt_view, hmgmt]
  unfold pilotForce
  extract_lets b
  have hb : view b = if (chan s k).state = .fault then view s else (view s).force (k + 1) := by
    simp only [b]
    split
    · rfl
    · rw [view_chanForce, RoundView.force, if_pos ⟨by omega, by omega⟩]
      rfl
  have hset : ∀ t : State, view { t with met := { t.met with ch := vmod t.met.ch k fun c => { c with lost := true } } } = view t := fun t =>
    view_met (s := t) (vmap_vmod_of t.met.ch k (fun c => { c with lost := true }) (fun _ c => c.state) fun _ => rfl)
  rw [view_emit, view_markDf, hset, hb]

/-! ### Forced once in a close -/

/-- A unit that measures, and that no fault of this close has been noted for. -/
def RoundView.Pending (u : Nat) (r : FaultRec) (now : Nat) (v : RoundView) : Prop :=
  v.aon = now ∧ v.mgmt u ≠ .off ∧ v.mgmt u ≠ .fault ∧ v.record u = r

/-- A unit in FAULT by this close, its fault noted once. -/
def RoundView.Noted (u : Nat) (r : FaultRec) (now : Nat) (v : RoundView) : Prop :=
  v.aon = now ∧ v.mgmt u = .fault ∧ v.record u = noteFault r now

/-- What a step of the close does to the units: nothing, or one is forced, and none again that this close has forced. -/
def RoundView.ForceStep (v w : RoundView) : Prop := w = v ∨ ∃ x, w = v.force x ∧
  ¬(v.mgmt x = .fault ∧ (v.record x).times.getLast? = some v.aon)

theorem noteFault_last (r : FaultRec) (now : Nat) : (noteFault r now).times.getLast? = some now := by
  unfold noteFault
  dsimp only
  split
  · exact List.getLast?_concat
  · exact List.getLast?_concat

theorem noted_of_force {u : Nat} {r : FaultRec} {now : Nat} {v : RoundView} (h : v.Pending u r now) : (v.force u).Noted u r now := by
  obtain ⟨ha, hoff, -, hr⟩ := h
  have hu := isUnit_of_mgmt hoff
  exact ⟨(aon_force v u).trans ha, mgmt_force_self hu, by rw [record_force_self hu, hr, ha]⟩

theorem noted_step {u : Nat} {r : FaultRec} {now : Nat} {v w : RoundView} (h : v.Noted u r now) (hs : v.ForceStep w) : w.Noted u r now := by
  obtain ⟨ha, hm, hr⟩ := h
  rcases hs with rfl | ⟨x, rfl, hx⟩
  · exact ⟨ha, hm, hr⟩
  · have hne : u ≠ x := by
      rintro rfl
      exact hx ⟨hm, by rw [hr, ha]; exact noteFault_last r now⟩
    exact ⟨(aon_force v x).trans ha, by rw [mgmt_force_ne v hne, hm], by rw [record_force_ne v hne, hr]⟩

theorem pending_step {u : Nat} {r : FaultRec} {now : Nat} {v w : RoundView} (h : v.Pending u r now) (hs : v.ForceStep w) :
    w.Pending u r now ∨ w.Noted u r now := by
  rcases hs with rfl | ⟨x, rfl, -⟩
  · exact .inl h
  · by_cases hx : u = x
    · subst hx; exact .inr (noted_of_force h)
    · obtain ⟨ha, hoff, hf, hr⟩ := h
      exact .inl ⟨(aon_force v x).trans ha, by rw [mgmt_force_ne v hx]; exact hoff, by rw [mgmt_force_ne v hx]; exact hf,
        by rw [record_force_ne v hx, hr]⟩

theorem open_step {u : Nat} {r : FaultRec} {now : Nat} {v w : RoundView} (h : v.Pending u r now ∨ v.Noted u r now) (hs : v.ForceStep w) :
    w.Pending u r now ∨ w.Noted u r now :=
  h.elim (fun h => pending_step h hs) fun h => .inr (noted_step h hs)

theorem rest_step {v w : RoundView} (hs : v.ForceStep w) : w.rest = v.rest := by
  rcases hs with rfl | ⟨x, rfl, -⟩
  · rfl
  · exact rest_force v x

/-- A run of such steps. -/
theorem foldl_steps {β : Type} (P : RoundView → Prop) (hP : ∀ v w, P v → v.ForceStep w → P w) (l : List β) (g : State → β → State)
    (hg : ∀ a, ∀ x ∈ l, (view a).ForceStep (view (g a x))) {s : State} (h : P (view s)) : P (view (l.foldl g s)) :=
  List.foldlRecOn (motive := fun a => P (view a)) _ _ h fun a ha x hx => hP _ _ ha (hg a x hx)

theorem consistency_step (b : BadTag) (s : State) : (view s).ForceStep (view (consistency b s)) := by
  rw [view_consistency]
  split
  · rw [view_forceOnce]
    split
    · exact .inl rfl
    · next h => exact .inr ⟨_, rfl, h⟩
  · exact .inl rfl

/-- A unit of a stopped kernel that is not OFF or in FAULT is forced. -/
def stopUnit (a : State) (u : Nat) : State := if unitMgmt a u = .fault ∨ unitMgmt a u = .off then a else forceUnit u a

theorem stopUnit_step (u : Nat) (s : State) : (view s).ForceStep (view (stopUnit s u)) := by
  unfold stopUnit
  split
  · exact .inl rfl
  · next h => exact .inr ⟨u, view_forceUnit u s, fun hx => h (.inl (by rw [← mgmt_view]; exact hx.1))⟩

theorem pilotForce_step {k : Nat} (hk : k < 8) (s : State) : (view s).ForceStep (view (pilotForce k s)) := by
  rw [view_pilotForce hk]
  split
  · exact .inl rfl
  · next h => exact .inr ⟨k + 1, rfl, fun hx => h hx.1⟩

theorem stopUnit_noted {u : Nat} {r : FaultRec} {now : Nat} {s : State} (h : (view s).Pending u r now ∨ (view s).Noted u r now) :
    (view (stopUnit s u)).Noted u r now := by
  rcases h with h | h
  · have hno : ¬(unitMgmt s u = .fault ∨ unitMgmt s u = .off) := by
      rw [← mgmt_view]
      exact not_or.mpr ⟨h.2.2.1, h.2.1⟩
    rw [stopUnit, if_neg hno, view_forceUnit]
    exact noted_of_force h
  · exact noted_step h (stopUnit_step u s)

/-- Every unit of a stopped kernel that measured is in FAULT once all have been gone through. -/
theorem stopUnits_noted {u : Nat} {r : FaultRec} {now : Nat} (l : List Nat) (hu : u ∈ l) {s : State}
    (h : (view s).Pending u r now ∨ (view s).Noted u r now) : (view (l.foldl stopUnit s)).Noted u r now := by
  induction l generalizing s with
  | nil => exact absurd hu (List.not_mem_nil)
  | cons x xs ih =>
    rw [List.foldl_cons]
    rcases List.mem_cons.mp hu with rfl | hmem
    · exact foldl_steps _ (fun _ _ hv hs => noted_step hv hs) xs stopUnit (fun a y _ => stopUnit_step y a) (stopUnit_noted h)
    · exact ih hmem (open_step h (stopUnit_step x s))

/-- The units of the kernels stopped in the round. -/
def stoppedUnits (s : State) : List Nat := s.whl.stop.flatMap fun j => match instAt s j with
  | none => []
  | some i => unitsOf i

theorem forceAll_eq (r : RoundIn) (lost : List Nat) (s : State) : forceAll r lost s =
    lost.foldl (fun a k => pilotForce k a) ((stoppedUnits s).foldl stopUnit (r.bad.foldl (fun a b => consistency b a) s)) := rfl

theorem mem_stoppedUnits {s : State} {j u : Nat} {x : InstRec} (hj : j ∈ s.whl.stop) (hx : instAt s j = some x) (hu : u ∈ unitsOf x) :
    u ∈ stoppedUnits s := List.mem_flatMap.mpr ⟨j, hj, by rw [hx]; exact hu⟩

theorem rest_forceAll (r : RoundIn) {lost : List Nat} (hl : ∀ k ∈ lost, k < 8) (s : State) :
    (view (forceAll r lost s)).rest = (view s).rest := by
  have keeps : ∀ v w : RoundView, v.rest = (view s).rest → v.ForceStep w → w.rest = (view s).rest := fun v w h hs => (rest_step hs).trans h
  rw [forceAll_eq]
  refine foldl_steps _ keeps lost _ (fun a k hk => pilotForce_step (hl k hk) a) ?_
  refine foldl_steps _ keeps _ _ (fun a u _ => stopUnit_step u a) ?_
  exact foldl_steps _ keeps _ _ (fun a b _ => consistency_step b a) rfl

/-- A unit that a stopped kernel serves is in FAULT after the close has forced its units, its fault noted once (R108, R119). -/
theorem forceAll_noted {r : RoundIn} {lost : List Nat} (hl : ∀ k ∈ lost, k < 8) {s : State} {u : Nat} {f : FaultRec} {now : Nat}
    (hu : u ∈ stoppedUnits s) (h : (view s).Pending u f now) : (view (forceAll r lost s)).Noted u f now := by
  rw [forceAll_eq]
  refine foldl_steps _ (fun _ _ hv hs => noted_step hv hs) lost _ (fun a k hk => pilotForce_step (hl k hk) a) ?_
  refine stopUnits_noted _ hu ?_
  exact foldl_steps _ (fun _ _ hv hs => open_step hv hs) _ _ (fun a b _ => consistency_step b a) (.inl h)

end Sys2Proof.Proofs
end

section
/-! PROOFS. What follows in a round close once its units are forced: increments, the published bank, the safety logic, the wheel's state
and a due commit (R101, R120, R121, R355, R382, R408). -/

namespace Sys2Proof.Proofs

open Sys2Proof Sys2Proof.Machine Sys2Proof.Safety Sys2Proof.Laws

/-! ### Channels at the begin of the close -/

/-- A channel that measures does so after its round. -/
theorem chanRound_measures (s : State) (k : Nat) {c : ChanSt} (h : c.state ≠ .off ∧ c.state ≠ .fault) :
    (chanRound s k c).state ≠ .off ∧ (chanRound s k c).state ≠ .fault := by
  unfold chanRound
  split
  · exact h
  · dsimp only
    split
    · exact ⟨Mgmt.noConfusion, Mgmt.noConfusion⟩
    · exact h

/-- The channels' round changes their states alone, and those that measure go on. -/
theorem view_metRound (s : State) : ∃ ch, view (metRound s) = { view s with chans := ch } ∧
    ∀ k, vget (view s).chans k .off ≠ .off → vget (view s).chans k .off ≠ .fault → vget ch k .off ≠ .off ∧ vget ch k .off ≠ .fault := by
  unfold metRound
  extract_lets idx es lost evd ch load
  refine ⟨vmap ch fun _ c => c.state, (view_emitAll es _).trans rfl, fun k hoff hf => ?_⟩
  by_cases hk : k < 8
  · have h0 : vget (view s).chans k .off = (vget s.met.ch k ChanSt.idle).state := vget_vmap s.met.ch (fun _ c => c.state) k ChanSt.idle .off hk
    have h1 : vget (vmap ch fun _ c => c.state) k .off = (vget ch k ChanSt.idle).state := vget_vmap ch (fun _ c => c.state) k ChanSt.idle .off hk
    rw [h0] at hoff hf
    rw [h1, vget_vmap s.met.ch _ k ChanSt.idle ChanSt.idle hk]
    have hround := chanRound_measures s k (c := vget s.met.ch k ChanSt.idle) ⟨hoff, hf⟩
    dsimp only
    split
    · split
      · exact hround
      · exact hround
    · exact ⟨hoff, hf⟩
  · exact absurd (vget_out (view s).chans k .off hk) hoff

theorem view_modGone (s : State) : ∃ ch, view (modGone s) = { view s with chans := ch } :=
  ⟨_, (view_sourceRound _).trans rfl⟩

/-! ### Increments -/

/-- What a close does to a defined energy set: its increments are applied, or it discards the round (R120, R168, R170). -/
def EnergyStep (a b : Vector Nat 8 × Nat × Bool) : Prop :=
  (b.2.2 = true ∧ b.1 = a.1 ∧ b.2.1 = satInc a.2.1) ∨
    (b.2.2 = false ∧ b.2.1 = a.2.1 ∧ ∃ inc : List Nat, b.1 = vmap a.1 fun i x => min (x + inc.getD i 0) accMax)

theorem energyStep_applySet (q : Quant) (e : EnSet) : EnergyStep (energyOf e) (energyOf (applySet q e)) := by
  unfold applySet
  split
  · exact .inl ⟨rfl, rfl, rfl⟩
  · exact .inr ⟨rfl, rfl, _, rfl⟩

/-- The reset of an energy set, as the view sees it. -/
def noEnergy : Vector Nat 8 × Nat × Bool := energyOf EnSet.zero

theorem energyOf_enSet (s : State) (k : Nat) : energyOf (enSet s k) = vget (view s).sets k noEnergy := by
  by_cases hk : k < 8
  · exact (vget_vmap s.nrg.sets (fun _ e => energyOf e) k EnSet.zero noEnergy hk).symm
  · rw [enSet, vget_out _ _ _ hk, vget_out _ _ _ hk]; rfl

/-- What a close does to the energy sets, of which `defined` says which are. -/
def SetsStep (defined : Nat → Bool) (run : Bool) (a b : Vector (Vector Nat 8 × Nat × Bool) 8) : Prop :=
  ∀ k, (k < 8 → run = true → defined k = true → EnergyStep (vget a k noEnergy) (vget b k noEnergy)) ∧
    (run = false ∨ defined k = false → vget b k noEnergy = vget a k noEnergy) ∧ (¬k < 8 → vget b k noEnergy = vget a k noEnergy)

theorem view_energyRound (s : State) : ∃ g, view (energyRound s) = { view s with sets := g } ∧
    SetsStep (setDefined s) true (view s).sets g := by
  unfold energyRound
  extract_lets stop val sets entered left low long who1 cf es
  refine ⟨vmap sets fun _ e => energyOf e, (view_emitAll es _).trans rfl, fun k => ?_⟩
  have hout : ¬k < 8 → vget (vmap sets fun _ e => energyOf e) k noEnergy = vget (view s).sets k noEnergy := fun hk => by
    rw [vget_out _ _ _ hk, vget_out _ _ _ hk]
  have hin : k < 8 → vget (vmap sets fun _ e => energyOf e) k noEnergy =
      energyOf (if setDefined s k then applySet (val k) (enSet s k) else enSet s k) := fun hk => by
    rw [vget_vmap sets _ k EnSet.zero noEnergy hk, vget_vmap s.nrg.sets _ k EnSet.zero EnSet.zero hk, enSet]
  refine ⟨fun hk _ hd => ?_, fun hd => ?_, hout⟩
  · rw [hin hk, if_pos hd, ← energyOf_enSet]
    exact energyStep_applySet _ _
  · by_cases hk : k < 8
    · rw [hin hk, if_neg (by simpa using hd), energyOf_enSet]
    · exact hout hk

theorem view_volRound (bad : List Nat) (s : State) : view (volRound bad s) = view s := by
  unfold volRound
  rw [view_foldl]
  · rfl
  · intro a i; rfl

theorem setsStep_refl (defined : Nat → Bool) (a : Vector (Vector Nat 8 × Nat × Bool) 8) : SetsStep defined false a a :=
  fun _ => ⟨fun _ h => absurd h Bool.false_ne_true, fun _ => rfl, fun _ => rfl⟩

theorem view_applyIncrements (run : Bool) (us : List Nat) (s : State) : ∃ g, view (applyIncrements run us s) = { view s with sets := g } ∧
    SetsStep (setDefined s) run (view s).sets g := by
  obtain ⟨g, hg, hs⟩ : ∃ g, view (if run then energyRound s else s) = { view s with sets := g } ∧
      SetsStep (setDefined s) run (view s).sets g := by
    cases run with
    | true => exact view_energyRound s
    | false => exact ⟨(view s).sets, rfl, setsStep_refl _ _⟩
  refine ⟨g, ?_, hs⟩
  unfold applyIncrements
  extract_lets s1
  have h1 : view s1 = { view s with sets := g } := (view_volRound us _).trans hg
  split
  · exact h1
  · split
    · exact h1
    · exact h1

/-- An accumulator never falls and stays within its width (R168, R169). -/
theorem energyStep_acc {a b : Vector Nat 8 × Nat × Bool} (h : EnergyStep a b) (j : Nat) :
    (vget a.1 j 0 < 2 ^ 128 → vget a.1 j 0 ≤ vget b.1 j 0) ∧ vget b.1 j 0 ≤ max (vget a.1 j 0) (2 ^ 128 - 1) := by
  rcases h with ⟨-, h, -⟩ | ⟨-, -, inc, h⟩
  · rw [h]
    exact ⟨fun _ => Nat.le_refl _, Nat.le_max_left _ _⟩
  · rw [h]
    by_cases hj : j < 8
    · rw [vget_vmap a.1 _ j 0 0 hj]
      have hmax : accMax = 2 ^ 128 - 1 := rfl
      rw [hmax]
      refine ⟨fun hlt => le_min (Nat.le_add_right _ _) (by omega), (Nat.min_le_right _ _).trans (Nat.le_max_right _ _)⟩
    · rw [vget_out _ _ _ hj, vget_out _ _ _ hj]
      exact ⟨fun _ => Nat.le_refl _, Nat.zero_le _⟩

/-! ### Events after the published bank -/

/-- The bank is published, and no event waits. -/
def Quiet (s : State) : Prop := s.sto.evHold = false ∧ s.sto.evq = [] ∧ s.pub = none

/-- An operation that the view does not show and that lets no event wait. -/
structure Keeps (s t : State) : Prop where
  view : view t = view s
  quiet : Quiet s → Quiet t

theorem Keeps.refl (s : State) : Keeps s s := ⟨rfl, id⟩

theorem Keeps.trans {s t u : State} (h : Keeps s t) (g : Keeps t u) : Keeps s u := ⟨g.view.trans h.view, g.quiet ∘ h.quiet⟩

theorem keeps_emit (e : Ev) (s : State) : Keeps s (emit e s) := by
  refine ⟨view_emit e s, fun h => ?_⟩
  rw [emit_now e s h.1]
  exact h

theorem keeps_foldl {β : Type} (l : List β) (g : State → β → State) (h : ∀ a x, Keeps a (g a x)) (s : State) : Keeps s (l.foldl g s) :=
  List.foldlRecOn (motive := fun a => Keeps s a) _ _ (Keeps.refl s) fun a ha x _ => ha.trans (h a x)

theorem keeps_emitAll (es : List Ev) (s : State) : Keeps s (emitAll es s) := keeps_foldl es _ (fun a e => keeps_emit e a) s

theorem keeps_setSaf (f : Saf → Saf) (s : State) : Keeps s (setSaf f s) := ⟨rfl, id⟩

theorem keeps_setPq (s : State) (q : Pq) : Keeps s (setPq s q) := ⟨rfl, id⟩

theorem keeps_commitDue (k : CommitKind) (s : State) : Keeps s (commitDue k s) := ⟨rfl, id⟩

/-! ### The safety logic -/

theorem keeps_prunFollow (s : State) : Keeps s (prunFollow s) := by
  unfold prunFollow
  dsimp only
  split
  · exact Keeps.refl s
  · exact ⟨rfl, id⟩

theorem keeps_armAnew (c : Bool) (s : State) : Keeps s (armAnew c s) := by
  unfold armAnew
  dsimp only
  split
  · exact keeps_setSaf _ s
  · exact Keeps.refl s

theorem keeps_clearRequests (s : State) : Keeps s (clearRequests s) := by
  have hfac : ∀ x, Keeps s { s with fac := x } := fun _ => ⟨rfl, id⟩
  exact (hfac _).trans (keeps_emitAll _ _)

theorem keeps_dangers (df : List (Nat × Nat)) (s : State) : Keeps s (dangers df s) :=
  keeps_foldl df _ (fun a _ => (keeps_setSaf _ a).trans (keeps_emit _ _)) s

theorem keeps_raiseCauses (cs : List (Nat × Nat)) (s : State) : Keeps s (raiseCauses cs s) := by
  rcases raiseCauses_cases cs s with h | ⟨g, c, df, h⟩ | ⟨g, c, df, e, h⟩
  · rw [h]; exact Keeps.refl s
  · rw [h]
    exact (keeps_armAnew c s).trans ((keeps_setSaf g _).trans (keeps_dangers df _))
  · rw [h]
    have hin := (keeps_armAnew c s).trans ((keeps_setSaf g _).trans ((keeps_emit e _).trans (keeps_dangers df _)))
    exact hin.trans ((keeps_clearRequests _).trans ((keeps_prunFollow _).trans (keeps_commitDue _ _)))

theorem keeps_diagFails (b d : Nat) (s : State) : Keeps s (diagFails b d s) := (keeps_setSaf _ s).trans (keeps_raiseCauses _ _)

theorem keeps_safToken (t : TokenIn) (bad : Bool) (s : State) : Keeps s (safToken t bad s) := by
  unfold safToken
  extract_lets s1
  have h1 : Keeps s s1 := keeps_setSaf _ s
  split
  · exact Keeps.refl s
  · split
    · exact h1.trans (keeps_setSaf _ s1)
    · split
      · exact h1.trans ((keeps_setSaf _ s1).trans (keeps_diagFails _ _ _))
      · exact h1.trans (keeps_setSaf _ s1)

theorem keeps_safeExit (w : Option Nat) (s : State) : Keeps s (safeExit w s) :=
  (keeps_setSaf _ s).trans ((keeps_prunFollow _).trans ((keeps_emit _ _).trans (keeps_commitDue _ _)))

theorem keeps_clearCauses (s : State) : Keeps s (clearCauses s) := by
  unfold clearCauses autoExit
  split
  · exact (keeps_setSaf _ s).trans (keeps_safeExit none _)
  · exact keeps_setSaf _ s

theorem keeps_safClose (r : RoundIn) (mis : List Nat) (df : List (Nat × Nat)) (s : State) : Keeps s (safClose r mis df s) := by
  unfold safClose
  extract_lets cs s1
  have h1 : Keeps s s1 := (keeps_setSaf _ s).trans ((keeps_raiseCauses cs _).trans (keeps_safToken _ _ _))
  exact h1.trans ((keeps_setSaf _ s1).trans (keeps_clearCauses _))

/-! ### Supply events, commits, the first data -/

theorem keeps_endSupply (t j a : Nat) (x y : Bool) (s : State) : Keeps s (endSupply t j a x y s) := by
  unfold endSupply
  extract_lets e ms q s1
  have h1 : Keeps s s1 := keeps_setPq s _
  split
  · split
    · exact h1
    · exact h1.trans (keeps_emit _ s1)
  · exact Keeps.refl s

theorem keeps_truncateSupply (s : State) : Keeps s (truncateSupply s) := keeps_foldl _ _ (fun a _ => keeps_endSupply _ _ _ _ _ a) s

theorem keeps_periodRound (c : Bool) (s : State) : Keeps s (periodRound c s) := by
  have hsto : ∀ a, Keeps s (setSto (fun t => { t with periodAt := a }) s) := fun _ => ⟨rfl, id⟩
  unfold periodRound
  split
  · exact Keeps.refl s
  · split
    · split
      · exact keeps_commitDue _ s
      · exact Keeps.refl s
    · split
      · exact (hsto s.aon).trans (keeps_commitDue _ _)
      · exact Keeps.refl s

theorem keeps_queueCommit (k : CommitKind) (s : State) : Keeps s (queueCommit k s) := ⟨rfl, id⟩

theorem keeps_commitRound (s : State) : Keeps s (commitRound s) := by
  unfold commitRound
  split
  · exact Keeps.refl s
  · extract_lets ok
    split
    · exact keeps_queueCommit _ s
    · exact Keeps.refl s

theorem keeps_pqConfigTakes (s : State) : Keeps s (pqConfigTakes s) := by
  unfold pqConfigTakes
  dsimp only
  split
  · exact (keeps_truncateSupply s).trans (keeps_setPq _ _)
  · exact Keeps.refl s

theorem keeps_firstData (s : State) : Keeps s (firstData s) := by
  unfold firstData
  split
  · exact ⟨rfl, id⟩
  · exact Keeps.refl s

/-! ### The wheel's state -/

theorem view_leaveRunning (s : State) : view (leaveRunning s) = { view s with state := .burst } ∧ (Quiet s → Quiet (leaveRunning s)) := by
  have hburst : ∀ t : State, view (setWhl (fun w => { w with state := .burst }) t) = { view t with state := .burst } ∧
      (Quiet t → Quiet (setWhl (fun w => { w with state := .burst }) t)) := fun _ => ⟨rfl, id⟩
  obtain ⟨hview, hquiet⟩ := hburst (truncateSupply s)
  have htrunc := keeps_truncateSupply s
  refine ⟨?_, fun hq => ?_⟩
  · rw [leaveRunning, view_commitDue, view_setSaf, hview, htrunc.view]
  · exact (keeps_commitDue _ _).quiet ((keeps_setSaf _ _).quiet (hquiet (htrunc.quiet hq)))

/-- The wheel's state may change, and with it channels start; a RUNNING wheel starts none. -/
theorem wheelStep_form (b : Bool) (s : State) : ∃ st ch, view (wheelStep b s) = { view s with state := st, chans := ch } ∧
    (s.whl.state = .running → ch = (view s).chans) ∧ (Quiet s → Quiet (wheelStep b s)) := by
  have hpwc : ∀ (t : State) c m, view { t with pwc := { t.pwc with clk := c, mode := m } } = view t ∧
      (Quiet t → Quiet { t with pwc := { t.pwc with clk := c, mode := m } }) := fun _ _ _ => ⟨rfl, id⟩
  obtain ⟨hleave, hquiet⟩ := view_leaveRunning s
  unfold wheelStep
  split
  · exact ⟨.burst, (view s).chans, (hpwc _ _ _).1.trans hleave, fun _ => rfl, fun hq => (hpwc _ _ _).2 (hquiet hq)⟩
  · split
    · next h =>
      have hno : s.whl.state ≠ .running := by rw [h.1]; exact WheelState.noConfusion
      unfold enterRunning
      split
      · exact ⟨.running, _, rfl, fun hr => absurd hr hno, id⟩
      · exact ⟨.burst, (view s).chans, rfl, fun hr => absurd hr hno, id⟩
    · exact ⟨s.whl.state, (view s).chans, rfl, fun _ => rfl, id⟩

theorem quiet_publishBank (s : State) : Quiet (publishBank s) := by
  have hq : Quiet { s with pub := none, sto := { s.sto with evHold := false, evq := [] } } := ⟨rfl, rfl, rfl⟩
  exact (keeps_emitAll _ _).quiet hq

/-- HFX's end leaves the place of a wheel that is at sector 0 of a round. -/
theorem view_hfxOff (s : State) : view (hfxOff s) = { view s with state := .stopped, sector := 0, ran := [], stop := [] } := by
  have hmode : ∀ t : State, view (evalMode t) = view t := fun _ => rfl
  rw [hfxOff_eq, hmode, view_publishBank]
  rfl

end Sys2Proof.Proofs
end

section
/-! PROOFS. The round close as a whole (R114, R119 to R121, R169, R170). -/

namespace Sys2Proof.Proofs

open Sys2Proof Sys2Proof.Machine Sys2Proof.Safety Sys2Proof.Laws

/-! ### Disagreements -/

theorem view_shadowMismatch (m : Nat × Nat) (s : State) : view (shadowMismatch m s) = { view s with shadow := satInc s.whl.shadow } := by
  unfold shadowMismatch
  extract_lets ack
  rw [view_emit, view_markDf]
  rfl

theorem repeat_succ {α : Type} (f : α → α) (n : Nat) (a : α) : Nat.repeat f (n + 1) a = Nat.repeat f n (f a) := by
  induction n with
  | zero => rfl
  | succ n ih => exact congrArg f ih

theorem view_mismatches (l : List (Nat × Nat)) (s : State) : view (l.foldl (fun a m => shadowMismatch m a) s) =
    { view s with shadow := Nat.repeat satInc l.length s.whl.shadow } := by
  induction l generalizing s with
  | nil => rfl
  | cons m ms ih =>
    have hsh : (shadowMismatch m s).whl.shadow = satInc s.whl.shadow := congrArg RoundView.shadow (view_shadowMismatch m s)
    rw [List.foldl_cons, ih, view_shadowMismatch, hsh, List.length_cons, repeat_succ]

/-- The disagreements of a close (R114). -/
def mismatches (s : State) : List (Nat × Nat) := (safInsts s).filterMap fun x => (disagrees s x.1 x.2).map fun n => (x.2.code, n)

theorem mismatches_length (s : State) : (mismatches s).length ≤ (safInsts s).length := List.length_filterMap_le _ _

/-- A missing shadow run disagrees while the wheel is RUNNING (R113). -/
theorem mismatches_pos {s : State} (hr : s.whl.state = .running) (h : ∃ x ∈ safInsts s, s.whl.ran.contains (x.1, true) = false) :
    0 < (mismatches s).length := by
  obtain ⟨x, hx, hran⟩ := h
  have hspend : spends s x.2 = true := by simp [spends, hr]
  obtain ⟨n, hn⟩ : ∃ n, disagrees s x.1 x.2 = some n := by
    unfold disagrees
    extract_lets old
    rw [hspend, hran, Bool.not_true, if_neg Bool.false_ne_true, if_neg Bool.false_ne_true]
    exact ⟨_, rfl⟩
  have hmem : (x.2.code, n) ∈ mismatches s := List.mem_filterMap.mpr ⟨x, hx, by rw [hn]; rfl⟩
  exact List.length_pos_of_mem hmem

theorem safInsts_of_str {s t : State} (h : t.str = s.str) : safInsts t = safInsts s := by rw [safInsts, safInsts, h]

theorem instAt_of_str {s t : State} (h : t.str = s.str) (j : Nat) : instAt t j = instAt s j := by rw [instAt, instAt, h]

theorem setDefined_of_str {s t : State} (h : t.str = s.str) (k : Nat) : setDefined t k = setDefined s k := by
  rw [setDefined, setDefined, accDefOf, accDefOf, h]

/-! ### The stages -/

/-- Units that measure still do where their channels do. -/
theorem pending_of_chans {v : RoundView} {ch : Vector Mgmt 8} {u : Nat} (hoff : v.mgmt u ≠ .off) (hf : v.mgmt u ≠ .fault)
    (h : ∀ k, vget v.chans k .off ≠ .off → vget v.chans k .off ≠ .fault → vget ch k .off ≠ .off ∧ vget ch k .off ≠ .fault) :
    ({ v with chans := ch } : RoundView).Pending u (v.record u) v.aon := by
  refine ⟨rfl, ?_⟩
  by_cases hu : 1 ≤ u ∧ u ≤ 8
  · rw [RoundView.mgmt, if_pos hu] at hoff hf
    obtain ⟨h1, h2⟩ := h (u - 1) hoff hf
    refine ⟨?_, ?_, rfl⟩
    · rw [RoundView.mgmt, if_pos hu]; exact h1
    · rw [RoundView.mgmt, if_pos hu]; exact h2
  · have hsame : ({ v with chans := ch } : RoundView).mgmt u = v.mgmt u := by
      rw [RoundView.mgmt, RoundView.mgmt, if_neg hu, if_neg hu]
    exact ⟨by rw [hsame]; exact hoff, by rw [hsame]; exact hf, rfl⟩

/-- The channels' round, or what MOD's stop leaves of the channels. -/
def roundOpen (s : State) : State := if decide (s.whl.state = .running) then metRound s else if modPending s then modGone s else s

theorem view_roundOpen (s : State) : ∃ ch, view (roundOpen s) = { view s with chans := ch } ∧ (s.whl.state = .running →
    ∀ k, vget (view s).chans k .off ≠ .off → vget (view s).chans k .off ≠ .fault → vget ch k .off ≠ .off ∧ vget ch k .off ≠ .fault) := by
  by_cases hr : s.whl.state = .running
  · obtain ⟨ch, hv, hch⟩ := view_metRound s
    exact ⟨ch, by rw [roundOpen, if_pos (decide_eq_true hr), hv], fun _ => hch⟩
  · rw [roundOpen, if_neg (by simpa using hr)]
    split
    · obtain ⟨ch, hv⟩ := view_modGone s
      exact ⟨ch, hv, fun h => absurd h hr⟩
    · exact ⟨(view s).chans, rfl, fun h => absurd h hr⟩

/-- The bank is published at the round's end, with the wheel at sector 0 of the next round (R121). -/
def roundPublished (s : State) (now : Nat) (sig : Bool) : State :=
  publishBank (maximaRound (highRound (setWhl (fun w => { w with
    rounds := (w.rounds + 1) % 2 ^ 32, sector := 0, dfSignal := sig, df := [], ran := [], stop := [], wrong := [], closedAt := now })
    { s with nrg := { s.nrg with eng := s.nrg.eng + 1 } })))

theorem view_roundPublished (s : State) (now : Nat) (sig : Bool) : view (roundPublished s now sig) = { view s with
    rounds := (s.whl.rounds + 1) % 2 ^ 32, sector := 0, ran := [], stop := [], closedAt := now } := by
  have hmax : ∀ t : State, view (maximaRound t) = view t := fun _ => rfl
  have hhigh : ∀ t : State, view (highRound t) = view t := fun _ => rfl
  rw [roundPublished, view_publishBank, hmax, hhigh]
  rfl

/-- What a round close leaves: `v` is the view with its units forced. -/
structure RoundClosed (s t : State) (v : RoundView) : Prop where
  quiet : Quiet t
  rest : ∃ n, n ≤ (safInsts s).length ∧
    (s.whl.state = .running → (∃ x ∈ safInsts s, s.whl.ran.contains (x.1, true) = false) → 0 < n) ∧
    v.rest = { (view s).rest with shadow := Nat.repeat satInc n s.whl.shadow }
  noted : s.whl.state = .running → ∀ (j : Nat) (x : InstRec) (u : Nat), j ∈ s.whl.stop → instAt s j = some x → u ∈ unitsOf x →
    unitMgmt s u ≠ .off → unitMgmt s u ≠ .fault → v.Noted u (faultRec s u) s.aon
  after : ∃ st ch g, view t = { v with
    state := st, chans := ch, sets := g, rounds := (s.whl.rounds + 1) % 2 ^ 32, sector := 0, ran := [], stop := [], closedAt := s.aon } ∧
    (s.whl.state = .running → ch = v.chans) ∧ SetsStep (setDefined s) (decide (s.whl.state = .running)) (view s).sets g

/-- The units are forced with the disagreements counted (R108, R114, R119). -/
theorem closeForced (r : RoundIn) {s k : State} {ch : Vector Mgmt 8} (hk : view k = { view s with chans := ch })
    (hch : s.whl.state = .running → ∀ n, vget (view s).chans n .off ≠ .off → vget (view s).chans n .off ≠ .fault →
      vget ch n .off ≠ .off ∧ vget ch n .off ≠ .fault) {lost : List Nat} (hl : ∀ n ∈ lost, n < 8) :
    let v := view (forceAll r lost ((mismatches k).foldl (fun a m => shadowMismatch m a) k))
    v.rest = { (view s).rest with shadow := Nat.repeat satInc (mismatches k).length s.whl.shadow } ∧
      (s.whl.state = .running → ∀ (j : Nat) (x : InstRec) (u : Nat), j ∈ s.whl.stop → instAt s j = some x → u ∈ unitsOf x →
        unitMgmt s u ≠ .off → unitMgmt s u ≠ .fault → v.Noted u (faultRec s u) s.aon) := by
  intro v
  have hshadow : k.whl.shadow = s.whl.shadow := congrArg RoundView.shadow hk
  have hcount := view_mismatches (mismatches k) k
  rw [hk, hshadow] at hcount
  constructor
  · have hrest := rest_forceAll r hl ((mismatches k).foldl (fun a m => shadowMismatch m a) k)
    rw [hcount] at hrest
    exact hrest
  · intro hr j x u hj hx hu hoff hf
    have hstop : (List.foldl (fun a m => shadowMismatch m a) k (mismatches k)).whl.stop = s.whl.stop := congrArg RoundView.stop hcount
    have hstr : (List.foldl (fun a m => shadowMismatch m a) k (mismatches k)).str = s.str := congrArg RoundView.str hcount
    refine forceAll_noted hl (mem_stoppedUnits (hstop ▸ hj) ((instAt_of_str hstr j).trans hx) hu) ?_
    rw [← mgmt_view] at hoff hf
    have hp := pending_of_chans hoff hf (hch hr)
    rw [hcount]
    exact hp

/-- What follows the published bank: the safety functions' decisions, the wheel's state, the commits (R121, R344 to R348, R385). -/
theorem closeEnd (b c : Bool) {s : State} (hq : Quiet s) : ∃ st ch,
    view (pqConfigTakes (commitRound (periodRound c (wheelStep b s)))) = { view s with state := st, chans := ch } ∧
    (s.whl.state = .running → ch = (view s).chans) ∧ Quiet (pqConfigTakes (commitRound (periodRound c (wheelStep b s)))) := by
  obtain ⟨st, ch, hv, hch, hquiet⟩ := wheelStep_form b s
  have hk := ((keeps_periodRound c (wheelStep b s)).trans (keeps_commitRound _)).trans (keeps_pqConfigTakes _)
  exact ⟨st, ch, hk.view.trans hv, hch, hk.quiet (hquiet hq)⟩

theorem RoundClosed.takeCfg {s t : State} {v : RoundView} (h : RoundClosed s t v) : RoundClosed s { t with cfgR := t.cfg } v :=
  ⟨h.quiet, h.rest, h.noted, h.after⟩

theorem roundClosed_roundClose (r : RoundIn) {s : State} (hw : s.whl.state ≠ .stopped) (hn : s.whl.sector = 64) :
    ∃ v, RoundClosed s (roundClose r s) v ∧ (roundClose r s).cfgR = (roundClose r s).cfg := by
  have hgo : ¬(s.whl.state = .stopped ∨ s.whl.sector < 64) := by rw [hn]; simpa using hw
  rw [roundClose, if_neg hgo]
  extract_lets run code s0 us lost k mis s1 s2 df nrg3 s3 supply first s4 s5 s6 s7
  obtain ⟨ch0, hv0, hch0⟩ := view_roundOpen s
  have hk : view k.1 = { view s with chans := ch0 } := by
    have hs0 : view k.1 = view s0 := by
      simp only [k]
      split
      · exact (view_kernelRound code _).trans (view_invalidate us s0)
      · rfl
    exact hs0.trans hv0
  have hstrk : k.1.str = s.str := (congrArg RoundView.str hk :)
  have hstatek : k.1.whl.state = s.whl.state := (congrArg RoundView.state hk :)
  have hrank : k.1.whl.ran = s.whl.ran := (congrArg RoundView.ran hk :)
  have hlost : ∀ n ∈ lost, n < 8 := fun n h => List.mem_range.mp (List.mem_filter.mp h).1
  obtain ⟨hrest, hnoted⟩ := closeForced r hk hch0 hlost
  change (view s1).rest = _ at hrest
  change _ → ∀ (j : Nat) (x : InstRec) (u : Nat), _ → _ → _ → _ → _ → (view s1).Noted u _ _ at hnoted
  obtain ⟨g, hv2, hg⟩ := view_applyIncrements run us s1
  have hstr1 : s1.str = s.str := (congrArg RoundView.str hrest :)
  have hstate1 : s1.whl.state = s.whl.state := (congrArg RoundView.state hrest :)
  have hrounds1 : s1.whl.rounds = s.whl.rounds := (congrArg RoundView.rounds hrest :)
  have hsets1 : (view s1).sets = (view s).sets := (congrArg RoundView.sets hrest :)
  have hg' : SetsStep (setDefined s) run (view s).sets g := by
    have hd : setDefined s1 = setDefined s := funext fun n => setDefined_of_str hstr1 n
    rw [hd, hsets1] at hg
    exact hg
  have hrounds2 : s2.whl.rounds = s.whl.rounds := (congrArg RoundView.rounds hv2 :).trans hrounds1
  have hv3 := view_roundPublished s2 s.aon (!df.isEmpty)
  change view s3 = _ at hv3
  rw [hv2, hrounds2] at hv3
  have hq3 : Quiet s3 := quiet_publishBank _
  have h5 : Keeps s3 s5 := by
    have h4 : Keeps s3 s4 := keeps_safClose _ _ _ _
    simp only [s5]
    split
    · exact h4.trans (keeps_setSaf _ _)
    · exact h4
  obtain ⟨st, ch, hv7, hch7, hq7⟩ := closeEnd supply k.2 (h5.quiet hq3)
  have hstate5 : s5.whl.state = s.whl.state := ((congrArg RoundView.state h5.view :).trans (congrArg RoundView.state hv3 :)).trans hstate1
  have hchans5 : (view s5).chans = (view s1).chans := (congrArg RoundView.chans h5.view :).trans (congrArg RoundView.chans hv3 :)
  have hle : (mismatches k.1).length ≤ (safInsts s).length := by
    rw [← safInsts_of_str hstrk]
    exact mismatches_length k.1
  have hpos : s.whl.state = .running → (∃ x ∈ safInsts s, s.whl.ran.contains (x.1, true) = false) → 0 < (mismatches k.1).length := by
    rintro hr ⟨x, hx, hran⟩
    exact mismatches_pos (hstatek.trans hr) ⟨x, by rw [safInsts_of_str hstrk]; exact hx, by rw [hrank]; exact hran⟩
  rw [h5.view, hv3] at hv7
  have hclosed : RoundClosed s s7 (view s1) :=
    ⟨hq7, ⟨_, hle, hpos, hrest⟩, hnoted, st, ch, g, hv7, fun hr => (hch7 (hstate5.trans hr)).trans hchans5, hg'⟩
  exact ⟨view s1, hclosed.takeCfg, rfl⟩

end Sys2Proof.Proofs
end

section
/-! PROOFS. What the round close's event leaves, and the statement (R108, R114, R119 to R121, R169, R170). -/

namespace Sys2Proof.Proofs

open Sys2Proof Sys2Proof.Machine Sys2Proof.Safety Sys2Proof.Laws

/-! ### What follows the close -/

theorem firstData_eq (s : State) : firstData s = { s with pwc := (firstData s).pwc } := by
  unfold firstData
  split
  · rfl
  · rfl

theorem firstData_cfgR (s : State) : (firstData s).cfgR = s.cfgR := (congrArg State.cfgR (firstData_eq s) :)

theorem keeps_hfxStart (s : State) : Keeps s (hfxStart s) := by
  cases h : s.pwc.clk.hfx
  · rw [hfxStart_off h]
    exact ⟨rfl, id⟩
  · rw [hfxStart_running h]
    exact Keeps.refl s

theorem keeps_react (b s : State) : Keeps s (react b s) := by
  have hrole : Keeps s (roleCommit b s) := by
    unfold roleCommit
    split
    · exact keeps_commitDue _ _
    · exact Keeps.refl s
  rcases demandWake_cases (roleCommit b s) with h | h
  · rw [react, h]; exact hrole
  · rw [react, h]; exact hrole.trans (keeps_hfxStart _)

theorem react_cfgR (b s : State) : (react b s).cfgR = s.cfgR := (congrArg State.cfgR (react_eq b s) :)

theorem powerSettle_cfgR (s : State) : (powerSettle s).cfgR = s.cfgR := by
  unfold powerSettle
  split
  · exact part_of (eventsAside_hfxOff s s) State.cfgR fun _ => rfl
  · rfl

/-- A RUNNING wheel's domains do not stop (R408). -/
theorem powerSettle_running {s : State} (h : s.whl.state = .running) : powerSettle s = s := if_neg (by simp [h])

/-- At a round's start the end of HFX leaves all but the wheel's state. -/
theorem view_powerSettle {s : State} (h0 : s.whl.sector = 0) (hran : s.whl.ran = []) (hstop : s.whl.stop = []) :
    ∃ st, view (powerSettle s) = { view s with state := st } ∧ (Quiet s → Quiet (powerSettle s)) := by
  unfold powerSettle
  split
  · refine ⟨.stopped, ?_, fun _ => ?_⟩
    · rw [view_hfxOff, ← h0, ← hran, ← hstop]
      rfl
    · rw [hfxOff_eq]
      exact quiet_publishBank _
  · exact ⟨s.whl.state, rfl, id⟩

/-- The event of a round close after the last sector. -/
theorem roundClosed_event (r : RoundIn) {s : State} (hw : s.whl.state ≠ .stopped) (hn : s.whl.sector = 64) :
    ∃ v, RoundClosed s (react s (powerSettle (firstData (roundClose r s)))) v ∧
      (react s (powerSettle (firstData (roundClose r s)))).cfgR = (react s (powerSettle (firstData (roundClose r s)))).cfg := by
  obtain ⟨v, hv, hcfg⟩ := roundClosed_roundClose r hw hn
  generalize roundClose r s = c at hv hcfg
  have hf := keeps_firstData c
  obtain ⟨st, ch, g, hview, hch, hg⟩ := hv.after
  have hfirst := hf.view.trans hview
  obtain ⟨st', hp, hq⟩ := view_powerSettle (s := firstData c) (congrArg RoundView.sector hfirst :) (congrArg RoundView.ran hfirst :)
    (congrArg RoundView.stop hfirst :)
  have hr := keeps_react s (powerSettle (firstData c))
  have hall := hr.view.trans hp
  rw [hfirst] at hall
  refine ⟨v, ⟨hr.quiet (hq (hf.quiet hv.quiet)), hv.rest, hv.noted, st', ch, g, hall, hch, hg⟩, ?_⟩
  have hcfgAll : (react s (powerSettle (firstData c))).cfg = c.cfg := (congrArg RoundView.cfg hall :).trans (congrArg RoundView.cfg hview :).symm
  rw [react_cfgR, powerSettle_cfgR, firstData_cfgR, hcfgAll]
  exact hcfg

/-! ### What the view says of the state -/

/-- The parts of the view that a round close keeps. -/
def RoundView.kept (v : RoundView) := (v.cfg, v.str, v.img, v.sec, v.port, v.areas, v.mem, v.aon, v.rtc)

/-- What a round close keeps. -/
theorem RoundClosed.keeps {s t : State} {v : RoundView} (h : RoundClosed s t v) : t.cfg = s.cfg ∧ t.str = s.str ∧ t.img = s.img ∧
    t.sec = s.sec ∧ t.port = s.port ∧ t.sto.areas = s.sto.areas ∧ t.dsp.mem = s.dsp.mem ∧ t.aon = s.aon ∧ t.pwc.rtc = s.pwc.rtc := by
  obtain ⟨st, ch, g, hv, -, -⟩ := h.after
  obtain ⟨n, -, -, hr⟩ := h.rest
  have hforced : v.kept = (view s).kept := (congrArg RoundView.kept hr :)
  have hkept : (view t).kept = (view s).kept := (congrArg RoundView.kept hv :).trans hforced
  simpa [RoundView.kept, view] using hkept

/-- The wheel stands at sector 0 of the next round. -/
theorem RoundClosed.place {s t : State} {v : RoundView} (h : RoundClosed s t v) : t.whl.rounds = (s.whl.rounds + 1) % 2 ^ 32 ∧
    t.whl.sector = 0 ∧ t.whl.closedAt = s.aon ∧ t.whl.ran = [] ∧ t.whl.stop = [] := by
  obtain ⟨st, ch, g, hv, -, -⟩ := h.after
  exact ⟨(congrArg RoundView.rounds hv :), (congrArg RoundView.sector hv :), (congrArg RoundView.closedAt hv :),
    (congrArg RoundView.ran hv :), (congrArg RoundView.stop hv :)⟩

/-- Each safety kernel adds at most one disagreement, and a missing shadow run adds one (R113, R114). -/
theorem RoundClosed.shadow {s t : State} {v : RoundView} (h : RoundClosed s t v) : ∃ n, n ≤ (safInsts s).length ∧
    t.whl.shadow = Nat.repeat satInc n s.whl.shadow ∧
    (s.whl.state = .running → (∃ x ∈ safInsts s, s.whl.ran.contains (x.1, true) = false) → 0 < n) := by
  obtain ⟨st, ch, g, hv, -, -⟩ := h.after
  obtain ⟨n, hle, hpos, hr⟩ := h.rest
  have hshadow : t.whl.shadow = v.shadow := (congrArg RoundView.shadow hv :)
  exact ⟨n, hle, hshadow.trans (congrArg RoundView.shadow hr :), hpos⟩

/-- The units of a stopped kernel are in FAULT, their faults noted (R108, R119). -/
theorem RoundClosed.units {s t : State} {v : RoundView} (h : RoundClosed s t v) (hrun : s.whl.state = .running) {j u : Nat} {x : InstRec}
    (hj : j ∈ s.whl.stop) (hx : instAt s j = some x) (hu : u ∈ unitsOf x) (hoff : unitMgmt s u ≠ .off) (hf : unitMgmt s u ≠ .fault) :
    unitMgmt t u = .fault ∧ faultRec t u = noteFault (faultRec s u) s.aon := by
  obtain ⟨st, ch, g, hv, hch, -⟩ := h.after
  obtain ⟨-, hfault, hrec⟩ := h.noted hrun j x u hj hx hu hoff hf
  have hmgmt : (view t).mgmt u = v.mgmt u := by rw [hv, hch hrun]; rfl
  have hrecord : (view t).record u = v.record u := by rw [hv]; rfl
  rw [← mgmt_view, ← record_view, hmgmt, hrecord]
  exact ⟨hfault, hrec⟩

theorem RoundClosed.sets {s t : State} {v : RoundView} (h : RoundClosed s t v) :
    SetsStep (setDefined s) (decide (s.whl.state = .running)) (view s).sets (view t).sets := by
  obtain ⟨st, ch, g, hv, -, hg⟩ := h.after
  rw [hv]
  exact hg

/-- An energy set's own values do not fall, whatever the close does with it (R168 to R170). -/
theorem RoundClosed.acc {s t : State} {v : RoundView} (h : RoundClosed s t v) (k a : Nat) :
    (vget (enSet s k).acc a 0 < 2 ^ 128 → vget (enSet s k).acc a 0 ≤ vget (enSet t k).acc a 0) ∧
      vget (enSet t k).acc a 0 ≤ max (vget (enSet s k).acc a 0) (2 ^ 128 - 1) := by
  have hsame : energyOf (enSet t k) = energyOf (enSet s k) → (vget (enSet s k).acc a 0 < 2 ^ 128 →
      vget (enSet s k).acc a 0 ≤ vget (enSet t k).acc a 0) ∧
      vget (enSet t k).acc a 0 ≤ max (vget (enSet s k).acc a 0) (2 ^ 128 - 1) := fun he => by
    have hacc : (enSet t k).acc = (enSet s k).acc := congrArg Prod.fst he
    rw [hacc]
    exact ⟨fun _ => Nat.le_refl _, Nat.le_max_left _ _⟩
  obtain ⟨hstep, hkept, hout⟩ := h.sets k
  rw [← energyOf_enSet, ← energyOf_enSet] at hstep hkept hout
  by_cases hk : k < 8
  · by_cases hd : decide (s.whl.state = .running) = true ∧ setDefined s k = true
    · exact energyStep_acc (hstep hk hd.1 hd.2) a
    · rw [not_and_or, Bool.not_eq_true, Bool.not_eq_true] at hd
      exact hsame (hkept hd)
  · exact hsame (hout hk)

/-- A defined set of a round with metering takes its increments or discards the round (R170). -/
theorem RoundClosed.discard {s t : State} {v : RoundView} (h : RoundClosed s t v) {k : Nat} (hk : k < 8) (hrun : s.whl.state = .running)
    (hd : setDefined s k = true) :
    ((enSet t k).discarding = true → (enSet t k).acc = (enSet s k).acc ∧ (enSet t k).disc = satInc (enSet s k).disc) ∧
      ((enSet t k).discarding = false → (enSet t k).disc = (enSet s k).disc) := by
  have hstep := (h.sets k).1 hk (decide_eq_true hrun) hd
  rw [← energyOf_enSet, ← energyOf_enSet] at hstep
  rcases hstep with ⟨hdisc, hacc, hcount⟩ | ⟨hdisc, hcount, -⟩
  · exact ⟨fun _ => ⟨hacc, hcount⟩, fun hf => absurd (hdisc.symm.trans hf) (Bool.noConfusion)⟩
  · exact ⟨fun hf => absurd (hf.symm.trans hdisc) (Bool.noConfusion), fun _ => hcount⟩

/-- Without metering, or for a set that no structure defines, nothing accumulates. -/
theorem RoundClosed.idle {s t : State} {v : RoundView} (h : RoundClosed s t v) {k : Nat}
    (hk : s.whl.state = .burst ∨ setDefined s k = false) : (enSet t k).acc = (enSet s k).acc := by
  have hkept := (h.sets k).2.1 (hk.imp_left fun hb => by rw [hb]; rfl)
  rw [← energyOf_enSet, ← energyOf_enSet] at hkept
  exact congrArg Prod.fst hkept

/-! ### A close before its time -/

theorem roundClose_early {s : State} (h : s.whl.sector < 64) (r : RoundIn) : roundClose r s = s := if_pos (.inr h)

/-- Before the 64th sector only the power manager and the store can change. -/
theorem roundEvent_early (r : RoundIn) {s : State} (hw : s.whl.state = .running) (hn : s.whl.sector < 64) :
    react s (powerSettle (firstData (roundClose r s))) = { s with
      sto := (react s (firstData s)).sto, pwc := (react s (firstData s)).pwc } := by
  have hstate : (firstData s).whl.state = .running := by rw [firstData_eq]; exact hw
  rw [roundClose_early hn, powerSettle_running hstate]
  refine (react_eq s (firstData s)).trans ?_
  have hset : ∀ t : State, t = { s with pwc := t.pwc } → ∀ x y, { t with sto := x, pwc := y } = { s with sto := x, pwc := y } := by
    intro t ht x y
    rw [ht]
  exact hset _ (firstData_eq s) _ _

theorem exec_roundClose_on (r : RoundIn) {s : State} (h : engOn s = true) :
    exec (.roundClose r) s = .next (react s (powerSettle (firstData (roundClose r s)))) := by
  show execRoundClose r s = _
  rw [execRoundClose, event, if_pos h]

/-- Settles O46: a round close is followed in a view of the state that most of its operations keep; what they change of it is the
units they force, the energy sets and the wheel's place. -/
theorem roundsClose : Obligations.RoundsClose := by
  unfold Obligations.RoundsClose
  refine ⟨fun r s he hw hn => ?_, fun r s he hw hn => ?_⟩
  · obtain ⟨v, h, hcfgR⟩ := roundClosed_event r hw hn
    obtain ⟨hrounds, hsector, hclosed, hran, hstop⟩ := h.place
    obtain ⟨hcfg, hrest⟩ := h.keeps
    obtain ⟨-, hevq, hpub⟩ := h.quiet
    exact ⟨_, exec_roundClose_on r he, hrounds, hsector, hclosed, hran, hstop, hpub, hevq, hcfgR.trans hcfg, hcfg, h.shadow,
      fun hrun j x u hj hx hu hoff hf => h.units hrun hj hx hu hoff hf, h.acc, fun k hk hrun hd => h.discard hk hrun hd,
      fun k hk => h.idle hk, hrest⟩
  · have hearly := roundEvent_early r hw hn
    exact ⟨_, exec_roundClose_on r he, (congrArg State.whl hearly :), (congrArg State.nrg hearly :), (congrArg State.met hearly :),
      (congrArg State.cfgR hearly :), (congrArg State.pub hearly :), (congrArg State.saf hearly :)⟩

end Sys2Proof.Proofs
end

section
/-! PROOFS. The pilot second: the averages of a full channel and their judgement, and what else the second changes (R134, R140, R143 to
R146, R148). -/

namespace Sys2Proof.Proofs

open Sys2Proof Sys2Proof.Machine Sys2Proof.Safety Sys2Proof.Laws

/-! ### The judgement of one channel -/

/-- The clamp of 0.2 % and 1 µs, in the channel's own averages (R146). -/
theorem withinClamp_iff (c : ChanSt) : withinClamp c (1 / 500) (1 / 1000000) = true ↔
    -1 / 500 ≤ c.avgG ∧ c.avgG ≤ 1 / 500 ∧ -1 / 1000000 ≤ c.avgD ∧ c.avgD ≤ 1 / 1000000 := by
  simp only [withinClamp, Bool.and_eq_true, decide_eq_true_eq, and_assoc, neg_div]

/-- The judgement leaves the averages and the sums. -/
theorem chanJudge_sums (c : ChanSt) : (chanJudge c).avgG = c.avgG ∧ (chanJudge c).avgD = c.avgD ∧ (chanJudge c).sumI = c.sumI ∧
    (chanJudge c).sumQ = c.sumQ ∧ (chanJudge c).cnt = c.cnt := by
  unfold chanJudge
  extract_lets
  split
  · split <;> and_intros <;> rfl
  · split <;> and_intros <;> rfl
  · split
    · split <;> and_intros <;> rfl
    · and_intros <;> rfl
  · and_intros <;> rfl

/-- Within the clamp a channel in STARTING or RUN is in RUN (R146, Table 4-7). -/
theorem chanJudge_within {c : ChanSt} (hs : c.state = .starting ∨ c.state = .run)
    (h : withinClamp c (1 / 500) (1 / 1000000) = true) : (chanJudge c).state = .run := by
  rcases hs with hs | hs
  · simp only [chanJudge, hs, if_pos h]
  · simp only [chanJudge, hs, if_pos h]

/-- Beyond the clamp it is in FAULT with INVALID words (R146). -/
theorem chanJudge_beyond {c : ChanSt} (hs : c.state = .starting ∨ c.state = .run)
    (h : ¬ withinClamp c (1 / 500) (1 / 1000000) = true) : (chanJudge c).state = .fault ∧ (chanJudge c).tag = .invalid := by
  rcases hs with hs | hs
  · simp only [chanJudge, hs, if_neg h, and_self]
  · simp only [chanJudge, hs, if_neg h, and_self]

/-! ### The second as a whole -/

/-- Channel k has its 8000 rounds of pilot. -/
def secondFull (s : State) (k : Nat) : Bool := routed s k && decide (8000 ≤ (chan s k).cnt)

theorem secondFull_of {s : State} {k : Nat} (hr : routed s k = true) (hn : 8000 ≤ (chan s k).cnt) : secondFull s k = true := by
  simp [secondFull, hr, hn]

theorem secondFull_not {s : State} {k : Nat} (h : routed s k = false ∨ (chan s k).cnt < 8000) : ¬ secondFull s k = true := by
  rcases h with h | h
  · simp [secondFull, h]
  · simp [secondFull, h]

/-- The phase that channel k has after the second (R144; log 84). -/
def secondPhase (s : State) (k : Nat) : Rat :=
  if secondFull s k then pilotPhase k (chan s k).sumI (chan s k).sumQ else (chan s k).phase

/-- A full channel k with its new averages, before they are judged. -/
def secondAveraged (s : State) (k : Nat) (c : ChanSt) : ChanSt :=
  chanAverage s k (secondPhase s k) ((refChan s k).map (secondPhase s)) c

/-- The channels after the second. -/
def secondChans (s : State) : Vector ChanSt 8 :=
  vmap s.met.ch fun k c => if secondFull s k then chanJudge (secondAveraged s k c) else c

/-- The auxiliary second raises an event at most, and leaves channels, die temperature and curvature. -/
theorem auxUpdate_form (s : State) : ∃ es m, auxUpdate s = emitAll es { s with met := m } ∧
    m.ch = s.met.ch ∧ m.dieTemp = s.met.dieTemp ∧ m.refCorr = s.met.refCorr := by
  unfold auxUpdate
  split
  · exact ⟨_, _, rfl, rfl, rfl, rfl⟩
  · exact ⟨[], s.met, rfl, rfl, rfl, rfl⟩

/-- The channels are judged, and the die temperature is taken with its curvature (R140, R143 to R146). -/
def secondTaken (die : Int) (s : State) : State :=
  { s with met := { s.met with ch := secondChans s, dieTemp := die, refCorr := curvatureAt die } }

theorem markDf_form (b : Bool) (q : Nat × Nat) (s : State) : ∃ d, markDf b q s = { s with whl := { s.whl with df := d } } := by
  unfold markDf
  split
  · exact ⟨_, rfl⟩
  · exact ⟨_, rfl⟩

/-- After the channels come the dangerous-failure signal, the events of those that fell, and the auxiliary second. -/
theorem pilotSecond_eq (die : Int) (s : State) : ∃ b q es,
    pilotSecond die s = auxUpdate (emitAll es (markDf b q (secondTaken die s))) := ⟨_, _, _, rfl⟩

/-- Nothing but events, the metering inputs and the dangerous-failure signal follows a pilot second. -/
theorem pilotSecond_form (die : Int) (s : State) : ∃ m d,
    eventsAside s (pilotSecond die s) = { s with met := m, whl := { s.whl with df := d } } ∧
    m.ch = secondChans s ∧ m.dieTemp = die ∧ m.refCorr = curvatureAt die := by
  obtain ⟨b, q, es, hsecond⟩ := pilotSecond_eq die s
  obtain ⟨d, hd⟩ := markDf_form b q (secondTaken die s)
  obtain ⟨es', m, haux, hch, hdie, href⟩ := auxUpdate_form (emitAll es (markDf b q (secondTaken die s)))
  have hmet : (emitAll es (markDf b q (secondTaken die s))).met = (secondTaken die s).met := by
    rw [emitAll_keeps State.met emit_met, hd]
  have hemit : eventsAside s (emitAll es (markDf b q (secondTaken die s))) =
      { secondTaken die s with whl := { s.whl with df := d } } := by
    rw [eventsAside_emitAll, hd]; rfl
  refine ⟨m, d, ?_, hch.trans (congrArg Met.ch hmet), hdie.trans (congrArg Met.dieTemp hmet), href.trans (congrArg Met.refCorr hmet)⟩
  rw [hsecond, haux, eventsAside_emitAll]
  exact congrArg (fun x : State => { x with met := m }) hemit

theorem pilotSecond_chd (die : Int) (s : State) : (pilotSecond die s).chd = s.chd := by
  obtain ⟨m, d, h, -⟩ := pilotSecond_form die s
  exact part_of h State.chd fun _ => rfl

theorem pilotSecond_pwc (die : Int) (s : State) : (pilotSecond die s).pwc = s.pwc := by
  obtain ⟨m, d, h, -⟩ := pilotSecond_form die s
  exact part_of h State.pwc fun _ => rfl

/-- The metering inputs after PILOT_UPDATE. -/
theorem pilotUpdate_met (die : Int) (s : State) : (react s (pilotSecond die s)).met.ch = secondChans s ∧
    (react s (pilotSecond die s)).met.dieTemp = die ∧ (react s (pilotSecond die s)).met.refCorr = curvatureAt die := by
  obtain ⟨m, d, hform, hmet⟩ := pilotSecond_form die s
  rw [react_met, show (pilotSecond die s).met = m from part_of hform State.met fun _ => rfl]
  exact hmet

/-- What else PILOT_UPDATE changes: events, HFX's start, and the dangerous-failure signal (R148). -/
theorem pilotUpdate_frame (die : Int) (s : State) : eventsAside s (hfxAside s (react s (pilotSecond die s))) = { s with
    met := (react s (pilotSecond die s)).met, whl := { s.whl with df := (react s (pilotSecond die s)).whl.df } } := by
  obtain ⟨m, d, hform, -⟩ := pilotSecond_form die s
  have hmet : (pilotSecond die s).met = m := part_of hform State.met fun _ => rfl
  have hdf : (pilotSecond die s).whl.df = d := part_of hform (fun x => x.whl.df) fun _ => rfl
  rw [hfxAside_react (pilotSecond_chd die s), hfxAside_of_pwc (pilotSecond_pwc die s), hform, react_met, react_whl, hmet, hdf]

theorem chan_pilotUpdate (die : Int) (s : State) {k : Nat} (hk : k < 8) : chan (react s (pilotSecond die s)) k =
    if secondFull s k then chanJudge (secondAveraged s k (chan s k)) else chan s k := by
  rw [chan, (pilotUpdate_met die s).1, secondChans, vget_vmap _ _ _ ChanSt.idle _ hk]
  rfl

theorem exec_pilotUpdate (die : Int) (s : State) : exec (.pilotUpdate die) s = .next (event (engOn s) (pilotSecond die) s) := rfl

/-- What a pilot second leaves of a channel that has averaged and been judged, against the channel before it (R143 to R146). -/
structure PilotJudged (s : State) (k : Nat) (c u : ChanSt) : Prop where
  gain : u.avgG = if c.seeded then c.avgG + (pilotAmp 8 64000 c.sumI c.sumQ / pilotBaseOf s k - 1 - c.avgG) / 16
    else pilotAmp 8 64000 c.sumI c.sumQ / pilotBaseOf s k - 1
  sums : u.sumI = 0 ∧ u.sumQ = 0 ∧ u.cnt = 0
  within : c.state = .starting ∨ c.state = .run → withinClamp u (1 / 500) (1 / 1000000) = true → u.state = .run
  beyond : c.state = .starting ∨ c.state = .run → ¬ withinClamp u (1 / 500) (1 / 1000000) = true →
    u.state = .fault ∧ u.tag = .invalid

theorem pilotJudged_second (s : State) (k : Nat) (c : ChanSt) : PilotJudged s k c (chanJudge (secondAveraged s k c)) := by
  obtain ⟨hg, hd, hi, hq, hn⟩ := chanJudge_sums (secondAveraged s k c)
  have hclamp : withinClamp (chanJudge (secondAveraged s k c)) (1 / 500) (1 / 1000000) =
      withinClamp (secondAveraged s k c) (1 / 500) (1 / 1000000) := by
    rw [withinClamp, hg, hd, withinClamp]
  exact
    { gain := hg
      sums := ⟨hi, hq, hn⟩
      within := fun hs hw => chanJudge_within hs (hclamp ▸ hw)
      beyond := fun hs hw => chanJudge_beyond hs (hclamp ▸ hw) }

end Sys2Proof.Proofs
end

section
/-! PROOFS. The comparison of VREF with SREF, the 10 s interval, and O47 (R141, R188, R355, R356, R366). -/

namespace Sys2Proof.Proofs

open Sys2Proof Sys2Proof.Machine Sys2Proof.Safety Sys2Proof.Laws

/-! ### A failing diagnostic -/

theorem causeMask_single {b : Nat} (hb : b < 32) (d : Nat) : causeMask [(b, d)] = 2 ^ b := by
  have hall : ∀ b : Fin 32, causeMask [(b.val, 0)] = 2 ^ b.val := by decide
  exact hall ⟨b, hb⟩

/-- A cause that stands already arises no more (R355). -/
theorem raiseCauses_stands {b d : Nat} {s : State} (h : nbit s.saf.cause b = true) : raiseCauses [(b, d)] s = s := by
  simp [raiseCauses, freshCauses, h]

/-- A cause arises, and the device is then in the safe state (R355, R356). -/
theorem raiseCauses_arises {b d : Nat} {s : State} (hb : b < 32) (h : nbit s.saf.cause b = false) :
    (raiseCauses [(b, d)] s).saf.safe = true ∧ (raiseCauses [(b, d)] s).saf.cause = s.saf.cause ||| 2 ^ b := by
  refine Prod.mk.inj (?_ : (steady (raiseCauses [(b, d)] s)).causes = (true, s.saf.cause ||| 2 ^ b))
  have harm : ∀ c, (armAnew c s).saf.safe = s.saf.safe ∧ (armAnew c s).saf.cause = s.saf.cause := fun c =>
    Prod.mk.inj (causes_of_steady (armAnew_steady c s))
  have hset : ∀ (g : Saf → Saf) (t : State), (steady (setSaf g t)).causes = ((g t.saf).safe, (g t.saf).cause) := fun _ _ => rfl
  have hdf : ∀ (l : List (Nat × Nat)) (t : State), steady (l.foldl (fun a c => dangerous c.1 c.2 a) t) = steady t :=
    fun l t => foldl_steady id _ _ (fun _ _ => dangerous_steady ..) t
  have hfresh : freshCauses s [(b, d)] = [(b, d)] := by simp [freshCauses, h]
  rw [raiseCauses]
  simp only [hfresh, causeMask_single hb, List.isEmpty_cons, Bool.false_eq_true, if_false]
  by_cases hs : s.saf.safe = true
  · rw [if_pos hs]
    simp only [hdf, hset, harm, hs]
  · rw [if_neg hs]
    simp only [commitDue_steady, prunFollow_steady, clearRequests_steady, hdf, emit_steady, hset, harm]

/-- A cause that arises or stands is a cause in the safe state, if none stood outside it (R355). -/
theorem raiseCauses_safe {b d : Nat} {s : State} (hb : b < 32) (h : s.saf.cause = 0 ∨ s.saf.safe = true) :
    (raiseCauses [(b, d)] s).saf.safe = true ∧ nbit (raiseCauses [(b, d)] s).saf.cause b = true := by
  cases hbit : nbit s.saf.cause b with
  | true =>
    have hne : s.saf.cause ≠ 0 := by
      intro h0
      rw [h0, nbit, Nat.zero_testBit] at hbit
      exact Bool.false_ne_true hbit
    rw [raiseCauses_stands hbit]
    exact ⟨h.resolve_left hne, hbit⟩
  | false =>
    obtain ⟨hsafe, hor⟩ := raiseCauses_arises (d := d) hb hbit
    exact ⟨hsafe, by rw [hor, nbit_or_two_pow]⟩

theorem diagFails_safe {b d : Nat} {s : State} (hb : b < 32) (h : s.saf.cause = 0 ∨ s.saf.safe = true) :
    (diagFails b d s).saf.safe = true ∧ nbit (diagFails b d s).saf.cause b = true := by
  rw [diagFails]
  exact raiseCauses_safe hb (by simpa only [setSaf_saf] using h)

theorem react_saf (s t : State) : (react s t).saf = t.saf := by rw [react_eq]

theorem diagFails_met (b d : Nat) (s : State) : (diagFails b d s).met = s.met :=
  part_of (causesAside_diagFails s b d s) State.met fun _ => rfl

/-! ### The comparison of the references -/

/-- The comparison is noted: its difference, the run of comparisons beyond 500 ppm, and its count (R141, R366). -/
def refNoted (ppm : Int) (s : State) : State := { s with
  met := { s.met with refDelta := ppm }
  saf := { s.saf with refBad := if 500 < ppm.natAbs then s.saf.refBad + 1 else 0, refs := s.saf.refs + 1 } }

/-- Two bad references in a row with a function enabled. -/
def refFails (ppm : Int) (s : State) : Prop := 500 < ppm.natAbs ∧ s.saf.refBad ≠ 0 ∧ bits (cfgR s 0x6000) 3 0 ≠ 0

theorem refFails_not {ppm : Int} {s : State} (h : ppm.natAbs ≤ 500 ∨ s.saf.refBad = 0 ∨ bits (cfgR s 0x6000) 3 0 = 0) :
    ¬ refFails ppm s := by
  rintro ⟨hover, hbad, hfn⟩
  rcases h with h | h | h
  · exact absurd hover h.not_gt
  · exact hbad h
  · exact hfn h

/-- The comparison as the model decides it. -/
theorem refCompare_eq (ppm : Int) (s : State) : refCompare ppm s =
    if 2 ≤ (refNoted ppm s).saf.refBad ∧ anyFn s = true then diagFails 14 0 (refNoted ppm s) else refNoted ppm s := by
  simp only [refCompare, refNoted, setSaf, decide_eq_true_eq]
  rfl

theorem refFails_iff (ppm : Int) (s : State) : 2 ≤ (refNoted ppm s).saf.refBad ∧ anyFn s = true ↔ refFails ppm s := by
  have hfn : anyFn s = true ↔ bits (cfgR s 0x6000) 3 0 ≠ 0 := decide_eq_true_iff
  have hrun : 2 ≤ (refNoted ppm s).saf.refBad ↔ 500 < ppm.natAbs ∧ s.saf.refBad ≠ 0 := by
    show 2 ≤ (if 500 < ppm.natAbs then s.saf.refBad + 1 else 0) ↔ _
    split <;> omega
  rw [hfn, hrun, refFails, and_assoc]

theorem refCompare_fails {ppm : Int} {s : State} (h : refFails ppm s) : refCompare ppm s = diagFails 14 0 (refNoted ppm s) :=
  (refCompare_eq ppm s).trans (if_pos ((refFails_iff ppm s).mpr h))

theorem refCompare_passes {ppm : Int} {s : State} (h : ¬ refFails ppm s) : refCompare ppm s = refNoted ppm s :=
  (refCompare_eq ppm s).trans (if_neg (mt (refFails_iff ppm s).mp h))

theorem exec_refCompare (ppm : Int) (s : State) : exec (.refCompare ppm) s = .next (event (safOn s) (refCompare ppm) s) := rfl

/-! ### The 10 s interval -/

/-- The interval's frequency and its tag, and the next interval begun (R188; the rounding is log 6). -/
def tenEnded (s : State) : State :=
  { s with pq := { s.pq with
    freq10 := if 0 < s.pq.tenCyc ∧ 0 < s.pq.tenDur then (rnd 54 ((s.pq.tenCyc : Rat) * 8000000 / s.pq.tenDur)).toNat else 0
    f10tag := if 0 < s.pq.tenCyc ∧ 0 < s.pq.tenDur then (if s.pq.tenFb then .settling else .valid) else .invalid
    tenCyc := 0, tenDur := 0, tenFb := s.pq.fallback, tenAt := s.aon } }

theorem tenSeconds_due {s : State} (h : s.pq.tenAt + 327680 ≤ s.aon) : tenSeconds s = tenEnded s := by
  by_cases hsome : 0 < s.pq.tenCyc ∧ 0 < s.pq.tenDur
  · simp [tenSeconds, tenEnded, setPq, h, hsome]
  · have hno : (decide (0 < s.pq.tenCyc) && decide (0 < s.pq.tenDur)) = false := by
      rw [← Bool.decide_and, decide_eq_false hsome]
    simp [tenSeconds, tenEnded, setPq, h, hsome, hno]

theorem tenSeconds_early {s : State} (h : s.aon < s.pq.tenAt + 327680) : tenSeconds s = s := if_neg h.not_ge

theorem exec_freq10sInterval (s : State) : exec .freq10sInterval s = .next (event (live s) tenSeconds s) := rfl

/-! ### The statement -/

/-- Settles O47: the second channel by channel, the comparison by whether it fails, the interval by whether it is due. -/
theorem secondsAndReferences : Obligations.SecondsAndReferences := by
  unfold Obligations.SecondsAndReferences
  refine ⟨fun die s hon => ?_, fun ppm s hon hquiet => ?_, fun ppm s hon hover hbad hfn hc => ?_, fun s hl hdue => ?_,
    fun s hl hearly => ?_⟩
  · obtain ⟨-, hdie, href⟩ := pilotUpdate_met die s
    refine ⟨_, (exec_pilotUpdate die s).trans (congrArg _ (event_pos hon)), hdie, href, fun k hk hnot => ?_,
      fun k hk hr hn => ?_, pilotUpdate_frame die s⟩
    · rw [chan_pilotUpdate die s hk, if_neg (secondFull_not hnot)]
    · have hj : PilotJudged s k (chan s k) (chan (react s (pilotSecond die s)) k) := by
        rw [chan_pilotUpdate die s hk, if_pos (secondFull_of hr hn)]
        exact pilotJudged_second s k _
      obtain ⟨hi, hq, hcnt⟩ := hj.sums
      exact ⟨hj.gain, hi, hq, hcnt, fun hs => ⟨fun hok => hj.within hs ((withinClamp_iff _).mpr hok),
        fun hok => hj.beyond hs (mt (withinClamp_iff _).mp hok)⟩⟩
  · have heq := refCompare_passes (refFails_not hquiet)
    exact ⟨_, exec_refCompare ppm s, (hfxAside_event hon (by rw [heq]; rfl) (by rw [heq]; rfl)).trans heq⟩
  · have hfail := refCompare_fails ⟨hover, hbad, hfn⟩
    obtain ⟨hsafe, hcause⟩ := diagFails_safe (b := 14) (d := 0) (s := refNoted ppm s) (by decide) hc
    refine ⟨_, (exec_refCompare ppm s).trans (congrArg _ (event_pos hon)), ?_⟩
    rw [react_met, react_saf, hfail, diagFails_met]
    exact ⟨rfl, hsafe, hcause⟩
  · have heq := tenSeconds_due hdue
    exact ⟨_, exec_freq10sInterval s, (hfxAside_event hl (by rw [heq]; rfl) (by rw [heq]; rfl)).trans heq⟩
  · have heq := tenSeconds_early hearly
    exact ⟨_, exec_freq10sInterval s, (hfxAside_event hl (by rw [heq]) (by rw [heq])).trans heq⟩

end Sys2Proof.Proofs
end

section
/-! PROOFS. The pulses of the CF outputs: an event starts a pulse, waits or overruns, a waiting pulse starts, and a pulse ends (R177,
R178, R179). -/

namespace Sys2Proof.Proofs

open Sys2Proof Sys2Proof.Machine Sys2Proof.Safety Sys2Proof.Laws

/-! ### A generator -/

/-- Generator n becomes c; nothing else changes. -/
def setCf (n : Nat) (c : CfSt) (s : State) : State := { s with nrg := { s.nrg with cf := vmod s.nrg.cf n fun _ => c } }

theorem cfGen_setCf {n : Nat} (hn : n < 3) (c : CfSt) (s : State) : cfGen (setCf n c s) n = c := vget_vmod _ _ _ _ hn

/-- A change of generator n alone. -/
theorem modifyCf_eq_setCf (n : Nat) (g : CfSt → CfSt) (s : State) :
    { s with nrg := { s.nrg with cf := vmod s.nrg.cf n g } } = setCf n (g (cfGen s n)) s := by
  rw [setCf, cfGen, vmod_own s.nrg.cf n (fun a _ => g a)]

/-- The spacing of R177 after the pulse before. -/
theorem cfMayStart_iff (c : CfSt) (t : Nat) : cfMayStart c t = true ↔
    c.active = false ∧ ∀ st, c.startCyc = some st → c.endCyc + 512 ≤ t ∧ st + 1024 ≤ t := by
  cases hst : c.startCyc <;> simp [cfMayStart, hst]

/-! ### A pulse event -/

/-- E_p of an enabled output has reached its constant at a cycle of the open round (R177). -/
structure CfDue (n cyc : Nat) (s : State) : Prop where
  on : cfOn s n = true
  reached : cfConst s n ≤ cfEp (cfGen s n) cyc
  after : (cfGen s n).at_ ≤ cyc
  within : cyc ≤ 8192

/-- Generator n with its constant subtracted at a cycle of the open round. -/
def cfPaid (n cyc : Nat) (s : State) : CfSt := { cfGen s n with ep := cfEp (cfGen s n) cyc - cfConst s n, at_ := cyc }

section
variable {n cyc : Nat} {s : State}

theorem CfDue.acts (h : CfDue n cyc s) : (cfOn s n && decide (cfConst s n ≤ cfEp (cfGen s n) cyc) && decide ((cfGen s n).at_ ≤ cyc)
    && decide (cyc ≤ 8192)) = true := by
  simp [h.on, h.reached, h.after, h.within]

theorem cfEvent_starts (h : CfDue n cyc s) (hgap : cfMayStart (cfGen s n) (engCycle s cyc) = true) (hb : (cfGen s n).backlog = 0) :
    cfEvent n cyc s = setCf n (cfStart s n (engCycle s cyc) (cfPaid n cyc s)) s := by
  have hstart : (cfMayStart (cfGen s n) (engCycle s cyc) && decide ((cfGen s n).backlog = 0)) = true := by
    rw [hgap, decide_eq_true hb, Bool.and_true]
  simp only [cfEvent, h.acts, hstart, Bool.not_true, Bool.and_false, Bool.false_and]
  rfl

theorem cfEvent_waits (h : CfDue n cyc s) (hno : ¬ (cfMayStart (cfGen s n) (engCycle s cyc) = true ∧ (cfGen s n).backlog = 0))
    (hb : (cfGen s n).backlog < 65535) :
    cfEvent n cyc s = setCf n { cfPaid n cyc s with backlog := (cfGen s n).backlog + 1 } s := by
  have hstart : (cfMayStart (cfGen s n) (engCycle s cyc) && decide ((cfGen s n).backlog = 0)) = false := by simpa using hno
  simp only [cfEvent, h.acts, hstart, decide_eq_false hb.not_ge]
  rfl

/-- With BACKLOG full the pulse is discarded: OVERRUN, the count of discarded pulses, and at most once a minute an event (R179). -/
theorem cfEvent_overruns (h : CfDue n cyc s) (hb : 65535 ≤ (cfGen s n).backlog) :
    ∃ es d l, cfEvent n cyc s = emitAll es (setCf n { cfPaid n cyc s with overrun := true, discarded := d, lastOvr := l } s) := by
  have hstart : (cfMayStart (cfGen s n) (engCycle s cyc) && decide ((cfGen s n).backlog = 0)) = false := by
    rw [decide_eq_false (by omega), Bool.and_false]
  simp only [cfEvent, h.acts, hstart, decide_eq_true hb]
  exact ⟨_, _, _, rfl⟩

theorem cfEvent_idle (h : cfOn s n = false ∨ cfEp (cfGen s n) cyc < cfConst s n) : cfEvent n cyc s = s := by
  rcases h with h | h
  · simp [cfEvent, h]
  · simp [cfEvent, h.not_ge]

/-! ### A waiting pulse, and the end of a pulse -/

theorem cfBacklog_starts (hon : cfOn s n = true) (hb : 0 < (cfGen s n).backlog)
    (hgap : cfMayStart (cfGen s n) (engCycle s cyc) = true) :
    cfBacklog n cyc s = setCf n (cfStart s n (engCycle s cyc) { cfGen s n with backlog := (cfGen s n).backlog - 1 }) s := by
  simp only [cfBacklog, hon, hb, hgap, decide_true, Bool.and_self, if_true]
  exact modifyCf_eq_setCf n (fun c => cfStart s n (engCycle s cyc) { c with backlog := c.backlog - 1 }) s

theorem cfBacklog_idle (h : cfOn s n = false ∨ (cfGen s n).backlog = 0 ∨ ¬ cfMayStart (cfGen s n) (engCycle s cyc) = true) :
    cfBacklog n cyc s = s := by
  rcases h with h | h | h <;> simp [cfBacklog, h]

theorem cfEnd_ends (ha : (cfGen s n).active = true) (he : (cfGen s n).endCyc ≤ engCycle s cyc) :
    cfEnd n cyc s = setCf n { cfGen s n with active := false } s := by
  simp only [cfEnd, ha, he, decide_true, Bool.and_self, if_true]
  exact modifyCf_eq_setCf n (fun c => { c with active := false }) s

theorem cfEnd_idle (h : (cfGen s n).active = false ∨ engCycle s cyc < (cfGen s n).endCyc) : cfEnd n cyc s = s := by
  rcases h with h | h
  · simp [cfEnd, h]
  · simp [cfEnd, h.not_ge]

end

/-! ### The rows -/

section
variable {i : Instr} {f : State → State} {s : State} (hx : exec i s = .next (event (engOn s) f s)) (hon : engOn s = true)
include hx hon

/-- A row of the CF outputs whose operation sets one generator and raises events. -/
theorem row_setsCf {n : Nat} (hn : n < 3) (c : CfSt) (es : List Ev) (hf : f s = emitAll es (setCf n c s)) :
    ∃ t, exec i s = .next t ∧ cfGen t n = c ∧ eventsAside s (hfxAside s t) = setCf n c s := by
  have hchd : (f s).chd = s.chd := hf ▸ emitAll_keeps State.chd emit_chd es _
  have hpwc : (f s).pwc = s.pwc := hf ▸ emitAll_keeps State.pwc emit_pwc es _
  have hnrg : (event (engOn s) f s).nrg = (setCf n c s).nrg := by
    rw [part_of (hfxAside_event hon hchd hpwc) State.nrg fun _ => rfl, hf, emitAll_keeps State.nrg emit_nrg]
  refine ⟨_, hx, ?_, ?_⟩
  · rw [cfGen, hnrg]
    exact cfGen_setCf hn c s
  · rw [hfxAside_event hon hchd hpwc, hf, eventsAside_emitAll]
    rfl

/-- A row whose operation sets one generator without an event. -/
theorem row_setsCf_quietly {n : Nat} (hn : n < 3) {c : CfSt} (hf : f s = setCf n c s) :
    ∃ t, exec i s = .next t ∧ eventsAside s (hfxAside s t) = setCf n c s := by
  obtain ⟨t, ht, -, hset⟩ := row_setsCf hx hon hn c [] hf
  exact ⟨t, ht, hset⟩

theorem row_idle (hf : f s = s) : ∃ t, exec i s = .next t ∧ hfxAside s t = s :=
  ⟨_, hx, (hfxAside_event hon (by rw [hf]) (by rw [hf])).trans hf⟩

end

theorem exec_cfPulseEvent (n : Fin 3) (cyc : Nat) (s : State) :
    exec (.cfPulseEvent n cyc) s = .next (event (engOn s) (cfEvent n.val cyc) s) := rfl

theorem exec_cfPulseBacklogStart (n : Fin 3) (cyc : Nat) (s : State) :
    exec (.cfPulseBacklogStart n cyc) s = .next (event (engOn s) (cfBacklog n.val cyc) s) := rfl

theorem exec_cfPulseEnd (n : Fin 3) (cyc : Nat) (s : State) :
    exec (.cfPulseEnd n cyc) s = .next (event (engOn s) (cfEnd n.val cyc) s) := rfl

/-- Settles O48: each row sets its generator as its operation does, or does nothing, by the spacing, BACKLOG and the pulse's end. -/
theorem cfPulsesStartWaitAndEnd : Obligations.CfPulsesStartWaitAndEnd := by
  unfold Obligations.CfPulsesStartWaitAndEnd
  refine ⟨fun n cyc s hon hcf hc ha h8 => ?_,
    fun n cyc s hon h => row_idle (exec_cfPulseEvent n cyc s) hon (cfEvent_idle h),
    fun n cyc s hon => ⟨fun hcf hb hgap => ?_, fun h => ?_⟩,
    fun n cyc s hon => ⟨fun ha he => ?_, fun h => row_idle (exec_cfPulseEnd n cyc s) hon (cfEnd_idle h)⟩⟩
  · have hdue : CfDue n.val cyc s := ⟨hcf, hc, ha, h8⟩
    have hx := exec_cfPulseEvent n cyc s
    refine ⟨fun hgap hb => ?_, fun hno hb => ?_, fun hb => ?_⟩
    · exact row_setsCf_quietly hx hon n.isLt (cfEvent_starts hdue ((cfMayStart_iff _ _).mpr hgap) hb)
    · exact row_setsCf_quietly hx hon n.isLt (cfEvent_waits hdue (fun h => hno ⟨(cfMayStart_iff _ _).mp h.1, h.2⟩) hb)
    · obtain ⟨es, d, l, hev⟩ := cfEvent_overruns hdue hb
      obtain ⟨t, ht, hgen, hset⟩ := row_setsCf hx hon n.isLt _ es hev
      refine ⟨t, ht, ?_⟩
      rw [hgen]
      exact ⟨rfl, rfl, rfl, rfl, hset⟩
  · exact row_setsCf_quietly (exec_cfPulseBacklogStart n cyc s) hon n.isLt (cfBacklog_starts hcf hb ((cfMayStart_iff _ _).mpr hgap))
  · exact row_idle (exec_cfPulseBacklogStart n cyc s) hon (cfBacklog_idle (h.imp_right (Or.imp_right (mt (cfMayStart_iff _ _).mp))))
  · exact row_setsCf_quietly (exec_cfPulseEnd n cyc s) hon n.isLt (cfEnd_ends ha he)

end Sys2Proof.Proofs
end

section
/-! PROOFS. Writes of the full scales and of PQ_THR, and of registers near them that are stored by a rule of their chapter (R154,
R202). -/

namespace Sys2Proof.Proofs

open Sys2Proof Sys2Proof.Machine Sys2Proof.Safety Sys2Proof.Laws

/-! ### A write that reaches the register file -/

/-- The full scales of Table 5-2, PQ_THR, and the registers of the CF outputs of Table 5-10. -/
def MeterWord (off : Nat) : Prop := (0x1100 ≤ off ∧ off ≤ 0x111C) ∨ off = 0x2808 ∨ (0x7840 ≤ off ∧ off < 0x7870)

theorem meterWord_fullScale (k : Fin 8) : MeterWord (0x1100 + 4 * k.val) := .inl (by omega)
theorem meterWord_thr : MeterWord 0x2808 := .inr (.inl rfl)
theorem meterWord_cfCfg (n : Fin 3) : MeterWord (0x7840 + 16 * n.val) := .inr (.inr (by omega))
theorem meterWord_cfConst (n : Fin 3) : MeterWord (0x7844 + 16 * n.val) := .inr (.inr (by omega))

theorem inAreaData_meterWord {off : Nat} (h : MeterWord off) : inAreaData off = false := by
  unfold MeterWord at h
  simp only [inAreaData, Bool.and_eq_false_iff, decide_eq_false_iff_not]
  omega

theorem meterWord_ne_fctCtrl {off : Nat} (h : MeterWord off) : off ≠ 0x0018 := by
  unfold MeterWord at h
  omega

/-- These are no command registers: an OK word is stored by its register's rule. -/
theorem wordDone_meterWord {off : Nat} (h : MeterWord off) {r : RegSpec} (hr : specOf off = some r) (f : Facet) (p : Port) (v : Word)
    (s : State) : wordDone f p off v s = cfgWrite off r v s := by
  unfold MeterWord at h
  have hfm : inFrameMem off = false := inFrameMem_eq_false (by omega)
  rw [wordDone, hfm, if_neg Bool.false_ne_true]
  simp (disch := omega) only [regWrite, if_neg, hr]

/-! ### Full scales and PQ_THR -/

theorem specOf_fullScale (k : Fin 8) : specOf (0x1100 + 4 * k.val) = some (metReg 0 [fAny 0 32]) := by
  fin_cases k <;> rfl

theorem cfgWrite_fullScale (k : Fin 8) (v : Word) (s : State) : cfgWrite (0x1100 + 4 * k.val) (metReg 0 [fAny 0 32]) v s =
    let x := if v = 0 ∧ routed s k.val = true ∧ sensorOf s k.val ≠ 5 ∧ sensorOf s k.val ≠ 6 then 1 else v
    { s with cfg := cfgSet s.cfg (0x1100 + 4 * k.val) x } := by
  have hin : within (0x1100 + 4 * k.val) 0x1100 0x111C = true := (within_iff _ _ _).mpr (by omega)
  have hk : (0x1100 + 4 * k.val - 0x1100) / 4 = k.val := by omega
  rw [cfgWrite, if_neg (by omega), if_neg (by omega), if_neg (by omega), if_pos hin, fsStored, hk]
  simp only [metReg, storeFields_word]

theorem aside_cfgWrite_fullScale (k : Fin 8) (v : Word) (s t : State) : aside s (cfgWrite (0x1100 + 4 * k.val) (metReg 0 [fAny 0 32]) v t) =
    cfgWrite (0x1100 + 4 * k.val) (metReg 0 [fAny 0 32]) v (aside s t) := by
  rw [cfgWrite_fullScale, cfgWrite_fullScale]
  rfl

/-- Four bytes side by side that take every value store the written word. -/
theorem storeFields_bytes (v : Word) : storeFields [fAny 0 8, fAny 8 8, fAny 16 8, fAny 24 8] v = v := by
  have hsum : ∀ n : Nat, n < 2 ^ 32 →
      n % 256 + n / 256 % 256 * 256 + n / 65536 % 256 * 65536 + n / 16777216 % 256 * 16777216 = n := by omega
  simp [storeFields, fAny, Fld.get, w32, hsum v.toNat v.isLt]

/-- The rules of R202. -/
theorem pqThrOk_iff (v : Word) : pqThrOk v = true ↔ 1 ≤ bits v 31 24 ∧ bits v 31 24 ≤ 20 ∧
    bits v 23 16 + bits v 31 24 ≤ bits v 7 0 ∧ bits v 7 0 + bits v 31 24 ≤ 200 ∧ 200 + bits v 31 24 ≤ bits v 15 8 := by
  simp only [pqThrOk, Bool.and_eq_true, decide_eq_true_eq, and_assoc]

theorem cfgWrite_thr (r : RegSpec) (hf : r.flds = [fAny 0 8, fAny 8 8, fAny 16 8, fAny 24 8]) (v : Word) (s : State) :
    cfgWrite 0x2808 r v s = if pqThrOk v = true then { s with cfg := cfgSet s.cfg 0x2808 v }
      else { s with pq := { s.pq with thrReject := true } } := by
  show (if pqThrOk (storeFields r.flds v) = true then { s with cfg := cfgSet s.cfg 0x2808 (storeFields r.flds v) } else _) = _
  rw [hf, storeFields_bytes]
  rfl

theorem aside_cfgWrite_thr (r : RegSpec) (hf : r.flds = [fAny 0 8, fAny 8 8, fAny 16 8, fAny 24 8]) (v : Word) (s t : State) :
    aside s (cfgWrite 0x2808 r v t) = cfgWrite 0x2808 r v (aside s t) := by
  rw [cfgWrite_thr r hf, cfgWrite_thr r hf, apply_ite (aside s)]
  rfl

/-! ### The rows -/

/-- Settles O21: a full scale is stored by `fsStored`, PQ_THR as `pqThrOk` allows. -/
theorem fullScalesAndThresholds : Obligations.FullScalesAndThresholds := by
  unfold Obligations.FullScalesAndThresholds
  refine ⟨fun k => rowDoes_of (fun w s => ?_) (inAreaData_meterWord (meterWord_fullScale k))
      (.inl (meterWord_ne_fctCtrl (meterWord_fullScale k))) fun f w s _ _ h hh => ?_,
    rowDoes_of (fun _ _ => rfl) (inAreaData_meterWord meterWord_thr) (.inl (meterWord_ne_fctCtrl meterWord_thr))
      fun f w s _ _ h hh => ?_⟩
  · have hoff : (BitVec.ofNat 16 (0x1100 + 4 * k.val)).toNat = 0x1100 + 4 * k.val := by
      rw [BitVec.toNat_ofNat]
      omega
    show Host.Outcome.next (hostWord (BitVec.ofNat 16 (0x1100 + 4 * k.val)).toNat w.val w s) = _
    rw [hoff]
    rfl
  · rw [wordDone_meterWord (meterWord_fullScale k) (specOf_fullScale k), aside_cfgWrite_fullScale, hh, aside_heardWord,
      cfgWrite_fullScale, cfgWrite_fullScale]
    exact ⟨rfl, rfl⟩
  · rw [wordDone_meterWord meterWord_thr rfl, aside_cfgWrite_thr _ rfl, hh, aside_heardWord, cfgWrite_thr _ rfl, cfgWrite_thr _ rfl]
    refine ⟨?_, if_congr (pqThrOk_iff w.val) rfl rfl⟩
    split <;> rfl

end Sys2Proof.Proofs
end

section
/-! PROOFS. Writes of the registers of the CF outputs: what is stored, and which generators start afresh (R176, R180). -/

namespace Sys2Proof.Proofs

open Sys2Proof Sys2Proof.Machine Sys2Proof.Safety Sys2Proof.Laws

/-! ### The generators after a change of the registers -/

/-- Generator k where the registers of s have become those of t (R180). -/
def cfSwitched (s t : State) (k : Nat) (g : CfSt) : CfSt :=
  if cfOn t k = true then
    (if cfgV s (0x7844 + 16 * k) = cfgV t (0x7844 + 16 * k) ∧
      cfgV s (0x7840 + 16 * k) &&& 0x77 = cfgV t (0x7840 + 16 * k) &&& 0x77 then g else cfClear g)
  else if cfOn s k = true then cfOff s.nrg.eng g
  else g

theorem cfSwitch_eq (s : State) (c : List (Nat × Word)) : cfSwitch s { s with cfg := c } =
    { s with cfg := c, nrg := { s.nrg with cf := vmap s.nrg.cf (cfSwitched s { s with cfg := c }) } } := by
  have heta : cfSwitched s { s with cfg := c } = fun k g => cfSwitched s { s with cfg := c } k g := rfl
  rw [heta]
  simp only [cfSwitch, cfSwitched, Bool.and_eq_true, decide_eq_true_eq, and_comm]

theorem cfgV_congr {t u : State} (h : t.cfg = u.cfg) (o : Nat) : cfgV t o = cfgV u o := by rw [cfgV, cfgV, h]

theorem cfOn_congr {t u : State} {k : Nat} (hcfg : cfgV t (0x7840 + 16 * k) = cfgV u (0x7840 + 16 * k)) (hstr : t.str = u.str) :
    cfOn t k = cfOn u k := by rw [cfOn, cfOn, hcfg, hstr]

/-- Registers and structure decide what becomes of a generator. -/
theorem cfSwitched_congr (s : State) {t u : State} (hcfg : t.cfg = u.cfg) (hstr : t.str = u.str) (k : Nat) (g : CfSt) :
    cfSwitched s t k g = cfSwitched s u k g := by
  rw [cfSwitched, cfSwitched, cfOn_congr (cfgV_congr hcfg _) hstr, cfgV_congr hcfg, cfgV_congr hcfg]

/-- Generator k where the CONST of s has become that of t. -/
def cfReconst (s t : State) (k : Nat) (g : CfSt) : CfSt :=
  if cfOn s k = true ∧ ¬ cfgV s (0x7844 + 16 * k) = cfgV t (0x7844 + 16 * k) then cfClear g else g

/-- A generator whose CFG stays starts afresh if it is on and its CONST changes. -/
theorem cfSwitched_const {s t : State} {k : Nat} (hcfg : cfgV t (0x7840 + 16 * k) = cfgV s (0x7840 + 16 * k)) (hstr : t.str = s.str)
    (g : CfSt) : cfSwitched s t k g = cfReconst s t k g := by
  rw [cfSwitched, cfReconst, cfOn_congr hcfg hstr, hcfg]
  by_cases hon : cfOn s k = true
  · by_cases hc : cfgV s (0x7844 + 16 * k) = cfgV t (0x7844 + 16 * k) <;> simp [hon, hc]
  · simp [hon]

/-! ### What a write stores -/

/-- CONST never becomes 0 by a write while ENABLE is 1 (R176). -/
def constStored (n : Nat) (v : Word) (s : State) : Word :=
  if v = 0 ∧ bit (cfgV s (0x7840 + 16 * n)) 17 = true then 1 else v

/-- The register file after a write of CFG, which sets a CONST of 0 to 1 with ENABLE (R176). -/
def cfgStored (n : Nat) (v : Word) (s : State) : List (Nat × Word) :=
  if bit v 17 = true ∧ cfgV s (0x7844 + 16 * n) = 0 then cfgSet (cfgSet s.cfg (0x7840 + 16 * n) v) (0x7844 + 16 * n) 1
  else cfgSet s.cfg (0x7840 + 16 * n) v

theorem cfWrite_const (n : Nat) (v : Word) (s : State) : cfWrite (0x7844 + 16 * n) v s =
    cfSwitch s { s with cfg := cfgSet s.cfg (0x7844 + 16 * n) (constStored n v s) } := by
  have hbase : (0x7844 + 16 * n) / 16 * 16 = 0x7840 + 16 * n := by omega
  have hmod : (0x7844 + 16 * n) % 16 = 4 := by omega
  simp [cfWrite, hbase, hmod, constStored]

theorem cfWrite_cfg (n : Nat) (v : Word) (s : State) : cfWrite (0x7840 + 16 * n) v s =
    cfSwitch s { s with cfg := cfgStored n v s } := by
  have hnext : 0x7840 + 16 * n + 4 = 0x7844 + 16 * n := by omega
  have hmod : (0x7840 + 16 * n) % 16 = 0 := by omega
  simp [cfWrite, hnext, hmod, cfgStored]

theorem cfgV_cfgStored_cfg (n : Nat) (v : Word) (s : State) : cfgV { s with cfg := cfgStored n v s } (0x7840 + 16 * n) = v := by
  rw [cfgStored]
  split
  · exact (cfgV_cfgSet_ne { s with cfg := cfgSet s.cfg (0x7840 + 16 * n) v } 1 (by omega)).trans (cfgV_cfgSet s _ v)
  · exact cfgV_cfgSet s _ v

theorem cfgV_cfgStored_const (n : Nat) (v : Word) (s : State) : cfgV { s with cfg := cfgStored n v s } (0x7844 + 16 * n) =
    if bit v 17 = true ∧ cfgV s (0x7844 + 16 * n) = 0 then 1 else cfgV s (0x7844 + 16 * n) := by
  rw [cfgStored]
  split
  · exact cfgV_cfgSet { s with cfg := cfgSet s.cfg (0x7840 + 16 * n) v } _ 1
  · exact cfgV_cfgSet_ne s v (by omega)

theorem cfgV_cfgStored_ne {n o : Nat} (v : Word) (s : State) (hg : o ≠ 0x7840 + 16 * n) (hc : o ≠ 0x7844 + 16 * n) :
    cfgV { s with cfg := cfgStored n v s } o = cfgV s o := by
  rw [cfgStored]
  split
  · exact (cfgV_cfgSet_ne { s with cfg := cfgSet s.cfg (0x7840 + 16 * n) v } 1 hc).trans (cfgV_cfgSet_ne s v hg)
  · exact cfgV_cfgSet_ne s v hg

/-! ### The rows -/

theorem aside_cfWrite (off : Nat) (v : Word) (s t : State) : aside s (cfWrite off v t) = cfWrite off v (aside s t) := rfl

theorem wordDone_cf {off : Nat} (hlo : 0x7840 ≤ off) (hhi : off < 0x7870) {r : RegSpec} (hr : specOf off = some r) (f : Facet) (p : Port)
    (v : Word) (s : State) : wordDone f p off v s = cfWrite off (storeFields r.flds v) s := by
  have hfs : ¬ within off 0x1100 0x111C = true := by rw [within_iff]; omega
  rw [wordDone_meterWord (.inr (.inr ⟨hlo, hhi⟩)) hr, cfgWrite, if_neg (by omega), if_neg (by omega), if_neg (by omega), if_neg hfs]
  simp (disch := omega) only [if_neg, if_pos]

/-- A word of these registers, applied: the ports stay, and the rest is the chapter's rule on the state before. -/
theorem wordDone_cf_heard {off : Nat} (hlo : 0x7840 ≤ off) (hhi : off < 0x7870) {r : RegSpec} (hr : specOf off = some r) (f : Facet)
    (v : Word) (w : RegWr) (s : State) :
    (wordDone f w.port off v (heardWord f off w s)).port = (heardWord f off w s).port ∧
      aside s (wordDone f w.port off v (heardWord f off w s)) = cfWrite off (storeFields r.flds v) s := by
  rw [wordDone_cf hlo hhi hr, aside_cfWrite, aside_heardWord]
  exact ⟨rfl, rfl⟩

theorem specOf_cfConst (n : Fin 3) : specOf (0x7844 + 16 * n.val) = some (metReg 0 [fAny 0 32]) := by
  fin_cases n <;> rfl

theorem exec_cfConst (n : Fin 3) (w : RegWr) (s : State) :
    exec (.cfCfgWrite n true w) s = .next (hostWord (0x7844 + 16 * n.val) w.val w s) := by
  have hoff : 0x7840 + 16 * n.val + 4 = 0x7844 + 16 * n.val := by omega
  show Host.Outcome.next (hostWord (0x7840 + 16 * n.val + 4) w.val w s) = _
  rw [hoff]

theorem exec_cfCfg (n : Fin 3) (w : RegWr) (s : State) :
    exec (.cfCfgWrite n false w) s = .next (hostWord (0x7840 + 16 * n.val) w.val w s) := rfl

/-- A write of CONST leaves every CFG alone. -/
theorem cfWrite_const_eq (n : Nat) (v : Word) (s : State) :
    let c := cfgSet s.cfg (0x7844 + 16 * n) (constStored n v s)
    cfWrite (0x7844 + 16 * n) v s =
      { s with cfg := c, nrg := { s.nrg with cf := vmap s.nrg.cf (cfReconst s { s with cfg := c }) } } := by
  intro c
  have hsw : cfSwitched s { s with cfg := c } = cfReconst s { s with cfg := c } := by
    funext k g
    exact cfSwitched_const (cfgV_cfgSet_ne s _ (by omega)) rfl g
  rw [cfWrite_const, cfSwitch_eq, hsw]

/-- An accepted write of CFG. -/
theorem hostWord_cfCfg {n : Fin 3} {f : Facet} {w : RegWr} {s : State} {r : RegSpec}
    (ha : accepted s f (0x7840 + 16 * n.val) w = true) (hr : specOf (0x7840 + 16 * n.val) = some r) :
    rowDone s (hostWord (0x7840 + 16 * n.val) w.val w s) w (cfWrite (0x7840 + 16 * n.val) (storeFields r.flds w.val) s) := by
  obtain ⟨hport, haside⟩ := wordDone_cf_heard (by omega) (by omega) hr f w.val w s
  exact rowDone_accepted f _ w.val w s _ ha (inAreaData_meterWord (meterWord_cfCfg n)) (.inl (meterWord_ne_fctCtrl (meterWord_cfCfg n)))
    hport haside

/-- Settles O22: `cfReconst` says what a write of CONST does to each generator, `cfSwitched` what a write of CFG does. -/
theorem cfRegistersRestartTheirGenerator : Obligations.CfRegistersRestartTheirGenerator := by
  unfold Obligations.CfRegistersRestartTheirGenerator
  refine ⟨fun n => rowDoes_of (exec_cfConst n) (inAreaData_meterWord (meterWord_cfConst n))
    (.inl (meterWord_ne_fctCtrl (meterWord_cfConst n))) fun f w s _ _ h hh => ?_, fun n f w s r ha hr => ?_⟩
  · obtain ⟨hport, haside⟩ := wordDone_cf_heard (by omega) (by omega) (specOf_cfConst n) f (id w.val) { w with val := id w.val } s
    subst hh
    refine ⟨hport, haside.trans ?_⟩
    rw [show storeFields (metReg 0 [fAny 0 32]).flds (id w.val) = w.val from storeFields_word w.val]
    exact cfWrite_const_eq n.val w.val s
  · have hdone := hostWord_cfCfg ha hr
    refine ⟨_, exec_cfCfg n w s, ?_⟩
    generalize hostWord (0x7840 + 16 * n.val) w.val w s = t at hdone ⊢
    rw [cfWrite_cfg, cfSwitch_eq] at hdone
    have hcfg := part_of hdone.2 State.cfg fun _ => rfl
    have hstr := part_of hdone.2 State.str fun _ => rfl
    have hcf := part_of hdone.2 (fun x => x.nrg.cf) fun _ => rfl
    have hval := cfgV_congr (u := { s with cfg := cfgStored n.val (storeFields r.flds w.val) s }) hcfg
    have hsw := cfSwitched_congr s (u := { s with cfg := cfgStored n.val (storeFields r.flds w.val) s }) hcfg hstr
    refine ⟨(hval _).trans (cfgV_cfgStored_cfg ..), (hval _).trans (cfgV_cfgStored_const ..),
      fun o hg hc => (hval o).trans (cfgV_cfgStored_ne _ s hg hc), fun k => ?_, hdone.1, ?_⟩
    · have hgen : cfGen t k.val = cfSwitched s t k.val (cfGen s k.val) := by
        rw [hsw, cfGen, hcf]
        exact vget_vmap _ _ _ _ _ k.isLt
      exact hgen
    · rw [hdone.2, hcfg, hcf]

end Sys2Proof.Proofs
end

section
/-! PROOFS. Calibration runs: ZERO, LEARN and ABORT of FLW_CTRL, and the time-out (R213, R233, R261). -/

namespace Sys2Proof.Proofs

open Sys2Proof Sys2Proof.Machine Sys2Proof.Safety Sys2Proof.Laws

/-! ### The operations -/

/-- ZERO (code 1) or LEARN of the path that a word of FLW_CTRL names is refused (R233, R261). -/
abbrev CalRefused (cmd : Nat) (v : Word) (s : State) : Prop :=
  pathExists s (bits v 25 24 - 1) = false ∨
    (cmd = 1 ∧ ((flowPath s (bits v 25 24 - 1)).state ≠ .run ∨ (bits v 25 24 - 1 = 2 ∧ s.chd.leader = false)))

/-- The run that a word of FLW_CTRL starts, or the record of its refusal (R233). -/
def calNamed (cmd : Nat) (v : Word) (s : State) : Cal :=
  ⟨if CalRefused cmd v s then 4 else 1, bits v 25 24, cmd, if cmd = 1 then 16 * max 1 (min 64 (bits v 23 16)) else 64, 0, 0, 0, [],
    s.aon, if (flowPath s (bits v 25 24 - 1)).state = .run then none else some s.aon⟩

theorem calRefused_congr (cmd : Nat) (v : Word) {s t : State} (hstr : s.str = t.str) (hflw : s.flw = t.flw) (hchd : s.chd = t.chd) :
    CalRefused cmd v s ↔ CalRefused cmd v t := by
  simp only [CalRefused, pathExists_of_str hstr, flowPath, hflw, hchd]

theorem calNamed_congr {cmd : Nat} {v : Word} {s t : State} (h : CalRefused cmd v s ↔ CalRefused cmd v t) (hflw : s.flw = t.flw)
    (haon : s.aon = t.aon) : calNamed cmd v s = calNamed cmd v t := by
  have hpath := flowPath_of_flw (congrArg Flw.path hflw) (bits v 25 24 - 1)
  rw [calNamed, calNamed, if_congr h rfl rfl, hpath, haon]

/-- Replaces the calibration. -/
def setCal (c : Cal) (s : State) : State := { s with flw := { s.flw with cal := c } }

/-- FLOW_CAL_DONE of a refused command (Table 7-10). -/
def calRefusedEv (cmd : Nat) (v : Word) (s : State) : Ev := flowEv s (bits v 25 24 - 1) 0x0705 1 (w32 cmd) 0 0 2

theorem calStart_eq (cmd : Nat) (v : Word) (s : State) : calStart cmd (bits v 25 24) (bits v 23 16) s.chd.leader s =
    if CalRefused cmd v s then emit (calRefusedEv cmd v s) (setCal (calNamed cmd v s) s) else setCal (calNamed cmd v s) s := by
  have hbad : (!pathExists s (bits v 25 24 - 1) || (decide (cmd = 1) && (decide ((flowPath s (bits v 25 24 - 1)).state ≠ .run) ||
      (decide (bits v 25 24 - 1 = 2) && !s.chd.leader)))) = decide (CalRefused cmd v s) := by
    simp [CalRefused]
  simp only [calStart, hbad, decide_eq_true_eq]
  rfl

/-- FLOW_CAL_DONE of a run that ends with status 3 (Table 7-10). -/
def calEndedEv (s : State) : Ev :=
  flowEv s (s.flw.cal.path - 1) 0x0705 1 (w32 s.flw.cal.cmd) 0 (w32 (s.flw.cal.got0 + s.flw.cal.got1)) 1

/-- ABORT and the time-out end a run alike. -/
theorem calEnd_aborted (s : State) :
    calEnd 3 0 s = emit (calEndedEv s) (setCal { s.flw.cal with status := 3, leftAt := none } s) := rfl

theorem calDue_of {s : State} (h1 : s.flw.cal.status = 1)
    (h : s.flw.cal.start + 4 * s.flw.cal.need * pairPeriod s (s.flw.cal.path - 1) < s.aon ∨
      ∃ a, s.flw.cal.leftAt = some a ∧ holdMs s (s.flw.cal.path - 1) * 32768 < (s.aon - a) * 1000) : calDue s = true := by
  rcases h with h | ⟨a, ha, h⟩
  · simp [calDue, h1, h]
  · simp [calDue, h1, ha, h]

/-! ### The words of FLW_CTRL -/

/-- A word of FLW_CTRL with a command code, applied. -/
theorem wordDone_flwCtrl (f : Facet) (p : Port) (v : Word) {c : Nat} (hc : c < 256) (s : State) : wordDone f p 0x300C (withCmd v c) s =
    if !keyed v || decide (bits v 25 24 = 0) then s
    else if c = 1 ∨ c = 2 then calStart c (bits v 25 24) (bits v 23 16) s.chd.leader s
    else if c = 3 then flowRestart (bits v 25 24) s
    else if c = 4 then (if s.flw.cal.status = 1 then calEnd 3 0 s else s)
    else s := by
  show flwCtrl (withCmd v c) s = _
  simp only [flwCtrl, keyed_withCmd v c hc, bits_withCmd_code v c hc, bits_withCmd v c 25 24 hc (by decide),
    bits_withCmd v c 23 16 hc (by decide)]

/-- The word carries the key and names a path. -/
def NamesPath (_ : Facet) (v : Word) (_ : State) : Prop := bits v 15 8 = 0x5A ∧ bits v 25 24 ≠ 0

theorem namesPath_iff (f : Facet) (v : Word) (s : State) :
    (!keyed v || decide (bits v 25 24 = 0)) = false ↔ NamesPath f v s := by
  simp [NamesPath, keyed]

/-- Without key or path a command does nothing. -/
theorem flwCtrl_unnamed {row : RegWr → Instr} {c : Nat} (hc : c < 256)
    (hx : ∀ w s, exec (row w) s = .next (hostWord 0x300C (withCmd w.val c) w s)) :
    rowDoes row 0x300C (withCmd · c) (fun f v s => ¬ NamesPath f v s) nothing :=
  rowDoes_of hx rfl (.inl (by decide)) fun f w s _ hn _ ha => word_idle ha (by
    rw [wordDone_flwCtrl _ _ _ hc, if_pos ((Bool.not_eq_false _).mp (mt (namesPath_iff f w.val s).mp hn))])

theorem aside_setCal (c : Cal) (s t : State) : aside s (setCal c t) = setCal c (aside s t) := rfl

/-- ZERO (code 1) and LEARN (code 2) of a named path. -/
theorem flwCtrl_starts {row : RegWr → Instr} {c : Nat} (hc : c = 1 ∨ c = 2)
    (hx : ∀ w s, exec (row w) s = .next (hostWord 0x300C (withCmd w.val c) w s)) :
    rowDoes row 0x300C (withCmd · c) NamesPath fun _ v s =>
      if CalRefused c v s then emit (calRefusedEv c v s) (setCal (calNamed c v s) s) else setCal (calNamed c v s) s := by
  refine rowDoes_of hx rfl (.inl (by decide)) fun f w s _ hn a ha => ?_
  rw [wordDone_flwCtrl _ _ _ (by omega), if_neg (by rw [(namesPath_iff f w.val s).mpr hn]; exact Bool.false_ne_true), if_pos hc,
    calStart_eq]
  have hread := calRefused_congr c w.val (s := a) (t := s) (by rw [ha]; rfl) (by rw [ha]; rfl) (by rw [ha]; rfl)
  have hnamed := calNamed_congr hread (by rw [ha]; rfl) (by rw [ha]; rfl)
  have hown : aside s a = s := by rw [ha]; exact aside_heardWord ..
  by_cases h : CalRefused c w.val s
  · have hev : calRefusedEv c w.val a = calRefusedEv c w.val s := by rw [ha]; rfl
    rw [if_pos (hread.mpr h), if_pos h, hev, hnamed, aside_emit, aside_setCal, emit_port, hown]
    exact ⟨rfl, rfl⟩
  · rw [if_neg (mt hread.mp h), if_neg h, hnamed, aside_setCal, hown]
    exact ⟨rfl, rfl⟩

theorem flwCtrl_aborts : rowDoes .flwAbort 0x300C (withCmd · 4) NamesPath fun _ _ s =>
    if s.flw.cal.status = 1 then emit (calEndedEv s) (setCal { s.flw.cal with status := 3, leftAt := none } s) else s := by
  refine rowDoes_of (fun _ _ => rfl) rfl (.inl (by decide)) fun f w s _ hn a ha => ?_
  have hcal : a.flw = s.flw := by rw [ha]; rfl
  rw [wordDone_flwCtrl _ _ _ (by decide), if_neg (by rw [(namesPath_iff f w.val s).mpr hn]; exact Bool.false_ne_true),
    if_neg (by decide), if_neg (by decide), if_pos rfl, hcal]
  split
  · have hev : calEndedEv a = calEndedEv s := by rw [ha]; rfl
    have hown : aside s a = s := by rw [ha]; exact aside_heardWord ..
    rw [calEnd_aborted, hev, aside_emit, emit_port, aside_setCal, hown, hcal]
    exact ⟨rfl, rfl⟩
  · exact word_idle ha rfl

/-- Settles O25: the commands by their key and path, and the time-out by either of its conditions. -/
theorem calibrationRuns : Obligations.CalibrationRuns := by
  unfold Obligations.CalibrationRuns
  refine ⟨flwCtrl_starts (.inl rfl) fun _ _ => rfl, flwCtrl_starts (.inr rfl) fun _ _ => rfl, flwCtrl_aborts,
    flwCtrl_unnamed (by decide) fun _ _ => rfl, flwCtrl_unnamed (by decide) fun _ _ => rfl,
    flwCtrl_unnamed (by decide) fun _ _ => rfl, fun s hl h1 hdue => ?_⟩
  have hon : (live s && calDue s) = true := by rw [hl, calDue_of h1 hdue]; rfl
  have hpwc : (calEnd 3 0 s).pwc = s.pwc := by rw [calEnd_aborted, emit_pwc]; rfl
  exact ⟨_, rfl, (hfxAside_event hon (chd_calEnd 3 0 s) hpwc).trans (calEnd_aborted s)⟩

end Sys2Proof.Proofs
end

section
/-! PROOFS. Writes of the flow registers: the check of a stored reference, the relations that a write keeps, and CFG_REJECT (R213,
R236, R243, R244). -/

namespace Sys2Proof.Proofs

open Sys2Proof Sys2Proof.Machine Sys2Proof.Safety Sys2Proof.Laws

/-! ### The reference check -/

/-- A path whose reference has been checked: CRC 0 selects the synthetic one, the CRC of the learned bytes, where the slot `has` them,
accepts them, and any other places the path in FAULT (R213). -/
def refJudged (has : Bool) (found crc : Word) (x : FPath) : FPath :=
  if crc = 0 then { x with refLearned := false, refMismatch := false, refAct := 0 }
  else if has = true ∧ found = crc then { x with refLearned := true, refMismatch := false, refAct := crc }
  else { x with
    state := .fault, tag := .invalid, ttag := .invalid, refLearned := false, refMismatch := true, refFault := true, refAct := 0 }

/-- The verdict on the reference of path p as its registers stand. -/
def refVerdict (s : State) (p : Nat) : FPath → FPath :=
  refJudged (vget s.flw.refHas p false) (crc32 (refBytes s p)) (cfgV s (flowOff p 0x30 0x3328))

theorem calLeft_form (p : Nat) (s : State) : ∃ c, calLeft p s = setCal c s := by
  unfold calLeft
  split
  · exact ⟨_, rfl⟩
  · exact ⟨s.flw.cal, rfl⟩

/-- The reference check changes its path, a calibration on it, and the combined words; a wrong reference raises an event. -/
theorem refCheck_form (p : Nat) (s : State) : ∃ es c k g, refCheck p s = emitAll es { s with flw := { s.flw with
    path := vmod s.flw.path p (refVerdict s p), cal := c, qcTag := k, qcCls := g } } := by
  have hfound : (vget s.flw.refHas p false = true ∧ (if vget s.flw.refHas p false = true then crc32 (refBytes s p) else 0) =
      cfgV s (flowOff p 0x30 0x3328)) ↔ vget s.flw.refHas p false = true ∧ crc32 (refBytes s p) = cfgV s (flowOff p 0x30 0x3328) :=
    and_congr_right fun h => by rw [if_pos h]
  simp only [refCheck, hfound]
  by_cases hzero : cfgV s (flowOff p 0x30 0x3328) = 0
  · have hj : refVerdict s p = _ := funext fun x => if_pos hzero
    rw [if_pos hzero, hj]
    exact ⟨[], s.flw.cal, s.flw.qcTag, s.flw.qcCls, rfl⟩
  · by_cases hcrc : vget s.flw.refHas p false = true ∧ crc32 (refBytes s p) = cfgV s (flowOff p 0x30 0x3328)
    · have hj : refVerdict s p = _ := funext fun x => (if_neg hzero).trans (if_pos hcrc)
      rw [if_neg hzero, if_pos hcrc, hj]
      exact ⟨[], s.flw.cal, s.flw.qcTag, s.flw.qcCls, rfl⟩
    · have hj : refVerdict s p = _ := funext fun x => (if_neg hzero).trans (if_neg hcrc)
      obtain ⟨k, g, hstop⟩ := pathStop_form p .fault s
      obtain ⟨c, hleft⟩ := calLeft_form p (setPath p (fun x => { x with state := .fault, tag := .invalid, ttag := .invalid }) s)
      rw [if_neg hzero, if_neg hcrc, hstop, pathDown, hleft, hj]
      refine ⟨[_], c, k, g, congrArg (emit _) ?_⟩
      simp only [setPath, setCal, vmod_vmod]

/-! ### What a write does -/

/-- The flow block outside path p, the volumes and the references are as before. -/
structure PathOnly (p : Nat) (a b : Flw) : Prop where
  others : ∀ q, q ≠ p → vget b.path q FPath.off = vget a.path q FPath.off
  vol : b.vol = a.vol
  refs : b.refs = a.refs

/-- A write that keeps its relation stores the register and lets its path follow (R213, R215, R236). -/
theorem flowWrite_stored {off : Nat} (h : 0x3100 ≤ off) (v : Word) (s : State)
    (hok : flowRelOk (cfgSet s.cfg off v) ((off - 0x3100) / 0x100) off = true) :
    ∃ es w, flowWrite off v s = emitAll es { s with cfg := cfgSet s.cfg off v, flw := w } ∧
      PathOnly ((off - 0x3100) / 0x100) s.flw w := by
  have hp : ∀ (g : FPath → FPath) q, q ≠ (off - 0x3100) / 0x100 →
      vget (vmod s.flw.path ((off - 0x3100) / 0x100) g) q FPath.off = vget s.flw.path q FPath.off :=
    fun g q hq => vget_vmod_ne _ _ _ _ _ hq
  simp only [flowWrite, if_neg (show ¬ off = 0x3000 by omega), if_neg (show ¬ off < 0x3100 by omega), if_pos hok]
  split
  · obtain ⟨es, c, k, g, hcheck⟩ := refCheck_form ((off - 0x3100) / 0x100) { s with cfg := cfgSet s.cfg off v }
    exact ⟨es, _, hcheck, hp _, rfl, rfl⟩
  · split
    · split
      · refine ⟨[], _, rfl, fun q hq => ?_, rfl, rfl⟩
        exact (vget_vmod_ne _ _ _ _ _ hq).trans (hp _ q hq)
      · exact ⟨[], _, rfl, hp _, rfl, rfl⟩
    · exact ⟨[], s.flw, rfl, fun _ _ => rfl, rfl, rfl⟩

theorem flowWrite_rejected {off : Nat} (h : 0x3100 ≤ off) (v : Word) (s : State)
    (hbad : flowRelOk (cfgSet s.cfg off v) ((off - 0x3100) / 0x100) off = false) :
    flowWrite off v s = flowReject ((off - 0x3100) / 0x100) s := by
  simp only [flowWrite, if_neg (show ¬ off = 0x3000 by omega), if_neg (show ¬ off < 0x3100 by omega), hbad,
    if_neg Bool.false_ne_true]

theorem flowWrite_shared {off : Nat} (h : off < 0x3100) (h0 : off ≠ 0x3000) (v : Word) (s : State) :
    flowWrite off v s = { s with cfg := cfgSet s.cfg off v } := by
  simp only [flowWrite, if_neg h0, if_pos h]

/-- Each path of a list is rejected. -/
theorem flowReject_foldl (l : List Nat) (s : State) : l.foldl (fun a p => flowReject p a) s =
    { s with flw := { s.flw with path := vmap s.flw.path fun p x => if p ∈ l then { x with cfgReject := true } else x } } := by
  have hstep : ∀ (q : Nat) (a : State), flowReject q a =
      { a with flw := { a.flw with path := vmod a.flw.path q fun x => { x with cfgReject := true } } } := fun _ _ => rfl
  induction l generalizing s with
  | nil =>
    have hid : (vmap s.flw.path fun _ x => x) = s.flw.path := by ext j hj; simp [vmap]
    simp [hid]
  | cons q l ih =>
    rw [List.foldl_cons, ih, hstep]
    refine congrArg (fun v => ({ s with flw := { s.flw with path := v } } : State)) ?_
    ext j hj
    simp only [vmap, vmod, Vector.getElem_ofFn, List.mem_cons]
    by_cases hjq : j = q <;> simp [hjq]

/-- FLW_PERIOD is judged by every existing pipe path (R215). -/
theorem flowWrite_period (v : Word) (s : State) : flowWrite 0x3000 v s =
    (let c := cfgSet s.cfg 0x3000 v
     if (pathExists s 0 = true → flowRelOk c 0 0x3000 = true) ∧ (pathExists s 1 = true → flowRelOk c 1 0x3000 = true) then { s with cfg := c }
     else { s with flw := { s.flw with
       path := vmap s.flw.path fun p x => if p < 2 ∧ pathExists s p = true then { x with cfgReject := true } else x } }) := by
  have hall : (([0, 1].filter fun p => pathExists s p).all fun p => flowRelOk (cfgSet s.cfg 0x3000 v) p 0x3000) = true ↔
      (pathExists s 0 = true → flowRelOk (cfgSet s.cfg 0x3000 v) 0 0x3000 = true) ∧
        (pathExists s 1 = true → flowRelOk (cfgSet s.cfg 0x3000 v) 1 0x3000 = true) := by
    simp [imp_iff_not_or]
  have hmem : ∀ p, p ∈ ([0, 1].filter fun p => pathExists s p) ↔ p < 2 ∧ pathExists s p = true := fun p => by
    rw [List.mem_filter, show p ∈ [0, 1] ↔ p < 2 by simp; omega]
  simp only [flowWrite, if_true, flowReject_foldl, hmem]
  exact if_congr hall rfl rfl

/-! ### The words -/

/-- The registers of FLW but FLW_CTRL are stored by the rules of the chapter. -/
theorem wordDone_flow {off : Nat} (hlo : 0x3000 ≤ off) (hhi : off < 0x3800) (hc : off ≠ 0x300C) {r : RegSpec} (hr : specOf off = some r)
    (f : Facet) (p : Port) (v : Word) (s : State) : wordDone f p off v s = flowWrite off (storeFields r.flds v) s := by
  have hfs : ¬ within off 0x1100 0x111C = true := by rw [within_iff]; omega
  have hcfg : cfgWrite off r v s = flowWrite off (storeFields r.flds v) s := by
    rw [cfgWrite, if_neg (by omega), if_neg (by omega), if_neg (by omega), if_neg hfs]
    simp (disch := omega) only [if_neg, if_pos]
  rw [wordDone, inFrameMem_eq_false (by omega), if_neg Bool.false_ne_true]
  simp (disch := omega) only [regWrite, if_neg, hr, hcfg]

/-- Registers and flow block are set alike whatever every accepted request may change. -/
theorem aside_cfg {s h : State} (hs : aside s h = s) (c : List (Nat × Word)) : aside s { h with cfg := c } = { s with cfg := c } :=
  congrArg (fun t : State => { t with cfg := c }) hs

theorem aside_stored {s h : State} (hs : aside s h = s) (c : List (Nat × Word)) (x : Flw) :
    aside s { h with cfg := c, flw := x } = { s with cfg := c, flw := x } :=
  congrArg (fun t : State => { t with cfg := c, flw := x }) hs

theorem aside_flowReject {s h : State} (hs : aside s h = s) (p : Nat) : aside s (flowReject p h) = flowReject p s :=
  congrArg (flowReject p) hs

/-- An accepted word is applied in a state that only what every accepted request may change tells from `s`. -/
theorem word_row {off : Nat} {f : Facet} {w : RegWr} {s : State} (ha : accepted s f off w = true) (harea : inAreaData off = false)
    (hreset : off ≠ 0x0018) : ∃ h, aside s h = s ∧ ∀ u, (wordDone f w.port off w.val h).port = h.port →
      aside s (wordDone f w.port off w.val h) = u → rowDone s (hostWord off w.val w s) w u :=
  ⟨heardWord f off w s, aside_heardWord f off w s, fun u hport hu => rowDone_accepted f off w.val w s u ha harea (.inl hreset) hport hu⟩

/-- A write of a flow register, accepted. -/
theorem flow_row {off : Nat} (hlo : 0x3000 ≤ off) (hhi : off < 0x3800) (hc : off ≠ 0x300C) {r : RegSpec} (hr : specOf off = some r)
    {f : Facet} {w : RegWr} {s : State} (ha : accepted s f off w = true) :
    ∃ h, aside s h = s ∧ ∀ u, (flowWrite off (storeFields r.flds w.val) h).port = h.port →
      aside s (flowWrite off (storeFields r.flds w.val) h) = u → rowDone s (hostWord off w.val w s) w u := by
  obtain ⟨h, hs, hrow⟩ := word_row ha (inAreaData_eq_false (by omega)) (by omega)
  rw [wordDone_flow hlo hhi hc hr] at hrow
  exact ⟨h, hs, hrow⟩

/-- What an accepted write leaves that only raises events besides. -/
theorem row_emits {s t u : State} {w : RegWr} {es : List Ev} (h : rowDone s t w (emitAll es u)) :
    t.cfg = u.cfg ∧ t.flw = u.flw ∧ eventsAside s (aside s t) = eventsAside s u := by
  obtain ⟨-, hu⟩ := h
  refine ⟨(part_of hu State.cfg fun _ => rfl).trans (emitAll_keeps State.cfg emit_cfg es u),
    (part_of hu State.flw fun _ => rfl).trans (emitAll_keeps State.flw emit_flw es u), ?_⟩
  rw [hu, eventsAside_emitAll]

/-- An accepted write of a path's register that keeps its relation. -/
theorem flow_row_stored {off : Nat} (hlo : 0x3100 ≤ off) (hhi : off < 0x3340) {r : RegSpec} (hr : specOf off = some r)
    {f : Facet} {w : RegWr} {s : State} (ha : accepted s f off w = true)
    (hok : flowRelOk (cfgSet s.cfg off (storeFields r.flds w.val)) ((off - 0x3100) / 0x100) off = true) :
    ∃ es x, rowDone s (hostWord off w.val w s) w
        (emitAll es { s with cfg := cfgSet s.cfg off (storeFields r.flds w.val), flw := x }) ∧
      PathOnly ((off - 0x3100) / 0x100) s.flw x := by
  obtain ⟨h, hs, hrow⟩ := flow_row (by omega) (by omega) (by omega) hr ha
  have hcfg : h.cfg = s.cfg := part_of hs State.cfg fun _ => rfl
  have hflw : h.flw = s.flw := part_of hs State.flw fun _ => rfl
  rw [← hcfg] at hok ⊢
  obtain ⟨es, x, hw, hx⟩ := flowWrite_stored hlo (storeFields r.flds w.val) h hok
  exact ⟨es, x, hrow _ (by rw [hw, emitAll_port]) (by rw [hw, aside_emitAll, aside_stored hs]), hflw ▸ hx⟩

/-! ### References -/

/-- The offsets of the three reference CRCs. -/
theorem refOff_eq (i : Fin 3) : [0x3130, 0x3230, 0x3328].getD i.val 0x3130 = flowOff i.val 0x30 0x3328 := by
  fin_cases i <;> rfl

theorem refOff_place (i : Fin 3) : 0x3100 ≤ flowOff i.val 0x30 0x3328 ∧ flowOff i.val 0x30 0x3328 < 0x3340 ∧
    (flowOff i.val 0x30 0x3328 - 0x3100) / 0x100 = i.val := by
  fin_cases i <;> decide

theorem specOf_ref (i : Fin 3) : specOf (flowOff i.val 0x30 0x3328) = some (metReg 0 [fAny 0 32]) := by
  fin_cases i <;> rfl

/-- A reference CRC has no relation to keep. -/
theorem flowRelOk_ref (c : List (Nat × Word)) (i : Fin 3) : flowRelOk c i.val (flowOff i.val 0x30 0x3328) = true := by
  fin_cases i <;> rfl

/-- A changed reference CRC of an existing path is stored and checked (R213). -/
theorem flowWrite_ref (i : Fin 3) (v : Word) (s : State) (he : pathExists s i.val = true) (hv : cfgV s (flowOff i.val 0x30 0x3328) ≠ v) :
    ∃ es c k g, flowWrite (flowOff i.val 0x30 0x3328) v s = emitAll es { s with
      cfg := cfgSet s.cfg (flowOff i.val 0x30 0x3328) v
      flw := { s.flw with
        path := vmod s.flw.path i.val (refJudged (vget s.flw.refHas i.val false) (crc32 (refBytes s i.val)) v)
        cal := c, qcTag := k, qcCls := g } } := by
  obtain ⟨hlo, -, hp⟩ := refOff_place i
  have hcheck : flowWrite (flowOff i.val 0x30 0x3328) v s =
      refCheck i.val { s with cfg := cfgSet s.cfg (flowOff i.val 0x30 0x3328) v } := by
    simp only [flowWrite, if_neg (show ¬ flowOff i.val 0x30 0x3328 = 0x3000 by omega),
      if_neg (show ¬ flowOff i.val 0x30 0x3328 < 0x3100 by omega), hp, flowRelOk_ref, if_true]
    exact if_pos ⟨trivial, hv, he⟩
  obtain ⟨es, c, k, g, hform⟩ := refCheck_form i.val { s with cfg := cfgSet s.cfg (flowOff i.val 0x30 0x3328) v }
  rw [refVerdict, cfgV_cfgSet] at hform
  exact ⟨es, c, k, g, hcheck.trans hform⟩

/-- An accepted write that changes the reference CRC of an existing path. -/
theorem ref_row (i : Fin 3) {f : Facet} {w : RegWr} {s : State} (ha : accepted s f (flowOff i.val 0x30 0x3328) w = true)
    (he : pathExists s i.val = true) (hv : cfgV s (flowOff i.val 0x30 0x3328) ≠ w.val) :
    ∃ es c k g, rowDone s (hostWord (flowOff i.val 0x30 0x3328) w.val w s) w (emitAll es { s with
      cfg := cfgSet s.cfg (flowOff i.val 0x30 0x3328) w.val
      flw := { s.flw with
        path := vmod s.flw.path i.val (refJudged (vget s.flw.refHas i.val false) (crc32 (refBytes s i.val)) w.val)
        cal := c, qcTag := k, qcCls := g } }) := by
  obtain ⟨hlo, hhi, -⟩ := refOff_place i
  have hword : storeFields (metReg 0 [fAny 0 32]).flds w.val = w.val := storeFields_word w.val
  obtain ⟨h, hs, hrow⟩ := flow_row (by omega) (by omega) (by omega) (specOf_ref i) ha
  have hcfg : h.cfg = s.cfg := part_of hs State.cfg fun _ => rfl
  have hflw : h.flw = s.flw := part_of hs State.flw fun _ => rfl
  have hbytes : refBytes h i.val = refBytes s i.val := by rw [refBytes, hflw, refBytes]
  obtain ⟨es, c, k, g, hw⟩ := flowWrite_ref i w.val h ((pathExists_of_str (part_of hs State.str fun _ => rfl) _).trans he)
    (by rw [cfgV_congr hcfg]; exact hv)
  rw [hcfg, hflw, hbytes] at hw
  rw [hword, hw] at hrow
  exact ⟨es, c, k, g, hrow _ (emitAll_port es _) (by rw [aside_emitAll, aside_stored hs])⟩

/-- The registers of CHD but CHD_CTRL are stored by the rules of the chapter. -/
theorem wordDone_chd {off : Nat} (hlo : 0x3800 ≤ off) (hhi : off < 0x3C00) (hc : off ≠ 0x3814) {r : RegSpec} (hr : specOf off = some r)
    (f : Facet) (p : Port) (v : Word) (s : State) : wordDone f p off v s = chdWrite off (storeFields r.flds v) s := by
  have hfs : ¬ within off 0x1100 0x111C = true := by rw [within_iff]; omega
  have hcfg : cfgWrite off r v s = chdWrite off (storeFields r.flds v) s := by
    rw [cfgWrite, if_neg (by omega), if_neg (by omega), if_neg (by omega), if_neg hfs]
    simp (disch := omega) only [if_neg, if_pos]
  rw [wordDone, inFrameMem_eq_false (by omega), if_neg Bool.false_ne_true]
  simp (disch := omega) only [regWrite, if_neg, hr, hcfg]

/-- CHD_CYCLE is judged by the bank path (R244). -/
theorem chdWrite_cycle (v : Word) (s : State) : chdWrite 0x3804 v s =
    if flowRelOk (cfgSet s.cfg 0x3804 v) 2 0x3804 = true then { s with cfg := cfgSet s.cfg 0x3804 v } else flowReject 2 s := by
  rw [chdWrite, if_pos rfl]

/-- Settles O26: each register by its relation, and a reference CRC by the check of its path. -/
theorem flowConfigurationKeepsItsRelations : Obligations.FlowConfigurationKeepsItsRelations := by
  unfold Obligations.FlowConfigurationKeepsItsRelations
  refine ⟨fun off w f r s hoff ha hr => ⟨_, rfl, ?shared⟩, fun w f r s ha hr => ⟨_, rfl, ?period⟩,
    fun off w f r s hlo hhi ha hr => ⟨fun hbad => ⟨_, rfl, ?rejected⟩, fun hok => ⟨_, rfl, ?stored⟩⟩,
    fun i w f s ha he hv => ⟨_, rfl, ?ref⟩, fun w f r s ha hr => ⟨_, rfl, ?cycle⟩⟩
  case shared =>
    have hn : off.toNat = 0x3004 ∨ off.toNat = 0x3008 := by rcases hoff with rfl | rfl <;> simp
    obtain ⟨h, hs, hrow⟩ := flow_row (by omega) (by omega) (by omega) hr ha
    rw [flowWrite_shared (by omega) (by omega), part_of hs State.cfg fun _ => rfl] at hrow
    exact hrow _ rfl (aside_cfg hs _)
  case period =>
    obtain ⟨h, hs, hrow⟩ := flow_row (by decide) (by decide) (by decide) hr ha
    have hex := pathExists_of_str (part_of hs State.str fun _ => rfl)
    have hcfg : h.cfg = s.cfg := part_of hs State.cfg fun _ => rfl
    have hflw : h.flw = s.flw := part_of hs State.flw fun _ => rfl
    refine hrow _ ?_ ?_
    · rw [flowWrite_period]
      dsimp only
      split <;> rfl
    · simp only [flowWrite_period, hex, hcfg, hflw]
      split
      · exact aside_stored hs _ _
      · exact aside_stored hs _ _
  case rejected =>
    obtain ⟨h, hs, hrow⟩ := flow_row (by omega) (by omega) (by omega) hr ha
    rw [flowWrite_rejected hlo _ h (by rw [part_of hs State.cfg fun _ => rfl]; exact hbad)] at hrow
    exact hrow _ rfl (aside_flowReject hs _)
  case stored =>
    obtain ⟨es, x, hdone, hothers, hvol, hrefs⟩ := flow_row_stored hlo hhi hr ha hok
    obtain ⟨hcfg, hflw, hrest⟩ := row_emits hdone
    refine ⟨hcfg, fun q hq => ?_, by rw [hflw]; exact hvol, by rw [hflw]; exact hrefs, by rw [hrest, hflw]; rfl⟩
    rw [flowPath, hflw]
    exact hothers q hq
  case ref =>
    rw [refOff_eq] at ha hv ⊢
    obtain ⟨es, c, k, g, hdone⟩ := ref_row i ha he hv
    obtain ⟨hcfg, hflw, hrest⟩ := row_emits hdone
    have hval : cfgV (hostWord (flowOff i.val 0x30 0x3328) w.val w s) (flowOff i.val 0x30 0x3328) = w.val := by
      rw [cfgV_congr hcfg]
      exact cfgV_cfgSet s _ w.val
    have hpath : ∀ q, flowPath (hostWord (flowOff i.val 0x30 0x3328) w.val w s) q = if q = i.val then
        refJudged (vget s.flw.refHas i.val false) (crc32 (refBytes s i.val)) w.val (flowPath s i.val) else flowPath s q := fun q => by
      rw [flowPath, hflw]
      exact flowPath_vmod i.isLt q _ s
    have hself := (hpath i.val).trans (if_pos rfl)
    refine ⟨hval, fun h0 => ?_, fun h0 hhas hcrc => ?_, fun h0 hbad => ?_, fun q hq => (hpath q).trans (if_neg hq),
      by rw [hrest, hcfg, hflw]; rfl⟩
    · rw [hself, refJudged, if_pos h0]
      exact ⟨rfl, rfl⟩
    · rw [hself, refJudged, if_neg h0, if_pos ⟨hhas, hcrc⟩]
      exact ⟨rfl, rfl⟩
    · have hnot : ¬ (vget s.flw.refHas i.val false = true ∧ crc32 (refBytes s i.val) = w.val) := fun ⟨hhas, hcrc⟩ =>
        hbad.elim (fun h => Bool.noConfusion (h.symm.trans hhas)) (fun h => h hcrc)
      rw [hself, refJudged, if_neg h0, if_neg hnot]
      exact ⟨rfl, rfl, rfl⟩
  case cycle =>
    obtain ⟨h, hs, hrow⟩ := word_row ha (inAreaData_eq_false (by decide)) (by decide)
    rw [wordDone_chd (by decide) (by decide) (by decide) hr, chdWrite_cycle, part_of hs State.cfg fun _ => rfl] at hrow
    refine hrow _ ?_ ?_
    · split <;> rfl
    · dsimp only
      split
      · exact aside_cfg hs _
      · exact aside_flowReject hs 2

end Sys2Proof.Proofs
end

section
/-! PROOFS. Outcomes of pipe pairs: what an outcome, the combined flow and a calibration that takes it may change, and the cases of
PAIR_OUTCOME (R219, R225 to R231, R233). -/

namespace Sys2Proof.Proofs

open Sys2Proof Sys2Proof.Machine Sys2Proof.Safety Sys2Proof.Laws

/-! ### What an outcome may change -/

/-- What the outcome of a pipe pair may change, set back to `s`: registers that a calibration writes, the flow block, the commit that
falls due, and events. -/
def pipeAside (s t : State) : State :=
  { eventsAside s t with
    cfg := s.cfg, flw := s.flw, sto := { (eventsAside s t).sto with deferred := s.sto.deferred } }

theorem pipeAside_emit (s : State) (e : Ev) (t : State) : pipeAside s (emit e t) = pipeAside s t := by
  rw [pipeAside, eventsAside_emit]
  rfl

theorem pipeAside_emitAll (s : State) (es : List Ev) (t : State) : pipeAside s (emitAll es t) = pipeAside s t :=
  emitAll_keeps (pipeAside s) (fun e t => pipeAside_emit s e t) es t

theorem emit_deferred (e : Ev) (s : State) : (emit e s).sto.deferred = s.sto.deferred := by
  unfold emit
  split <;> rfl

theorem pendInc_form (i : VolInc) (s : State) : ∃ l, pendInc i s = { s with flw := { s.flw with pend := s.flw.pend ++ l } } ∧
    (volDefined s i.set_ = true → i ∈ l) := by
  unfold pendInc
  split
  · exact ⟨[i], rfl, fun _ => List.mem_singleton.mpr rfl⟩
  · next h => exact ⟨[], by rw [List.append_nil], fun hd => absurd hd h⟩

theorem pairDue_form (s : State) : ∃ d, pairDue s = { s with sto := { s.sto with deferred := d } } ∧
    (s.pwc.vmainOk = false → d.isSome = true) := by
  unfold pairDue
  split
  · next h => exact ⟨s.sto.deferred, rfl, fun hv => Bool.noConfusion (hv.symm.trans h)⟩
  · exact ⟨_, rfl, fun _ => commitDue_deferred .pair s⟩

/-- The combined flow and its increment (R229, R231). -/
theorem combine_form (p at_ : Nat) (b : FPath) (parts : Parts) (s : State) : ∃ c t g o r k l, combine p at_ b parts s =
    { s with flw := { s.flw with
      qc := c, qcTag := t, qcSingle := g, qcPath := o, qcFrom := r, qcCls := k, pend := s.flw.pend ++ l } } := by
  unfold combine
  dsimp only
  split
  · obtain ⟨l, hl, -⟩ := pendInc_form _ _
    exact ⟨_, _, _, _, _, _, l, hl⟩
  · obtain ⟨l, hl, -⟩ := pendInc_form _ _
    exact ⟨_, _, _, _, _, _, l, hl⟩

/-! ### An outcome -/

/-- A pair of a path counts only in STARTING, RUN or HOLD (Table 7-3). -/
def countsIn (x : FPath) : Bool := decide (x.state = .starting ∨ x.state = .run ∨ x.state = .hold)

/-- The path after an outcome; a path in FAULT or OFF only loses the interval (R225 to R228, R231). -/
def outcomePath (p at_ : Nat) (a : Bool) (f : FlowCfg) (c : Nat) (res : Option (Vals × Nat × Word)) (s : State) : FPath :=
  let x := flowPath s p
  match res with
  | some r => if countsIn x then validPath x at_ a r.2.1 r.2.2 r.1
    else { x with pair := none, from_ := at_, cls := .invalid, fails := satInc x.fails }
  | none => if countsIn x then failPath x f (holdMs s p) at_ a c
    else { x with pair := none, from_ := at_, cls := .invalid, fails := satInc x.fails, failCause := c }

/-- The parts of the interval that an outcome ends. -/
def outcomeSplit (p at_ : Nat) (res : Option (Vals × Nat × Word)) (s : State) : Parts :=
  outcomeParts (flowPath s p) (holdMs s p) at_ (countsIn (flowPath s p) && res.isSome)

/-- The increment of pipe path p's own volume set. -/
def outcomeInc (p at_ : Nat) (a : Bool) (f : FlowCfg) (c : Nat) (res : Option (Vals × Nat × Word)) (s : State) : VolInc :=
  let parts := outcomeSplit p at_ res s
  let y := outcomePath p at_ a f c res s
  mkInc p (0x10 + p) y.q parts.run parts.held parts.unm y.tag false

theorem outcome_form {p : Nat} (hp : p < 2) (at_ : Nat) (a : Bool) (f : FlowCfg) (c : Nat) (res : Option (Vals × Nat × Word)) (s : State) :
    ∃ es, outcome p at_ a f c res s = emitAll es (pendInc (outcomeInc p at_ a f c res s)
      (pairDue { s with flw := { dropShots p s.flw with path := vmod s.flw.path p fun _ => outcomePath p at_ a f c res s } })) := by
  simp only [outcome, if_pos hp]
  exact ⟨_, rfl⟩

/-- The outcome of a pipe pair: path p is `y`, the increment `i` is pending where its set is defined, and on battery a commit is due. -/
structure PairEnded (p : Nat) (y : FPath) (i : VolInc) (s t : State) : Prop where
  path : t.flw.path = vmod s.flw.path p fun _ => y
  pend : ∃ l, t.flw.pend = s.flw.pend ++ l ∧ (volDefined s i.set_ = true → i ∈ l)
  vol : t.flw.vol = s.flw.vol
  cal : t.flw.cal = s.flw.cal
  cfg : t.cfg = s.cfg
  deferred : s.pwc.vmainOk = false → t.sto.deferred.isSome = true
  rest : ∀ b, pipeAside b t = pipeAside b s

/-- Events leave an ended pair as it is. -/
theorem PairEnded.emitAll {p : Nat} {y : FPath} {i : VolInc} {s t : State} (h : PairEnded p y i s t) (es : List Ev) :
    PairEnded p y i s (emitAll es t) := by
  have hflw : (Machine.emitAll es t).flw = t.flw := emitAll_keeps State.flw emit_flw es t
  have hdef := emitAll_keeps (fun x => x.sto.deferred) emit_deferred es t
  exact {
    path := (congrArg Flw.path hflw).trans h.path
    pend := by rw [hflw]; exact h.pend
    vol := (congrArg Flw.vol hflw).trans h.vol
    cal := (congrArg Flw.cal hflw).trans h.cal
    cfg := (emitAll_keeps State.cfg emit_cfg es t).trans h.cfg
    deferred := fun hv => (congrArg Option.isSome hdef).trans (h.deferred hv)
    rest := fun b => (pipeAside_emitAll b es t).trans (h.rest b) }

/-- The commit falls due, and the increment is pending. -/
theorem pairEnded_pending {p : Nat} {y : FPath} (i : VolInc) {s u : State} (hpath : u.flw.path = vmod s.flw.path p fun _ => y)
    (hu : u = { s with flw := { dropShots p s.flw with path := u.flw.path } }) : PairEnded p y i s (pendInc i (pairDue u)) := by
  obtain ⟨d, hdue, hbat⟩ := pairDue_form u
  obtain ⟨l, hinc, hmem⟩ := pendInc_form i (pairDue u)
  rw [hinc, hdue]
  rw [hdue] at hmem
  rw [hu] at hmem hbat ⊢
  exact ⟨hpath, ⟨l, rfl, hmem⟩, rfl, rfl, rfl, hbat, fun _ => rfl⟩

theorem pairEnded_outcome {p : Nat} (hp : p < 2) (at_ : Nat) (a : Bool) (f : FlowCfg) (c : Nat) (res : Option (Vals × Nat × Word))
    (s : State) :
    PairEnded p (outcomePath p at_ a f c res s) (outcomeInc p at_ a f c res s) s (outcome p at_ a f c res s) := by
  obtain ⟨es, hout⟩ := outcome_form hp at_ a f c res s
  rw [hout]
  exact (pairEnded_pending _ rfl rfl).emitAll es

theorem PairEnded.combined {p : Nat} {y : FPath} {i : VolInc} {s t : State} (h : PairEnded p y i s t) (n at_ : Nat) (b : FPath)
    (parts : Parts) : PairEnded p y i s (combine n at_ b parts t) := by
  obtain ⟨c, g, w, o, r, k, l, hc⟩ := combine_form n at_ b parts t
  obtain ⟨m, hm, hmem⟩ := h.pend
  rw [hc]
  exact { h with
    pend := ⟨m ++ l, by rw [← List.append_assoc, ← hm], fun hd => List.mem_append_left l (hmem hd)⟩ }

/-! ### Calibrations -/

/-- A path without what the check of its reference sets. -/
def unjudged (x : FPath) : FPath :=
  { x with
    state := .off, tag := .invalid, ttag := .invalid, refLearned := false, refMismatch := false, refFault := false, refAct := 0 }

theorem unjudged_refJudged (has : Bool) (found crc : Word) (x : FPath) : unjudged (refJudged has found crc x) = unjudged x := by
  unfold refJudged
  split
  · rfl
  · split <;> rfl

/-- What a calibration may change with an outcome of path p: itself, the registers and references it writes, the verdict on the
path's reference with the combined words, and events. -/
structure CalOnly (p : Nat) (s t : State) : Prop where
  others : ∀ q, q ≠ p → flowPath t q = flowPath s q
  path : unjudged (flowPath t p) = unjudged (flowPath s p)
  vol : t.flw.vol = s.flw.vol
  pend : t.flw.pend = s.flw.pend
  deferred : t.sto.deferred = s.sto.deferred
  rest : ∀ b, pipeAside b t = pipeAside b s

theorem CalOnly.refl (p : Nat) (s : State) : CalOnly p s s := ⟨fun _ _ => rfl, rfl, rfl, rfl, rfl, fun _ => rfl⟩

theorem CalOnly.trans {p : Nat} {s t u : State} (h : CalOnly p s t) (g : CalOnly p t u) : CalOnly p s u :=
  ⟨fun q hq => (g.others q hq).trans (h.others q hq), g.path.trans h.path, g.vol.trans h.vol, g.pend.trans h.pend,
    g.deferred.trans h.deferred, fun b => (g.rest b).trans (h.rest b)⟩

theorem CalOnly.emitAll {p : Nat} {s t : State} (h : CalOnly p s t) (es : List Ev) : CalOnly p s (emitAll es t) := by
  have hflw : (Machine.emitAll es t).flw = t.flw := emitAll_keeps State.flw emit_flw es t
  have hpath : ∀ q, flowPath (Machine.emitAll es t) q = flowPath t q := flowPath_of_flw (congrArg Flw.path hflw)
  exact {
    others := fun q hq => (hpath q).trans (h.others q hq)
    path := by rw [hpath]; exact h.path
    vol := (congrArg Flw.vol hflw).trans h.vol
    pend := (congrArg Flw.pend hflw).trans h.pend
    deferred := (emitAll_keeps (fun x => x.sto.deferred) emit_deferred es t).trans h.deferred
    rest := fun b => (pipeAside_emitAll b es t).trans (h.rest b) }

/-- A calibration, the registers and the references. -/
theorem calOnly_own (p : Nat) (s : State) (r : List (Nat × Word)) (c : Cal) (m : List Host.Cell) (h : Vector Bool 3) :
    CalOnly p s { s with cfg := r, flw := { s.flw with cal := c, refs := m, refHas := h } } :=
  ⟨fun _ _ => rfl, rfl, rfl, rfl, rfl, fun _ => rfl⟩

/-- The verdict on a reference. -/
theorem calOnly_judged {p : Nat} (hp : p < 3) (s : State) {g : FPath → FPath} (hg : ∀ x, unjudged (g x) = unjudged x) (c : Cal) (k : Tag)
    (o : OutClass) :
    CalOnly p s { s with flw := { s.flw with path := vmod s.flw.path p g, cal := c, qcTag := k, qcCls := o } } := by
  have hpath := fun q => flowPath_vmod hp q g s
  exact ⟨fun q hq => (hpath q).trans (if_neg hq), (congrArg unjudged ((hpath p).trans (if_pos rfl))).trans (hg _), rfl, rfl, rfl,
    fun _ => rfl⟩

theorem calOnly_calEnd (p st : Nat) (v : Word) (s : State) : CalOnly p s (calEnd st v s) :=
  (calOnly_own p s s.cfg { s.flw.cal with status := st, leftAt := none } s.flw.refs s.flw.refHas).emitAll [_]

theorem calOnly_refCheck {p : Nat} (hp : p < 3) (s : State) : CalOnly p s (refCheck p s) := by
  obtain ⟨es, c, k, g, hcheck⟩ := refCheck_form p s
  rw [hcheck]
  exact (calOnly_judged hp s (unjudged_refJudged _ _ _) c k g).emitAll es

theorem calOnly_learnDone {p : Nat} (hp : p < 3) (s : State) : CalOnly p s (learnDone p s) := by
  unfold learnDone
  extract_lets bytes crc w s1
  have hown : CalOnly p s s1 := calOnly_own ..
  exact (hown.trans (calOnly_refCheck hp s1)).trans (calOnly_calEnd p 2 crc _)

/-- A calibration takes an outcome (R233). -/
theorem calOnly_calOutcome {p : Nat} (hp : p < 3) (v a : Bool) (corr : Rat) (w : List Rat) (s : State) :
    CalOnly p s (calOutcome p v a corr w s) := by
  unfold calOutcome
  dsimp only
  refine iteInduction (fun _ => iteInduction (fun _ => iteInduction (fun _ => iteInduction (fun _ => ?learn) fun _ => ?zero)
    fun _ => ?taken) fun _ => ?lost) fun _ => CalOnly.refl p s
  case learn => exact (calOnly_own p s s.cfg _ s.flw.refs s.flw.refHas).trans (calOnly_learnDone hp _)
  case zero => exact (calOnly_own p s _ _ s.flw.refs s.flw.refHas).trans (calOnly_calEnd p 2 _ _)
  case taken => exact calOnly_own p s s.cfg _ s.flw.refs s.flw.refHas
  case lost => exact calOnly_own p s s.cfg _ s.flw.refs s.flw.refHas

/-- The paths are as they were. -/
def PathsKept (s t : State) : Prop := t.flw.path = s.flw.path

/-- While no LEARN runs no reference is checked. -/
theorem pathsKept_calOutcome (p : Nat) (v a : Bool) (corr : Rat) (w : List Rat) {s : State}
    (h : s.flw.cal.status ≠ 1 ∨ s.flw.cal.cmd ≠ 2) : PathsKept s (calOutcome p v a corr w s) := by
  unfold calOutcome
  dsimp only
  refine iteInduction (fun hon => iteInduction (fun _ => iteInduction (fun _ => iteInduction (fun hcmd => ?learn) fun _ => ?zero)
    fun _ => rfl) fun _ => rfl) fun _ => rfl
  case learn => exact absurd hcmd (h.resolve_left (not_not.mpr hon.1))
  case zero => rw [PathsKept, calEnd, emit_flw]

/-! ### PAIR_OUTCOME -/

/-- The outcome of path p's pair with its combined flow, which a calibration takes. -/
def pairSettled (p : Nat) (q : PairSt) (c : Nat) (res : Option (Vals × Nat × Word)) (corr : Rat) (w : List Rat) (s : State) : State :=
  let at_ := q.dnAt.getD s.aon
  calOutcome p (countsIn (flowPath s p) && res.isSome) q.assign corr w
    (combine p at_ (flowPath s p) (outcomeSplit p at_ res s) (outcome p at_ q.assign (flowCfg q.cfg p) c res s))

/-- The pair was cut off, or one of its evaluated shots or the pair itself failed (R218, R226). -/
def PairFailed (q : PairSt) : Prop := q.abort = true ∨ (q.dn.isSome = true ∧ q.up.isSome = true ∧ pairCause q ≠ 0)

theorem pairOutcome_failed {p : Nat} {q : PairSt} {s : State} (hq : (flowPath s p).pair = some q) (h : PairFailed q) :
    pairOutcome p s = pairSettled p q (pairCause q) none 0 [] s := by
  simp only [pairOutcome, hq]
  by_cases ha : q.abort = true
  · rw [if_pos ha]
    rfl
  · obtain ⟨hdn, hup, hc⟩ := h.resolve_left ha
    obtain ⟨dn, hdn⟩ := Option.isSome_iff_exists.mp hdn
    obtain ⟨up, hup⟩ := Option.isSome_iff_exists.mp hup
    simp only [if_neg ha, hdn, hup, if_pos hc]
    rfl

/-- What two passing shots give: the values, the gain AGC leaves, and FLW_RXINFO. -/
def pairGives (p : Nat) (q : PairSt) (dn up : ShotRes) (s : State) : Vals × Nat × Word :=
  (pipeVals s p (q.dnAt.getD s.aon) q dn up, gainAfter (flowCfg q.cfg p) q.gain dn up, rxWord q.gain dn up)

section
variable {p : Nat} {q : PairSt} {dn up : ShotRes} {s : State} (hq : (flowPath s p).pair = some q) (ha : q.abort = false)
include hq ha

theorem pairOutcome_passed (hdn : q.dn = some dn) (hup : q.up = some up) (hc : pairCause q = 0)
    (hv : tooFast (flowCfg q.cfg p).vMax (pipeVals s p (q.dnAt.getD s.aon) q dn up).v = false) :
    ∃ corr w, pairOutcome p s = pairSettled p q 0 (some (pairGives p q dn up s)) corr w s := by
  simp only [pairOutcome, hq, ha, hdn, hup, if_neg (not_not.mpr hc), hv, if_neg Bool.false_ne_true]
  exact ⟨_, _, rfl⟩

theorem pairOutcome_tooFast (hdn : q.dn = some dn) (hup : q.up = some up) (hc : pairCause q = 0)
    (hv : tooFast (flowCfg q.cfg p).vMax (pipeVals s p (q.dnAt.getD s.aon) q dn up).v = true) :
    pairOutcome p s = pairSettled p q 65536 none 0 [] s := by
  simp only [pairOutcome, hq, ha, hdn, hup, if_neg (not_not.mpr hc), hv, if_neg Bool.false_ne_true, if_true]
  rfl

theorem pairOutcome_waits (h : q.dn = none ∨ q.up = none) : pairOutcome p s = s := by
  simp only [pairOutcome, hq, ha, if_neg Bool.false_ne_true]
  split
  · next hdn hup => rcases h with h | h <;> simp [h] at hdn hup
  · rfl

end

/-- A pair that is cut off or whose shots are both evaluated is settled. -/
theorem pairOutcome_settles {p : Nat} {q : PairSt} {s : State} (hq : (flowPath s p).pair = some q)
    (h : q.abort = true ∨ (q.dn.isSome = true ∧ q.up.isSome = true)) :
    ∃ c res corr w, pairOutcome p s = pairSettled p q c res corr w s := by
  by_cases hf : PairFailed q
  · exact ⟨_, _, _, _, pairOutcome_failed hq hf⟩
  · obtain ⟨ha, hboth⟩ := not_or.mp hf
    obtain ⟨hdn, hup⟩ := h.resolve_left ha
    have hc : pairCause q = 0 := by_contra fun hc => hboth ⟨hdn, hup, hc⟩
    obtain ⟨dn, hdn⟩ := Option.isSome_iff_exists.mp hdn
    obtain ⟨up, hup⟩ := Option.isSome_iff_exists.mp hup
    have ha := (Bool.not_eq_true _).mp ha
    cases hv : tooFast (flowCfg q.cfg p).vMax (pipeVals s p (q.dnAt.getD s.aon) q dn up).v with
    | true => exact ⟨_, _, _, _, pairOutcome_tooFast hq ha hdn hup hc hv⟩
    | false =>
      obtain ⟨corr, w, hpass⟩ := pairOutcome_passed hq ha hdn hup hc hv
      exact ⟨_, _, _, _, hpass⟩

/-- A settled pair leaves path `y` but for a calibration's verdict on its reference, and the increment `i` pending. -/
structure PairDone (p : Nat) (y : FPath) (i : VolInc) (s t : State) : Prop where
  others : ∀ j, j ≠ p → flowPath t j = flowPath s j
  path : unjudged (flowPath t p) = unjudged y
  pend : s.flw.pend <+: t.flw.pend ∧ (volDefined s i.set_ = true → i ∈ t.flw.pend)
  vol : t.flw.vol = s.flw.vol
  deferred : s.pwc.vmainOk = false → t.sto.deferred.isSome = true
  rest : ∀ b, pipeAside b t = pipeAside b s

/-- The paths after the outcome of a pair. -/
theorem PairEnded.flowPath_eq {p : Nat} (hp : p < 3) {y : FPath} {i : VolInc} {s t : State} (h : PairEnded p y i s t) (j : Nat) :
    flowPath t j = if j = p then y else flowPath s j := by
  rw [flowPath, h.path]
  exact flowPath_vmod hp j (fun _ => y) s

/-- A calibration takes the outcome. -/
theorem PairEnded.done {p : Nat} (hp : p < 3) {y : FPath} {i : VolInc} {s t u : State} (h : PairEnded p y i s t) (hc : CalOnly p t u) :
    PairDone p y i s u := by
  obtain ⟨l, hl, hmem⟩ := h.pend
  have hpend : u.flw.pend = s.flw.pend ++ l := hc.pend.trans hl
  exact {
    others := fun j hj => (hc.others j hj).trans ((h.flowPath_eq hp j).trans (if_neg hj))
    path := by rw [hc.path, h.flowPath_eq hp, if_pos rfl]
    pend := by rw [hpend]; exact ⟨List.prefix_append _ _, fun hd => List.mem_append_right _ (hmem hd)⟩
    vol := hc.vol.trans h.vol
    deferred := fun hv => (congrArg Option.isSome hc.deferred).trans (h.deferred hv)
    rest := fun b => (hc.rest b).trans (h.rest b) }

section
variable {p : Nat} (hp : p < 2) (q : PairSt) (c : Nat) (res : Option (Vals × Nat × Word)) (corr : Rat) (w : List Rat) (s : State)
include hp

/-- A settled pair: its outcome, and what a calibration makes of it. -/
theorem pairSettled_ended : ∃ t, PairEnded p (outcomePath p (q.dnAt.getD s.aon) q.assign (flowCfg q.cfg p) c res s)
      (outcomeInc p (q.dnAt.getD s.aon) q.assign (flowCfg q.cfg p) c res s) s t ∧
    pairSettled p q c res corr w s = calOutcome p (countsIn (flowPath s p) && res.isSome) q.assign corr w t :=
  ⟨_, (pairEnded_outcome hp _ _ _ c res s).combined p _ _ _, rfl⟩

theorem pairSettled_done : PairDone p (outcomePath p (q.dnAt.getD s.aon) q.assign (flowCfg q.cfg p) c res s)
    (outcomeInc p (q.dnAt.getD s.aon) q.assign (flowCfg q.cfg p) c res s) s (pairSettled p q c res corr w s) := by
  obtain ⟨t, ht, hcal⟩ := pairSettled_ended hp q c res corr w s
  rw [hcal]
  exact ht.done (by omega) (calOnly_calOutcome (by omega) _ _ _ _ t)

/-- While no LEARN runs the path is the outcome's. -/
theorem pairSettled_path (h : s.flw.cal.status ≠ 1 ∨ s.flw.cal.cmd ≠ 2) :
    flowPath (pairSettled p q c res corr w s) p = outcomePath p (q.dnAt.getD s.aon) q.assign (flowCfg q.cfg p) c res s := by
  obtain ⟨t, ht, hcal⟩ := pairSettled_ended hp q c res corr w s
  rw [hcal, flowPath_of_flw (pathsKept_calOutcome p _ _ corr w (by rw [ht.cal]; exact h)), ht.flowPath_eq (by omega), if_pos rfl]

end

/-- A failed pair completes no calibration: its path is the outcome's, and no register is written. -/
theorem pairSettled_fails {p : Nat} (hp : p < 2) (q : PairSt) (c : Nat) (s : State) :
    flowPath (pairSettled p q c none 0 [] s) p = outcomePath p (q.dnAt.getD s.aon) q.assign (flowCfg q.cfg p) c none s ∧
      (pairSettled p q c none 0 [] s).cfg = s.cfg := by
  obtain ⟨t, ht, hcal⟩ := pairSettled_ended hp q c none 0 [] s
  rw [Option.isSome_none, Bool.and_false] at hcal
  obtain ⟨k, hk⟩ := calOutcome_invalid p q.assign 0 [] t
  rw [hcal, hk]
  exact ⟨(ht.flowPath_eq (by omega) p).trans (if_pos rfl), ht.cfg⟩

/-- The path after the outcome of its pair has none in flight. -/
theorem outcomePath_pair (p at_ : Nat) (a : Bool) (f : FlowCfg) (c : Nat) (res : Option (Vals × Nat × Word)) (s : State) :
    (outcomePath p at_ a f c res s).pair = none := by
  unfold outcomePath
  dsimp only
  split
  · split <;> rfl
  · split
    · exact failPath_pair ..
    · rfl

end Sys2Proof.Proofs
end

section
/-! PROOFS. The path after an outcome, PAIR_OUTCOME as an event, and O50 (R217, R219, R225 to R231). -/

namespace Sys2Proof.Proofs

open Sys2Proof Sys2Proof.Machine Sys2Proof.Safety Sys2Proof.Laws

/-! ### The path after a failed pair -/

/-- In any state a failed pair ends the interval, counts, and leaves the values (R226). -/
theorem outcomePath_failed (p at_ : Nat) (a : Bool) (f : FlowCfg) (c : Nat) (s : State) :
    let x := flowPath s p
    let y := outcomePath p at_ a f c none s
    y.pair = none ∧ y.fails = satInc x.fails ∧ y.pairs = x.pairs ∧ y.gain = x.gain ∧ y.e = x.e ∧ y.failCause = c ∧ y.from_ = at_ ∧
      y.q = x.q ∧ y.v = x.v ∧ y.last = x.last := by
  intro x y
  have hy : y = if countsIn x then failPath x f (holdMs s p) at_ a c
    else { x with pair := none, from_ := at_, cls := .invalid, fails := satInc x.fails, failCause := c } := rfl
  rw [hy]
  split
  · unfold failPath
    dsimp only
    split <;> exact ⟨rfl, rfl, rfl, rfl, rfl, rfl, rfl, rfl, rfl, rfl⟩
  · exact ⟨rfl, rfl, rfl, rfl, rfl, rfl, rfl, rfl, rfl, rfl⟩

section
variable {x : FPath} {hold at_ : Nat} (f : FlowCfg) (a : Bool) (c : Nat)

theorem failPath_starting (h : x.state = .starting) :
    (failPath x f hold at_ a c).state = .starting ∧ (failPath x f hold at_ a c).tag = .invalid := by
  simp [failPath, h]

theorem failParts_held {l : LastValid} (hl : x.last = some l) (he : x.expired = false) (hage : (at_ - l.at_) * 1000 ≤ hold * 32768) :
    failParts x hold at_ = (⟨0, (at_ - x.from_) * 1000, 0⟩, false) := by
  simp [failParts, hl, he, hage]

theorem failParts_expires {l : LastValid} (hl : x.last = some l) (he : x.expired = false) (hage : hold * 32768 < (at_ - l.at_) * 1000) :
    (failParts x hold at_).2 = true := by
  simp [failParts, hl, he, hage.not_ge]

theorem failParts_expired (he : x.expired = true) : (failParts x hold at_).2 = false := by
  unfold failParts
  split <;> simp [he]

/-- A failed pair within the hold time holds the last values (R227). -/
theorem failPath_held (h : x.state = .run ∨ x.state = .hold) {l : LastValid} (hl : x.last = some l) (he : x.expired = false)
    (hage : (at_ - l.at_) * 1000 ≤ hold * 32768) : (failPath x f hold at_ a c).state = .hold ∧
      (failPath x f hold at_ a c).tag = .held ∧ (failPath x f hold at_ a c).expired = false := by
  simp [failPath, h, failParts_held hl he hage, he, hl]

/-- The first failed pair after it ends the hold (R227). -/
theorem failPath_expires (h : x.state = .run ∨ x.state = .hold) {l : LastValid} (hl : x.last = some l) (he : x.expired = false)
    (hage : hold * 32768 < (at_ - l.at_) * 1000) : (failPath x f hold at_ a c).state = .hold ∧
      (failPath x f hold at_ a c).tag = .invalid ∧ (failPath x f hold at_ a c).expired = true ∧
      (failPath x f hold at_ a c).expires = satInc x.expires := by
  simp [failPath, h, failParts_expires hl he hage]

/-- Later ones leave the hold expired. -/
theorem failPath_expired (h : x.state = .hold) (he : x.expired = true) : (failPath x f hold at_ a c).state = .hold ∧
    (failPath x f hold at_ a c).tag = .invalid ∧ (failPath x f hold at_ a c).expired = true ∧
    (failPath x f hold at_ a c).expires = x.expires := by
  simp [failPath, h, he, failParts_expired he]

end

/-- A path that counts pairs follows Table 7-3. -/
theorem outcomePath_fails {p : Nat} {s : State} (h : countsIn (flowPath s p) = true) (at_ : Nat) (a : Bool) (f : FlowCfg) (c : Nat) :
    outcomePath p at_ a f c none s = failPath (flowPath s p) f (holdMs s p) at_ a c := if_pos h

theorem countsIn_of_held {x : FPath} (h : x.state = .run ∨ x.state = .hold) : countsIn x = true := decide_eq_true (.inr h)

/-- Held, an interval counts with the last flow (R227, R231). -/
theorem outcomeInc_held {p : Nat} {s : State} (h : (flowPath s p).state = .run ∨ (flowPath s p).state = .hold) {l : LastValid} {at_ : Nat}
    (hl : (flowPath s p).last = some l) (he : (flowPath s p).expired = false) (hage : (at_ - l.at_) * 1000 ≤ holdMs s p * 32768)
    (a : Bool) (f : FlowCfg) (c : Nat) : outcomeInc p at_ a f c none s =
      mkInc p (0x10 + p) (flowPath s p).q 0 ((at_ - (flowPath s p).from_) * 1000) 0 .held false := by
  have hsplit : outcomeSplit p at_ none s = ⟨0, (at_ - (flowPath s p).from_) * 1000, 0⟩ := by
    simp [outcomeSplit, outcomeParts, h, failParts_held hl he hage]
  have hq : (outcomePath p at_ a f c none s).q = (flowPath s p).q := by
    obtain ⟨-, -, -, -, -, -, -, hq, -⟩ := outcomePath_failed p at_ a f c s
    exact hq
  obtain ⟨-, htag, -⟩ := failPath_held f a c h hl he hage
  rw [outcomeInc, hsplit, hq, outcomePath_fails (countsIn_of_held h), htag]

/-! ### The path after a valid pair -/

/-- A valid pair ends hold, expiry and acquisition, and from the fifth in a row on STARTING (Table 7-3, R225, R228). -/
theorem validPath_state (x : FPath) (at_ : Nat) (a : Bool) (g : Nat) (r : Word) (v : Vals) :
    let y := validPath x at_ a g r v
    y.state = (if x.state = .starting ∧ x.validRun < 4 then .starting else .run) ∧ (y.tag = .valid ∨ y.tag = .settling) ∧
      (y.state = .starting → y.tag = .settling) := by
  have hrun : (decide (x.state ≠ .starting) || decide (5 ≤ x.validRun + 1)) = !decide (x.state = .starting ∧ x.validRun < 4) := by
    have hfive : decide (4 ≤ x.validRun) = !decide (x.validRun < 4) := by
      rw [← decide_not]
      exact decide_eq_decide.mpr (by omega)
    by_cases hs : x.state = .starting <;> simp [hs, hfive]
  simp only [validPath, hrun]
  by_cases hs : x.state = .starting ∧ x.validRun < 4
  · simp [hs]
  · cases v.settle <;> simp [hs]

/-! ### PAIR_OUTCOME as an event -/

/-- The bank that hosts read while a kernel works: while the wheel turns the one before (R103, R121). -/
def roundPub (s : State) : Option OutBank := if s.whl.state = .stopped then s.pub else some (s.pub.getD (bankOf s))

theorem inRound_sealed {f : State → State} {s : State} (hpub : (f s).pub = s.pub) :
    ∃ h e, inRound f s = sealed (roundPub s) e (f (holding h s)) := by
  unfold inRound roundPub
  by_cases hw : s.whl.state = .stopped
  · rw [if_pos hw, if_pos hw, ← hpub]
    exact ⟨s.sto.evHold, (f s).sto.evHold, rfl⟩
  · rw [if_neg hw, if_neg hw]
    exact ⟨true, false, rfl⟩

/-- A kernel's event that leaves link, power manager and published bank alone. -/
theorem inRound_event {c : Bool} {f : State → State} {s : State} (hc : c = true) (hchd : ∀ h, (f (holding h s)).chd = s.chd)
    (hpwc : ∀ h, (f (holding h s)).pwc = s.pwc) (hpub : (f s).pub = s.pub) :
    ∃ h e, hfxAside s (event c (inRound f) s) = sealed (roundPub s) e (f (holding h s)) := by
  obtain ⟨h, e, hr⟩ := inRound_sealed hpub
  refine ⟨h, e, ?_⟩
  rw [hfxAside_event hc (by rw [hr]; exact hchd h) (by rw [hr]; exact hpwc h), hr]

/-- What PAIR_OUTCOME of path p leaves alone. -/
def OutcomeRest (s t : State) (p : Nat) : Prop :=
  (∀ j, j ≠ p → flowPath t j = flowPath s j) ∧ s.flw.pend <+: t.flw.pend ∧
    t.flw.vol = s.flw.vol ∧ (s.pwc.vmainOk = false → t.sto.deferred.isSome = true) ∧
    t.pub = (if s.whl.state = .stopped then s.pub else some (s.pub.getD (bankOf s))) ∧
    eventsAside s (hfxAside s t) = { s with
      cfg := t.cfg, flw := t.flw, pub := t.pub, sto := { s.sto with deferred := t.sto.deferred, evHold := t.sto.evHold } }

theorem exec_pairOutcome (p : Fin 2) (s : State) : exec (.pairOutcome p) s =
    .next (event (live s && (flowPath s p.val).pair.isSome && pairPublished s p.val) (inRound (pairOutcome p.val)) s) := rfl

section
variable {p : Fin 2} {q : PairSt} {s : State} (hl : live s = true) (hq : (flowPath s p.val).pair = some q)
  (hp : pairPublished s p.val = true)
include hl hq hp

theorem outcome_acts : (live s && (flowPath s p.val).pair.isSome && pairPublished s p.val) = true := by
  rw [hl, hq, hp]
  rfl

/-- A pair that is settled whether its events wait or not. -/
theorem outcome_row {c : Bool → Nat} {res : Bool → Option (Vals × Nat × Word)} {corr : Bool → Rat} {w : Bool → List Rat}
    (hset : ∀ h, pairOutcome p.val (holding h s) = pairSettled p.val q (c h) (res h) (corr h) (w h) (holding h s)) :
    ∃ h t, exec (.pairOutcome p) s = .next t ∧ OutcomeRest s t p.val ∧
      t.flw = (pairSettled p.val q (c h) (res h) (corr h) (w h) (holding h s)).flw ∧
      t.cfg = (pairSettled p.val q (c h) (res h) (corr h) (w h) (holding h s)).cfg := by
  have hdone := fun h => pairSettled_done p.isLt q (c h) (res h) (corr h) (w h) (holding h s)
  simp only [← hset] at hdone ⊢
  have hrest : ∀ h, pipeAside s (pairOutcome p.val (holding h s)) = holding h s := fun h => (hdone h).rest s
  have hown : pipeAside s (pairOutcome p.val s) = s := hrest s.sto.evHold
  obtain ⟨h, e, hrow⟩ := inRound_event (outcome_acts hl hq hp) (fun h => part_of (hrest h) State.chd fun _ => rfl)
    (fun h => part_of (hrest h) State.pwc fun _ => rfl) (part_of hown State.pub fun _ => rfl)
  have hflw := part_of hrow State.flw fun _ => rfl
  have hcfg := part_of hrow State.cfg fun _ => rfl
  have hpub := part_of hrow State.pub fun _ => rfl
  have hsto := part_of hrow State.sto fun _ => rfl
  obtain ⟨hothers, -, ⟨hpend, -⟩, hvol, hdef, -⟩ := hdone h
  refine ⟨h, _, exec_pairOutcome p s, ⟨fun j hj => ?_, by rw [hflw]; exact hpend, by rw [hflw]; exact hvol,
    fun hv => by rw [hsto]; exact hdef hv, hpub, ?_⟩, hflw, hcfg⟩
  · rw [flowPath, hflw]
    exact hothers j hj
  · rw [hrow, hflw, hcfg, hpub, hsto]
    exact congrArg (fun x : State => { x with
      cfg := (pairOutcome p.val (holding h s)).cfg, flw := (pairOutcome p.val (holding h s)).flw, pub := roundPub s
      sto := { x.sto with deferred := (pairOutcome p.val (holding h s)).sto.deferred, evHold := e } }) (hrest h)

end

/-- A failed pair (R226, R227). -/
theorem outcome_failed {p : Fin 2} {q : PairSt} {s : State} (hl : live s = true) (hq : (flowPath s p.val).pair = some q)
    (hp : pairPublished s p.val = true) (hf : PairFailed q) :
    ∃ t, exec (.pairOutcome p) s = .next t ∧ OutcomeRest s t p.val ∧ t.cfg = s.cfg ∧
      flowPath t p.val = outcomePath p.val (q.dnAt.getD s.aon) q.assign (flowCfg q.cfg p.val) (pairCause q) none s ∧
      (volDefined s p.val = true →
        outcomeInc p.val (q.dnAt.getD s.aon) q.assign (flowCfg q.cfg p.val) (pairCause q) none s ∈ t.flw.pend) := by
  have hrun : ∀ h, pairOutcome p.val (holding h s) = pairSettled p.val q (pairCause q) none 0 [] (holding h s) :=
    fun h => pairOutcome_failed (s := holding h s) hq hf
  obtain ⟨h, t, ht, hrest, hflw, hcfg⟩ := outcome_row hl hq hp hrun
  obtain ⟨hpath, hreg⟩ := pairSettled_fails p.isLt q (pairCause q) (holding h s)
  refine ⟨t, ht, hrest, hcfg.trans hreg, ?_, fun hv => ?_⟩
  · rw [flowPath, hflw]
    exact hpath
  · obtain ⟨-, -, ⟨-, hmem⟩, -⟩ := pairSettled_done p.isLt q (pairCause q) none 0 [] (holding h s)
    rw [hflw]
    exact hmem hv

/-- A pair whose shots both pass within V_MAX, in a path that counts pairs (R225, R228). -/
theorem outcome_passed {p : Fin 2} {q : PairSt} {dn up : ShotRes} {s : State} (hl : live s = true)
    (hq : (flowPath s p.val).pair = some q) (hp : pairPublished s p.val = true) (ha : q.abort = false) (hdn : q.dn = some dn)
    (hup : q.up = some up) (hc : pairCause q = 0)
    (hv : tooFast (flowCfg q.cfg p.val).vMax (pipeVals s p.val (q.dnAt.getD s.aon) q dn up).v = false)
    (hs : countsIn (flowPath s p.val) = true) :
    ∃ t g r, exec (.pairOutcome p) s = .next t ∧ OutcomeRest s t p.val ∧
      let y := validPath (flowPath s p.val) (q.dnAt.getD s.aon) q.assign g r (pipeVals s p.val (q.dnAt.getD s.aon) q dn up)
      unjudged (flowPath t p.val) = unjudged y ∧ (s.flw.cal.status ≠ 1 ∨ s.flw.cal.cmd ≠ 2 → flowPath t p.val = y) := by
  have hrun : ∀ h, ∃ corr w, pairOutcome p.val (holding h s) =
      pairSettled p.val q 0 (some (pairGives p.val q dn up (holding h s))) corr w (holding h s) :=
    fun h => pairOutcome_passed (s := holding h s) hq ha hdn hup hc hv
  have hy : ∀ h, outcomePath p.val (q.dnAt.getD s.aon) q.assign (flowCfg q.cfg p.val) 0 (some (pairGives p.val q dn up (holding h s)))
      (holding h s) = validPath (flowPath s p.val) (q.dnAt.getD s.aon) q.assign (gainAfter (flowCfg q.cfg p.val) q.gain dn up)
        (rxWord q.gain dn up) (pipeVals s p.val (q.dnAt.getD s.aon) q dn up) := fun h => if_pos hs
  choose corr w hset using hrun
  obtain ⟨h, t, ht, hrest, hflw, -⟩ := outcome_row hl hq hp hset
  have hpath : flowPath t p.val =
      flowPath (pairSettled p.val q 0 (some (pairGives p.val q dn up (holding h s))) (corr h) (w h) (holding h s)) p.val := by
    rw [flowPath, hflw, flowPath]
  refine ⟨t, gainAfter (flowCfg q.cfg p.val) q.gain dn up, rxWord q.gain dn up, ht, hrest, ?_, fun hcal => ?_⟩
  · rw [hpath, (pairSettled_done p.isLt q 0 _ (corr h) (w h) (holding h s)).path]
    exact congrArg unjudged (hy h)
  · rw [hpath, pairSettled_path p.isLt q 0 _ (corr h) (w h) (holding h s) hcal]
    exact hy h

/-- Settles O50: a failed pair by the age of the last valid one, a valid pair by `validPath`, and pairs that are not complete. -/
theorem pairOutcomesHoldExpireAndResume : Obligations.PairOutcomesHoldExpireAndResume := by
  unfold Obligations.PairOutcomesHoldExpireAndResume
  refine ⟨fun p q s hl hq hp hf => ?failed, fun p q dn up s hl hq hp ha hdn hup hc hv hs => ?passed, fun p s hl h => ?idle,
    fun p q s hl hq ha h => ?waits⟩
  case failed =>
    obtain ⟨t, ht, hrest, hcfg, hpath, hmem⟩ := outcome_failed hl hq hp hf
    obtain ⟨hpair, hfails, hpairs, hgain, he, hcause, hfrom, hqq, hv, hlast⟩ :=
      outcomePath_failed p.val (q.dnAt.getD s.aon) q.assign (flowCfg q.cfg p.val) (pairCause q) s
    refine ⟨t, ht, hrest, hcfg, ?_⟩
    dsimp only
    rw [hpath]
    refine ⟨hpair, hfails, hpairs, hgain, he, hcause, hfrom, hqq, hv, hlast, fun hst => ?_, fun l hst hl hexp hage => ?_,
      fun l hst hl hexp hage => ?_, fun hexp hst => ?_⟩
    · rw [outcomePath_fails (decide_eq_true (.inl hst))]
      exact failPath_starting _ _ _ hst
    · rw [outcomePath_fails (countsIn_of_held hst)]
      obtain ⟨hstate, htag, hno⟩ := failPath_held (flowCfg q.cfg p.val) q.assign (pairCause q) hst hl hexp hage
      exact ⟨hstate, htag, hno, fun hvol => outcomeInc_held hst hl hexp hage q.assign _ _ ▸ hmem hvol⟩
    · rw [outcomePath_fails (countsIn_of_held hst)]
      exact failPath_expires _ _ _ hst hl hexp hage
    · rw [outcomePath_fails (countsIn_of_held (.inr hst))]
      exact failPath_expired _ _ _ hst hexp
  case passed =>
    obtain ⟨t, g, r, ht, hrest, hpath, hown⟩ := outcome_passed hl hq hp ha hdn hup hc hv (decide_eq_true hs)
    refine ⟨t, ht, hrest, (congrArg FPath.pair hpath :), (congrArg FPath.pairs hpath :), (congrArg FPath.fails hpath :),
      (congrArg FPath.expired hpath :), (congrArg FPath.acquiring hpath :), (congrArg FPath.consec hpath :),
      (congrArg (fun y => y.last.map LastValid.at_) hpath :), (congrArg FPath.from_ hpath :), (congrArg FPath.q hpath :), fun hcal => ?_⟩
    rw [hown hcal]
    exact validPath_state ..
  case idle =>
    have hc : (live s && (flowPath s p.val).pair.isSome && pairPublished s p.val) = false := by
      rcases h with h | h <;> simp [h]
    rw [exec_pairOutcome, hc]
    exact ⟨s, rfl, rfl⟩
  case waits =>
    by_cases hp : pairPublished s p.val = true
    · have hrun : ∀ h, pairOutcome p.val (holding h s) = holding h s := fun b => pairOutcome_waits (s := holding b s) hq ha h
      obtain ⟨b, e, hrow⟩ := inRound_event (f := pairOutcome p.val) (s := s) (outcome_acts hl hq hp) (fun b => by rw [hrun]; rfl)
        (fun b => by rw [hrun]; rfl) (congrArg State.pub (hrun s.sto.evHold))
      have hpub := part_of hrow State.pub fun _ => rfl
      have hsto := part_of hrow State.sto fun _ => rfl
      refine ⟨_, exec_pairOutcome p s, ?_⟩
      rw [hrow, hpub, hsto, hrun]
      rfl
    · rw [exec_pairOutcome, (Bool.not_eq_true _).mp hp, Bool.and_false]
      exact ⟨s, rfl, rfl⟩

end Sys2Proof.Proofs
end

section
/-! PROOFS. The attempts of pipe pairs and their shots, and O49 (R206 to R208, R210, R211, R214 to R216, R248). -/

namespace Sys2Proof.Proofs

open Sys2Proof Sys2Proof.Machine Sys2Proof.Safety Sys2Proof.Laws

/-- A row whose operation leaves link and power manager alone. -/
theorem row_does {i : Instr} {c : Bool} {f : State → State} {s u : State} (hx : exec i s = .next (event c f s)) (hc : c = true)
    (hf : f s = u) (hchd : u.chd = s.chd) (hpwc : u.pwc = s.pwc) : ∃ t, exec i s = .next t ∧ hfxAside s t = u := by
  subst hf
  exact ⟨_, hx, hfxAside_event hc hchd hpwc⟩

/-- What a change makes of the element itself decides. -/
theorem vmod_congr_own {α : Type} {n : Nat} (v : Vector α n) (i : Nat) {f g : α → α} (d : α) (h : f (vget v i d) = g (vget v i d)) :
    vmod v i f = vmod v i g :=
  calc vmod v i f = vmod v i fun _ => f (vget v i d) := (vmod_own v i (fun x _ => f x) d).symm
    _ = vmod v i fun _ => g (vget v i d) := by rw [h]
    _ = vmod v i g := vmod_own v i (fun x _ => g x) d

theorem flowPath_changed {p : Nat} {g : FPath → FPath} {s t : State} (hp : p < 3) (h : t.flw.path = vmod s.flw.path p g) (j : Nat) :
    flowPath t j = if j = p then g (flowPath s p) else flowPath s j := by
  rw [flowPath, h]
  exact flowPath_vmod hp j g s

/-! ### A shot falls due -/

/-- A shot that falls due meets a busy front end, two filled buffers or another shot that waits (R216). -/
abbrev ShotWaits (s : State) : Prop := s.flw.front.isSome = true ∨ 2 ≤ s.flw.bufs.length ∨ s.flw.queue ≠ []

theorem shotDue_eq (p : Nat) (up : Bool) (s : State) : shotDue p up s = { s with
    flw := { s.flw with
      queue := s.flw.queue ++ [(p, up)], waited := if ShotWaits s then s.flw.waited ++ [(p, up)] else s.flw.waited }
    whl := { s.whl with shotDefer := if ShotWaits s then satInc s.whl.shotDefer else s.whl.shotDefer } } := by
  have hwaits : (s.flw.front.isSome || decide (2 ≤ s.flw.bufs.length) || !s.flw.queue.isEmpty) = true ↔ ShotWaits s := by
    simp [ShotWaits, or_assoc]
  simp only [shotDue, hwaits]

/-! ### A pair timer -/

/-- A pair attempt of path p is due (R214, R215, R236). -/
def AttemptDue (p : Nat) (s : State) : Prop := pathExists s p = true ∧ geomOk s p = true ∧ (flowPath s p).state ≠ .off ∧
  (flowPath s p).nextAt ≤ s.aon ∧ (flowPath s p).pair = none

/-- When the pair timer of path p fires next (R215). -/
def nextTry (p : Nat) (s : State) : Nat := max ((flowPath s p).nextAt + pairPeriod s p) (s.aon + 1)

/-- An attempt takes the next assignment and its due time. -/
def tries (n : Nat) (y : FPath) : FPath := { y with tried := true, assign := nextAssign y, nextAt := n }

/-- An interval without a measurement: path p changes, its increments are pending, and on battery a commit is due. -/
theorem unmeasured_form (p at_ : Nat) (b : FPath) (parts : Parts) (i : VolInc) (g : FPath → FPath) (s : State) :
    ∃ w d, combine p at_ b parts (pendInc i (setPath p g (pairDue s))) = { s with flw := w, sto := { s.sto with deferred := d } } ∧
      w.path = vmod s.flw.path p g ∧ s.flw.pend <+: w.pend ∧ w.queue = s.flw.queue ∧ w.vol = s.flw.vol := by
  obtain ⟨d, hdue, -⟩ := pairDue_form s
  obtain ⟨l, hinc, -⟩ := pendInc_form i (setPath p g (pairDue s))
  obtain ⟨_, _, _, _, _, _, m, hcomb⟩ := combine_form p at_ b parts (pendInc i (setPath p g (pairDue s)))
  rw [hcomb, hinc, hdue]
  exact ⟨_, d, rfl, rfl, ⟨l ++ m, (List.append_assoc ..).symm⟩, rfl, rfl⟩

section
variable {p : Nat} {s : State} (hp : p < 2)
include hp

theorem attemptDue_iff : (decide (p < 2) && pathExists s p && geomOk s p && decide ((flowPath s p).state ≠ .off)
    && decide ((flowPath s p).nextAt ≤ s.aon) && (flowPath s p).pair.isNone) = true ↔ AttemptDue p s := by
  simp [AttemptDue, hp, and_assoc]

theorem pairAttempt_idle (h : ¬ AttemptDue p s) : pairAttempt p s = s := if_neg (mt (attemptDue_iff hp).mp h)

variable (h : AttemptDue p s)
include h

/-- Outside FAULT an attempt opens a pair and its DN shot falls due (R214). -/
theorem pairAttempt_opens (hf : (flowPath s p).state ≠ .fault) : pairAttempt p s =
    shotDue p false (setPath p (fun y => { tries (nextTry p s) y with pair := some (newPair s y) }) s) := by
  have hopen : pairAttempt p s = shotDue p false
      (setPath p (fun y => { y with pair := some (newPair s (flowPath s p)) }) (setPath p (tries (nextTry p s)) s)) :=
    (if_pos ((attemptDue_iff hp).mpr h)).trans (if_neg hf)
  rw [hopen]
  refine congrArg (fun v => shotDue p false { s with flw := { s.flw with path := v } }) ?_
  exact (vmod_vmod ..).trans (vmod_congr_own _ p FPath.off rfl)

/-- In FAULT an attempt is an interval without shots (R215, R231, R236). -/
theorem pairAttempt_fault (hf : (flowPath s p).state = .fault) : ∃ w d, pairAttempt p s = { s with
      flw := w, sto := { s.sto with deferred := d } } ∧
    w.path = vmod s.flw.path p (fun y => { tries (nextTry p s) y with from_ := s.aon, cls := .invalid, pstamp := s.aon % 2 ^ 32 }) ∧
    s.flw.pend <+: w.pend ∧ w.queue = s.flw.queue ∧ w.vol = s.flw.vol := by
  obtain ⟨w, d, hw, hpath, hrest⟩ := unmeasured_form p s.aon (flowPath s p) ⟨0, 0, (s.aon - (flowPath s p).from_) * 1000⟩
    (mkInc p (0x10 + p) 0 0 0 ((s.aon - (flowPath s p).from_) * 1000) .invalid false)
    (fun y => { y with from_ := s.aon, cls := .invalid, pstamp := s.aon % 2 ^ 32 }) (setPath p (tries (nextTry p s)) s)
  exact ⟨w, d, (if_pos ((attemptDue_iff hp).mpr h)).trans ((if_pos hf).trans hw), hpath.trans (vmod_vmod ..), hrest⟩

end

theorem pairWake_hfxAside (p : Nat) (b s t : State) : hfxAside s (pairWake p b t) = hfxAside s t := by
  unfold pairWake
  split
  · exact wake_hfxAside s t
  · rfl

theorem pairWake_chd (p : Nat) (b t : State) : (pairWake p b t).chd = t.chd := by
  unfold pairWake
  split
  · exact wake_chd t
  · rfl

/-- The row of a pair timer: a pair that opens may start HFX besides (R414). -/
theorem row_pairAttempt {p : Fin 2} {s u : State} (hl : live s = true) (hu : pairAttempt p.val s = u) (hchd : u.chd = s.chd)
    (hpwc : u.pwc = s.pwc) : ∃ t, exec (.pairAttempt p) s = .next t ∧ hfxAside s t = u := by
  have hx : exec (.pairAttempt p) s = .next (event (live s) (fun a => pairWake p.val a (pairAttempt p.val a)) s) := rfl
  refine ⟨_, hx, ?_⟩
  rw [event_pos hl, hu, hfxAside_react ((pairWake_chd ..).trans hchd), pairWake_hfxAside, hfxAside_of_pwc hpwc]

/-! ### The UP shot falls due -/

/-- GAP has passed since the DN shot of a pair (R214). -/
def GapPassed (p : Nat) (q : PairSt) (s : State) : Prop :=
  ∃ d, q.dnAt = some d ∧ (flowCfg q.cfg p).gapUs * 32768 < (s.aon - d + 1) * 1000000

section
variable {p : Nat} {q : PairSt} {s : State} (hq : (flowPath s p).pair = some q)
include hq

theorem upShotDue_due (h : GapPassed p q s) (hu : q.upDue = false) :
    upShotDue p s = shotDue p true (setPath p (fun y => { y with pair := some { q with upDue := true } }) s) := by
  obtain ⟨d, hd, hgap⟩ := h
  have hrun : upShotDue p s = shotDue p true (setPath p (fun x => { x with pair := x.pair.map fun q => { q with upDue := true } }) s) := by
    simp [upShotDue, hq, hd, hgap, hu]
  have hown : (flowPath s p).pair.map (fun q => { q with upDue := true }) = some { q with upDue := true } := by rw [hq]; rfl
  refine hrun.trans (congrArg (fun v => shotDue p true { s with flw := { s.flw with path := v } }) ?_)
  exact vmod_congr_own _ p FPath.off (congrArg (fun r => { flowPath s p with pair := r }) hown)

theorem upShotDue_idle (h : ¬ GapPassed p q s ∨ q.upDue = true) : upShotDue p s = s := by
  rcases h with h | h
  · cases hd : q.dnAt with
    | none => simp [upShotDue, hq, hd]
    | some d =>
      have hgap : ¬ (flowCfg q.cfg p).gapUs * 32768 < (s.aon - d + 1) * 1000000 := fun hgap => h ⟨d, hd, hgap⟩
      simp [upShotDue, hq, hd, hgap]
  · simp [upShotDue, hq, h]

end

/-! ### The head of the queue -/

/-- The pair after its shot has fired; the DN shot without AGC takes GAIN_INIT (R209). -/
def firedPair (i : FireIn) (p : Nat) (up : Bool) (s : State) (q : PairSt) : PairSt :=
  let f := flowCfg (latchCfg s) p
  let r := firePair i p up s (flowPath s p) q
  if !up && !f.agc then { r with gain := f.gainInit } else r

/-- The path after a shot has fired; the DN shot stamps it (R214). -/
def firedPath (i : FireIn) (p : Nat) (up : Bool) (s : State) (x : FPath) : FPath :=
  { x with pair := x.pair.map (firedPair i p up s), pstamp := if up then x.pstamp else s.aon % 2 ^ 32 }

/-- The shot on the front end (R206, R207). -/
def firedShot (i : FireIn) (p : Nat) (up : Bool) (s : State) : Shot :=
  let f := flowCfg (latchCfg s) p
  { drv := (flowPath s p).assign, tx := (shotPorts p f.orient up).1, rx := (shotPorts p f.orient up).2, freq := f.freq, pulses := f.pulses
    damp := f.damp, vus := i.vus, from_ := i.at_ }

/-- The front end and a buffer are free (R216). -/
abbrev FrontFree (s : State) : Prop := s.flw.front = none ∧ s.flw.bufs.length < 2

theorem frontFree_iff (s : State) : (s.flw.front.isSome || decide (2 ≤ s.flw.bufs.length)) = true ↔ ¬ FrontFree s := by
  have hfull : decide (2 ≤ s.flw.bufs.length) = !decide (s.flw.bufs.length < 2) := by
    rw [← decide_not]
    exact decide_eq_decide.mpr (by omega)
  cases h : s.flw.front <;> simp [FrontFree, h, hfull]

theorem shotStart_empty (i : FireIn) {s : State} (h : s.flw.queue = []) : shotStart i s = s := by
  simp [shotStart, h]

section
variable {i : FireIn} {p : Nat} {up : Bool} {rest : List (Nat × Bool)} {s : State} (hh : s.flw.queue = (p, up) :: rest)
include hh

/-- A shot that a bank shot's reservation holds back counts (R216, R248). -/
theorem shotStart_heldBack (hr : bankReserved s p i.at_ up = true) (hw : (p, up) ∉ s.flw.waited) : shotStart i s = { s with
    flw := { s.flw with waited := s.flw.waited ++ [(p, up)] }, whl := { s.whl with shotDefer := satInc s.whl.shotDefer } } := by
  simp [shotStart, hh, hr, hw]

theorem shotStart_waits (h : (bankReserved s p i.at_ up = true ∧ (p, up) ∈ s.flw.waited) ∨
    (bankReserved s p i.at_ up = false ∧ ¬ FrontFree s)) : shotStart i s = s := by
  rcases h with ⟨hr, hw⟩ | ⟨hr, hbusy⟩
  · simp [shotStart, hh, hr, hw]
  · have hfire : shotFire i s = s := by simp only [shotFire, hh, if_pos ((frontFree_iff s).mpr hbusy)]
    simp [shotStart, hh, hr, hfire]

/-- The shot fires; without VUS it takes neither the front end nor a buffer (R206, R208, R216). -/
theorem shotStart_fires (hr : bankReserved s p i.at_ up = false) (hfree : FrontFree s) : shotStart i s = { s with flw := { s.flw with
    queue := rest
    waited := s.flw.waited.filter fun x => decide (x ≠ (p, up))
    front := if i.vus < 2800 then none else some (p, up)
    shot := if i.vus < 2800 then none else some (firedShot i p up s)
    bufs := if i.vus < 2800 then s.flw.bufs else s.flw.bufs ++ [(p, up)]
    path := vmod s.flw.path p (firedPath i p up s) } } := by
  have hgo : ¬ (s.flw.front.isSome || decide (2 ≤ s.flw.bufs.length)) = true := fun h => (frontFree_iff s).mp h hfree
  simp only [shotStart, hh, hr, if_neg Bool.false_ne_true, shotFire, if_neg hgo, decide_eq_true_eq]
  rfl

end

theorem ringFails_eq (i : FireIn) : ringFails i = decide (i.ring < 800000 ∨ 1250000 < i.ring) := (Bool.decide_or ..).symm

/-- AGC off, the DN shot sets the gain and nothing else. -/
theorem firedPair_eq (i : FireIn) (p : Nat) (up : Bool) (s : State) (q : PairSt) :
    ∃ g, firedPair i p up s q = { firePair i p up s (flowPath s p) q with gain := g } := by
  unfold firedPair
  dsimp only
  split
  · exact ⟨_, rfl⟩
  · exact ⟨(firePair i p up s (flowPath s p) q).gain, rfl⟩

/-- The DN shot dates the pair, latches settings and reference, and takes the ring and the supply into account (R208, R211, R214). -/
theorem firedPair_dn (i : FireIn) (p : Nat) (s : State) (q : PairSt) :
    let r := firedPair i p false s q
    r.dnAt = some s.aon ∧ r.cfg = latchCfg s ∧ r.learned = (flowPath s p).refLearned ∧ r.dnT = i.at_ ∧
      r.hwDn = (q.hwDn || decide (i.ring < 800000 ∨ 1250000 < i.ring)) ∧ (i.vus < 2800 → r.dn.map ShotRes.cause = some 128) ∧
      (¬ i.vus < 2800 → r.dn = q.dn) ∧ r.up = q.up ∧ r.defer = q.defer := by
  obtain ⟨g, hg⟩ := firedPair_eq i p false s q
  dsimp only
  rw [hg]
  refine ⟨rfl, rfl, rfl, rfl, congrArg (q.hwDn || ·) (ringFails_eq i), fun hlow => ?_, fun hlow => ?_, rfl, rfl⟩
  · exact congrArg (fun d => (Option.or d q.dn).map ShotRes.cause) (if_pos hlow)
  · exact congrArg (Option.or · q.dn) (if_neg hlow)

/-- The UP shot takes them into account, and its distance from the DN shot (R208, R211, R216). -/
theorem firedPair_up (i : FireIn) (p : Nat) (s : State) (q : PairSt) :
    let r := firedPair i p true s q
    r.hwUp = (q.hwUp || decide (i.ring < 800000 ∨ 1250000 < i.ring)) ∧ (i.vus < 2800 → r.up.map ShotRes.cause = some 128) ∧
      (¬ i.vus < 2800 → r.up = q.up) ∧ r.dn = q.dn ∧
      r.defer = (q.defer || decide (((2000000 * (flowCfg q.cfg p).gapUs : Nat) : Int) < psDiff i.at_ q.dnT)) := by
  refine ⟨congrArg (q.hwUp || ·) (ringFails_eq i), fun hlow => ?_, fun hlow => ?_, rfl, rfl⟩
  · exact congrArg (fun d => (Option.or d q.up).map ShotRes.cause) (if_pos hlow)
  · exact congrArg (Option.or · q.up) (if_neg hlow)

theorem exec_shotFire (i : FireIn) (s : State) : exec (.shotFire i) s = .next (event (engOn s) (shotStart i) s) := rfl

/-! ### A shot is evaluated -/

/-- What the kernel makes of the capture of a shot of path p's pair (R210, R212, R217, R218). -/
def judgedShot (p : Nat) (up : Bool) (c : Capture) (q : PairSt) (s : State) : ShotRes :=
  let f := flowCfg q.cfg p
  evalShot f (reference s p q.learned f) (arrivalWindow (flowPath s p) f up) (if up then q.hwUp else q.hwDn)
    (if up then q.lsbUp else q.lsbDn) c

theorem shotEvaluated_fills {p : Nat} {up : Bool} {c : Capture} {q : PairSt} {s : State} (hq : (flowPath s p).pair = some q)
    (hb : (p, up) ∈ s.flw.bufs) (hfront : s.flw.front ≠ some (p, up)) (hlen : c.samples.length = capLen (flowPath s p) (flowCfg q.cfg p)) :
    shotEvaluated p up c s = { s with flw := { s.flw with
      bufs := s.flw.bufs.filter fun b => decide (b ≠ (p, up))
      path := vmod s.flw.path p fun y => { y with
        pair := some (if up then { q with up := some (judgedShot p up c q s) } else { q with dn := some (judgedShot p up c q s) }) } } } := by
  have hgo : (s.flw.bufs.contains (p, up) && decide (s.flw.front ≠ some (p, up))
      && decide (c.samples.length = capLen (flowPath s p) (flowCfg q.cfg p))) = true := by simp [hb, hfront, hlen]
  have hpath := vmod_congr_own s.flw.path p FPath.off (f := pairResult up (judgedShot p up c q s))
    (g := fun y => { y with
      pair := some (if up then { q with up := some (judgedShot p up c q s) } else { q with dn := some (judgedShot p up c q s) }) })
    (by rw [flowPath] at hq; rw [pairResult, hq]; rfl)
  rw [← hpath]
  simp only [shotEvaluated, hq, hgo, if_true]
  rfl

theorem exec_shotEvaluated (p : Fin 3) (up : Bool) (c : Capture) (s : State) : exec (.shotEvaluated p up c) s =
    .next (event (engOn s && (flowPath s p.val).pair.isSome) (inRound (shotEvaluated p.val up c)) s) := rfl

/-! ### The statement -/

/-- Settles O49, clause by clause, by what each row's operation does where its condition holds and elsewhere. -/
theorem pairAttemptsAndShots : Obligations.PairAttemptsAndShots := by
  unfold Obligations.PairAttemptsAndShots
  intro due waits deferred waited next passed free
  refine ⟨fun p s hl hd hf => ?opens, fun p s hl hd hf => ?fault,
    fun p s hl hd => row_pairAttempt hl (pairAttempt_idle p.isLt hd) rfl rfl,
    fun p q s hl hq => ⟨fun hgap hu => ?upDue, fun h => row_does (c := live s) rfl hl (upShotDue_idle hq h) rfl rfl⟩,
    fun i p up rest q s hon hp hh hfree hr hq => ?fires,
    fun i p up rest s hon hh => ⟨fun hr hw => row_does (exec_shotFire i s) hon (shotStart_heldBack hh hr hw) rfl rfl,
      fun h => row_does (exec_shotFire i s) hon (shotStart_waits hh h) rfl rfl⟩,
    fun i s hon hh => row_does (exec_shotFire i s) hon (shotStart_empty i hh) rfl rfl,
    fun s hon => row_does (c := engOn s) (f := captureClose) rfl hon rfl rfl rfl,
    fun p q s hl hq hpub h => ?outcome, fun p up c q s hon hq hb hfront hlen => ?evaluated⟩
  case opens => exact row_pairAttempt hl ((pairAttempt_opens p.isLt hd hf).trans (shotDue_eq ..)) rfl rfl
  case fault =>
    obtain ⟨w, d, hrun, hpath, hpend, hqueue, hvol⟩ := pairAttempt_fault p.isLt hd hf
    obtain ⟨t, ht, haside⟩ := row_pairAttempt hl hrun rfl rfl
    have hflw : t.flw = w := part_of haside State.flw fun _ => rfl
    have hsto : t.sto.deferred = d := part_of haside (fun t => t.sto.deferred) fun _ => rfl
    subst hflw hsto
    have hpaths := flowPath_changed (by omega) hpath
    exact ⟨t, ht, (hpaths p.val).trans (if_pos rfl), fun j hj => (hpaths j).trans (if_neg hj), hpend, hqueue, hvol, haside⟩
  case upDue => exact row_does (c := live s) rfl hl ((upShotDue_due hq hgap hu).trans (shotDue_eq ..)) rfl rfl
  case fires =>
    obtain ⟨t, ht, haside⟩ := row_does (exec_shotFire i s) hon (shotStart_fires hh hr hfree) rfl rfl
    have hflw := part_of haside State.flw fun _ => rfl
    have hpaths := flowPath_changed (s := s) hp (g := firedPath i p up s) (congrArg Flw.path hflw :)
    refine ⟨t, firedPair i p up s q, ht, ?_⟩
    rw [haside, hflw, hpaths p, if_pos rfl]
    refine ⟨congrArg (Option.map (firedPair i p up s)) hq, rfl, rfl, rfl, rfl, fun hlow => if_pos hlow,
      fun hlow => ⟨firedShot i p up s, if_neg hlow, rfl, rfl, rfl, rfl⟩, ?_, ?_, fun j hj => (hpaths j).trans (if_neg hj), rfl⟩
    · rintro rfl
      exact firedPair_dn i p s q
    · rintro rfl
      exact firedPair_up i p s q
  case outcome =>
    have hset : ∀ b, ∃ c res corr w, pairOutcome p.val (holding b s) = pairSettled p.val q c res corr w (holding b s) :=
      fun b => pairOutcome_settles (s := holding b s) hq h
    choose c res corr w hset using hset
    obtain ⟨b, t, ht, ⟨hothers, -⟩, hflw, -⟩ := outcome_row hl hq hpub hset
    have hpath := (pairSettled_done p.isLt q (c b) (res b) (corr b) (w b) (holding b s)).path
    refine ⟨t, ht, ?_, hothers⟩
    rw [flowPath, hflw]
    exact (congrArg FPath.pair hpath :).trans (outcomePath_pair ..)
  case evaluated =>
    have hfill : ∀ b, shotEvaluated p.val up c (holding b s) = _ :=
      fun b => shotEvaluated_fills (s := holding b s) hq hb hfront hlen
    have hrow : (engOn s && (flowPath s p.val).pair.isSome) = true := by rw [hon, hq]; rfl
    obtain ⟨b, e, haside⟩ := inRound_event (f := shotEvaluated p.val up c) (s := s) hrow (fun b => by rw [hfill]; rfl)
      (fun b => by rw [hfill]; rfl) (congrArg State.pub (hfill s.sto.evHold) :)
    have hpub := part_of haside State.pub fun _ => rfl
    have hsto := part_of haside State.sto fun _ => rfl
    refine ⟨_, exec_shotEvaluated p up c s, hpub, ?_⟩
    rw [haside, hpub, hsto, hfill]
    rfl

end Sys2Proof.Proofs
end

section
/-! PROOFS. Rows of the chord link and of the SDI-12 port: SWAP, the one-shot commands, and the registers of a slot (R257, R264, R272,
R276, R279). -/

namespace Sys2Proof.Proofs

open Sys2Proof Sys2Proof.Machine Sys2Proof.Safety Sys2Proof.Laws

/-! ### The words of the two command registers -/

theorem wordDone_swap (f : Facet) (p : Port) (v : Word) (s : State) : wordDone f p 0x3814 (withCmd v 1) s =
    if keyed v then setChd (fun c => { c with ownReq := true }) s else s := by
  show chdCtrl (withCmd v 1) s = _
  rw [chdCtrl, keyed_withCmd v 1 (by decide), bits_withCmd_code v 1 (by decide)]
  cases keyed v with
  | false => rfl
  | true => rfl

theorem wordDone_sdiCtrl (f : Facet) (p : Port) (v : Word) {c : Nat} (hlo : 1 ≤ c) (hhi : c ≤ 3) (s : State) :
    wordDone f p 0x3C04 (withCmd v c) s = if keyed v then sdiShot c (bits v 23 16) s else s := by
  have hc : c < 256 := by omega
  show sdiCtrl (withCmd v c) s = _
  rw [sdiCtrl, keyed_withCmd v c hc, bits_withCmd_code v c hc, bits_withCmd v c 23 16 hc (by decide),
    decide_eq_true (And.intro hlo hhi), Bool.and_true]

/-- A command register whose word does nothing without its key. -/
theorem unkeyed_row {row : RegWr → Instr} {off c : Nat} {g : Word → State → State} (ha : inAreaData off = false)
    (h18 : off ≠ 0x0018) (hx : ∀ w s, exec (row w) s = .next (hostWord off (withCmd w.val c) w s))
    (hword : ∀ f p v s, wordDone f p off (withCmd v c) s = if keyed v then g v s else s) :
    rowDoes row off (withCmd · c) withoutKey nothing :=
  rowDoes_of hx ha (.inl h18) fun f w s _ hk a ha => word_idle ha (by
    rw [hword, keyed_of_withoutKey hk, if_neg Bool.false_ne_true])

/-- A command register whose word, with its key, sets what no accepted request touches. -/
theorem keyed_row {row : RegWr → Instr} {off c : Nat} {g : Word → State → State} (ha : inAreaData off = false)
    (h18 : off ≠ 0x0018) (hx : ∀ w s, exec (row w) s = .next (hostWord off (withCmd w.val c) w s))
    (hword : ∀ f p v s, wordDone f p off (withCmd v c) s = if keyed v then g v s else s)
    (hport : ∀ v s, (g v s).port = s.port) (haside : ∀ v s t, aside s (g v t) = g v (aside s t)) :
    rowDoes row off (withCmd · c) withKey fun _ v s => g v s :=
  rowDoes_of hx ha (.inl h18) fun f w s _ hk a ha => by
    rw [hword, if_pos (keyed_of_withKey hk), haside, ha, aside_heardWord]
    exact ⟨hport _ _, rfl⟩

/-- QUERY, ACK and IDENT of SDI_CTRL (R264). -/
theorem sdiCtrl_rows {row : RegWr → Instr} {c : Nat} (hlo : 1 ≤ c) (hhi : c ≤ 3)
    (hx : ∀ w s, exec (row w) s = .next (hostWord 0x3C04 (withCmd w.val c) w s)) :
    (rowDoes row 0x3C04 (withCmd · c) withKey fun _ v s =>
      { s with sdi := { s.sdi with shot := some (c, bits v 23 16), shotResult := 0 } }) ∧
    rowDoes row 0x3C04 (withCmd · c) withoutKey nothing :=
  have hword := fun f p v s => wordDone_sdiCtrl f p v hlo hhi s
  ⟨keyed_row rfl (by decide) hx hword (fun _ _ => rfl) (fun _ _ _ => rfl),
    unkeyed_row rfl (by decide) hx hword⟩

/-! ### The registers of a slot -/

/-- The two registers of slot k. -/
def slotOff (k : Nat) (per : Bool) : Nat := 0x3C40 + 0x60 * k + if per then 4 else 0

theorem slotOff_place {k : Nat} (hk : k < 8) (per : Bool) :
    0x3C40 ≤ slotOff k per ∧ slotOff k per < 0x4000 ∧ (slotOff k per - 0x3C40) / 0x60 = k := by
  cases per with
  | false => exact ⟨by simp [slotOff], by simp [slotOff]; omega, by simp [slotOff]⟩
  | true => exact ⟨by simp [slotOff]; omega, by simp [slotOff]; omega, by simp [slotOff]; omega⟩

/-- The registers of a slot are stored by the rules of the chapter. -/
theorem wordDone_slot {k : Nat} (hk : k < 8) (per : Bool) {r : RegSpec} (hr : specOf (slotOff k per) = some r) (f : Facet) (p : Port)
    (v : Word) (s : State) : wordDone f p (slotOff k per) v s = slotWrite k (slotOff k per) (storeFields r.flds v) s := by
  obtain ⟨hlo, hhi, hslot⟩ := slotOff_place hk per
  generalize slotOff k per = off at *
  have hfs : ¬ within off 0x1100 0x111C = true := by rw [within_iff]; omega
  have hcfg : cfgWrite off r v s = slotWrite k off (storeFields r.flds v) s := by
    rw [cfgWrite, if_neg (by omega), if_neg (by omega), if_neg (by omega), if_neg hfs]
    simp (disch := omega) only [if_neg, if_pos, hslot]
  rw [wordDone, inFrameMem_eq_false (by omega), if_neg Bool.false_ne_true]
  simp (disch := omega) only [regWrite, if_neg, hr, hcfg]

/-- A slot's registers are judged on the registers alone, and its due time and ages are taken up anew (R270, R276). -/
theorem slotWrite_eq (k off : Nat) (v : Word) (s : State) : slotWrite k off v s =
    (let u : State := { s with cfg := cfgSet s.cfg off v }
     if slotOk (scfg u k) (sper u k) then
       let slots := vmod s.sdi.slots k fun x => { x with dueAt := nextDue u k, stale := Vector.ofFn fun j : Fin 9 => sdiOld u k j.val }
       { u with sdi := { u.sdi with
         slots := vmap slots fun j x => if slotRuns u j then x else { x with pendN := none, dataDue := false } } }
     else { s with sdi := { s.sdi with slots := vmod s.sdi.slots k fun x => { x with cfgReject := true } } }) := rfl

theorem aside_slotWrite (k off : Nat) (v : Word) (s t : State) : aside s (slotWrite k off v t) = slotWrite k off v (aside s t) :=
  apply_ite (aside s) _ _ _

theorem slotWrite_port (k off : Nat) (v : Word) (s : State) : (slotWrite k off v s).port = s.port :=
  (apply_ite State.port _ _ _).trans (ite_self s.port)

theorem exec_slotWrite (k : Fin 8) (per : Bool) (w : RegWr) (s : State) :
    exec (.sdiSlotConfigWrite k per w) s = .next (hostWord (slotOff k.val per) w.val w s) := rfl

/-- An accepted write of a slot's register. -/
theorem slot_row {k : Nat} (hk : k < 8) (per : Bool) {f : Facet} {w : RegWr} {r : RegSpec} {s : State}
    (ha : accepted s f (slotOff k per) w = true) (hr : specOf (slotOff k per) = some r) :
    rowDone s (hostWord (slotOff k per) w.val w s) w (slotWrite k (slotOff k per) (storeFields r.flds w.val) s) := by
  obtain ⟨hlo, hhi, -⟩ := slotOff_place hk per
  obtain ⟨h, hs, hrow⟩ := word_row ha (inAreaData_eq_false (by omega)) (by omega)
  rw [wordDone_slot hk per hr] at hrow
  exact hrow _ (slotWrite_port ..) (by rw [aside_slotWrite, hs])

/-- Settles O27: the commands by their key, and a slot's register by what `slotWrite` keeps. -/
theorem linkAndSensorRows : Obligations.LinkAndSensorRows := by
  unfold Obligations.LinkAndSensorRows
  refine ⟨⟨keyed_row rfl (by decide) (fun _ _ => rfl) wordDone_swap (fun _ _ => rfl) fun _ _ _ => rfl,
      unkeyed_row rfl (by decide) (fun _ _ => rfl) wordDone_swap⟩,
    ⟨sdiCtrl_rows (by decide) (by decide) fun _ _ => rfl, sdiCtrl_rows (by decide) (by decide) fun _ _ => rfl,
      sdiCtrl_rows (by decide) (by decide) fun _ _ => rfl⟩, fun k per w f r s ha hr => ⟨_, exec_slotWrite k per w s, ?slot⟩⟩
  case slot =>
    have hdone := slot_row k.isLt per ha hr
    rw [slotWrite_eq] at hdone
    exact hdone

end Sys2Proof.Proofs
end

section
/-! PROOFS. The chord link's cycle: rows that leave the role alone or change it, the frames a role sends, the swap and its revert, and
the wake on battery (R240, R244, R254, R257 to R259, R382, R408). -/

namespace Sys2Proof.Proofs

open Sys2Proof Sys2Proof.Machine Sys2Proof.Safety Sys2Proof.Laws

/-! ### Rows and the role -/

/-- A row whose operation leaves role and power manager alone. -/
theorem row_keepsRole {i : Instr} {c : Bool} {f : State → State} {s u : State} (hx : exec i s = .next (event c f s)) (hc : c = true)
    (hf : f s = u) (hrole : u.chd.leader = s.chd.leader) (hpwc : u.pwc = s.pwc) : ∃ t, exec i s = .next t ∧ hfxAside s t = u := by
  subst hf
  refine ⟨_, hx, ?_⟩
  rw [event_pos hc, react_quiet hrole hpwc]

/-- A row whose operation does nothing. -/
theorem row_quiet {i : Instr} {c : Bool} {f : State → State} {s : State} (hx : exec i s = .next (event c f s)) (hc : c = true)
    (hf : f s = s) : ∃ t, exec i s = .next t ∧ hfxAside s t = s :=
  row_keepsRole hx hc hf rfl rfl

/-- A change of the role makes a STATE commit fall due (R258 to R260, R382). -/
theorem react_deferred {s t : State} (h : t.chd.leader ≠ s.chd.leader) : (react s t).sto.deferred.isSome = true := by
  have hrole : roleCommit s t = commitDue .state t := if_pos h.symm
  rw [react, demandWake_eq, hrole]
  exact commitDue_deferred .state t

/-- What any row's operation leaves of the link, and the commit of a changed role. -/
theorem row_link {i : Instr} {c : Bool} {f : State → State} {s u : State} (hx : exec i s = .next (event c f s)) (hc : c = true)
    (hf : f s = u) : ∃ t, exec i s = .next t ∧ t.chd = u.chd ∧ (u.chd.leader ≠ s.chd.leader → t.sto.deferred.isSome = true) := by
  subst hf
  refine ⟨_, hx, ?_⟩
  rw [event_pos hc]
  exact ⟨react_chd s _, react_deferred⟩

/-! ### The bank pair of a cycle -/

theorem bankPairNew_frame (s : State) : bankPairNew s = { s with flw := (bankPairNew s).flw } := by
  unfold bankPairNew
  split <;> rfl

theorem pipe_bankPairNew {p : Nat} (hp : p < 2) (s : State) : flowPath (bankPairNew s) p = flowPath s p := by
  unfold bankPairNew
  split
  · exact (flowPath_vmod (by decide) p _ s).trans (if_neg (by omega))
  · rfl

/-- A cycle opens a bank pair where the path exists with its geometry (R236, R249). -/
theorem bankPairNew_pair {s : State} (h : (flowPath s 2).pair = none) :
    (flowPath (bankPairNew s) 2).pair.isSome = (pathExists s 2 && geomOk s 2) := by
  unfold bankPairNew
  split
  · next ho => rw [flowPath_setPath 2 _ s (by decide), ho]; rfl
  · next ho => rw [h, (Bool.not_eq_true _).mp ho]; rfl

/-! ### The leader opens a cycle -/

theorem linkFrame_head (s : State) (typ flags epoch : Nat) (payload : List Byte) :
    (linkFrame s typ flags epoch payload).take 4 = [0x55, 0x55, 0xD5, BitVec.ofNat 8 typ] := rfl

/-- The link after the leader has opened a cycle with the frame `tx` (R244, R258). -/
def cycleOpened (t1 : Nat) (tx : List Byte) (s : State) (c : Chd) : Chd := { c with
  cycle := (c.cycle + 1) % 256, committed := s.chd.ownSent || s.chd.partnerReq
  newEpoch := if s.chd.ownSent || s.chd.partnerReq then (s.chd.epoch + 1) % 256 else s.chd.epoch
  ownSent := c.ownReq, t1 := t1, tA := t1 + 10000000000, gapMs := bits (cfgV s 0x3308) 15 0
  missRun := if c.cycMissed then c.missRun else 0
  gotReply := false, gotArrive := false, cycMissed := false, arriveBad := false, aArr := none, aCause := 0, bFired := none
  tagA := .invalid, tagB := .invalid
  nextAt := max (c.nextAt + 32 * (cfgV s 0x3804).toNat) (s.aon + 1)
  tx := tx, t4 := none }

/-- Without a pair in flight a cycle opens at once, and SYNC goes out. -/
theorem openCycle_form (t1 : Nat) {s : State} (h : (flowPath s 2).pair = none) :
    ∃ tx, tx.take 4 = [0x55, 0x55, 0xD5, 1] ∧ openCycle t1 s = bankPairNew (setChd (cycleOpened t1 tx s) s) := by
  have hopen : ¬ (flowPath s 2).pair.isSome = true := by simp [h]
  unfold openCycle
  extract_lets c commit ep x gap s0 s1 y payload fr
  have h0 : s0 = s := if_neg hopen
  refine ⟨fr, linkFrame_head .., ?_⟩
  simp only [s1, h0]
  rfl

/-- The cycle's number, time and requests, and the pair it opens. -/
theorem openCycle_chd (t1 : Nat) {s : State} (h : (flowPath s 2).pair = none) :
    ∃ tx, tx.take 4 = [0x55, 0x55, 0xD5, 1] ∧ (openCycle t1 s).chd = cycleOpened t1 tx s s.chd := by
  obtain ⟨tx, htx, hopen⟩ := openCycle_form t1 h
  exact ⟨tx, htx, by rw [hopen, chd_bankPairNew]; rfl⟩

theorem openCycle_frame (t1 : Nat) {s : State} (h : (flowPath s 2).pair = none) :
    openCycle t1 s = { s with chd := (openCycle t1 s).chd, flw := (openCycle t1 s).flw } := by
  obtain ⟨tx, -, hopen⟩ := openCycle_form t1 h
  rw [hopen, bankPairNew_frame]
  rfl

theorem openCycle_paths (t1 : Nat) {s : State} (h : (flowPath s 2).pair = none) :
    (flowPath (openCycle t1 s) 2).pair.isSome = (pathExists s 2 && geomOk s 2) ∧
      ∀ p, p < 2 → flowPath (openCycle t1 s) p = flowPath s p := by
  obtain ⟨tx, -, hopen⟩ := openCycle_form t1 h
  rw [hopen]
  exact ⟨bankPairNew_pair h, fun p hp => pipe_bankPairNew hp _⟩

/-! ### The swap and its revert -/

theorem chd_swapToFollower (s : State) : (swapToFollower s).chd = { s.chd with
    leader := false, epoch := s.chd.newEpoch, cycle := (s.chd.cycle + 1) % 256, swaps := satInc s.chd.swaps, ownReq := false
    ownSent := false, partnerReq := false, committed := false
    revert := some ⟨s.aon + 96 * (cfgV s 0x3804).toNat, s.chd.epoch, swapReqs s⟩
    syncAt := s.aon, gotReply := false, t3 := none, t4 := none
    pred := some (s.chd.t1 + (cfgV s 0x3804).toNat * 976562500) } :=
  (emit_chd _ _).trans (chd_closeBankInterval _)

theorem takeLead_pair (ep : Nat) (s : State) : (flowPath (takeLead ep s) 2).pair = none :=
  congrArg FPath.pair (flowPath_setPath 2 _ _ (by decide))

/-- The state in which a follower that takes the lead opens its first cycle (R258, R259). -/
def swapTaken (s : State) : State :=
  emit (roleEv s 1 true s.chd.newEpoch (swapReqs s)) (setChd (fun c => { c with swaps := satInc c.swaps }) (takeLead s.chd.newEpoch s))

theorem swapTaken_pair (s : State) : (flowPath (swapTaken s) 2).pair = none :=
  (congrArg FPath.pair (flowPath_of_flw (congrArg Flw.path (emit_flw _ _)) 2)).trans (takeLead_pair s.chd.newEpoch s)

theorem chd_swapTaken (s : State) : (swapTaken s).chd = { (takeLead s.chd.newEpoch s).chd with swaps := satInc s.chd.swaps } := emit_chd _ _

theorem roleRevert_due {s : State} {r : Revert} (h : s.chd.revert = some r) (ha : r.at_ ≤ s.aon) :
    roleRevert s = emit (roleEv s 3 true r.epoch r.reqs) (takeLead r.epoch s) := by
  simp only [roleRevert, h, if_pos ha]

theorem roleRevert_waits {s : State} {r : Revert} (h : s.chd.revert = some r) (ha : s.aon < r.at_) : roleRevert s = s := by
  simp only [roleRevert, h, if_neg ha.not_ge]

/-! ### The cycle timer -/

theorem exec_linkCycleStart (t1 : Nat) (s : State) : exec (.linkCycleStart t1) s = .next (event (live s) (linkCycle t1) s) := rfl

section
variable (t1 : Nat) {s : State}

theorem linkCycle_waits (h : linkLive s = false ∨ (s.chd.leader = true ∧ s.aon < s.chd.nextAt)) : linkCycle t1 s = s := by
  rcases h with h | ⟨hlead, hnext⟩
  · simp [linkCycle, h]
  · simp [linkCycle, hlead, hnext]

theorem linkCycle_follows (hlead : s.chd.leader = false) (hc : s.chd.committed = false) : linkCycle t1 s = s := by
  simp [linkCycle, hlead, hc]

variable (hk : linkLive s = true)
include hk

theorem linkCycle_takesLead (hlead : s.chd.leader = false) (hc : s.chd.committed = true) :
    linkCycle t1 s = openCycle t1 (swapTaken s) := by
  simp [linkCycle, hk, hlead, hc, swapTaken]

variable (hlead : s.chd.leader = true) (hdue : s.chd.nextAt ≤ s.aon)
include hlead hdue

theorem linkCycle_swaps (hc : s.chd.committed = true) : linkCycle t1 s = swapToFollower s := by
  simp [linkCycle, hk, hlead, hdue.not_gt, hc]

theorem linkCycle_opens (hc : s.chd.committed = false) : linkCycle t1 s = openCycle t1 s := by
  simp [linkCycle, hk, hlead, hdue.not_gt, hc]

end

/-! ### The follower's frames -/

/-- REPLY is due: SYNC came, and none has been sent since (R244). -/
abbrev ReplyDue (s : State) : Prop := linkLive s = true ∧ s.chd.leader = false ∧ s.chd.gotReply = true ∧ s.chd.t3 = none

/-- ARRIVE is due. -/
abbrev ArriveDue (s : State) : Prop := linkLive s = true ∧ s.chd.leader = false ∧ s.chd.gotReply = true ∧ s.chd.gotArrive = false

theorem replyDue_iff (s : State) : (linkLive s && !s.chd.leader && s.chd.gotReply && s.chd.t3.isNone) = true ↔ ReplyDue s := by
  simp [ReplyDue, and_assoc]

theorem arriveDue_iff (s : State) : (linkLive s && !s.chd.leader && s.chd.gotReply && !s.chd.gotArrive) = true ↔ ArriveDue s := by
  simp [ArriveDue, and_assoc]

theorem linkReply_due (t3 : Nat) {s : State} (h : ReplyDue s) : ∃ tx, tx.take 4 = [0x55, 0x55, 0xD5, 2] ∧
    linkReply t3 s = { s with chd := { s.chd with t3 := some t3, ownSent := s.chd.ownSent || s.chd.ownReq, tx := tx } } :=
  ⟨_, linkFrame_head .., if_pos ((replyDue_iff s).mpr h)⟩

theorem linkReply_idle (t3 : Nat) {s : State} (h : ¬ ReplyDue s) : linkReply t3 s = s := if_neg (mt (replyDue_iff s).mp h)

theorem linkArrive_due {s : State} (h : ArriveDue s) : ∃ tx, tx.take 4 = [0x55, 0x55, 0xD5, 3] ∧
    linkArrive s = { s with chd := { s.chd with gotArrive := true, ownSent := s.chd.ownSent || s.chd.ownReq, tx := tx } } :=
  ⟨_, linkFrame_head .., if_pos ((arriveDue_iff s).mpr h)⟩

theorem linkArrive_idle {s : State} (h : ¬ ArriveDue s) : linkArrive s = s := if_neg (mt (arriveDue_iff s).mp h)

/-! ### The wake on battery -/

/-- The next cycle is a demand on battery. -/
def bankDemand (s : State) : State := setPwc (fun p => { p with dem := { p.dem with bank := true } }) s

theorem needsHfx_bankDemand (s : State) : needsHfx (bankDemand s) = true := by simp [needsHfx, bankDemand, setPwc]

theorem cycleWake_battery {s : State} (hk : linkLive s = true) (hv : s.pwc.vmainOk = false) : cycleWake s = wake (bankDemand s) := by
  simp [cycleWake, hk, hv, bankDemand]

theorem cycleWake_idle {s : State} (h : linkLive s = false ∨ s.pwc.vmainOk = true) : cycleWake s = s := by
  rcases h with h | h <;> simp [cycleWake, h]

/-- On battery the wake starts HFX where a structure is applied (R254, R408). -/
theorem cycleWake_row {s : State} (hl : live s = true) (hk : linkLive s = true) (hv : s.pwc.vmainOk = false) :
    ∃ t, exec .linkCycleWake s = .next t ∧ (s.str.isSome = true → t.pwc.clk.hfx = true) ∧
      hfxAside s t = { s with pwc := { s.pwc with dem := { s.pwc.dem with bank := true } } } := by
  have hx : exec .linkCycleWake s = .next (react s (wake (bankDemand s))) := by
    rw [← cycleWake_battery hk hv]
    exact congrArg Host.Outcome.next (event_pos hl)
  have hchd : (wake (bankDemand s)).chd = s.chd := wake_chd _
  refine ⟨_, hx, fun hstr => react_hfx hchd (wake_hfx hl hstr hv (needsHfx_bankDemand s)), ?_⟩
  rw [hfxAside_react hchd, wake_hfxAside]
  rfl

end Sys2Proof.Proofs
end

section
/-! PROOFS. Bank shots of the leader, the outcome of its bank pairs, and O52 (R216, R226, R233, R248 to R256). -/

namespace Sys2Proof.Proofs

open Sys2Proof Sys2Proof.Machine Sys2Proof.Safety Sys2Proof.Laws

/-! ### Shot A of the leader -/

theorem wrapPs_zero : wrapPs 0 = 0 := by
  have hfloor : (2⁻¹ : Rat).floor = 0 := by
    show ⌊(2⁻¹ : ℚ)⌋ = 0
    norm_num
  simp [wrapPs, hfloor]

/-- The leader plans shot A at t_A (R244). -/
theorem bankPlan_shotA {s : State} (h : s.chd.leader = true) : bankPlan s false = (s.chd.tA : Rat) := if_pos h

/-- The path after the leader's shot A: the pair latches settings and reference, and is dated (R214, R216, R249). -/
def firedA (s : State) (x : FPath) : FPath := { x with
  pair := x.pair.map fun q => { q with cfg := latchCfg s, learned := (flowPath s 2).refLearned, dnAt := some s.aon }
  from_ := if s.chd.firstA then s.aon else x.from_, pstamp := s.aon % 2 ^ 32 }

/-- Shot A on the front end (R248). -/
def shotA (i : FireIn) (q : PairSt) (s : State) : Shot :=
  let f := flowCfg (latchCfg s) 2
  { drv := q.assign, tx := 1, rx := 0, freq := f.freq, pulses := f.pulses, damp := f.damp, vus := i.vus, from_ := i.at_ }

/-- The leader's shot A on its plan takes the free front end (R248, R249). -/
theorem bankShot_fires {i : BankIn} {q : PairSt} {s : State} (hq : (flowPath s 2).pair = some q) (hlead : s.chd.leader = true)
    (hb : i.b = false) (hat : i.fire.at_ = s.chd.tA) (hfree : s.flw.front = none) (hvus : 2800 ≤ i.fire.vus)
    (hlo : 800000 ≤ i.fire.ring) (hhi : i.fire.ring ≤ 1250000) :
    bankShot i s = { s with
      chd := { s.chd with tagA := thetaTag s, firstA := false }
      flw := { s.flw with
        front := some (2, !isUpstream s), shot := some (shotA i.fire q s), path := vmod s.flw.path 2 fun x => firedA s x } } := by
  have hring : ringFails i.fire = false := by simp [ringFails, hlo, hhi]
  have hplan : wrapPs ((i.fire.at_ : Rat) - bankPlan s false) = 0 := by rw [bankPlan_shotA hlead, hat, sub_self, wrapPs_zero]
  have hlate : ¬ (2000000 : Rat) < 0 := by norm_num
  have hlow : decide (i.fire.vus < 2800) = false := decide_eq_false hvus.not_gt
  simp [bankShot, hq, hlead, hb, hfree, hlow, hring, hplan, hlate, setPath, setChd, shotA, firedA]

/-! ### What the outcome of a bank pair may change -/

/-- What the outcome of a bank pair may change, set back to `s`: what a pipe pair's may, and the link. -/
def bankAside (s t : State) : State :=
  { eventsAside s t with
    cfg := s.cfg, flw := s.flw, chd := s.chd, sto := { (eventsAside s t).sto with deferred := s.sto.deferred } }

theorem bankAside_of_pipeAside {b s t : State} (h : pipeAside b t = pipeAside b s) : bankAside b t = bankAside b s :=
  congrArg (fun x : State => { x with chd := b.chd }) h

theorem bankAside_emit (s : State) (e : Ev) (t : State) : bankAside s (emit e t) = bankAside s t :=
  bankAside_of_pipeAside (pipeAside_emit s e t)

/-- What a bank outcome does before it is counted: the link's note of level and section, the bank path's acoustic values, and events.
Pipe paths, counts and the role stay. -/
structure BankNoted (s t : State) : Prop where
  others : ∀ p, p < 2 → flowPath t p = flowPath s p
  pairs : (flowPath t 2).pairs = (flowPath s 2).pairs
  fails : (flowPath t 2).fails = (flowPath s 2).fails
  leader : t.chd.leader = s.chd.leader
  rest : ∀ b, bankAside b t = bankAside b s

theorem BankNoted.refl (s : State) : BankNoted s s := ⟨fun _ _ => rfl, rfl, rfl, rfl, fun _ => rfl⟩

theorem BankNoted.trans {s t u : State} (h : BankNoted s t) (g : BankNoted t u) : BankNoted s u :=
  ⟨fun p hp => (g.others p hp).trans (h.others p hp), g.pairs.trans h.pairs, g.fails.trans h.fails, g.leader.trans h.leader,
    fun b => (g.rest b).trans (h.rest b)⟩

theorem bankNoted_setChd {g : Chd → Chd} (s : State) (h : (g s.chd).leader = s.chd.leader) : BankNoted s (setChd g s) :=
  ⟨fun _ _ => rfl, rfl, rfl, h, fun _ => rfl⟩

theorem bankNoted_emit (e : Ev) (s : State) : BankNoted s (emit e s) :=
  have hpath := fun p => flowPath_of_flw (congrArg Flw.path (emit_flw e s)) p
  ⟨fun p _ => hpath p, congrArg FPath.pairs (hpath 2), congrArg FPath.fails (hpath 2), congrArg Chd.leader (emit_chd e s),
    fun b => bankAside_emit b e s⟩

theorem bankNoted_setPath {g : FPath → FPath} (s : State) (hp : (g (flowPath s 2)).pairs = (flowPath s 2).pairs)
    (hf : (g (flowPath s 2)).fails = (flowPath s 2).fails) : BankNoted s (setPath 2 g s) :=
  have hown := flowPath_setPath 2 g s (by decide)
  ⟨fun p hp => (flowPath_vmod (by decide) p g s).trans (if_neg (by omega)), (congrArg FPath.pairs hown).trans hp,
    (congrArg FPath.fails hown).trans hf, rfl, fun _ => rfl⟩

theorem bankNoted_bankFrom (s : State) : BankNoted s (bankFrom s) := by
  unfold bankFrom
  split
  · exact bankNoted_setPath s rfl rfl
  · exact BankNoted.refl s

theorem bankNoted_levelStale (st : Bool) (s : State) : BankNoted s (levelStale st s) := by
  unfold levelStale
  split
  · exact BankNoted.refl s
  · exact (bankNoted_setChd s rfl).trans (bankNoted_emit _ _)

theorem bankNoted_publishAcoustic (v : Vals) (s : State) : BankNoted s (publishAcoustic v s) := bankNoted_setPath s rfl rfl

/-! ### The outcome of a bank pair -/

theorem bankFrom_pair (s : State) : (flowPath (bankFrom s) 2).pair = (flowPath s 2).pair := by
  unfold bankFrom
  split
  · rw [flowPath_setPath 2 _ s (by decide)]
  · rfl

theorem chd_bankFrom (s : State) : (bankFrom s).chd = s.chd := by
  unfold bankFrom
  split <;> rfl

theorem cfg_bankFrom (s : State) : (bankFrom s).cfg = s.cfg := by
  unfold bankFrom
  split <;> rfl

/-- The causes of a pair are read off the link, the settings and the pair. -/
theorem bankCause_bankFrom (s : State) (q : PairSt) : bankCause (bankFrom s) q = bankCause s q := by
  have hup : isUpstream (bankFrom s) = isUpstream s := congrArg (bit · 31) (cfgV_congr (cfg_bankFrom s) _)
  simp only [bankCause, bankReceived, hup, bankFrom_pair, chd_bankFrom]

/-- The link's note of the outcome for the next SYNC (R255). -/
def outNoted (n : Nat) (c : Chd) : Chd := { c with lastOut := n }

/-- The leader's outcome of a pair is counted as any path's, and a calibration takes it; with a cause it is a failure (R226, R250). -/
theorem bankOutcome_settles {q : PairSt} {s : State} (hlead : s.chd.leader = true) (hq : (flowPath s 2).pair = some q) :
    ∃ u n v at_ c res corr w, BankNoted s u ∧ (bankCause s q ≠ 0 → res = none) ∧
      bankOutcome s = setChd (outNoted n) (calOutcome 2 v q.assign corr w (outcome 2 at_ q.assign (flowCfg q.cfg 2) c res u)) := by
  have hq' : (flowPath (bankFrom s) 2).pair = some q := (bankFrom_pair s).trans hq
  have hlead' : (!(bankFrom s).chd.leader) = false := by rw [chd_bankFrom, hlead]; rfl
  have hnoted := fun st => (bankNoted_bankFrom s).trans (bankNoted_levelStale st _)
  rw [← bankCause_bankFrom]
  unfold bankOutcome
  dsimp only
  rw [show (if s.chd.firstA && s.chd.leader then setPath 2 (fun x => { x with from_ := s.aon }) s else s) = bankFrom s from rfl]
  simp only [hq', hlead', if_neg Bool.false_ne_true]
  split
  · -- both reports and the own shot are there: a cause, no fresh level or a speed above V_MAX fails the pair
    by_cases hc : bankCause (bankFrom s) q = 0
    · rw [if_neg (not_not.mpr hc)]
      split
      · exact ⟨_, _, _, _, _, _, _, _, (hnoted _).trans (bankNoted_publishAcoustic _ _), fun _ => rfl, rfl⟩
      · split
        · exact ⟨_, _, _, _, _, _, _, _, (hnoted _).trans (bankNoted_setChd _ rfl), fun _ => rfl, rfl⟩
        · exact ⟨_, _, _, _, _, _, _, _, (hnoted _).trans (bankNoted_setChd _ rfl), fun h => absurd hc h, rfl⟩
    · rw [if_pos hc]
      exact ⟨_, _, _, _, _, _, _, _, hnoted _, fun _ => rfl, rfl⟩
  · exact ⟨_, _, _, _, _, _, _, _, hnoted _, fun _ => rfl, rfl⟩

/-- A follower forms no outcome. -/
theorem bankOutcome_follower {s : State} (h : s.chd.leader = false) : bankOutcome s = s := by
  have hfrom : (if s.chd.firstA && s.chd.leader then setPath 2 (fun x => { x with from_ := s.aon }) s else s) = s := by simp [h]
  unfold bankOutcome
  dsimp only
  rw [hfrom, h]
  split <;> rfl

/-- Whatever a path's outcome is, it counts one pair or one failure; one without values is a failure (R226, R228). -/
theorem outcomePath_counts (p at_ : Nat) (a : Bool) (f : FlowCfg) (c : Nat) (res : Option (Vals × Nat × Word)) (s : State) :
    let x := flowPath s p
    let y := outcomePath p at_ a f c res s
    (res = none → y.fails = satInc x.fails ∧ y.pairs = x.pairs) ∧
      (y.pairs = satInc x.pairs ∧ y.fails = x.fails ∨ y.fails = satInc x.fails ∧ y.pairs = x.pairs) := by
  intro x y
  cases res with
  | none =>
    obtain ⟨-, hfails, hpairs, -⟩ := outcomePath_failed p at_ a f c s
    exact ⟨fun _ => ⟨hfails, hpairs⟩, .inr ⟨hfails, hpairs⟩⟩
  | some r =>
    have hy : y = if countsIn x then validPath x at_ a r.2.1 r.2.2 r.1
      else { x with pair := none, from_ := at_, cls := .invalid, fails := satInc x.fails } := rfl
    refine ⟨fun h => absurd h (Option.some_ne_none r), ?_⟩
    rw [hy]
    split
    · exact .inl ⟨rfl, rfl⟩
    · exact .inr ⟨rfl, rfl⟩

/-- The outcome of a bank pair, with its increment of VOLSET 3. -/
theorem pairEnded_bank (at_ : Nat) (a : Bool) (f : FlowCfg) (c : Nat) (res : Option (Vals × Nat × Word)) (s : State) :
    ∃ i, PairEnded 2 (outcomePath 2 at_ a f c res s) i s (outcome 2 at_ a f c res s) := by
  have hform : ∃ es i, outcome 2 at_ a f c res s = emitAll es (pendInc i (pairDue
      { s with flw := { dropShots 2 s.flw with path := vmod s.flw.path 2 fun _ => outcomePath 2 at_ a f c res s } })) := ⟨_, _, rfl⟩
  obtain ⟨es, i, hout⟩ := hform
  rw [hout]
  exact ⟨i, (pairEnded_pending i rfl rfl).emitAll es⟩

/-- A settled bank pair: it has ended and counts, with a cause as a failure, and pipe paths and role stay. -/
structure BankSettled (q : PairSt) (s t : State) : Prop where
  pair : (flowPath t 2).pair = none
  others : ∀ p, p < 2 → flowPath t p = flowPath s p
  failed : bankCause s q ≠ 0 → (flowPath t 2).fails = satInc (flowPath s 2).fails ∧ (flowPath t 2).pairs = (flowPath s 2).pairs
  counts : (flowPath t 2).pairs = satInc (flowPath s 2).pairs ∧ (flowPath t 2).fails = (flowPath s 2).fails ∨
    (flowPath t 2).fails = satInc (flowPath s 2).fails ∧ (flowPath t 2).pairs = (flowPath s 2).pairs
  leader : t.chd.leader = s.chd.leader
  rest : ∀ b, bankAside b t = bankAside b s

theorem bankSettled_bankOutcome {q : PairSt} {s : State} (hlead : s.chd.leader = true) (hq : (flowPath s 2).pair = some q) :
    BankSettled q s (bankOutcome s) := by
  obtain ⟨u, n, v, at_, c, res, corr, w, hu, hres, hout⟩ := bankOutcome_settles hlead hq
  obtain ⟨i, hend⟩ := pairEnded_bank at_ q.assign (flowCfg q.cfg 2) c res u
  have hdone := hend.done (by decide) (calOnly_calOutcome (by decide) v q.assign corr w _)
  generalize calOutcome 2 v q.assign corr w _ = o at hout hdone
  obtain ⟨hnone, hcounts⟩ := outcomePath_counts 2 at_ q.assign (flowCfg q.cfg 2) c res u
  have hpair := (congrArg FPath.pair hdone.path :).trans (outcomePath_pair ..)
  have hpairs := (congrArg FPath.pairs hdone.path :)
  have hfails := (congrArg FPath.fails hdone.path :)
  have hchd := part_of (hdone.rest u) State.chd fun _ => rfl
  rw [hu.pairs, hu.fails] at hnone hcounts
  simp only [unjudged] at hpairs hfails
  rw [hout]
  exact {
    pair := hpair
    others := fun p hp => (hdone.others p (by omega)).trans (hu.others p hp)
    failed := fun hc => by
      obtain ⟨hf, hp⟩ := hnone (hres hc)
      exact ⟨hfails.trans hf, hpairs.trans hp⟩
    counts := by
      rw [← hfails, ← hpairs] at hcounts
      exact hcounts
    leader := (congrArg Chd.leader hchd :).trans hu.leader
    rest := fun b => (bankAside_of_pipeAside (hdone.rest b)).trans (hu.rest b) }

/-! ### The rows -/

theorem exec_bankShot (i : BankIn) (s : State) : exec (.bankShot i) s = .next (event (engOn s) (bankShot i) s) := rfl

theorem bankShot_idle (i : BankIn) {s : State} (h : (flowPath s 2).pair = none) : bankShot i s = s := by
  simp only [bankShot, h]

theorem exec_bankPairOutcome (s : State) : exec .bankPairOutcome s =
    .next (event (live s && (flowPath s 2).pair.isSome && pairPublished s 2) (inRound bankOutcome) s) := rfl

/-- The leader's outcome of a bank pair whose results are published (R103, R250). -/
theorem bankOutcome_row {q : PairSt} {s : State} (hl : live s = true) (hlead : s.chd.leader = true) (hq : (flowPath s 2).pair = some q)
    (hp : pairPublished s 2 = true) :
    ∃ h t, exec .bankPairOutcome s = .next t ∧ t.flw = (bankOutcome (holding h s)).flw ∧ eventsAside s (hfxAside s t) = { s with
      cfg := t.cfg, flw := t.flw, chd := t.chd, pub := t.pub
      sto := { s.sto with deferred := t.sto.deferred, evHold := t.sto.evHold } } := by
  obtain ⟨h, p, e, hround⟩ := inRound_form bankOutcome s
  have hset : BankSettled q (holding h s) (bankOutcome (holding h s)) := bankSettled_bankOutcome hlead hq
  refine ⟨h, ?_⟩
  generalize bankOutcome (holding h s) = o at hround hset ⊢
  have hrest : bankAside s o = holding h s := hset.rest s
  have hpwc : o.pwc = s.pwc := part_of hrest State.pwc fun _ => rfl
  have hon : (live s && (flowPath s 2).pair.isSome && pairPublished s 2) = true := by rw [hl, hq, hp]; rfl
  obtain ⟨t, ht, hrow⟩ := row_keepsRole (exec_bankPairOutcome s) hon hround hset.leader hpwc
  have hcfg := part_of hrow State.cfg fun _ => rfl
  have hflw := part_of hrow State.flw fun _ => rfl
  have hchd := part_of hrow State.chd fun _ => rfl
  have hpub := part_of hrow State.pub fun _ => rfl
  have hsto := part_of hrow State.sto fun _ => rfl
  refine ⟨t, ht, hflw, ?_⟩
  rw [hrow, hcfg, hflw, hchd, hpub, hsto]
  exact congrArg (fun x : State => { x with
    cfg := o.cfg, flw := o.flw, chd := o.chd, pub := p, sto := { x.sto with deferred := o.sto.deferred, evHold := e } }) hrest

/-- A follower's bank outcome leaves all but the published bank and the wait of events alone. -/
theorem followerOutcome_row {s : State} (hf : s.chd.leader = false) : ∃ t, exec .bankPairOutcome s = .next t ∧
    hfxAside s t = { s with pub := t.pub, sto := { s.sto with evHold := t.sto.evHold } } := by
  refine ⟨_, exec_bankPairOutcome s, ?_⟩
  cases hc : live s && (flowPath s 2).pair.isSome && pairPublished s 2 with
  | false => rfl
  | true =>
    have hrun : ∀ h, bankOutcome (holding h s) = holding h s := fun h => bankOutcome_follower hf
    obtain ⟨h, e, hrow⟩ := inRound_event (c := true) (f := bankOutcome) (s := s) rfl (fun h => by rw [hrun]; rfl)
      (fun h => by rw [hrun]; rfl) (congrArg State.pub (hrun s.sto.evHold))
    have hpub := part_of hrow State.pub fun _ => rfl
    have hsto := part_of hrow State.sto fun _ => rfl
    rw [hrow, hpub, hsto, hrun]
    rfl

/-- Settles O52: the cycle timer by role and commit, the follower's frames, shot A, the bank outcome, the revert and the wake. -/
theorem linkCyclesAndRoles : Obligations.LinkCyclesAndRoles := by
  unfold Obligations.LinkCyclesAndRoles
  intro quiet
  refine ⟨fun t1 s hl hk hlead hdue => ⟨fun hc hp => ?opens, fun hc => ?swaps⟩,
    fun t1 s hl hk hlead => ⟨fun hc => ?takesLead,
      fun hc => row_quiet (exec_linkCycleStart t1 s) hl (linkCycle_follows t1 hlead hc)⟩,
    fun t1 s hl h => row_quiet (exec_linkCycleStart t1 s) hl (linkCycle_waits t1 h),
    fun t3 s hl => ⟨fun hdue => ?reply, fun h => row_quiet (c := live s) (f := linkReply t3) rfl hl (linkReply_idle t3 h)⟩,
    fun s hl => ⟨fun hdue => ?arrive, fun h => row_quiet (c := live s) (f := linkArrive) rfl hl (linkArrive_idle h)⟩,
    fun i q s hon hq hlead hb hat hfree hvus hlo hhi => ?shot,
    fun i s hon hn => row_quiet (exec_bankShot i s) hon (bankShot_idle i hn),
    fun q s hl hlead hq hp => ?outcome, fun s hl => ⟨fun h => ?noOutcome, followerOutcome_row⟩,
    fun r s hl hr => ⟨fun ha => ?revert, fun ha => row_quiet (c := live s) (f := roleRevert) rfl hl (roleRevert_waits hr ha)⟩,
    fun s hl => ⟨cycleWake_row hl, fun h => row_quiet (c := live s) (f := cycleWake) rfl hl (cycleWake_idle h)⟩⟩
  case opens =>
    obtain ⟨tx, htx, hchd⟩ := openCycle_chd t1 hp
    obtain ⟨hpair, hpipes⟩ := openCycle_paths t1 hp
    have hframe := openCycle_frame t1 hp
    obtain ⟨t, ht, hrow⟩ := row_keepsRole (exec_linkCycleStart t1 s) hl (linkCycle_opens t1 hk hlead hdue hc)
      (congrArg Chd.leader hchd :) (congrArg State.pwc hframe :)
    have htchd := (part_of hrow State.chd fun _ => rfl).trans hchd
    have htflw := part_of hrow State.flw fun _ => rfl
    have hpath := flowPath_of_flw (congrArg Flw.path htflw)
    refine ⟨t, ht, ?_⟩
    rw [hrow, htchd, htflw]
    exact ⟨hlead, rfl, rfl, rfl, rfl, rfl, rfl, rfl, htx, by rw [hpath]; exact hpair, fun p hp => (hpath p).trans (hpipes p hp),
      by rw [← hchd]; exact hframe⟩
  case swaps =>
    obtain ⟨t, ht, hchd, hdef⟩ := row_link (exec_linkCycleStart t1 s) hl (linkCycle_swaps t1 hk hlead hdue hc)
    rw [chd_swapToFollower] at hchd hdef
    refine ⟨t, ht, ?_⟩
    rw [hchd]
    exact ⟨rfl, rfl, rfl, rfl, hdef (by simp [hlead]), rfl⟩
  case takesLead =>
    obtain ⟨tx, -, hopen⟩ := openCycle_chd t1 (swapTaken_pair s)
    obtain ⟨t, ht, hchd, hdef⟩ := row_link (exec_linkCycleStart t1 s) hl (linkCycle_takesLead t1 hk hlead hc)
    rw [hopen, chd_swapTaken] at hchd hdef
    refine ⟨t, ht, ?_⟩
    rw [hchd]
    exact ⟨rfl, rfl, rfl, rfl, hdef (by rw [hlead]; exact Bool.noConfusion)⟩
  case reply =>
    obtain ⟨tx, htx, hrun⟩ := linkReply_due t3 hdue
    obtain ⟨t, ht, hrow⟩ := row_keepsRole (i := .linkReplySend t3) (c := live s) rfl hl hrun rfl rfl
    have hchd := part_of hrow State.chd fun _ => rfl
    refine ⟨t, ht, ?_, ?_⟩
    · rw [hchd]; exact htx
    · rw [hrow, hchd]
  case arrive =>
    obtain ⟨tx, htx, hrun⟩ := linkArrive_due hdue
    obtain ⟨t, ht, hrow⟩ := row_keepsRole (i := .linkArriveSend) (c := live s) rfl hl hrun rfl rfl
    have hchd := part_of hrow State.chd fun _ => rfl
    refine ⟨t, ht, ?_, ?_⟩
    · rw [hchd]; exact htx
    · rw [hrow, hchd]
  case shot =>
    obtain ⟨t, ht, hrow⟩ := row_keepsRole (exec_bankShot i s) hon (bankShot_fires hq hlead hb hat hfree hvus hlo hhi) rfl rfl
    have hchd := part_of hrow State.chd fun _ => rfl
    have hflw := part_of hrow State.flw fun _ => rfl
    have hpaths := flowPath_changed (s := s) (g := firedA s) (by decide) (congrArg Flw.path hflw :)
    refine ⟨t, ht, by rw [hflw], ?_, fun p hp => (hpaths p).trans (if_neg (by omega)), by rw [hrow, hchd, hflw]⟩
    rw [hpaths, if_pos rfl]
    exact congrArg (Option.map _) hq
  case outcome =>
    obtain ⟨h, t, ht, hflw, hrest⟩ := bankOutcome_row hl hlead hq hp
    have hset : BankSettled q (holding h s) (bankOutcome (holding h s)) := bankSettled_bankOutcome hlead hq
    have hpath := flowPath_of_flw (congrArg Flw.path hflw)
    refine ⟨t, ht, ?_⟩
    simp only [hpath]
    exact ⟨hset.pair, hset.others, hset.failed, hset.counts, hrest⟩
  case noOutcome =>
    have hc : (live s && (flowPath s 2).pair.isSome && pairPublished s 2) = false := by
      rcases h with h | h <;> simp [h]
    rw [exec_bankPairOutcome, hc]
    exact ⟨s, rfl, rfl⟩
  case revert =>
    obtain ⟨t, ht, hchd, hdef⟩ := row_link (i := .roleSwapRevert) (c := live s) rfl hl (roleRevert_due hr ha)
    rw [emit_chd] at hchd hdef
    refine ⟨t, ht, ?_⟩
    rw [hchd]
    exact ⟨rfl, rfl, rfl, fun hf => hdef (by rw [hf]; exact Bool.noConfusion)⟩

end Sys2Proof.Proofs
end

section
/-! PROOFS. The SDI-12 port: what its rows may change, slots that fall due, the transaction that opens, and the responses that are
retried (R264 to R269, R271, R278). -/

namespace Sys2Proof.Proofs

open Sys2Proof Sys2Proof.Machine Sys2Proof.Safety Sys2Proof.Laws

/-! ### What a row of the port may change -/

/-- What a row of the port may change, set back to `s`: the port, its count of lost characters, and events. -/
def sdiAside (s t : State) : State :=
  { eventsAside s t with sdi := s.sdi, whl := { t.whl with sdiQloss := s.whl.sdiQloss } }

/-- Between `s` and `t` only the port, its count of lost characters and events differ. -/
structure PortOnly (s t : State) : Prop where
  aside : ∀ b, sdiAside b t = sdiAside b s

theorem PortOnly.refl (s : State) : PortOnly s s := ⟨fun _ => rfl⟩

theorem PortOnly.trans {s t u : State} (h : PortOnly s t) (g : PortOnly t u) : PortOnly s u :=
  ⟨fun b => (g.aside b).trans (h.aside b)⟩

theorem portOnly_emitAll (es : List Ev) (s : State) : PortOnly s (emitAll es s) :=
  ⟨fun b => emitAll_keeps (sdiAside b) (fun e t => by rw [sdiAside, emit_whl, eventsAside_emit]; rfl) es s⟩

theorem portOnly_setSlot (k : Nat) (g : SdiSlot → SdiSlot) (s : State) : PortOnly s (setSlot k g s) := ⟨fun _ => rfl⟩

theorem portOnly_sdiRelease (s : State) : PortOnly s (sdiRelease s) := ⟨fun _ => rfl⟩

theorem portOnly_shotEnd (r : Nat) (l : List Byte) (s : State) : PortOnly s (shotEnd r l s) := ⟨fun _ => rfl⟩

theorem portOnly_sdiSend (first : Bool) (t : SdiTxn) (s : State) : PortOnly s (sdiSend first t s) := by
  unfold sdiSend
  split
  · exact ⟨fun _ => rfl⟩
  · exact ⟨fun _ => rfl⟩

/-- The end of a transaction of slot k: its record changes, the line is released, and events are raised. -/
theorem portOnly_closed (es : List Ev) (k : Nat) (g : SdiSlot → SdiSlot) (s : State) :
    PortOnly s (emitAll es (sdiRelease (setSlot k g s))) :=
  ((portOnly_setSlot k g s).trans (portOnly_sdiRelease _)).trans (portOnly_emitAll es _)

theorem portOnly_sdiFail (k r : Nat) (s : State) : PortOnly s (sdiFail k r s) := portOnly_closed _ k _ s

theorem portOnly_sdiEnd (k n : Nat) (vs : List Rat) (s : State) : PortOnly s (sdiEnd k n vs s) := portOnly_closed _ k _ s

theorem closed_txn (es : List Ev) (k : Nat) (g : SdiSlot → SdiSlot) (s : State) :
    (emitAll es (sdiRelease (setSlot k g s))).sdi.txn = none :=
  congrArg Sdi.txn (emitAll_keeps State.sdi emit_sdi es _)

theorem released_slots (k : Nat) (g : SdiSlot → SdiSlot) (s : State) :
    (sdiRelease (setSlot k g s)).sdi.slots = vmod s.sdi.slots k g := rfl

theorem closed_slots (es : List Ev) (k : Nat) (g : SdiSlot → SdiSlot) (s : State) :
    (emitAll es (sdiRelease (setSlot k g s))).sdi.slots = vmod s.sdi.slots k g :=
  (congrArg Sdi.slots (emitAll_keeps State.sdi emit_sdi es _)).trans (released_slots k g s)

theorem portOnly_sdiRetry (t : SdiTxn) (s : State) : PortOnly s (sdiRetry t s) := by
  unfold sdiRetry
  split
  · split
    · exact portOnly_sdiSend ..
    · exact (portOnly_sdiSend ..).trans (portOnly_setSlot ..)
  · split
    · exact portOnly_shotEnd ..
    · exact portOnly_sdiFail ..

theorem PortOnly.rest {s t : State} (h : PortOnly s t) :
    eventsAside s t = { s with sdi := t.sdi, whl := { s.whl with sdiQloss := t.whl.sdiQloss } } :=
  (congrArg (fun x : State => { x with sdi := t.sdi, whl := { x.whl with sdiQloss := t.whl.sdiQloss } }) (h.aside s) :)

/-- A row whose operation changes the port alone. -/
theorem port_row {i : Instr} {f : State → State} {s u : State} (hx : exec i s = .next (event (live s) f s)) (hl : live s = true)
    (hf : f s = u) (hu : PortOnly s u) : ∃ t, exec i s = .next t ∧
      eventsAside s (hfxAside s t) = { s with sdi := t.sdi, whl := { s.whl with sdiQloss := t.whl.sdiQloss } } ∧ t.sdi = u.sdi := by
  obtain ⟨t, ht, hrow⟩ := row_does hx hl hf (congrArg State.chd (hu.aside s) :) (congrArg State.pwc (hu.aside s) :)
  have hsdi := part_of hrow State.sdi fun _ => rfl
  have hwhl := part_of hrow State.whl fun _ => rfl
  refine ⟨t, ht, ?_, hsdi⟩
  rw [hrow, hsdi, hwhl]
  exact hu.rest

/-! ### Slots -/

/-- A change of slot k's record reaches slot k. -/
theorem sdiSlot_own {k : Nat} (hk : k < 8) {g : SdiSlot → SdiSlot} {s t : State} (h : t.sdi.slots = vmod s.sdi.slots k g) :
    sdiSlot t k = g (sdiSlot s k) := by
  rw [sdiSlot, h]
  exact vget_vmod _ _ _ _ hk

/-- And no other slot. -/
theorem sdiSlot_others {k : Nat} {g : SdiSlot → SdiSlot} {s t : State} (h : t.sdi.slots = vmod s.sdi.slots k g) (j : Nat) (hj : j ≠ k) :
    sdiSlot t j = sdiSlot s j := by
  rw [sdiSlot, h]
  exact vget_vmod_ne _ _ _ _ _ hj

/-- Slot k's own transaction or concurrent measurement is open (R271). -/
abbrev SlotOpen (k : Nat) (s : State) : Prop :=
  (∃ t0, s.sdi.txn = some t0 ∧ t0.shot = false ∧ t0.slot = k) ∨ (sdiSlot s k).pendN.isSome = true

/-- A slot whose due time passes, skipped or not (R271). -/
def slotPassed (per : Nat) (skip : Bool) (x : SdiSlot) : SdiSlot :=
  { x with skipped := x.skipped || skip, due := x.due || !skip, dueAt := x.dueAt + max 1 per * 32768 }

theorem slotDue_passes {k : Nat} {s : State} (hr : slotRuns s k = true) (hd : (sdiSlot s k).dueAt ≤ s.aon) :
    ∃ skip : Bool, (skip = true ↔ SlotOpen k s) ∧ slotDue k s = setSlot k (slotPassed (bits (sper s k) 15 0) skip) s := by
  refine ⟨_, ?_, if_pos (by rw [hr, decide_eq_true hd]; rfl)⟩
  cases ht : s.sdi.txn with
  | none => simp [SlotOpen, ht]
  | some t0 => simp [SlotOpen, ht]

theorem slotDue_waits {k : Nat} {s : State} (h : slotRuns s k = false ∨ s.aon < (sdiSlot s k).dueAt) : slotDue k s = s := by
  refine if_neg ?_
  rcases h with h | h
  · simp [h]
  · simp [h]

/-! ### The line -/

/-- What a command leaves on the line and in the port. -/
theorem sdiSend_frame (first : Bool) (t : SdiTxn) (s : State) : sdiSend first t s = { s with sdi := { s.sdi with
    txn := some t, cmd := (sdiSend first t s).sdi.cmd, lineAt := (sdiSend first t s).sdi.lineAt } } := by
  unfold sdiSend
  split <;> rfl

theorem sdiSend_txn (first : Bool) (t : SdiTxn) (s : State) : (sdiSend first t s).sdi.txn = some t := by rw [sdiSend_frame]

theorem sdiSend_slots (first : Bool) (t : SdiTxn) (s : State) : (sdiSend first t s).sdi.slots = s.sdi.slots := by rw [sdiSend_frame]

/-- The command sent last is that of a transaction's first phase: in SWITCHED mode it begins with a break, and without a ball nothing
is sent (R266, R267). -/
def Opens (s : State) (t : SdiTxn) (c : Option SdiCmd) : Prop :=
  if sdiWired s = true then ∃ brk, c = some ⟨s.aon, brk, sdiChars s t⟩ ∧ (bits (cfgV s 0x3C00) 2 1 = 2 → brk = true)
  else c = s.sdi.cmd

theorem opens_sdiSend (t : SdiTxn) (s : State) : Opens s t (sdiSend true t s).sdi.cmd := by
  unfold Opens sdiSend
  cases hw : sdiWired s with
  | false => rfl
  | true => exact ⟨_, rfl, fun h => by simp [h]⟩

/-! ### The transaction that opens -/

/-- The slot of the transaction that opens is no longer due (R271). -/
def slotTaken (t : SdiTxn) (u : State) : State :=
  if t.shot then u else setSlot t.slot (fun x => { x with due := if t.conc then x.due else false, dataDue := false }) u

theorem portOnly_slotTaken (t : SdiTxn) (u : State) : PortOnly u (slotTaken t u) := by
  unfold slotTaken
  split
  · exact .refl u
  · exact portOnly_setSlot ..

theorem slotTaken_sdi (t : SdiTxn) (u : State) : ∃ l, (slotTaken t u).sdi = { u.sdi with slots := l } := by
  unfold slotTaken
  split
  · exact ⟨_, rfl⟩
  · exact ⟨_, rfl⟩

/-- The port in SWITCHED mode: SDP is switched for each transaction (R266). -/
abbrev Switched (s : State) : Prop := bits (cfgV s 0x3C00) 2 1 = 2

/-- The port as a transaction opens. -/
def txnOpened (t : SdiTxn) (s : State) : State :=
  { s with sdi := { s.sdi with txn := some t, sdp := s.sdi.sdp || decide (Switched s) } }

theorem portOnly_txnOpened (t : SdiTxn) (s : State) : PortOnly s (txnOpened t s) := ⟨fun _ => rfl⟩

/-- The transaction while sensor power settles (R266). -/
def txnSettling (s : State) (t0 : SdiTxn) : SdiTxn :=
  { t0 with phase := .power, deadline := s.aon + aonOfMs (bits (cfgV s 0x3C00) 31 16) }

/-- The transaction at its first command. -/
def txnFirst (s : State) (t0 : SdiTxn) : SdiTxn := { t0 with phase := txnPhase s t0, deadline := 0 }

theorem sdiStart_idle {s : State} (h : s.sdi.txn.isSome = true ∨ nextTxn s = none) : sdiStart s = s := by
  unfold sdiStart
  split
  · rfl
  · next hfree =>
    have hnone : nextTxn s = none := h.resolve_left fun ho => hfree (by rw [ho]; rfl)
    rw [hnone]

section
variable {s : State} {t0 : SdiTxn} (hfree : s.sdi.txn = none) (hon : sdiOn s = true ∨ s.sdi.shot.isSome = true)
  (hnext : nextTxn s = some t0)
include hfree hon hnext

theorem sdiStart_opens : sdiStart s = slotTaken t0 (if (decide (Switched s) && !s.sdi.sdp) = true then txnOpened (txnSettling s t0) s
    else sdiSend true (txnFirst s t0) (txnOpened (txnFirst s t0) s)) := by
  have hmay : ¬ (s.sdi.txn.isSome || !(sdiOn s || s.sdi.shot.isSome)) = true := by
    rw [hfree]
    rcases hon with h | h
    · simp [h]
    · simp [h]
  rw [sdiStart, if_neg hmay, hnext]
  cases hs : decide (Switched s) && !s.sdi.sdp with
  | false => simp only [hs]; rfl
  | true => simp only [hs]; rfl

/-- In SWITCHED mode with SDP inactive the transaction waits for sensor power (R266). -/
theorem sdiStart_settles (hsw : Switched s) (hsdp : s.sdi.sdp = false) :
    sdiStart s = slotTaken t0 (txnOpened (txnSettling s t0) s) := by
  rw [sdiStart_opens hfree hon hnext, if_pos (by rw [decide_eq_true hsw, hsdp]; rfl)]

/-- With sensor power on it sends its first command. -/
theorem sdiStart_sends (h : ¬ (Switched s ∧ s.sdi.sdp = false)) :
    sdiStart s = slotTaken t0 (sdiSend true (txnFirst s t0) (txnOpened (txnFirst s t0) s)) := by
  rw [sdiStart_opens hfree hon hnext, if_neg (by simpa using h)]

/-- The free line opens its next transaction (R266, R271). -/
theorem sdiStart_row (hl : live s = true) : ∃ t, exec .sdiTransactionStart s = .next t ∧
    eventsAside s (hfxAside s t) = { s with sdi := t.sdi, whl := { s.whl with sdiQloss := t.whl.sdiQloss } } ∧
    t.sdi.sdp = (s.sdi.sdp || decide (Switched s)) ∧
    (Switched s → s.sdi.sdp = false → t.sdi.txn = some (txnSettling s t0)) ∧
    (¬ Switched s ∨ s.sdi.sdp = true →
      t.sdi.txn = some (txnFirst s t0) ∧ Opens s { t0 with phase := txnPhase s t0 } t.sdi.cmd) := by
  by_cases h : Switched s ∧ s.sdi.sdp = false
  · obtain ⟨hsw, hsdp⟩ := h
    obtain ⟨t, ht, hrest, hsdi⟩ := port_row (i := .sdiTransactionStart) rfl hl (sdiStart_settles hfree hon hnext hsw hsdp)
      ((portOnly_txnOpened ..).trans (portOnly_slotTaken ..))
    obtain ⟨l, hl⟩ := slotTaken_sdi t0 (txnOpened (txnSettling s t0) s)
    refine ⟨t, ht, hrest, ?_⟩
    rw [hsdi, hl]
    exact ⟨rfl, fun _ _ => rfl, fun h => absurd hsw (h.resolve_right (by rw [hsdp]; exact Bool.noConfusion))⟩
  · obtain ⟨t, ht, hrest, hsdi⟩ := port_row (i := .sdiTransactionStart) rfl hl (sdiStart_sends hfree hon hnext h)
      (((portOnly_txnOpened ..).trans (portOnly_sdiSend ..)).trans (portOnly_slotTaken ..))
    have hopens := opens_sdiSend (txnFirst s t0) (txnOpened (txnFirst s t0) s)
    obtain ⟨l, hl⟩ := slotTaken_sdi t0 (sdiSend true (txnFirst s t0) (txnOpened (txnFirst s t0) s))
    refine ⟨t, ht, hrest, ?_⟩
    rw [hsdi, hl]
    refine ⟨?_, fun hsw hsdp => absurd ⟨hsw, hsdp⟩ h, fun _ => ⟨sdiSend_txn .., hopens⟩⟩
    rw [sdiSend_frame]
    rfl

end

/-! ### A command that is sent without an event -/

/-- A row that sends a command: only the open transaction and the line change. -/
theorem send_row {i : Instr} {f : State → State} {s : State} {first : Bool} {t1 : SdiTxn} {a : Option Nat}
    (hx : exec i s = .next (event (live s) f s)) (hl : live s = true)
    (hf : f s = sdiSend first t1 { s with sdi := { s.sdi with lineAt := a } }) : ∃ t, exec i s = .next t ∧
      t.sdi.cmd = (sdiSend first t1 { s with sdi := { s.sdi with lineAt := a } }).sdi.cmd ∧
      hfxAside s t = { s with sdi := { s.sdi with txn := some t1, cmd := t.sdi.cmd, lineAt := t.sdi.lineAt } } := by
  rw [sdiSend_frame] at hf
  obtain ⟨t, ht, hrow⟩ := row_does hx hl hf rfl rfl
  have hsdi := part_of hrow State.sdi fun _ => rfl
  exact ⟨t, ht, by rw [hsdi], by rw [hrow, hsdi]⟩

theorem sdpSettled_sends {t0 : SdiTxn} {s : State} (ht : s.sdi.txn = some t0) (hp : t0.phase = .power) (hd : t0.deadline ≤ s.aon) :
    sdpSettled s = sdiSend true { t0 with phase := txnPhase s t0 } s := by
  rw [sdpSettled, ht]
  exact if_pos ⟨hp, hd⟩

/-! ### Retries and failures -/

/-- Slot x has failed with RESULT r: values stay, and VALID tags become HELD (R269, R274, R276, R278). -/
def SlotFailed (r : Nat) (x y : SdiSlot) : Prop :=
  y.result = r ∧ y.stored = 0 ∧ y.fails = x.fails + 1 ∧ y.scount = satInc x.scount ∧ y.vals = x.vals ∧
    ∀ j, vget y.tags j .invalid = if vget x.tags j .invalid = .valid then .held else vget x.tags j .invalid

theorem sdiFail_ends (k r : Nat) (s : State) : (sdiFail k r s).sdi.txn = none ∧
    ∃ g, (sdiFail k r s).sdi.slots = vmod s.sdi.slots k g ∧ SlotFailed r (sdiSlot s k) (g (sdiSlot s k)) := by
  obtain ⟨es, g, hform, hfailed⟩ : ∃ es g, sdiFail k r s = emitAll es (sdiRelease (setSlot k g s)) ∧
      SlotFailed r (sdiSlot s k) (g (sdiSlot s k)) := by
    refine ⟨_, _, rfl, rfl, rfl, rfl, rfl, rfl, fun j => ?_⟩
    by_cases hj : j < 9
    · rw [vget_vmap _ _ j .invalid _ hj]
    · rw [vget_out _ _ _ hj, vget_out _ _ _ hj]
      rfl
  rw [hform]
  exact ⟨closed_txn .., g, closed_slots .., hfailed⟩

/-- A command that is sent again counts for its slot, a one-shot command for none (R269). -/
theorem sdiRetry_again {t : SdiTxn} (h : t.retries < 3) (s : State) :
    (sdiRetry t s).sdi.txn = some { t with retries := t.retries + 1 } ∧ (sdiRetry t s).sdi.slots =
      if t.shot = true then s.sdi.slots else vmod s.sdi.slots t.slot fun x => { x with sretry := satInc x.sretry } := by
  rw [sdiRetry, if_pos h]
  dsimp only
  split
  · exact ⟨sdiSend_txn .., sdiSend_slots ..⟩
  · exact ⟨sdiSend_txn .., by rw [setSlot_sdi, sdiSend_slots]⟩

theorem sdiRetry_shotEnds {t : SdiTxn} (h : 3 ≤ t.retries) (hs : t.shot = true) (s : State) :
    sdiRetry t s = shotEnd (if t.anyChar then 3 else 2) [] s := by
  rw [sdiRetry, if_neg h.not_gt, if_pos hs]

theorem sdiRetry_slotFails {t : SdiTxn} (h : 3 ≤ t.retries) (hs : t.shot = false) (s : State) :
    sdiRetry t s = sdiFail t.slot (if t.anyChar then 5 else 4) s := by
  rw [sdiRetry, if_neg h.not_gt, hs, if_neg Bool.false_ne_true]

/-- What a missing or invalid response of the transaction `t0` leads to: a retry, or after the third the transaction's end (R269). -/
def Retried (s t : State) (t0 : SdiTxn) : Prop :=
  (t0.retries < 3 → t.sdi.txn = some { t0 with retries := t0.retries + 1 } ∧
    (∀ j, j < 8 → sdiSlot t j = if t0.shot = false ∧ j = t0.slot then { sdiSlot s j with sretry := satInc (sdiSlot s j).sretry }
      else sdiSlot s j)) ∧
  (3 ≤ t0.retries → t.sdi.txn = none ∧
    (t0.shot = true → t.sdi.shot = none ∧ t.sdi.shotResult = (if t0.anyChar then 3 else 2) ∧ t.sdi.slots = s.sdi.slots) ∧
    (t0.shot = false → t0.slot < 8 → (∀ j, j ≠ t0.slot → sdiSlot t j = sdiSlot s j) ∧
      SlotFailed (if t0.anyChar then 5 else 4) (sdiSlot s t0.slot) (sdiSlot t t0.slot)))

/-- It is a matter of the port alone. -/
theorem Retried.of_sdi {s t u : State} {t0 : SdiTxn} (hr : Retried s u t0) (h : t.sdi = u.sdi) : Retried s t t0 := by
  simpa only [Retried, sdiSlot, h] using hr

theorem retried_sdiRetry {s u : State} (h : u.sdi.slots = s.sdi.slots) (t0 : SdiTxn) : Retried s (sdiRetry t0 u) t0 := by
  have hslot : ∀ j, sdiSlot u j = sdiSlot s j := fun j => by rw [sdiSlot, h]; rfl
  refine ⟨fun hr => ?again, fun hr => ?ends⟩
  case again =>
    obtain ⟨htxn, hslots⟩ := sdiRetry_again hr u
    refine ⟨htxn, fun j hj => ?_⟩
    rw [← hslot]
    cases hs : t0.shot with
    | true =>
      rw [if_pos hs] at hslots
      rw [if_neg (fun h => Bool.noConfusion h.1), sdiSlot, hslots]
      rfl
    | false =>
      rw [hs, if_neg Bool.false_ne_true] at hslots
      by_cases hk : j = t0.slot
      · rw [if_pos ⟨rfl, hk⟩, hk]
        exact sdiSlot_own (hk ▸ hj) hslots
      · rw [if_neg (fun h => hk h.2)]
        exact sdiSlot_others hslots j hk
  case ends =>
    cases hs : t0.shot with
    | true =>
      rw [sdiRetry_shotEnds hr hs]
      exact ⟨rfl, fun _ => ⟨rfl, rfl, h⟩, fun h => Bool.noConfusion h⟩
    | false =>
      rw [sdiRetry_slotFails hr hs]
      obtain ⟨hfree, g, hslots, hfailed⟩ := sdiFail_ends t0.slot (if t0.anyChar then 5 else 4) u
      refine ⟨hfree, fun h => Bool.noConfusion h, fun _ hk => ⟨fun j hj => ?_, ?_⟩⟩
      · rw [sdiSlot_others hslots j hj, hslot]
      · rw [sdiSlot_own hk hslots, ← hslot]
        exact hfailed

theorem sdiTimeout_retries {t0 : SdiTxn} {s : State} (ht : s.sdi.txn = some t0) (hp : t0.phase ≠ .power) (hw : t0.phase ≠ .wait)
    (any : Bool) : sdiTimeout any s = sdiRetry { t0 with anyChar := t0.anyChar || (any && sdiWired s) } s := by
  rw [sdiTimeout, ht]
  exact if_neg (not_or.mpr ⟨hp, hw⟩)

theorem sdiTimeout_free {s : State} (h : s.sdi.txn = none) (any : Bool) : sdiTimeout any s = s := by rw [sdiTimeout, h]

/-- A row that ends in a retry. -/
theorem retry_row {i : Instr} {f : State → State} {s u : State} {t0 : SdiTxn}
    (hx : exec i s = .next (event (live s) f s)) (hl : live s = true) (hf : f s = sdiRetry t0 u)
    (hu : PortOnly s u) (hslots : u.sdi.slots = s.sdi.slots) : ∃ t, exec i s = .next t ∧
      eventsAside s (hfxAside s t) = { s with sdi := t.sdi, whl := { s.whl with sdiQloss := t.whl.sdiQloss } } ∧
      Retried s t t0 := by
  obtain ⟨t, ht, hrest, hsdi⟩ := port_row hx hl hf (hu.trans (portOnly_sdiRetry ..))
  exact ⟨t, ht, hrest, (retried_sdiRetry hslots t0).of_sdi hsdi⟩

end Sys2Proof.Proofs
end

section
/-! PROOFS. The answers of SDI-12 sensors: a measurement announced, the data phase, the values of a transaction, their ages, and O53
(R267 to R278). -/

namespace Sys2Proof.Proofs

open Sys2Proof Sys2Proof.Machine Sys2Proof.Safety Sys2Proof.Laws

/-! ### A response line -/

/-- The port after a response line, before it is judged: lost characters are counted, and the line was active (R124, R268). -/
def lineHeard (l : SdiLine) (s : State) : State := { s with
  whl := { s.whl with sdiQloss := satAdd s.whl.sdiQloss (l.chars.length - 79) }
  sdi := { s.sdi with lineAt := some s.aon } }

theorem portOnly_lineHeard (l : SdiLine) (s : State) : PortOnly s (lineHeard l s) := ⟨fun _ => rfl⟩

/-- What a response line says to the open transaction (R268, R269). -/
def answerTo (s : State) (t0 : SdiTxn) (l : SdiLine) : SdiAnswer :=
  parseSdi (slotKind s t0.slot) t0.phase (s.sdi.shot.getD (0, 0)).1
    (if t0.shot then (s.sdi.shot.getD (0, 0)).2 else slotAddr s t0.slot) l

theorem sdiResponse_free {s : State} (h : s.sdi.txn = none) (l : SdiLine) : sdiResponse l s = s := by rw [sdiResponse, h]

theorem sdiResponse_unwired {s : State} (h : sdiWired s = false) (l : SdiLine) : sdiResponse l s = s := by
  cases ht : s.sdi.txn with
  | none => exact sdiResponse_free ht l
  | some t0 =>
    rw [sdiResponse, ht]
    exact if_pos (.inr (.inr h))

theorem lineTaken {s : State} {t0 : SdiTxn} (hpower : t0.phase ≠ .power) (hwait : t0.phase ≠ .wait) (hw : sdiWired s = true) :
    ¬ (t0.phase = .power ∨ t0.phase = .wait ∨ sdiWired s = false) := by simp [hpower, hwait, hw]

section
variable {s : State} {t0 : SdiTxn} {l : SdiLine} (ht : s.sdi.txn = some t0) (hpower : t0.phase ≠ .power) (hwait : t0.phase ≠ .wait)
  (hw : sdiWired s = true)
include ht hpower hwait hw

/-- An invalid response is retried (R269). -/
theorem sdiResponse_bad (ha : answerTo s t0 l = .bad) : sdiResponse l s = sdiRetry { t0 with anyChar := true } (lineHeard l s) := by
  rw [answerTo] at ha
  simp only [sdiResponse, ht, if_neg (lineTaken hpower hwait hw), ha]
  rfl

/-- An announced measurement of M waits for its service request or for ttt (R272). -/
theorem sdiResponse_waits {ttt n : Nat} (ha : answerTo s t0 l = .announce ttt n) (htt : ttt ≠ 0) (hn : n ≠ 0)
    (hk : slotKind s t0.slot ≤ 1) : sdiResponse l s = { lineHeard l s with sdi := { s.sdi with
      lineAt := some s.aon, txn := some { t0 with
        anyChar := true, phase := .wait, n := n, retries := 0, deadline := s.aon + ttt * 32768 } } } := by
  rw [answerTo] at ha
  simp only [sdiResponse, ht, if_neg (lineTaken hpower hwait hw), ha, if_pos hk, if_neg (not_or.mpr ⟨htt, hn⟩)]
  rfl

/-- An announced concurrent measurement is pending, and the line is free (R272). -/
theorem sdiResponse_pends {ttt n : Nat} (ha : answerTo s t0 l = .announce ttt n) (htt : ttt ≠ 0) (hn : n ≠ 0)
    (hk : 2 ≤ slotKind s t0.slot) : sdiResponse l s = sdiRelease (setSlot t0.slot
      (fun x => { x with pendN := some n, dataAt := s.aon + ttt * 32768, dataDue := false }) (lineHeard l s)) := by
  rw [answerTo] at ha
  simp only [sdiResponse, ht, if_neg (lineTaken hpower hwait hw), ha, if_neg (by omega : ¬ slotKind s t0.slot ≤ 1),
    if_neg hn, if_neg htt]
  rfl

/-- The value line that completes the count ends the transaction (R272, R273). -/
theorem sdiResponse_ends {vs : List Rat} (hd : t0.phase = .data) (ha : answerTo s t0 l = .values vs)
    (hn : min t0.n (slotN s t0.slot) ≤ (t0.vals ++ vs).length) :
    sdiResponse l s = sdiEnd t0.slot t0.n (t0.vals ++ vs) (lineHeard l s) := by
  rw [answerTo] at ha
  have hr : ¬ t0.phase = .rcmd := by rw [hd]; exact SdiPhase.noConfusion
  simp only [sdiResponse, ht, if_neg (lineTaken hpower hwait hw), ha, if_neg hr, if_pos (Or.inl hn)]
  rfl

end

/-! ### The data phase -/

/-- The open transaction at its first D command. -/
def dataPhase (t0 : SdiTxn) : SdiTxn := { t0 with phase := .data, dIdx := 0, retries := 0 }

/-- A service request from the open measurement's sensor begins its data phase (R272). -/
theorem sdiService_sends {addr : Byte} {t0 : SdiTxn} {s : State} (ht : s.sdi.txn = some t0) (hp : t0.phase = .wait) (hn : t0.n ≠ 0)
    (ha : addr.toNat = slotAddr s t0.slot) (hw : sdiWired s = true) :
    sdiService addr s = sdiSend false (dataPhase t0) { s with sdi := { s.sdi with lineAt := some s.aon } } := by
  rw [sdiService, ht]
  exact (if_pos ⟨hp, ha, hw⟩).trans (if_neg hn)

theorem sdiService_idle {addr : Byte} {t0 : SdiTxn} {s : State} (ht : s.sdi.txn = some t0)
    (h : addr.toNat ≠ slotAddr s t0.slot ∨ sdiWired s = false) : sdiService addr s = s := by
  rw [sdiService, ht]
  refine if_neg fun ⟨_, ha, hw⟩ => ?_
  rcases h with h | h
  · exact h ha
  · exact Bool.noConfusion (h.symm.trans hw)

/-- So does the end of ttt. -/
theorem sdiDataDue_sends {t0 : SdiTxn} {s : State} (ht : s.sdi.txn = some t0) (hp : t0.phase = .wait) (hn : t0.n ≠ 0)
    (hd : t0.deadline ≤ s.aon) : sdiDataDue t0.slot s = sdiSend false (dataPhase t0) s := by
  rw [sdiDataDue, ht]
  exact (if_pos ⟨hp, rfl, hd⟩).trans (if_neg hn)

/-- The data phase of a pending concurrent measurement falls due (R272). -/
theorem sdiDataDue_pending {k n : Nat} {s : State} (ht : s.sdi.txn = none) (hp : (sdiSlot s k).pendN = some n)
    (hd : (sdiSlot s k).dataAt ≤ s.aon) (hr : slotRuns s k = true) :
    sdiDataDue k s = setSlot k (fun x => { x with dataDue := true }) s := by
  rw [sdiDataDue, ht]
  exact if_pos ⟨by rw [hp]; rfl, hd, hr⟩

/-! ### The values of a transaction -/

/-- The published integers of a transaction of slot k that announced n values and returned `vs` (R270, R273). -/
def published (k n : Nat) (vs : List Rat) (s : State) : List Int :=
  (vs.take (min n (slotN s k))).map fun v => roundAway (v * (10 ^ bits (scfg s k) 23 20 : Nat))

/-- Value j was returned and fits its register (R273). -/
def ValueFits (ints : List Int) (j : Nat) : Prop := ∃ v, ints[j]? = some v ∧ -2147483648 ≤ v ∧ v ≤ 2147483647

/-- A slot stores the values that fit, VALID and of this time; of the others none is VALID (R273, R276). -/
def SlotStores (ints : List Int) (now : Nat) (x y : SdiSlot) : Prop :=
  ∀ j, j < 9 → (ValueFits ints j → vget y.vals j 0 = ints.getD j 0 ∧ vget y.at_ j none = some now ∧ vget y.tags j .invalid = .valid) ∧
    (¬ ValueFits ints j → vget y.vals j 0 = vget x.vals j 0 ∧ vget y.at_ j none = vget x.at_ j none ∧ vget y.tags j .invalid ≠ .valid)

/-- Whether value j fits, as the model decides it. -/
def valueFits (ints : List Int) (j : Nat) : Bool :=
  match ints[j]? with
  | some v => decide (-2147483648 ≤ v) && decide (v ≤ 2147483647)
  | none => false

theorem valueFits_iff (ints : List Int) (j : Nat) : valueFits ints j = true ↔ ValueFits ints j := by
  cases h : ints[j]? with
  | none => simp [valueFits, ValueFits, h]
  | some v => simp [valueFits, ValueFits, h]

theorem slotStores_of {ints : List Int} {now : Nat} {x y : SdiSlot}
    (hv : y.vals = vmap x.vals fun j v => if valueFits ints j then ints.getD j 0 else v)
    (ha : y.at_ = vmap x.at_ fun j t => if valueFits ints j then some now else t)
    (ht : y.tags = vmap x.tags fun j t => if valueFits ints j then .valid else if t = .valid then .held else t) :
    SlotStores ints now x y := by
  intro j hj
  rw [hv, ha, ht, vget_vmap _ _ _ 0 _ hj, vget_vmap _ _ _ none _ hj, vget_vmap _ _ _ .invalid _ hj, ← valueFits_iff]
  refine ⟨fun hfits => ?_, fun hno => ?_⟩
  · simp only [if_pos hfits, and_self]
  · simp only [if_neg hno, true_and]
    split
    · exact Tag.noConfusion
    · next hheld => exact hheld

/-- A measurement's transaction ends with its values (R273, R278). -/
theorem sdiEnd_ends (k n : Nat) (vs : List Rat) (s : State) : (sdiEnd k n vs s).sdi.txn = none ∧
    ∃ g, (sdiEnd k n vs s).sdi.slots = vmod s.sdi.slots k g ∧ (g (sdiSlot s k)).fails = 0 ∧
      SlotStores (published k n vs s) s.aon (sdiSlot s k) (g (sdiSlot s k)) := by
  obtain ⟨es, g, hform, hfails, hstores⟩ : ∃ es g, sdiEnd k n vs s = emitAll es (sdiRelease (setSlot k g s)) ∧
      (g (sdiSlot s k)).fails = 0 ∧ SlotStores (published k n vs s) s.aon (sdiSlot s k) (g (sdiSlot s k)) := by
    exact ⟨_, _, rfl, rfl, slotStores_of rfl rfl rfl⟩
  rw [hform]
  exact ⟨closed_txn .., g, closed_slots .., hfails, hstores⟩

/-! ### Ages -/

theorem sdiStale_passes {k j : Nat} {s : State} (h : bits (sper s k) 31 16 < sdiAge s k j) :
    sdiStale k j s = setSlot k (fun x => { x with stale := vmod x.stale j fun _ => true }) s :=
  if_pos (decide_eq_true h)

theorem sdiStale_young {k j : Nat} {s : State} (h : sdiAge s k j ≤ bits (sper s k) 31 16) : sdiStale k j s = s :=
  if_neg (by simpa [sdiOld] using h)

/-- A value noted as stale reads INVALID, whatever its slot's other settings (R276). -/
theorem sdiTag_stale {k j : Nat} {s : State} (h : vget (sdiSlot s k).stale j false = true) : sdiTag s k j = .invalid := by
  rw [sdiTag, h, Bool.true_or, if_pos rfl, ite_self, ite_self]

/-- Settles O53: each row's operation by an equation, what it leaves alone by `PortOnly`, and what becomes of its slot by `Retried`,
`SlotFailed` and `SlotStores`. -/
theorem sensorTransactionsRun : Obligations.SensorTransactionsRun := by
  unfold Obligations.SensorTransactionsRun
  intro rest same others active sends data parsed retried
  refine ⟨fun k s hl hr hd => ?passes, fun k s hl h => row_quiet (c := live s) (f := slotDue k.val) rfl hl (slotDue_waits h),
    fun t0 s hl hfree hon hnext => sdiStart_row hfree hon hnext hl,
    fun s hl h => row_quiet (c := live s) (f := sdiStart) rfl hl (sdiStart_idle h),
    fun t0 s hl ht hp hd => ?settled,
    fun any t0 s ⟨hl, ht, hp, hw⟩ => retry_row (f := sdiTimeout any) rfl hl (sdiTimeout_retries ht hp hw any) (.refl s) rfl,
    fun l t0 s ⟨hl, ht, hp, hw⟩ hwired ha =>
      retry_row (f := sdiResponse l) rfl hl (sdiResponse_bad ht hp hw hwired ha) (portOnly_lineHeard l s) rfl,
    fun l ttt n t0 s ⟨hl, ht, hp, hw⟩ hwired ha htt hn => ?announced,
    fun l vs t0 s ⟨hl, ht, hp, hw⟩ hwired hk hd ha hn => ?values,
    fun l s hl h => ⟨row_quiet (c := live s) (f := sdiResponse l) rfl hl (sdiResponse_free h l),
      row_quiet (c := live s) (f := sdiTimeout true) rfl hl (sdiTimeout_free h true)⟩,
    fun l s hl h => row_quiet (c := live s) (f := sdiResponse l) rfl hl (sdiResponse_unwired h l),
    fun addr t0 s hl ht hp hn => ⟨fun ha hw => ?service,
      fun h => row_quiet (c := live s) (f := sdiService addr) rfl hl (sdiService_idle ht h), fun k hk hd => ?waited⟩,
    fun k n s hl ht hp hd hr => row_does (c := live s) (f := sdiDataDue k.val) rfl hl (sdiDataDue_pending ht hp hd hr) rfl rfl,
    fun k j s hl => ⟨fun h => ?stale, fun h => row_quiet (c := live s) (f := sdiStale k.val j.val) rfl hl (sdiStale_young h)⟩⟩
  case passes =>
    obtain ⟨skip, hskip, hrun⟩ := slotDue_passes hr hd
    obtain ⟨t, ht, hrest, hsdi⟩ := port_row (i := .slotDue k) (f := slotDue k.val) rfl hl hrun (portOnly_setSlot ..)
    have hslots := congrArg Sdi.slots hsdi
    refine ⟨t, ht, hrest, sdiSlot_others hslots, by rw [hsdi]; rfl, ?_⟩
    rw [sdiSlot_own k.isLt hslots]
    refine ⟨rfl, rfl, fun hopen => ?_, fun hno => ?_⟩
    · rw [hskip.mpr hopen]
      exact ⟨Bool.or_true _, Bool.or_false _⟩
    · rw [(Bool.not_eq_true _).mp (mt hskip.mp hno)]
      exact ⟨Bool.or_false _, Bool.or_true _⟩
  case settled =>
    obtain ⟨t, hx, hcmd, hrow⟩ := send_row (i := .sdpPowerSettled) (f := sdpSettled) (a := s.sdi.lineAt) rfl hl
      (sdpSettled_sends ht hp hd)
    have hopens : Opens s { t0 with phase := txnPhase s t0 } t.sdi.cmd := by
      rw [hcmd]
      exact opens_sdiSend _ s
    exact ⟨t, hx, hopens, hrow⟩
  case announced =>
    rcases Nat.lt_or_ge (slotKind s t0.slot) 2 with hk | hk
    · obtain ⟨t, hx, hrest, hsdi⟩ := port_row (i := .sdiResponse l) (f := sdiResponse l) rfl hl
        (sdiResponse_waits ht hp hw hwired ha htt hn (by omega)) ⟨fun _ => rfl⟩
      exact ⟨t, hx, hrest, fun _ => by rw [hsdi]; exact ⟨rfl, rfl⟩, fun h => absurd hk h.not_gt⟩
    · obtain ⟨t, hx, hrest, hsdi⟩ := port_row (i := .sdiResponse l) (f := sdiResponse l) rfl hl
        (sdiResponse_pends ht hp hw hwired ha htt hn hk)
        (((portOnly_lineHeard l s).trans (portOnly_setSlot ..)).trans (portOnly_sdiRelease _))
      have hslots : t.sdi.slots = vmod s.sdi.slots t0.slot _ := (congrArg Sdi.slots hsdi).trans (released_slots ..)
      refine ⟨t, hx, hrest, fun h => absurd h (by omega), fun _ h8 => ⟨by rw [hsdi]; rfl, sdiSlot_others hslots, ?_⟩⟩
      rw [sdiSlot_own h8 hslots]
      exact ⟨rfl, rfl⟩
  case values =>
    obtain ⟨t, hx, hrest, hsdi⟩ := port_row (i := .sdiResponse l) (f := sdiResponse l) rfl hl
      (sdiResponse_ends ht hp hw hwired hd ha hn) ((portOnly_lineHeard l s).trans (portOnly_sdiEnd ..))
    obtain ⟨hfree, g, hslots, hfails, hstores⟩ := sdiEnd_ends t0.slot t0.n (t0.vals ++ vs) (lineHeard l s)
    have hslots := (congrArg Sdi.slots hsdi).trans hslots
    refine ⟨t, hx, hrest, by rw [hsdi, hfree], sdiSlot_others hslots, ?_⟩
    rw [sdiSlot_own hk hslots]
    exact ⟨hfails, hstores⟩
  case service =>
    obtain ⟨t, hx, -, hrow⟩ := send_row (i := .sdiServiceRequest addr) (f := sdiService addr) rfl hl (sdiService_sends ht hp hn ha hw)
    exact ⟨t, hx, hrow⟩
  case waited =>
    obtain ⟨t, hx, -, hrow⟩ := send_row (i := .sdiDataPhaseDue k) (f := sdiDataDue k.val) (a := s.sdi.lineAt) rfl hl
      (by rw [hk]; exact sdiDataDue_sends ht hp hn hd)
    exact ⟨t, hx, hrow⟩
  case stale =>
    obtain ⟨t, hx, hrow⟩ := row_does (i := .sdiValueStale k j) (c := live s) (f := sdiStale k.val j.val) rfl hl
      (sdiStale_passes h) rfl rfl
    have hsdi : t.sdi = _ := part_of hrow State.sdi fun _ => rfl
    have hslots : t.sdi.slots = vmod s.sdi.slots k.val fun x => { x with stale := vmod x.stale j.val fun _ => true } := by
      rw [hsdi]; rfl
    refine ⟨t, hx, sdiTag_stale ?_, hrow⟩
    rw [sdiSlot_own k.isLt hslots]
    exact vget_vmod (sdiSlot s k.val).stale j.val (fun _ => true) false j.isLt

end Sys2Proof.Proofs
end
